-- ==== Sys2Proof/Word.lean ====
section
/-!
DEFINITION. The machine's word and byte, and the exact units of time (R4): one tick is 1/1,638.4 GHz, one coarse
period is 512 ticks.
-/

namespace Sys2Proof

/-- A word is 64 bits, bit 63 the most significant (Scope and Conventions). -/
abbrev Word := BitVec 64

/-- A byte of a mailbox slot, of the vault or of host memory. Words are stored little-endian. -/
abbrev Byte := BitVec 8

end Sys2Proof
end

