-- ==== Sys2Proof/Syntax.lean ====
section
/-!
DEFINITION. The commands the block takes: one constructor for each row of the table of operations and events. What the
environment decides (an input voltage and its instant, a measured figure, a received frame, who makes an access) is an
operand. Voltages are in 1/2,048 µV, in which a DAC step, a step of hysteresis and a step of slope per tick are whole
(R27, R29, R31); a circuit's operand is V(P) - V(N) of its input as an ideal comparator would see it (log entry 6). An
operand `t` is the T64 at which the command arrives or the event happens; a command that the engine itself schedules
has no `t`, since its instant follows from the state. Other operands: `m` a master ID, `a` an address, `v`
a value, `n` a lane, `u` a unit (0 to 511 lanes, 512 + b relief lanes), `b` a block, `p` a pairing unit or pipeline or
port, `w` a weaver or ward, `q` a queue, `c` a core or output, `f` a host function or a frame, `l` a DLP link, `ep` an
endpoint with `sl` or `slot` its mailbox slot. `rx` names the queue and the credits of a bundle frame in reception, where there is
one.
-/

namespace Sys2Proof

/-- The circuit of a front end whose output changes: comparator A or the IN receiver, comparator B, the CMP
receiver. -/
inductive Circuit where
  | a
  | b
  | cmp
  deriving DecidableEq, Repr

/-- Where a circuit's compared voltage lies against its release and assert thresholds (R24, R40). -/
inductive InPos where
  | below
  | inside
  | above
  deriving DecidableEq, Repr

/-- What one run of the static offline measurements gives (Table CAL-1): comparator offsets in µV and their trim
codes, the DAC check points in µV and 1/16 step, ramp gain, ramp latency and the three delays in 2^-10 tick, and
the delay coefficients. -/
structure CalRun where
  offUv : List Int
  offs  : List Int
  dacUv : List Int
  dac   : List Int
  gain  : Nat
  lat   : Nat
  dly   : Nat × Nat × Nat
  tc    : List Int
  deriving DecidableEq, Repr

/-- A DLP frame that has passed its checks: FSEQ, CRET and CCRET of its header (Table LNK-4), and its payload words. -/
structure Frame where
  seq   : Nat
  cret  : Nat
  ccret : Nat
  ws    : List Word
  deriving DecidableEq, Repr

/-- The commands and events, one constructor per row of the table of operations, in its order. -/
inductive Instr where
  /-- R5: A write to a register or field that has no row of its own stores the value or acts as its access code gives.
  -/
  | registerWrite (t : Nat) (m : Nat) (a : Nat) (v : Word)
  /-- R7: A completed read of a word holding RC fields returns them and clears them. -/
  | rcFieldRead (t : Nat) (m : Nat) (a : Nat)
  /-- R13: A frame arrives over a ward die-to-die link and is checked by its CRC. -/
  | wardLinkFrame (t : Nat) (w : Nat) (up : Bool) (ok : Bool)
  /-- R13: Replays persisting for more than 1 ms raise the ward source. -/
  | replayPersist (t : Nat) (w : Nat)
  /-- R24: An output of a comparator or digital receiver changes state as the compared input crosses a threshold. -/
  | edge (t : Nat) (u : Nat) (c : Circuit) (v : Int) (tn : Option Nat)
  /-- R22: An input leg leaves its operating range or |V_IN| exceeds 1.25 V, setting OVERLOAD and counting the entry. -/
  | overload (t : Nat) (u : Nat) (v : Int × Int)
  /-- R30: A written threshold or hysteresis takes effect at the first coarse boundary after it reaches the ward. -/
  | thresholdApply (u : Nat)
  /-- R33: The ramp reaches RAMP_MAX ticks, is stopped, and sets RAMP_TIMEOUT with no firing. -/
  | rampTimeout (u : Nat)
  /-- R34: The ramped threshold reaches ±1.2 V and holds there, setting RAMP_CLAMP. -/
  | rampClamp (u : Nat)
  /-- R33: The stopped ramp has returned to zero and can start again. -/
  | rampRecoveryEnd (u : Nat)
  /-- R42: A write to FRE_INCFG that changes a switching field starts, or restarts, a switching sequence. -/
  | switchingWrite (t : Nat) (m : Nat) (n : Nat) (v : Word)
  /-- R42: At t_b capture and counting are blanked, the open gate is marked and a running ramp stops. -/
  | switchBlankStart (u : Nat)
  /-- R42: At t_b + 20 ns unneeded circuits are unpowered and new terminations applied. -/
  | switchCircuitsOff (u : Nat)
  /-- R42: At t_e the blank lifts, circuits power up and SWITCH_DONE is set. -/
  | switchDone (u : Nat) (va : Int) (vb : Int) (vc : Int)
  /-- R61: PAIR_WIN passes with no partner, and the record is formed with NOPART. -/
  | partnerWindowExpiry (n : Nat)
  /-- R70: A record leaves the lane output stage once T64 passes its time plus H. -/
  | recordHoldRelease (n : Nat)
  /-- R72: Writes to CAP_LANECFG, CAP_PICK or CAP_BASE take effect at the first coarse boundary after arrival. -/
  | capConfigApply (n : Nat)
  /-- R78: The block sequencer takes the next unit, temperature priority first, and loads the relief lane. -/
  | calTakeUnit (t : Nat) (b : Nat)
  /-- R80: The relief front end has settled and edge matching begins. -/
  | reliefSettled (b : Nat) (va : Int) (vb : Int) (vc : Int)
  /-- R81: After at least 200 µs and 256 matched edges the two skew halves are compared and K formed. -/
  | skewAgreed (t : Nat) (b : Nat)
  /-- R82: 2 ms pass with fewer than 256 matched edges; the retained skew is used or the lane skipped. -/
  | overlapTimeout (b : Nat)
  /-- R84: At the coarse boundary t_h the relief lane takes ownership of the lane's edges. -/
  | handover (b : Nat)
  /-- R88: At t_h + 20 ns the lane is disconnected, its inputs shorted, and offline calibration begins. -/
  | laneOffline (b : Nat)
  /-- R88: Offsets, DAC points, ramp and delays have been measured twice and are checked for agreement. -/
  | staticRunsDone (t : Nat) (b : Nat) (r1 : CalRun) (r2 : CalRun)
  /-- R88: A code-density run of 2^20 pulser hits completes and the runs are checked for agreement. -/
  | codeDensityRunDone (t : Nat) (b : Nat) (w : List Nat) (js : List Nat)
  /-- R84: 200 µs pass with every edge matched in the handback overlap. -/
  | cleanOverlap (t : Nat) (b : Nat)
  /-- R84: At t_k the new tables come into force and the lane takes back its edges. -/
  | handback (b : Nat)
  /-- R78: At t_k + 20 ns the relief lane is released and the sequencer goes idle. -/
  | reliefReleased (b : Nat)
  /-- R78: A cycle without overlaps ends at a coarse boundary and its new tables take effect. -/
  | cycleEnd (b : Nat)
  /-- R92: At t_e a gap ends, tables take effect and a GAP EVENT is written. -/
  | gapEnd (u : Nat) (va : Int) (vb : Int) (vc : Int)
  /-- R397: A temperature sensor is read every 1 ms and its limit states evaluated. -/
  | sensorRead (t : Nat) (k : Nat) (v : Int)
  /-- R92: Under FROZEN, D(T) is updated at the first coarse boundary after a sensor reading. -/
  | tempModelUpdate (b : Nat)
  /-- R95: The baseline sampler ends its aperture 1,124 ns into a quiet window. -/
  | baselineApertureEnd (n : Nat) (v : Int)
  /-- R95: BASE_EFF is updated from the sample at the first coarse boundary after the aperture. -/
  | baselineUpdate (n : Nat)
  /-- R99: The engine starts the next queued calibration slot write. -/
  | vaultSlotWrite (t : Nat)
  /-- R99: A calibration slot write completes with its SEQ and CHECK written. -/
  | vaultWriteDone (t : Nat) (ok : Bool)
  /-- R107: T64 reaches a fixed-length or CONTINUOUS grid instant, making a boundary request. -/
  | fixedLengthRequest (n : Nat)
  /-- R112: The open gate reaches 2^MAXLEN_EXP ticks, making a boundary request. -/
  | maximumLengthRequest (n : Nat)
  /-- R111: At coarse boundary B a time-bounded gate closes and its MEAS record is written. -/
  | timeBoundedClose (n : Nat)
  /-- R115: Writes to CNT_CFG, CNT_LEN or CNT_COUNT take effect at the first coarse boundary. -/
  | cntConfigApply (n : Nat)
  /-- R122: An armed INTERVAL start older than IWIN is discarded and counted in NOSTOP_CNT. -/
  | iwinExpiry (p : Nat)
  /-- R439: Writes to PAIR_CFG, PAIR_WIN or PAIR_OFS take effect at the first coarse boundary. -/
  | pairConfigApply (p : Nat)
  /-- R440: A cross-ward pairing unit closes its open bundle as its progress advances past the flush limit. -/
  | xpBundleClose (t : Nat) (x : Nat) (q : Nat)
  /-- R133: An edge arrives on a MARK input and is stamped for its users. -/
  | markEdge (t : Nat) (k : Nat) (lv : Bool)
  /-- R137: A step edge advances the axis position by one slot. -/
  | stepEdge (t : Nat)
  /-- R135: The internal step generator produces a step at its scheduled instant. -/
  | generatedStep
  /-- R136: A write of EN = 1 takes effect at the next coarse boundary, entering RUN or SEEK. -/
  | axisEnableApply
  /-- R136: A write of EN = 0 returns the axis to OFF at the next coarse boundary. -/
  | axisDisableApply
  /-- R143: No step edge arrives by t_e + COAST_TO, and the axis enters COAST or sets STALL. -/
  | coastEntry
  /-- R143: In COAST no real edge arrives in step k's interval and step k is synthesised. -/
  | synthesisedStep
  /-- R148: The axis unit issues a fired stake to its target, or skips it on overflow. -/
  | stakeIssue (t : Nat)
  /-- R149: At t_s a boundary request opening an active gate reaches the group's engines. -/
  | gateOpen
  /-- R149: At t_s a boundary request opening an idle gate reaches the group's engines. -/
  | gateClose
  /-- R149: At t_s a boundary request opening a gate of the same kind reaches the group's engines. -/
  | engineClose
  /-- R153: At t_s quiet windows open or close on the lanes of the group. -/
  | calQuiet
  /-- R212: At t_s a swap request reaches a filter pipeline. -/
  | bankSwap
  /-- R155: At the coarse boundary after t_s a MARK output port is pulsed, set, cleared or toggled. -/
  | markOut (p : Nat)
  /-- R155: A MARK_OUT pulse reaches its width and the port goes low. -/
  | markPulseEnd (p : Nat)
  /-- R157: At t_s AXIS records are written, by the axis unit or by blocks, with optional bundle close. -/
  | axisRecord
  /-- R222: At t_s a COUNT or snapshot operation reaches a histogram engine. -/
  | histKey
  /-- R148: At t_s a signal with ARG is delivered to a weaver's pending signals. -/
  | weaverSignal
  /-- R32: At t_s a ramp start reaches lanes of the group with SRC_STAKE = 1. -/
  | rampStart
  /-- R151: A write to a stake's match word commits both words of the stake. -/
  | stakeMatchWrite (t : Nat) (m : Nat) (i : Nat) (v : Word)
  /-- R151: A write of 1 to AXI_CTRL.COMMIT requests the staging copy at the next turn boundary. -/
  | commit (t : Nat) (m : Nat)
  /-- R159: The block merge takes the next record in round-robin order and routes it. -/
  | blockMergeTake (t : Nat) (b : Nat)
  /-- R163: The merge horizon advances past 2^FP_FLUSH_EXP since a bundle opened and it closes. -/
  | fastPathFlush (t : Nat) (b : Nat) (q : Nat)
  /-- R167: A record is loaded from the intake into a free slot and its program starts. -/
  | weaverRecordLoad (w : Nat)
  /-- R167: A record whose program has ended retires in intake order and its emissions enter their queues. -/
  | weaverRetire (w : Nat)
  /-- R174: Weaver instruction add. -/
  | add (w : Nat) (sl : Nat)
  /-- R174: Weaver instruction sub. -/
  | sub (w : Nat) (sl : Nat)
  /-- R174: Weaver instruction and. -/
  | andOp (w : Nat) (sl : Nat)
  /-- R174: Weaver instruction or. -/
  | orOp (w : Nat) (sl : Nat)
  /-- R174: Weaver instruction xor. -/
  | xorOp (w : Nat) (sl : Nat)
  /-- R174: Weaver instruction shl. -/
  | shl (w : Nat) (sl : Nat)
  /-- R174: Weaver instruction shr, logical shift right. -/
  | shr (w : Nat) (sl : Nat)
  /-- R174: Weaver instruction sar, arithmetic shift right. -/
  | sar (w : Nat) (sl : Nat)
  /-- R174: Weaver instruction mul, low 64 bits of the product. -/
  | mul (w : Nat) (sl : Nat)
  /-- R174: Weaver instruction minu. -/
  | minu (w : Nat) (sl : Nat)
  /-- R174: Weaver instruction maxu. -/
  | maxu (w : Nat) (sl : Nat)
  /-- R174: Weaver instruction sltu. -/
  | sltu (w : Nat) (sl : Nat)
  /-- R174: Weaver instruction slt. -/
  | slt (w : Nat) (sl : Nat)
  /-- R174: Weaver instruction seq. -/
  | seq (w : Nat) (sl : Nat)
  /-- R174: Weaver instruction addi. -/
  | addi (w : Nat) (sl : Nat)
  /-- R174: Weaver instruction andi. -/
  | andi (w : Nat) (sl : Nat)
  /-- R174: Weaver instruction ori. -/
  | ori (w : Nat) (sl : Nat)
  /-- R174: Weaver instruction xori. -/
  | xori (w : Nat) (sl : Nat)
  /-- R174: Weaver instruction shli. -/
  | shli (w : Nat) (sl : Nat)
  /-- R174: Weaver instruction shri. -/
  | shri (w : Nat) (sl : Nat)
  /-- R174: Weaver instruction sari. -/
  | sari (w : Nat) (sl : Nat)
  /-- R174: Weaver instruction ldih, loading a 16-bit immediate into a quarter of rd. -/
  | ldih (w : Nat) (sl : Nat)
  /-- R174: Weaver instruction ext, zero-extended bit field extract. -/
  | ext (w : Nat) (sl : Nat)
  /-- R174: Weaver instruction exts, sign-extended bit field extract. -/
  | exts (w : Nat) (sl : Nat)
  /-- R174: Weaver instruction ins, bit field insert. -/
  | ins (w : Nat) (sl : Nat)
  /-- R174: Weaver instruction beq. -/
  | beq (w : Nat) (sl : Nat)
  /-- R174: Weaver instruction bne. -/
  | bne (w : Nat) (sl : Nat)
  /-- R174: Weaver instruction bltu. -/
  | bltu (w : Nat) (sl : Nat)
  /-- R174: Weaver instruction bgeu. -/
  | bgeu (w : Nat) (sl : Nat)
  /-- R174: Weaver instruction blt. -/
  | blt (w : Nat) (sl : Nat)
  /-- R174: Weaver instruction bge. -/
  | bge (w : Nat) (sl : Nat)
  /-- R174: Weaver instruction bbs, branch if bit set. -/
  | bbs (w : Nat) (sl : Nat)
  /-- R174: Weaver instruction bbc, branch if bit clear. -/
  | bbc (w : Nat) (sl : Nat)
  /-- R174: Weaver instruction j, jump. -/
  | j (w : Nat) (sl : Nat)
  /-- R174: Weaver instruction beqi. -/
  | beqi (w : Nat) (sl : Nat)
  /-- R174: Weaver instruction bnei. -/
  | bnei (w : Nat) (sl : Nat)
  /-- R174: Weaver instruction ld from local data. -/
  | ld (w : Nat) (sl : Nat)
  /-- R174: Weaver instruction st to local data. -/
  | st (w : Nat) (sl : Nat)
  /-- R174: Weaver instruction lut, table lookup through WEA_TD. -/
  | lut (w : Nat) (sl : Nat)
  /-- R172: Weaver instruction rds, reading a selected system value. -/
  | rds (w : Nat) (sl : Nat)
  /-- R173: Weaver instruction rdl, reading a lane's table. -/
  | rdl (w : Nat) (sl : Nat)
  /-- R178: Weaver instruction emit, sending the h registers as a record to a queue. -/
  | emit (w : Nat) (sl : Nat)
  /-- R177: Weaver instruction emiti, emitting to an immediate queue or by the lane map. -/
  | emiti (w : Nat) (sl : Nat)
  /-- R169: Weaver instruction drop, ending the program and discarding the record. -/
  | drop (w : Nat) (sl : Nat)
  /-- R169: Weaver instruction yield, ending the program. -/
  | yield (w : Nat) (sl : Nat)
  /-- R174: Weaver instruction signal, setting a WEVT SIG bit. -/
  | signal (w : Nat) (sl : Nat)
  /-- R182: The merge horizon advances past 2^FLUSH_EXP since a weaver bundle opened and it closes. -/
  | weaverFlush (t : Nat) (w : Nat) (q : Nat)
  /-- R185: A pending signal enters the weaver intake once the merge horizon reaches t_s. -/
  | signalEntry (t : Nat) (w : Nat)
  /-- R186: A plaza weaver takes the next committed bundle from its inputs and presents its records. -/
  | plazaBundleTake (t : Nat) (w : Nat)
  /-- R187: At an input bundle's end the plaza weaver presents a bundle-end record and may close its bundles. -/
  | bundleEnd (t : Nat) (w : Nat)
  /-- R187: An input bundle is released once every output bundle open at its end has closed. -/
  | inputRelease (t : Nat) (w : Nat)
  /-- R192: A write of RUN from 0 to 1 starts the weaver, clearing FAULTED, FALLBACK and g8-g15. -/
  | weaverRunStart (t : Nat) (m : Nat) (w : Nat)
  /-- R193: A write of RUN from 1 to 0 stops intake and lets records in hand retire. -/
  | weaverRunStop (t : Nat) (m : Nat) (w : Nat)
  /-- R193: A stopping weaver's records have retired and bundles closed; lanes return to the fast path. -/
  | halted (t : Nat) (w : Nat)
  /-- R198: A filter pipeline takes an input record and, if it is a sample, runs its stages. -/
  | fltRecord (t : Nat) (p : Nat)
  /-- R207: The latest sample time advances past 2^FLUSH_EXP since a bundle opened and it closes. -/
  | fltBundleFlush (p : Nat)
  /-- R209: A write of FLT_CTRL.RESET causes a synchronising reset of the pipeline. -/
  | fltCtrlReset (t : Nat) (m : Nat) (p : Nat)
  /-- R212: A write of FLT_CTRL.SWAP makes a swap request with cross-fade length XF_N. -/
  | fltCtrlSwap (t : Nat) (m : Nat) (p : Nat) (n : Nat)
  /-- R211: A write to a shadow bank's words resets that bank's combs and decimation counts. -/
  | shadowBankWrite (t : Nat) (m : Nat) (a : Nat) (v : Word)
  /-- R220: A histogram engine takes a record and counts its key into a bin. -/
  | heRecord (t : Nat) (h : Nat)
  /-- R222: A write of HE_CTRL.OP = SNAPSHOT requests a snapshot. -/
  | heOpSnapshot (t : Nat) (m : Nat) (h : Nat)
  /-- R222: A write of HE_CTRL.OP = SNAPSHOT_RESET requests a snapshot followed by clearing. -/
  | heOpSnapshotReset (t : Nat) (m : Nat) (h : Nat)
  /-- R222: A write of HE_CTRL.OP = RESET requests clearing of the counts. -/
  | heOpReset (t : Nat) (m : Nat) (h : Nat)
  /-- R222: A waiting operation is applied once the input horizon reaches its time. -/
  | histOpApply (h : Nat)
  /-- R222: T64 reaches a multiple of 2^SNAP_EXP and SNAPSHOT_RESET is performed. -/
  | periodicSnapshot (h : Nat)
  /-- R223: The HIST record of a frozen snapshot is written and held-back keys resume. -/
  | histRecordWritten (t : Nat) (h : Nat)
  /-- R231: A REFIN edge is stamped and compared with its predicted time by the loop. -/
  | refinEdge (t : Nat) (k : Nat) (lv : Bool)
  /-- R228: No edge arrives on a monitored REFIN input for the LOS time and LOS is set. -/
  | refLos (t : Nat) (k : Nat)
  /-- R228: A 1 ms frequency measurement of a REFIN input sets or clears FREQ_BAD. -/
  | freqCheck (t : Nat) (k : Nat) (f : Nat)
  /-- R228: An input free of LOS and FREQ_BAD for QUAL_TIME becomes qualified and may be selected. -/
  | qualified (t : Nat) (k : Nat)
  /-- R231: ACQUIRE reaches 0.01 ppm over 100 ms and the TPLL locks with a new anchor. -/
  | timebaseLock (t : Nat)
  /-- R233: The 1 ms offset measurement of a returned reference ends and θ decides slew or step. -/
  | returnMeasurementEnd (t : Nat)
  /-- R234: The remaining offset falls within 0.1 ps, SLEWING ends and TIMEBASE_SLEW_END is written. -/
  | slewEnd (t : Nat)
  /-- R236: At step boundary B, T64 is stepped by Δ and the step is recorded in every active queue. -/
  | timebaseStep
  /-- R239: A SYNC_IN0 edge of polarity POL0 is stamped and, if armed, schedules a T64 load. -/
  | syncIn0Edge (t : Nat) (lv : Bool)
  /-- R239: A write of 1 to ARM0 arms the next SYNC_IN0 edge to load T64. -/
  | arm0 (t : Nat) (m : Nat)
  /-- R241: A write of OP = SEARCH searches all bands for the entry and relocks. -/
  | opllSearch (t : Nat) (m : Nat) (e : Nat)
  /-- R241: A write of OP = HOP relocks to a valid entry using its stored band. -/
  | opllHop (t : Nat) (m : Nat) (e : Nat)
  /-- R241: A write of OP = OFF stops the OPLL and holds its outputs low. -/
  | opllOff (t : Nat) (m : Nat) (e : Nat)
  /-- R242: Lock is detected, dividers restart on one VCO edge and OPLL_RELOCK is written. -/
  | opllLock (t : Nat) (band : Nat) (tune : Nat)
  /-- R243: The OPLL loses lock, enters LOST and with LOL_GATE holds the outputs low. -/
  | opllLossOfLock (t : Nat)
  /-- R243: In LOST the engine repeats the entry's HOP every 1 ms. -/
  | lostRetry
  /-- R241: A write to word 0 of a band entry clears VALID, or is refused for the entry in use. -/
  | bandEntryWrite (t : Nat) (m : Nat) (e : Nat) (v : Word)
  /-- R245: A change to a running output's divider, delays or enable takes effect at its next edge or low phase. -/
  | oclkChangeApply (t : Nat) (c : Nat)
  /-- R246: A SYNC_IN1 edge of polarity POL1 is stamped and, if armed, triggers a divider reset. -/
  | syncIn1Edge (t : Nat) (lv : Bool)
  /-- R246: A write of 1 to ARM1 arms the next SYNC_IN1 edge to reset dividers. -/
  | arm1 (t : Nat) (m : Nat)
  /-- R246: A write of 1 to SW1 requests a divider reset at once. -/
  | sw1 (t : Nat) (m : Nat)
  /-- R246: Selected dividers restart together on the first source edge after t_1 + 2^15 ticks. -/
  | dividerResetRestart (t : Nat)
  /-- R247: Loopback to a relief lane takes effect at the first coarse boundary its conditions hold. -/
  | loopbackStart (t : Nat) (b : Nat)
  /-- R263: The queue manager places the next placeable bundle into its queue and commits it. -/
  | bundlePlace (t : Nat) (q : Nat)
  /-- R262: A bundle waiting 2^HOLD_EXP ticks since close is placed at once with HOLD. -/
  | holdExpiry (q : Nat)
  /-- R257: A bundle open for 2^44 ticks is closed by the queue manager with FORCED. -/
  | bundleAgeForce
  /-- R257: A freed assembly buffer goes to the longest-waiting producer. -/
  | bufferGrant (t : Nat)
  /-- R251: A QD_CFG write taking EN from 0 to 1 checks geometry and resets the queue's indices. -/
  | queueEnSet (t : Nat) (m : Nat) (q : Nat) (v : Word)
  /-- R251: A QD_CFG write taking EN from 1 to 0 rewinds every open or waiting bundle. -/
  | queueEnClear (t : Nat) (m : Nat) (q : Nat) (v : Word)
  /-- R271: A write to QD_RD pops words from a software-consumed queue. -/
  | pop (t : Nat) (m : Nat) (q : Nat) (rd : Nat)
  /-- R274: A DMA engine takes a committed bundle and copies it to its host ring. -/
  | ringCopy (t : Nat) (r : Nat)
  /-- R275: After the data writes, HEAD is written back, the bundle popped and the vector notified. -/
  | ringWriteback (t : Nat) (r : Nat)
  /-- R276: A write to RING_TAIL frees ring space or, if invalid, stops the ring with ERR. -/
  | tailWrite (t : Nat) (f : Nat) (r : Nat) (v : Word)
  /-- R280: An EIC source input changes and PEND is updated. -/
  | sourceInput (t : Nat) (k : Nat) (lv : Bool)
  /-- R281: A write to INT_SET_EN enables the sources of its 1 bits. -/
  | intSetEn (t : Nat) (m : Nat) (w : Nat) (v : Word)
  /-- R281: A write to INT_CLR_EN disables the sources of its 1 bits. -/
  | intClrEn (t : Nat) (m : Nat) (w : Nat) (v : Word)
  /-- R281: A write to INT_SET_PEND sets PEND of the sources of its 1 bits. -/
  | intSetPend (t : Nat) (m : Nat) (w : Nat) (v : Word)
  /-- R281: A write to INT_CLR_PEND clears PEND and HELD of the sources of its 1 bits. -/
  | intClrPend (t : Nat) (m : Nat) (w : Nat) (v : Word)
  /-- R284: A moderation unit's timer reaches TIME and it opens. -/
  | moderationTimer (u : Nat)
  /-- R283: The EIC presents the highest-priority eligible source to a chosen core, which begins its entry. -/
  | route (t : Nat)
  /-- R285: At the end of the entry window the presented source is claimed and pushed on the priority stack. -/
  | claim (t : Nat) (c : Nat)
  /-- R289: A completion naming the top of the stack pops it and clears ACTIVE. -/
  | coreEoi (t : Nat) (c : Nat) (k : Nat)
  /-- R290: The core's mret starts a 12-cycle frame restore during which chained entry may occur. -/
  | mret (t : Nat) (c : Nat)
  /-- R290: The frame restore completes and the interrupted context resumes. -/
  | frameRestoreDone (t : Nat) (c : Nat)
  /-- R292: A write of CORE_CTRL.STACK_RESET empties the stack, re-pends edge sources and resumes delivery. -/
  | stackReset (t : Nat) (m : Nat) (c : Nat)
  /-- R296: A vector's moderation timer reaches TIME and its message is sent. -/
  | vectorTimer (v : Nat)
  /-- R296: Unmasking a vector or function sends its pending message. -/
  | vectorUnmask (t : Nat) (f : Nat) (v : Nat)
  /-- R297: A function enters D3hot or PME_Turn_Off arrives; ring copies finish and held notifications follow
  SLEEP_POL. -/
  | functionSleepEntry (t : Nat) (f : Nat)
  /-- R297: A function returns to D0 with bus mastering and L0, and held messages are sent. -/
  | functionWake (t : Nat) (f : Nat)
  /-- R300: A write of MBX_DB.POST moves a FREE or DONE slot to POSTED. -/
  | post (t : Nat) (ep : Nat) (slot : Nat)
  /-- R300: A write of MBX_DB.RELEASE moves a DONE slot to FREE. -/
  | release (t : Nat) (ep : Nat) (slot : Nat)
  /-- R311: A write to MBX_NTAIL consumes event-queue entries or pops the I2C notice FIFO. -/
  | mbxNtail (t : Nat) (ep : Nat) (v : Nat)
  /-- R301: Firmware takes the next posted command in round-robin order and checks it. -/
  | commandTake (t : Nat)
  /-- R302: A command not completed 10 ms after being taken is answered ACCEPTED. -/
  | responseDeadline (ep : Nat) (slot : Nat)
  /-- R302: An ACCEPTED command finishes and a COMPLETE notice is written. -/
  | complete (t : Nat) (ep : Nat) (slot : Nat)
  /-- R321: Command returning device, stepping, firmware, image, endpoint and master ID. -/
  | sysIdentify (t : Nat) (ep : Nat) (sl : Nat)
  /-- R321: Command echoing its payload. -/
  | sysPing (t : Nat) (ep : Nat) (sl : Nat)
  /-- R311: Command setting the endpoint's event queue and notice class mask. -/
  | sysNoticeSet (t : Nat) (ep : Nat) (sl : Nat)
  /-- R310: Command cancelling an ACCEPTED command by its tag. -/
  | sysAbort (t : Nat) (ep : Nat) (sl : Nat)
  /-- R321: Command returning T64, AXI_POS and TPLL state. -/
  | sysTime (t : Nat) (ep : Nat) (sl : Nat)
  /-- R381: Command applying a SOFT_ENGINE reset. -/
  | sysEngineReset (t : Nat) (ep : Nat) (sl : Nat)
  /-- R321: Command answering once start-up is complete. -/
  | sysReady (t : Nat) (ep : Nat) (sl : Nat)
  /-- R314: Command writing selected FRE and CAP words to a range of lanes. -/
  | laneSet (t : Nat) (ep : Nat) (sl : Nat)
  /-- R314: Command returning one lane's configuration and status words. -/
  | laneGet (t : Nat) (ep : Nat) (sl : Nat)
  /-- R314: Command returning packed status of a range of lanes. -/
  | laneStatus (t : Nat) (ep : Nat) (sl : Nat)
  /-- R314: Command returning and clearing lane counters. -/
  | laneCounters (t : Nat) (ep : Nat) (sl : Nat)
  /-- R314: Command loading walk tables into an inactive bank by bulk transfer. -/
  | walkLoad (t : Nat) (ep : Nat) (sl : Nat)
  /-- R314: Command writing a walk-table bank to client memory. -/
  | walkRead (t : Nat) (ep : Nat) (sl : Nat)
  /-- R315: Command starting to learn a walk table from live edges against a reference lane. -/
  | walkLearn (t : Nat) (ep : Nat) (sl : Nat)
  /-- R315: After NEDGES pairs the learned table is written into the bank and the command completes. -/
  | walkLearnDone (t : Nat) (ep : Nat) (sl : Nat)
  /-- R115: Command writing counting-engine configuration to a range of lanes. -/
  | engineSet (t : Nat) (ep : Nat) (sl : Nat)
  /-- R131: Command returning one lane's counting-engine words. -/
  | engineGet (t : Nat) (ep : Nat) (sl : Nat)
  /-- R131: Command returning and clearing CNT_CNT. -/
  | engineCounters (t : Nat) (ep : Nat) (sl : Nat)
  /-- R316: Command allocating a ward or cross-ward pairing unit to the endpoint. -/
  | pairAlloc (t : Nat) (ep : Nat) (sl : Nat)
  /-- R439: Command writing a pairing unit's configuration words. -/
  | pairSet (t : Nat) (ep : Nat) (sl : Nat)
  /-- R316: Command returning a pairing unit's words and clearing PAIR_CNT. -/
  | pairGet (t : Nat) (ep : Nat) (sl : Nat)
  /-- R316: Command disabling and freeing a pairing unit. -/
  | pairFree (t : Nat) (ep : Nat) (sl : Nat)
  /-- R136: Command writing the axis configuration words. -/
  | axisSet (t : Nat) (ep : Nat) (sl : Nat)
  /-- R136: Command writing AXI_CTRL.EN and answering once it takes effect. -/
  | axisEnable (t : Nat) (ep : Nat) (sl : Nat)
  /-- R158: Command returning axis position, timing and counters and clearing the counters. -/
  | axisStatus (t : Nat) (ep : Nat) (sl : Nat)
  /-- R317: Command writing staged stakes by bulk transfer and claiming the staging area. -/
  | stakesLoad (t : Nat) (ep : Nat) (sl : Nat)
  /-- R317: Command writing staged lane groups. -/
  | lgLoad (t : Nat) (ep : Nat) (sl : Nat)
  /-- R151: Command setting COMMIT, answering at COMMIT_DONE and ending the staging claim. -/
  | axisCommit (t : Nat) (ep : Nat) (sl : Nat)
  /-- R133: Command setting the directions of selected MARK ports. -/
  | markdirSet (t : Nat) (ep : Nat) (sl : Nat)
  /-- R154: Command returning and clearing QHIT counters of a range of lanes. -/
  | qhitRead (t : Nat) (ep : Nat) (sl : Nat)
  /-- R195: Command loading a weaver image by bulk transfer. -/
  | weaveLoad (t : Nat) (ep : Nat) (sl : Nat)
  /-- R192: Command writing RUN = 1 to a weaver. -/
  | weaveStart (t : Nat) (ep : Nat) (sl : Nat)
  /-- R193: Command writing RUN = 0 to a weaver. -/
  | weaveStop (t : Nat) (ep : Nat) (sl : Nat)
  /-- R321: Command returning a weaver's status, fault and counters. -/
  | weaveStatus (t : Nat) (ep : Nat) (sl : Nat)
  /-- R194: Command writing WCFG, WENTRY, WEA_PCFG and WEA_TD under a mask. -/
  | weaveCfg (t : Nat) (ep : Nat) (sl : Nat)
  /-- R194: Command writing weaver local words by bulk transfer. -/
  | weaveData (t : Nat) (ep : Nat) (sl : Nat)
  /-- R186: Command setting a plaza weaver input. -/
  | weavePin (t : Nat) (ep : Nat) (sl : Nat)
  /-- R105: Command returning calibration status of units and clearing their RC fields. -/
  | calUnitStatus (t : Nat) (ep : Nat) (sl : Nat)
  /-- R105: Command writing selected CAL_BCFG fields of a block. -/
  | calBlockSet (t : Nat) (ep : Nat) (sl : Nat)
  /-- R105: Command returning a block's calibration status and clearing SHORT_CNT. -/
  | calBlockStatus (t : Nat) (ep : Nat) (sl : Nat)
  /-- R79: Command placing a unit at the head of its block's cycle. -/
  | calPrioritise (t : Nat) (ep : Nat) (sl : Nat)
  /-- R318: Command reinstating a RETIRED or FAILED unit through a calibration cycle. -/
  | calReinstate (t : Nat) (ep : Nat) (sl : Nat)
  /-- R97: Command copying units' calibration slots to client memory. -/
  | calExport (t : Nat) (ep : Nat) (sl : Nat)
  /-- R321: Command writing filter pipeline configuration and allocating its store area. -/
  | filtSet (t : Nat) (ep : Nat) (sl : Nat)
  /-- R211: Command loading the words of a shadow bank. -/
  | filtBankLoad (t : Nat) (ep : Nat) (sl : Nat)
  /-- R212: Command making a swap request with a cross-fade length. -/
  | filtSwap (t : Nat) (ep : Nat) (sl : Nat)
  /-- R209: Command causing a synchronising reset of a pipeline. -/
  | filtReset (t : Nat) (ep : Nat) (sl : Nat)
  /-- R321: Command returning a pipeline's status and counters. -/
  | filtStatus (t : Nat) (ep : Nat) (sl : Nat)
  /-- R321: Command writing histogram engine configuration. -/
  | histSet (t : Nat) (ep : Nat) (sl : Nat)
  /-- R222: Command requesting a histogram operation. -/
  | histOp (t : Nat) (ep : Nat) (sl : Nat)
  /-- R321: Command returning a histogram engine's status. -/
  | histStatus (t : Nat) (ep : Nat) (sl : Nat)
  /-- R227: Command writing TPLL configuration and reference frequencies. -/
  | tpllSet (t : Nat) (ep : Nat) (sl : Nat)
  /-- R249: Command returning TPLL status and clearing TIM_TCNT. -/
  | tpllStatus (t : Nat) (ep : Nat) (sl : Nat)
  /-- R239: Command setting PRESET and arming a SYNC_IN0 load. -/
  | sync0Arm (t : Nat) (ep : Nat) (sl : Nat)
  /-- R240: Command writing word 0 of a band entry. -/
  | bandSet (t : Nat) (ep : Nat) (sl : Nat)
  /-- R320: Command performing SEARCH, HOP or OFF on the OPLL. -/
  | opllOp (t : Nat) (ep : Nat) (sl : Nat)
  /-- R244: Command writing selected fields of output clocks. -/
  | outSet (t : Nat) (ep : Nat) (sl : Nat)
  /-- R246: Command arming or performing a divider reset. -/
  | sync1 (t : Nat) (ep : Nat) (sl : Nat)
  /-- R247: Command writing TIM_LOOP of a block and answering at ACTIVE or ERR. -/
  | loopSet (t : Nat) (ep : Nat) (sl : Nat)
  /-- R249: Command returning OPLL status and band entries. -/
  | opllStatus (t : Nat) (ep : Nat) (sl : Nat)
  /-- R251: Command allocating a queue and its store space. -/
  | queueAlloc (t : Nat) (ep : Nat) (sl : Nat)
  /-- R251: Command disabling, unbinding and freeing a queue. -/
  | queueFree (t : Nat) (ep : Nat) (sl : Nat)
  /-- R251: Command writing a queue's EN. -/
  | queueEnable (t : Nat) (ep : Nat) (sl : Nat)
  /-- R319: Command setting both sides of a queue's consumer binding. -/
  | queueBind (t : Nat) (ep : Nat) (sl : Nat)
  /-- R162: Command writing WEA_LMAP entries of a range of lanes. -/
  | queueRoute (t : Nat) (ep : Nat) (sl : Nat)
  /-- R163: Command writing a block's WEA_FPCFG. -/
  | queueFastpath (t : Nat) (ep : Nat) (sl : Nat)
  /-- R274: Command writing a host ring's descriptor. -/
  | queueRingSet (t : Nat) (ep : Nat) (sl : Nat)
  /-- R277: Command returning a queue's descriptor and clearing its counters. -/
  | queueStatus (t : Nat) (ep : Nat) (sl : Nat)
  /-- R277: Command clearing selected QD_FLAGS bits. -/
  | queueFlagsClear (t : Nat) (ep : Nat) (sl : Nat)
  /-- R257: Command writing QUE_POOL and QUE_CTRL. -/
  | queuePoolSet (t : Nat) (ep : Nat) (sl : Nat)
  /-- R348: Command writing a group's LNK_GRP mode. -/
  | linkAssign (t : Nat) (ep : Nat) (sl : Nat)
  /-- R348: Command writing an Ethernet port's configuration. -/
  | linkEthSet (t : Nat) (ep : Nat) (sl : Nat)
  /-- R348: Command writing a DLP link's configuration. -/
  | linkDlpSet (t : Nat) (ep : Nat) (sl : Nat)
  /-- R348: Command returning a group's status and clearing its RC counters. -/
  | linkStatus (t : Nat) (ep : Nat) (sl : Nat)
  /-- R348: Command returning partner table entries and clearing DENIED_CNT. -/
  | linkPartners (t : Nat) (ep : Nat) (sl : Nat)
  /-- R348: Command configuring an egress channel and binding its queue. -/
  | linkEgressBind (t : Nat) (ep : Nat) (sl : Nat)
  /-- R364: Command writing an access window. -/
  | accWindowSet (t : Nat) (ep : Nat) (sl : Nat)
  /-- R364: Command returning an access window's words. -/
  | accWindowGet (t : Nat) (ep : Nat) (sl : Nat)
  /-- R347: Command granting a master access in a window, checking partner GEN. -/
  | accGrant (t : Nat) (ep : Nat) (sl : Nat)
  /-- R364: Command clearing a master's bits in a window. -/
  | accRevoke (t : Nat) (ep : Nat) (sl : Nat)
  /-- R364: Command returning and clearing the violation capture. -/
  | accViolations (t : Nat) (ep : Nat) (sl : Nat)
  /-- R363: Command reading the debug challenge or presenting the unlock signature. -/
  | accUnlock (t : Nat) (ep : Nat) (sl : Nat)
  /-- R370: Command arming entry into WATCH or DEEP_SLEEP. -/
  | pwrStateSet (t : Nat) (ep : Nat) (sl : Nat)
  /-- R367: Command changing a power domain's state. -/
  | pwrDomainSet (t : Nat) (ep : Nat) (sl : Nat)
  /-- R389: Command writing PWR_WAKE and PWR_ALARM. -/
  | pwrWakeCfg (t : Nat) (ep : Nat) (sl : Nat)
  /-- R389: Command returning power and recovery status. -/
  | pwrStatus (t : Nat) (ep : Nat) (sl : Nat)
  /-- R400: Command configuring a monitor unit. -/
  | monSet (t : Nat) (ep : Nat) (sl : Nat)
  /-- R400: Command returning a monitor unit's status, optionally restarting it. -/
  | monRead (t : Nat) (ep : Nat) (sl : Nat)
  /-- R400: Command returning the 40 temperature readings. -/
  | monTemps (t : Nat) (ep : Nat) (sl : Nat)
  /-- R400: Command returning copies of recent FAULT notices. -/
  | monErrlog (t : Nat) (ep : Nat) (sl : Nat)
  /-- R100: Command queueing vault writes of named units and completing when they are written. -/
  | nvmSave (t : Nat) (ep : Nat) (sl : Nat)
  /-- R321: Command saving a configuration profile to the vault. -/
  | nvmProfileSave (t : Nat) (ep : Nat) (sl : Nat)
  /-- R321: Command loading a configuration profile from the vault. -/
  | nvmProfileLoad (t : Nat) (ep : Nat) (sl : Nat)
  /-- R361: Command writing a firmware image into the non-preferred slot. -/
  | nvmImageWrite (t : Nat) (ep : Nat) (sl : Nat)
  /-- R361: Command verifying an image, moving the preferred pointer and optionally raising SVN_FLOOR. -/
  | nvmImageActivate (t : Nat) (ep : Nat) (sl : Nat)
  /-- R321: Command returning vault status. -/
  | nvmStatus (t : Nat) (ep : Nat) (sl : Nat)
  /-- R324: A change of a group's MODE detaches partners, stops channels and idles the lanes. -/
  | groupModeWrite (t : Nat) (m : Nat) (g : Nat) (v : Word)
  /-- R324: After 1 ms idle a group's lanes train in the new mode. -/
  | groupTrain (g : Nat)
  /-- R331: An egress channel sends a datagram of its stream's next words and pops completed bundles. -/
  | datagramSend (t : Nat) (e : Nat)
  /-- R332: A channel idle for 2^HB_EXP ticks sends a HEARTBEAT datagram. -/
  | heartbeat (e : Nat)
  /-- R328: A received PAUSE frame stops the port's transmitter. -/
  | pause (t : Nat) (p : Nat) (q : Nat)
  /-- R328: Any other received Ethernet frame is counted and discarded. -/
  | rxDisc (t : Nat) (p : Nat)
  /-- R338: Block lock and deskew on every lane of an enabled link start discovery with HELLO. -/
  | dlpLinkUp (t : Nat) (l : Nat)
  /-- R338: During discovery HELLO is repeated every 1 ms. -/
  | helloRepeat (l : Nat)
  /-- R338: No attach within 100 ms: HS_FAIL is counted and the lanes retrain. -/
  | discoveryTimeout (l : Nat)
  /-- R338, R340: 1 s after a failed or refused discovery, or 1 ms after the BYEs of a detach, discovery resumes. -/
  | discoveryRestart (l : Nat)
  /-- R342: A received KEEP frame returns credits and advances the partner's progress. -/
  | keep (t : Nat) (l : Nat) (f : Frame)
  /-- R337: A received HELLO is answered with ACCEPT or BYE, or detaches an attached partner. -/
  | hello (t : Nat) (l : Nat) (f : Frame)
  /-- R338: A received ACCEPT completes the attach when ACCEPT has also been sent. -/
  | accept (t : Nat) (l : Nat) (f : Frame)
  /-- R340: A received BYE detaches the partner. -/
  | bye (t : Nat) (l : Nat) (f : Frame)
  /-- R341: A received BUNDLE frame delivers a bundle into its queue or is refused. -/
  | bundleFrame (t : Nat) (l : Nat) (f : Frame)
  /-- R344: A received MBX COMMAND frame writes a slot and posts it. -/
  | mbxCommand (t : Nat) (l : Nat) (f : Frame)
  /-- R344: A received MBX RELEASE frame releases a slot. -/
  | mbxRelease (t : Nat) (l : Nat) (f : Frame)
  /-- R345: A received TIME request is stamped and answered within 20 µs. -/
  | timeRequest (t : Nat) (l : Nat) (f : Frame)
  /-- R345: A received TIME response yields offset and delay in PT_TIME. -/
  | timeResponse (t : Nat) (l : Nat) (f : Frame)
  /-- R335: A received frame failing CRC, type or length checks is discarded and counted. With `crc`, `rx` is the queue
  and the bundle credits of a BUNDLE frame; without, its first number is the frame's FSEQ. -/
  | frameDiscard (t : Nat) (l : Nat) (crc : Bool) (rx : Option (Nat × Nat))
  /-- R340: Block lock lost for 10 µs detaches the partner. -/
  | lossOfSignal (t : Nat) (l : Nat)
  /-- R340: No frame received for 10 ms detaches the partner. -/
  | rxTimeout (t : Nat) (l : Nat)
  /-- R340: A frame waiting CREDIT_TO ms for credits detaches the partner. -/
  | creditTimeout (t : Nat) (l : Nat)
  /-- R340: The engine sends a KEEP frame when no other frame is due within 100 µs or credits must be reported. -/
  | keepSend (t : Nat) (l : Nat)
  /-- R343: A committed bundle of a partner-bound queue is sent in a BUNDLE frame. -/
  | partnerBundleSend (t : Nat) (e : Nat)
  /-- R345: With TIME_EN a TIME request is sent every 100 ms. -/
  | timeRequestSend (t : Nat) (l : Nat)
  /-- R360: A trial-booted image not reaching READY in 2 s makes the next start try the other image first. -/
  | trialTimeout (t : Nat)
  /-- R432: JTAG instruction IDCODE. -/
  | idcode (t : Nat)
  /-- R363: JTAG instruction CHALLENGE, returning a fresh challenge. -/
  | challenge (t : Nat) (nonce : List Byte)
  /-- R363: JTAG instruction UNLOCK, checking a signature over the challenge. -/
  | unlock (t : Nat) (key : List Byte) (sig : List Byte) (nonce : List Byte)
  /-- R432: JTAG instruction SAMPLE/PRELOAD. -/
  | samplePreload (t : Nat) (pins : List Nat)
  /-- R432: JTAG instruction EXTEST. -/
  | extest (t : Nat) (pins : List Nat)
  /-- R432: JTAG instruction DEBUG. -/
  | debug (t : Nat) (wr : Bool) (a : Nat) (v : Word)
  /-- R432: JTAG instruction BYPASS. -/
  | bypass (t : Nat)
  /-- R367: A write to PWR_DREQ requests a domain state change, or sets DOMAIN_ERR. -/
  | pwrDreqWrite (t : Nat) (m : Nat) (i : Nat) (v : Word)
  /-- R367: A domain completes its change of state. -/
  | domainChangeDone (t : Nat) (d : Nat)
  /-- R370: At t_a an armed sleep entry begins: supervision disarmed, partners detached, weavers stopped. -/
  | engineEntryStart (t : Nat)
  /-- R370: 1 s passes without t_a and the armed entry is abandoned. -/
  | entryAbandon
  /-- R370: At t_q stamping stops, gates are discarded, the axis goes OFF and bundles close. -/
  | dataPathStop
  /-- R370: The store enters self-refresh and domains take their WATCH states. -/
  | watchEntered (t : Nat)
  /-- R371: With the vault queue empty every domain except PD0 goes OFF. -/
  | deepSleepEntered (t : Nat)
  /-- R373: T64 or the PD0 count reaches ALARM and wakes the engine. -/
  | alarm (t : Nat)
  /-- R373: After a wake source, domains return to ON and cores leave RETAIN. -/
  | wakeDomainsOn (t : Nat)
  /-- R373: At keep-alive tick t_l, T64 is reloaded from KA and the timebase counts on. -/
  | wakeTimebaseRestore (ka : Nat)
  /-- R377: At t_e the engine is ACTIVE again and units resume. -/
  | wakeResume
  /-- R378: PWR_OK rises and start-up begins as a POWER reset. -/
  | pwrOkRise
  /-- R380: PWR_OK falls and the engine goes OFF at once. -/
  | pwrOkFall (t : Nat)
  /-- R378: Start-up brings the plaza's first domains ON and the pool PLL identifies REFIN3. -/
  | startDomainsOn
  /-- R378: The TPLL's VCO settles and T64 counts from 0. -/
  | t64Start
  /-- R360: The boot ROM checks the firmware images and starts K0 or enters BOOT_FAIL. -/
  | bootRomStart (t : Nat)
  /-- R378: The store is trained and cleared with valid ECC. -/
  | storeTrained (t : Nat)
  /-- R12: Ward links are trained and wards with too many failed wires are left out. `failed` lists the wires found
  failed: ward, direction (up to the plaza, or down), and the wire's number among the 256 of its direction. -/
  | wardLinksTrained (t : Nat) (failed : List (Nat × Bool × Nat))
  /-- R357: Ongen runs on K0-K2 and the access profile is applied. -/
  | ongenRunning (t : Nat)
  /-- R102: Every unit's calibration slot is loaded and its start state set. -/
  | vaultLoaded (t : Nat)
  /-- R378: READY is set, commands are taken, sweeps begin and supervision is armed. -/
  | ready (t : Nat)
  /-- R381: RESET_N held low resets every register of level RESET_N or weaker. -/
  | resetNAssert (t : Nat)
  /-- R381: RESET_N is released and start-up runs. -/
  | resetNRelease
  /-- R327: PERST_N asserts and resets the PCI Express side of every function. -/
  | perstNAssert (t : Nat)
  /-- R379: PERST_N rises, the link may train, and in sleep it can wake the engine. -/
  | perstNRise (t : Nat)
  /-- R327: A PCI Express hot reset resets every function as PERST_N does. -/
  | hotReset (t : Nat)
  /-- R327: The PCI Express link goes down and every function is reset as by PERST_N. -/
  | linkDown (t : Nat)
  /-- R327: A function-level reset resets one function, or PF0 and all VFs. -/
  | functionLevelReset (t : Nat) (f : Nat)
  /-- R381: A write of PWR_RST.SOFT_ENGINE requests a SOFT_ENGINE reset. -/
  | softEngine (t : Nat) (m : Nat)
  /-- R381: At the first coarse boundary the SOFT_ENGINE reset takes effect. -/
  | softEngineApply (t : Nat)
  /-- R381: A write of PWR_RST.SOFT_CORE resets the control cores and reloads firmware. -/
  | softCore (t : Nat) (m : Nat)
  /-- R383: A write of PWR_BRST requests per-block resets. -/
  | blockResetRequest (t : Nat) (m : Nat) (v : Word)
  /-- R384: At t_b a block is blanked, its registers reset and its units reloaded. -/
  | blockReset (b : Nat)
  /-- R385: A write of BEAT restarts a heartbeat register's AGE. -/
  | beat (t : Nat) (m : Nat) (c : Nat)
  /-- R399: A supervised heartbeat's AGE reaches 10 ms and WATCHDOG is set. -/
  | watchdog (t : Nat) (c : Nat)
  /-- R386: A core is silent for 20 ms and the recovery ladder acts. -/
  | heartbeatSilence (t : Nat) (c : Nat)
  /-- R386: PWR_HBW silent 50 ms, or K0 and K1 silent, asserts FAULT_N and starts a last-resort restart. -/
  | lastResortTrigger (t : Nat)
  /-- R386: At t_f + 1 µs the cores and EIC core blocks are reset. -/
  | lrSoftCore
  /-- R386: At t_f + 10 µs the boot ROM tries the images for the restart. -/
  | lrBoot
  /-- R386: No READY within 2 s of a last-resort restart repeats it or enters LR_HALT. -/
  | lrReadyTimeout
  /-- R395: The patrol scrubber reads a store word and corrects or reports ECC errors. -/
  | scrub (t : Nat) (a : Nat) (e : Nat)
  /-- R397: A sensor gives no reading for 10 ms and is left out of the limits. -/
  | sensorFault (t : Nat) (k : Nat)
  /-- R398: A reading of 115 °C for 1 ms trips the engine, asserting FAULT_N and powering down. -/
  | thermalTrip (t : Nat) (k : Nat)
  /-- R393: A write of MU_CTRL.RESTART sets MIN and MAX to VALUE. -/
  | muRestart (t : Nat) (m : Nat) (h : Nat)
  /-- R421: A monitored supply below 90 % for 2 µs acts as a fall of PWR_OK. -/
  | brownOut (t : Nat)
  /-- R412: A 4-byte read of a word's lower half returns it and latches the upper half. -/
  | lowerHalfRead (t : Nat) (m : Nat) (a : Nat)
  /-- R412: A 4-byte read of the upper half returns the shadow or the present bits. -/
  | upperHalfRead (t : Nat) (m : Nat) (a : Nat)
  /-- R413: A 4-byte write of a word's lower half is staged in the master's shadow. -/
  | lowerHalfWrite (t : Nat) (m : Nat) (a : Nat) (v : Word)
  /-- R413: A 4-byte write of the upper half commits the whole word. -/
  | upperHalfWrite (t : Nat) (m : Nat) (a : Nat) (v : Word)
  /-- R408: A direct vault write programs an 8-byte word within 20 µs. -/
  | vaultWordWrite (t : Nat) (m : Nat) (a : Nat) (v : Word)
  /-- R417: A write of 0x01 to ICTRL starts an indirect register read. -/
  | ictrlRead (t : Nat)
  /-- R417: A write of 0x02 to ICTRL starts an indirect register write. -/
  | ictrlWrite (t : Nat)
  /-- R417: An indirect access completes and BUSY clears. -/
  | indirectDone (t : Nat)
  /-- R430: An I2C write transaction sets the window offset and writes bytes from it. -/
  | i2cWrite (t : Nat) (off : Nat) (bs : List Byte)
  /-- R430: An I2C read transaction returns bytes from the offset in force. -/
  | i2cRead (t : Nat) (n : Nat)
  /-- R247: After a write of TIM_LOOP EN = 0, loopback ends at the next coarse boundary and the block's sequencer
  resumes. -/
  | loopbackEnd (t : Nat) (b : Nat)
  /-- R329: An Ethernet port's link comes up or goes down: UP and UP_CHG change, and the port's channels send or wait.
  -/
  | upChg (t : Nat) (p : Nat) (up : Bool)
  /-- R379: The PCI Express link reaches L0, after which configuration requests are accepted and an asserted WAKE_N is
  released. -/
  | linkUp (t : Nat)
  /-- R328: The pause time of a received PAUSE frame runs out and the port's transmitter resumes sending. -/
  | pauseExpiry (p : Nat)
  /-- R320: The 1 ms or 10 ms bound of an OPLL_OP HOP or SEARCH expires without lock, and firmware answers TIMEOUT. -/
  | opllOpTimeout (t : Nat)
  deriving DecidableEq, Repr

end Sys2Proof
end

