-- ==== Sys2Proof/Decode.lean ====
section
/-!
DEFINITION. The command that a word spells by the bits of the table of operations and events. The table gives no row
any bits, so no word spells a command; commands enter the queue from outside (log entry 1).
-/

namespace Sys2Proof

/-- No row of the table gives bits: every word spells nothing. -/
def decodeTableWord (_nbits _w : Nat) : Option Instr := none

end Sys2Proof
end

