-- ==== Sys2Proof/Config.lean ====
section
/-!
DEFINITION. What the spec leaves open and the model leaves free: constants without a body, so that nothing can be
proved about which value they have. A statement holds for every value of each of them.
-/

namespace Sys2Proof.Config

/-- A byte whose value the spec does not state (log entry 3). The argument is the model's counter of free values. -/
opaque freeByte : Nat → BitVec 8

/-- A word whose value the spec does not state (log entry 3). -/
opaque freeWord : Nat → BitVec 64

/-- SHA-384 of a list of bytes (R359, R363): a published function the spec names and does not define (log entry 4). -/
opaque sha384 : List (BitVec 8) → List (BitVec 8)

/-- Whether a 97-byte public key accepts a 96-byte ECDSA P-384 signature over a message (R359, R363; log entry 4). -/
opaque ecdsaP384 : List (BitVec 8) → List (BitVec 8) → List (BitVec 8) → Bool

/-- The public key that ACC_UNLOCK presents for a hash of the fuses: its payload has none (R363; log entry 4). -/
opaque debugKey : List (BitVec 8) → List (BitVec 8)

/-- Which of the plaza sensors 32 to 39 read the store's temperature: the spec does not name them (R435; log entry 37).
-/
opaque storeSensor : Nat → Bool

/-- Whether the board supplies 156.25 MHz on REFIN3, else 100 MHz: the spec allows either (R325; log entry 41). -/
opaque refin3Fast : Bool

end Sys2Proof.Config
end

