-- ==== Sys2Proof/Machine/RegNames.lean ====
section
/-!
DEFINITION. The registers of the engine by their names in the spec, one constructor per register of a field-map
table, with what each field does on a write or a read (Table SCO-3, R5) and its reset value. A register that stands
once per lane, unit, queue and so on is one name here, indexed by a number. The file follows the field maps of
chapters 02 to 17 table by table; the memories that are register words (walk tables, stakes, lane groups, weaver
programs and data, histogram bins) are at its end.
-/

namespace Sys2Proof.Machine

/-- The registers, in the order of the chapters. -/
inductive Reg where
  | FRE_INCFG
  | FRE_THR
  | FRE_RAMP
  | FRE_STAT
  | FRE_EVT
  | FRE_IE
  | FRE_CNT
  | CAP_LANECFG
  | CAP_PICK
  | CAP_BASE
  | CAP_STAT
  | CAP_CNT0
  | CAP_CNT1
  | CAP_CNT2
  | CAP_WALK
  | CAL_LSTAT
  | CAL_LQUAL
  | CAL_LCNT
  | CAL_LACT_T
  | CAL_LACT_A
  | CAL_LACT_M
  | CAL_LBASE
  | CAL_LEVT
  | CAL_BCFG
  | CAL_BSTAT
  | CAL_BEVT
  | CAL_BCNT
  | CNT_CFG
  | CNT_LEN
  | CNT_COUNT
  | CNT_STATCFG
  | CNT_STAT
  | CNT_EVT
  | CNT_CNT
  | CNT_IDX
  | PAIR_CFG
  | PAIR_WIN
  | PAIR_OFS
  | PAIR_STATCFG
  | PAIR_STAT
  | PAIR_EVT
  | PAIR_CNT
  | STAKE_MATCH
  | STAKE_ACTION
  | AXI_CFG
  | AXI_OFS
  | AXI_GEN
  | AXI_PRESET
  | AXI_CTRL
  | AXI_POS
  | AXI_STEPT
  | AXI_PERIOD
  | AXI_EVT
  | AXI_CNT0
  | AXI_CNT1
  | AXI_CNT2
  | AXI_CNT3
  | AXI_MARKDIR0
  | AXI_MARKDIR1
  | WEA_LMAP
  | WEA_LDROP
  | WEA_FPCFG
  | WEA_WCFG
  | WEA_WENTRY
  | WEA_WCTRL
  | WEA_WSTAT
  | WEA_WFAULT
  | WEA_WFTIME
  | WEA_WEVT
  | WEA_WCNT0
  | WEA_WCNT1
  | WEA_PCFG
  | WEA_PIN
  | WEA_TD
  | FLT_CFG
  | FLT_SEL
  | FLT_XREF
  | FLT_TAU
  | FLT_TOFS
  | FLT_IO
  | FLT_CTRL
  | FLT_STAT
  | FLT_EVT
  | FLT_CNT0
  | FLT_CNT1
  | FLT_CNT2
  | FLT_SCFG
  | FLT_GAIN
  | FLT_OFFSET
  | HE_CFG
  | HE_KOFS
  | HE_SNAP
  | HE_CTRL
  | HE_STAT
  | HE_MIN
  | HE_MAX
  | HE_UNDER
  | HE_OVER
  | HE_EVT
  | HE_CNT
  | HE_SINCE
  | TIM_TCFG
  | TIM_TREFP
  | TIM_REF
  | TIM_TSTAT
  | TIM_THETA
  | TIM_SREM
  | TIM_STEP
  | TIM_FOFS
  | TIM_TEVT
  | TIM_SYNC
  | TIM_PRESET
  | TIM_SYNCT0
  | TIM_SYNCT1
  | TIM_ORST
  | TIM_TCNT
  | TIM_OCTRL
  | TIM_OQ
  | TIM_OSTAT
  | TIM_OEVT
  | TIM_BAND0
  | TIM_BAND1
  | TIM_OCLK
  | TIM_OCSTAT
  | TIM_LOOP
  | QD_CFG
  | QD_RD
  | QD_WR
  | QD_MARK
  | QD_THR
  | QD_FLAGS
  | QD_CNT0
  | QD_CNT1
  | QUE_POOL
  | QUE_CTRL
  | QUE_STAT
  | RING_BASE
  | RING_CFG
  | RING_HEAD
  | RING_TAIL
  | RING_WB
  | RING_STAT
  | RING_CNT
  | INT_SRC
  | INT_MOD_CFG
  | INT_MOD_STAT
  | CORE_VBASE
  | CORE_THR
  | CORE_RUN
  | CORE_PRES
  | CORE_EOI
  | CORE_CTRL
  | CORE_FAULTINFO
  | CORE_CNT
  | CORE_STK
  | HV_MOD
  | HV_STAT
  | HV_FERR
  | MBX_STAT
  | MBX_DB
  | MBX_CFG
  | MBX_NTAIL
  | MBX_CNT
  | LNK_GRP
  | LNK_GSTAT
  | LNK_GEVT
  | ETH_MAC
  | ETH_CFG
  | ETH_CNT
  | ECH_DST
  | ECH_IP
  | ECH_CFG
  | ECH_STAT
  | DLP_CFG
  | DLP_STAT
  | DLP_CNT
  | PT_STAT
  | PT_ID0
  | PT_ID1
  | PT_TIME
  | PT_CNT
  | ACC_WRANGE
  | ACC_WCTRL
  | ACC_RD_LO
  | ACC_WR_LO
  | ACC_RD_HI
  | ACC_WR_HI
  | ACC_VSTAT
  | ACC_VCAP0
  | ACC_VCAP1
  | ACC_K3WIN
  | ACC_BOOT
  | PWR_ENG
  | PWR_RST
  | PWR_BRST
  | PWR_WAKE
  | PWR_ALARM
  | PWR_CSTAT
  | PWR_HB
  | PWR_HBW
  | PWR_REC
  | PWR_LRT
  | PWR_EVT
  | MU_CFG
  | MU_LIM
  | MU_CTRL
  | MU_STAT
  | MU_MINMAX
  | MU_EVT
  | MON_ECC_CFG
  | MON_ECC_CNT
  | MON_CE_ADDR
  | MON_UE_ADDR
  | MON_THERM_CFG
  | MON_THERM_STAT
  | MON_EVT
  | MON_TEMP
  | REG_ID
  | REG_FW
  | REG_IDENT0
  | REG_IDENT1
  | REG_CAPS
  | REG_GSTAT
  | REG_T64
  | REG_BANK
  | REG_SCRATCH
  | REG_WHOAMI
  | REG_ACNT
  | WEA_PROG
  | WEA_LOCAL
  | HE_BIN
  | AXI_LG
  | STG_MATCH
  | STG_ACTION
  | STG_LG
  | AXI_QHIT
  | PWR_DSTAT
  | PWR_DREQ
  | I2C_IADDR
  | I2C_IDATA
  | I2C_ISTAT
  deriving DecidableEq, Repr

/-- What the fields of a register do (Table SCO-3): the bits that a write stores (RW), clears by a 1 (W1C) or sets
by a 1 (W1S), the bits that a completed read clears (RC), and the value at reset. Bits in none of the masks are
read-only, write-only or reserved: a plain write leaves them as they are. -/
structure RegDesc where
  rw    : Nat := 0
  w1c   : Nat := 0
  w1s   : Nat := 0
  rc    : Nat := 0
  reset : Nat := 0
  deriving DecidableEq, Repr

/-- The place of a register's field: its lowest bit and its width. -/
structure Fld where
  reg : Reg
  lo  : Nat
  w   : Nat
  deriving DecidableEq, Repr

/-- The field maps: what a write and a read do to each register (R5). -/
def Reg.desc : Reg → RegDesc
  | .FRE_INCFG => { rw := 0x3FFF, reset := 0xA0 }
  | .FRE_THR => { rw := 0x3F3FFF003F3FFF }
  | .FRE_RAMP => { rw := 0xFFFFFF007FFFFF }
  | .FRE_STAT => { reset := 0x2800 }
  | .FRE_EVT => { w1c := 0xFF }
  | .FRE_IE => { rw := 0xFF }
  | .FRE_CNT => { rc := 0xFFFFFFFFFFFFFFFF }
  | .CAP_LANECFG => { rw := 0xFFFF01FF, reset := 0x121 }
  | .CAP_PICK => { rw := 0xFFFFFFFF0007FFFF }
  | .CAP_BASE => { rw := 0x3FFF }
  | .CAP_STAT => { reset := 0x1 }
  | .CAP_CNT0 => { rc := 0xFFFFFFFFFFFFFFFF }
  | .CAP_CNT1 => { rc := 0xFFFFFFFFFFFFFFFF }
  | .CAP_CNT2 => { rc := 0xFFFFFFFF }
  | .CAP_WALK => { rw := 0xFFFFFFFF00FFFFFF }
  | .CAL_LSTAT => { reset := 0x3E00 }
  | .CAL_LQUAL => {}
  | .CAL_LCNT => { rc := 0xFFFFFFFF00000000 }
  | .CAL_LACT_T => {}
  | .CAL_LACT_A => {}
  | .CAL_LACT_M => {}
  | .CAL_LBASE => {}
  | .CAL_LEVT => { rw := 0xFF00, w1c := 0x7 }
  | .CAL_BCFG => { rw := 0x7FFFF0FFF, reset := 0x400000819 }
  | .CAL_BSTAT => { reset := 0x1F }
  | .CAL_BEVT => { rw := 0xFF00, w1c := 0xFF }
  | .CAL_BCNT => { rc := 0xFFFFFFFF }
  | .CNT_CFG => { rw := 0x3F7F0FFF, reset := 0x30000400 }
  | .CNT_LEN => { rw := 0xFFFFFFFFFFFF }
  | .CNT_COUNT => { rw := 0xFFFFFFFFFFFF }
  | .CNT_STATCFG => { rw := 0x3FFFFF }
  | .CNT_STAT => {}
  | .CNT_EVT => { rw := 0xFF00, w1c := 0x1F }
  | .CNT_CNT => { rc := 0xFFFFFFFFFFFFFFFF }
  | .CNT_IDX => {}
  | .PAIR_CFG => { rw := 0x1FF01FF01FF, reset := 0x80 }
  | .PAIR_WIN => { rw := 0xFFFFFFFFFF }
  | .PAIR_OFS => { rw := 0xFFFFFFFFFFFFFFFF }
  | .PAIR_STATCFG => { rw := 0x3FFFFF }
  | .PAIR_STAT => {}
  | .PAIR_EVT => { rw := 0xFF00, w1c := 0xF }
  | .PAIR_CNT => { rc := 0xFFFFFFFFFFFFFFFF }
  | .STAKE_MATCH => { rw := 0xFFFFFFFF03FFFF }
  | .STAKE_ACTION => { rw := 0xFFFFFF3FF1FFFFFF }
  | .AXI_CFG => { rw := 0xFFFFFFFFFFFFFF, reset := 0x40000400007F7F }
  | .AXI_OFS => { rw := 0xFFFFFF }
  | .AXI_GEN => { rw := 0xFFFFFFFFFFFF }
  | .AXI_PRESET => { rw := 0xFFFFFFFFFF }
  | .AXI_CTRL => { rw := 0x1, w1s := 0x2 }
  | .AXI_POS => {}
  | .AXI_STEPT => {}
  | .AXI_PERIOD => {}
  | .AXI_EVT => { rw := 0xFFF0000, w1c := 0xFFF }
  | .AXI_CNT0 => { rc := 0xFFFFFFFFFFFFFFFF }
  | .AXI_CNT1 => { rc := 0xFFFFFFFFFFFFFFFF }
  | .AXI_CNT2 => { rc := 0xFFFFFFFFFFFFFFFF }
  | .AXI_CNT3 => { rc := 0xFFFFFFFF }
  | .AXI_MARKDIR0 => { rw := 0xFFFFFFFFFFFFFFFF }
  | .AXI_MARKDIR1 => { rw := 0xFFFFFFFF }
  | .WEA_LMAP => { rw := 0x3FFFFFFFFFF, reset := 0x3C00000000 }
  | .WEA_LDROP => { rc := 0x1FFFFFFFF }
  | .WEA_FPCFG => { rw := 0x3FFFF, reset := 0xFFF }
  | .WEA_WCFG => { rw := 0x3FFFFFFFFFFF, reset := 0x3FFC000000 }
  | .WEA_WENTRY => { rw := 0x3FF03FF03FF }
  | .WEA_WCTRL => { rw := 0x1 }
  | .WEA_WSTAT => {}
  | .WEA_WFAULT => {}
  | .WEA_WFTIME => {}
  | .WEA_WEVT => { rw := 0xFFFFFF00000000, w1c := 0xFFFF3F }
  | .WEA_WCNT0 => { rc := 0xFFFFFFFF00000000 }
  | .WEA_WCNT1 => { rc := 0xFFFFFFFF00000000 }
  | .WEA_PCFG => { rw := 0xFFFF000FFFFF }
  | .WEA_PIN => { rw := 0x1FFFF }
  | .WEA_TD => { rw := 0x7FFFF }
  | .FLT_CFG => { rw := 0x7FFFFF, reset := 0x280018 }
  | .FLT_SEL => { rw := 0x7FFFF }
  | .FLT_XREF => { rw := 0xFFFFFFFFFFFFFFFF }
  | .FLT_TAU => { rw := 0xFFFFFFFFFFFFFFFF }
  | .FLT_TOFS => { rw := 0xFFFFFFFFFFFF }
  | .FLT_IO => { rw := 0x7FFFFFFFFFFFFFF, reset := 0xFFF00000000 }
  | .FLT_CTRL => {}
  | .FLT_STAT => {}
  | .FLT_EVT => { rw := 0xFF00, w1c := 0xFF }
  | .FLT_CNT0 => {}
  | .FLT_CNT1 => {}
  | .FLT_CNT2 => { rc := 0xFFFFFFFFFFFFFFFF }
  | .FLT_SCFG => { rw := 0x7FFFFFFFFF }
  | .FLT_GAIN => { rw := 0xFFFFFFFF, reset := 0x10000 }
  | .FLT_OFFSET => { rw := 0xFFFFFFFFFFFFFFFF }
  | .HE_CFG => { rw := 0xFFFFFFF0007 }
  | .HE_KOFS => { rw := 0xFFFFFFFFFFFFFFFF }
  | .HE_SNAP => { rw := 0xFFFF003FFFFF, reset := 0x3FF000 }
  | .HE_CTRL => {}
  | .HE_STAT => {}
  | .HE_MIN => { reset := 0x7FFFFFFFFFFFFFFF }
  | .HE_MAX => { reset := 0x8000000000000000 }
  | .HE_UNDER => {}
  | .HE_OVER => {}
  | .HE_EVT => { rw := 0xFF00, w1c := 0xF }
  | .HE_CNT => { rc := 0xFFFFFFFFFFFFFFFF }
  | .HE_SINCE => {}
  | .TIM_TCFG => { rw := 0xFF01FFFFFF0777, reset := 0x64010000320437 }
  | .TIM_TREFP => { rw := 0xFFFF0FFF, reset := 0xA00E4 }
  | .TIM_REF => { rw := 0xFFFFFFFFFFFF }
  | .TIM_TSTAT => {}
  | .TIM_THETA => {}
  | .TIM_SREM => {}
  | .TIM_STEP => {}
  | .TIM_FOFS => {}
  | .TIM_TEVT => { rw := 0xFF0000, w1c := 0xFF }
  | .TIM_SYNC => { rw := 0xC, w1s := 0x3 }
  | .TIM_PRESET => { rw := 0xFFFFFFFFFFFFFFFF }
  | .TIM_SYNCT0 => {}
  | .TIM_SYNCT1 => {}
  | .TIM_ORST => {}
  | .TIM_TCNT => { rc := 0xFFFFFFFFFFFFFFFF }
  | .TIM_OCTRL => {}
  | .TIM_OQ => { rw := 0x3FFFF, reset := 0x20000 }
  | .TIM_OSTAT => {}
  | .TIM_OEVT => { rw := 0xFF0000, w1c := 0xFF }
  | .TIM_BAND0 => { rw := 0xFFFFFFFFFF1FFF }
  | .TIM_BAND1 => {}
  | .TIM_OCLK => { rw := 0x7FFFFFFF, reset := 0x40 }
  | .TIM_OCSTAT => {}
  | .TIM_LOOP => { rw := 0x3FF }
  | .QD_CFG => { rw := 0x11F3FFFFFFF }
  | .QD_RD => { rw := 0x7FFFFFF }
  | .QD_WR => {}
  | .QD_MARK => { rw := 0xFFFF00000000000, reset := 0xFFF00000000 }
  | .QD_THR => { rw := 0x7FFFFFF }
  | .QD_FLAGS => { rw := 0x7F0000, w1c := 0x7F0, reset := 0x2 }
  | .QD_CNT0 => { rc := 0xFFFFFFFFFFFFFFFF }
  | .QD_CNT1 => { rc := 0xFFFFFFFFFFFF }
  | .QUE_POOL => { rw := 0xFFFF3FFFFFFF, reset := 0x10003F000000 }
  | .QUE_CTRL => { rw := 0x3F, reset := 0x1E }
  | .QUE_STAT => { rc := 0xFFFFFFFFFFFF0000 }
  | .RING_BASE => { rw := 0xFFFFFFFFFFFFF000 }
  | .RING_CFG => { rw := 0xFFFF001FFFFF, reset := 0x18 }
  | .RING_HEAD => {}
  | .RING_TAIL => { rw := 0x1FFFFFF }
  | .RING_WB => { rw := 0xFFFFFFFFFFFFFFF8 }
  | .RING_STAT => {}
  | .RING_CNT => {}
  | .INT_SRC => { rw := 0x7FF7FFF3F }
  | .INT_MOD_CFG => { rw := 0x3FFFFFFFFFF, reset := 0x10001 }
  | .INT_MOD_STAT => {}
  | .CORE_VBASE => { rw := 0xFFFF0000 }
  | .CORE_THR => { rw := 0x3F }
  | .CORE_RUN => {}
  | .CORE_PRES => {}
  | .CORE_EOI => {}
  | .CORE_CTRL => {}
  | .CORE_FAULTINFO => {}
  | .CORE_CNT => { rc := 0xFFFFFFFF00000000 }
  | .CORE_STK => {}
  | .HV_MOD => { rw := 0x3FFFFFFFF, reset := 0x1 }
  | .HV_STAT => {}
  | .HV_FERR => { rc := 0xFFFFFFFF }
  | .MBX_STAT => {}
  | .MBX_DB => {}
  | .MBX_CFG => { rw := 0xFF }
  | .MBX_NTAIL => { rw := 0x1FFFF }
  | .MBX_CNT => { rc := 0xFFFFFFFFFFFF }
  | .LNK_GRP => { rw := 0xFFF, reset := 0x8 }
  | .LNK_GSTAT => {}
  | .LNK_GEVT => { rw := 0xFF00, w1c := 0xFF }
  | .ETH_MAC => { rw := 0xFFFFFFFFFFFFFFFF, reset := 0x5DC000000000000 }
  | .ETH_CFG => { rw := 0xFFFFFFFFFFFFFF, reset := 0x80000000000000 }
  | .ETH_CNT => { rc := 0xFFFFFFFF00000000 }
  | .ECH_DST => { rw := 0xFFFFFFFFFFFFFFFF }
  | .ECH_IP => { rw := 0xFFFFFFFFFFFFFFFF }
  | .ECH_CFG => { rw := 0x7FFFFF }
  | .ECH_STAT => {}
  | .DLP_CFG => { rw := 0x1FFFFFF, reset := 0x400190 }
  | .DLP_STAT => {}
  | .DLP_CNT => { rc := 0xFFFFFFFFFFFFFFFF }
  | .PT_STAT => {}
  | .PT_ID0 => {}
  | .PT_ID1 => {}
  | .PT_TIME => {}
  | .PT_CNT => { rc := 0xFFFFFFFF00000000 }
  | .ACC_WRANGE => { rw := 0xFFFFFFFFFFFFFFFF, reset := 0xFFFFFFFF00000000 }
  | .ACC_WCTRL => { rw := 0x1 }
  | .ACC_RD_LO => { rw := 0xFFFFFFFFFFFFFFFF, reset := 0x70000 }
  | .ACC_WR_LO => { rw := 0xFFFFFFFFFFFFFFFF, reset := 0x70000 }
  | .ACC_RD_HI => { rw := 0x3FFFFFFF }
  | .ACC_WR_HI => { rw := 0x3FFFFFFF }
  | .ACC_VSTAT => { rw := 0x200000000, w1c := 0x100000000, rc := 0xFFFFFFFF }
  | .ACC_VCAP0 => {}
  | .ACC_VCAP1 => {}
  | .ACC_K3WIN => { rw := 0x1FF }
  | .ACC_BOOT => {}
  | .PWR_ENG => {}
  | .PWR_RST => {}
  | .PWR_BRST => {}
  | .PWR_WAKE => { rw := 0xF, reset := 0xC }
  | .PWR_ALARM => { rw := 0xFFFFFFFFFFFFFFFF }
  | .PWR_CSTAT => {}
  | .PWR_HB => {}
  | .PWR_HBW => {}
  | .PWR_REC => { rw := 0x4 }
  | .PWR_LRT => {}
  | .PWR_EVT => { rw := 0xFF0000, w1c := 0xFF }
  | .MU_CFG => { rw := 0xFFFF001F }
  | .MU_LIM => { rw := 0xFFFFFFFFFFFFFFFF }
  | .MU_CTRL => {}
  | .MU_STAT => {}
  | .MU_MINMAX => { reset := 0xFFFFFFFF }
  | .MU_EVT => { rw := 0x300, w1c := 0x3 }
  | .MON_ECC_CFG => { rw := 0xFFFFFFFF0000000F, reset := 0x100000006 }
  | .MON_ECC_CNT => { rc := 0xFFFFFFFFFFFFFFFF }
  | .MON_CE_ADDR => { w1c := 0x40000000 }
  | .MON_UE_ADDR => { w1c := 0x40000000 }
  | .MON_THERM_CFG => { rw := 0xFFFFFFFF, reset := 0x69005F00 }
  | .MON_THERM_STAT => {}
  | .MON_EVT => { rw := 0x3FF0000, w1c := 0x3FF }
  | .MON_TEMP => {}
  | .REG_ID => { reset := 0x1C19512 }
  | .REG_FW => {}
  | .REG_IDENT0 => {}
  | .REG_IDENT1 => {}
  | .REG_CAPS => { reset := 0x200FF }
  | .REG_GSTAT => {}
  | .REG_T64 => {}
  | .REG_BANK => { rw := 0x1FF }
  | .REG_SCRATCH => { rw := 0xFFFFFFFFFFFFFFFF }
  | .REG_WHOAMI => {}
  | .REG_ACNT => { rc := 0xFFFFFFFF }
  | .WEA_PROG => { rw := 0xFFFFFFFF }
  | .WEA_LOCAL => { rw := 0xFFFFFFFFFFFFFFFF }
  | .HE_BIN => { rw := 0xFFFFFFFFFFFF }
  | .AXI_LG => { rw := 0xFFFFFFFFFFFFFFFF }
  | .STG_MATCH => { rw := 0xFFFFFFFF03FFFF }
  | .STG_ACTION => { rw := 0xFFFFFF3FF1FFFFFF }
  | .STG_LG => { rw := 0xFFFFFFFFFFFFFFFF }
  | .AXI_QHIT => { rc := 0xFFFFFFFF }
  | .PWR_DSTAT => { reset := 0xAAAAAAAAAAAAAAAA }
  | .PWR_DREQ => { rw := 0xFFFFFFFFFFFFFFFF, reset := 0xAAAAAAAAAAAAAAAA }
  | .I2C_IADDR => { rw := 0xFFFFFFFF }
  | .I2C_IDATA => { rw := 0xFFFFFFFFFFFFFFFF }
  | .I2C_ISTAT => {}

end Sys2Proof.Machine
end

