-- ==== Sys2Proof/Machine/Fields.lean ====
section
/-!
DEFINITION. The fields of the registers by their names in the field-map tables of the spec: for each, its register,
its lowest bit and its width.
-/

namespace Sys2Proof.Machine

/-! ## FRE_INCFG (Table FRE-5, 02_lane_front_end.md) -/

def F.FRE_INCFG_EN : Fld := ⟨.FRE_INCFG, 0, 1⟩
def F.FRE_INCFG_MODE : Fld := ⟨.FRE_INCFG, 1, 1⟩
def F.FRE_INCFG_TERM : Fld := ⟨.FRE_INCFG, 2, 1⟩
def F.FRE_INCFG_INV : Fld := ⟨.FRE_INCFG, 3, 1⟩
def F.FRE_INCFG_SPEED_A : Fld := ⟨.FRE_INCFG, 4, 2⟩
def F.FRE_INCFG_SPEED_B : Fld := ⟨.FRE_INCFG, 6, 2⟩
def F.FRE_INCFG_B_EN : Fld := ⟨.FRE_INCFG, 8, 1⟩
def F.FRE_INCFG_CMP_EN : Fld := ⟨.FRE_INCFG, 9, 1⟩
def F.FRE_INCFG_CMP_TERM : Fld := ⟨.FRE_INCFG, 10, 1⟩
def F.FRE_INCFG_CMP_INV : Fld := ⟨.FRE_INCFG, 11, 1⟩
def F.FRE_INCFG_WAKE_EN : Fld := ⟨.FRE_INCFG, 12, 1⟩
def F.FRE_INCFG_BASE_TRK : Fld := ⟨.FRE_INCFG, 13, 1⟩

/-! ## FRE_THR (Table FRE-6, 02_lane_front_end.md) -/

def F.FRE_THR_THR_A : Fld := ⟨.FRE_THR, 0, 14⟩
def F.FRE_THR_HYST_A : Fld := ⟨.FRE_THR, 16, 6⟩
def F.FRE_THR_THR_B : Fld := ⟨.FRE_THR, 32, 14⟩
def F.FRE_THR_HYST_B : Fld := ⟨.FRE_THR, 48, 6⟩

/-! ## FRE_RAMP (Table FRE-7, 02_lane_front_end.md) -/

def F.FRE_RAMP_SLOPE : Fld := ⟨.FRE_RAMP, 0, 12⟩
def F.FRE_RAMP_DIR : Fld := ⟨.FRE_RAMP, 12, 1⟩
def F.FRE_RAMP_SRC_A : Fld := ⟨.FRE_RAMP, 13, 1⟩
def F.FRE_RAMP_SRC_STAKE : Fld := ⟨.FRE_RAMP, 14, 1⟩
def F.FRE_RAMP_SRC_MARK : Fld := ⟨.FRE_RAMP, 15, 1⟩
def F.FRE_RAMP_MARK_SEL : Fld := ⟨.FRE_RAMP, 16, 7⟩
def F.FRE_RAMP_RAMP_MAX : Fld := ⟨.FRE_RAMP, 32, 24⟩

/-! ## FRE_STAT (Table FRE-8, 02_lane_front_end.md) -/

def F.FRE_STAT_EN_EFF : Fld := ⟨.FRE_STAT, 0, 1⟩
def F.FRE_STAT_SWITCHING : Fld := ⟨.FRE_STAT, 1, 1⟩
def F.FRE_STAT_UNRES_A : Fld := ⟨.FRE_STAT, 2, 1⟩
def F.FRE_STAT_UNRES_B : Fld := ⟨.FRE_STAT, 3, 1⟩
def F.FRE_STAT_UNRES_CMP : Fld := ⟨.FRE_STAT, 4, 1⟩
def F.FRE_STAT_LVL_A : Fld := ⟨.FRE_STAT, 5, 1⟩
def F.FRE_STAT_LVL_B : Fld := ⟨.FRE_STAT, 6, 1⟩
def F.FRE_STAT_LVL_CMP : Fld := ⟨.FRE_STAT, 7, 1⟩
def F.FRE_STAT_RAMP_RUN : Fld := ⟨.FRE_STAT, 8, 1⟩
def F.FRE_STAT_CARRIED : Fld := ⟨.FRE_STAT, 9, 1⟩
def F.FRE_STAT_SPEED_A_EFF : Fld := ⟨.FRE_STAT, 10, 2⟩
def F.FRE_STAT_SPEED_B_EFF : Fld := ⟨.FRE_STAT, 12, 2⟩

/-! ## FRE_EVT (Table FRE-9, 02_lane_front_end.md) -/

def F.FRE_EVT_EDGE_A : Fld := ⟨.FRE_EVT, 0, 1⟩
def F.FRE_EVT_EDGE_CMP : Fld := ⟨.FRE_EVT, 1, 1⟩
def F.FRE_EVT_RESOLVED : Fld := ⟨.FRE_EVT, 2, 1⟩
def F.FRE_EVT_SWITCH_DONE : Fld := ⟨.FRE_EVT, 3, 1⟩
def F.FRE_EVT_RAMP_TIMEOUT : Fld := ⟨.FRE_EVT, 4, 1⟩
def F.FRE_EVT_RAMP_CLAMP : Fld := ⟨.FRE_EVT, 5, 1⟩
def F.FRE_EVT_RAMP_MISS : Fld := ⟨.FRE_EVT, 6, 1⟩
def F.FRE_EVT_OVERLOAD : Fld := ⟨.FRE_EVT, 7, 1⟩

/-! ## FRE_IE (Table FRE-10, 02_lane_front_end.md) -/

def F.FRE_IE_IE : Fld := ⟨.FRE_IE, 0, 8⟩

/-! ## FRE_CNT (Table FRE-11, 02_lane_front_end.md) -/

def F.FRE_CNT_RAMP_MISS_CNT : Fld := ⟨.FRE_CNT, 0, 32⟩
def F.FRE_CNT_OVERLOAD_CNT : Fld := ⟨.FRE_CNT, 32, 32⟩

/-! ## CAP_LANECFG (Table CAP-5, 03_time_capture.md) -/

def F.CAP_LANECFG_EDGE_SEL : Fld := ⟨.CAP_LANECFG, 0, 2⟩
def F.CAP_LANECFG_PICK : Fld := ⟨.CAP_LANECFG, 2, 2⟩
def F.CAP_LANECFG_CMP_REC : Fld := ⟨.CAP_LANECFG, 4, 1⟩
def F.CAP_LANECFG_CMP_SEL : Fld := ⟨.CAP_LANECFG, 5, 2⟩
def F.CAP_LANECFG_WALK_BANK : Fld := ⟨.CAP_LANECFG, 7, 1⟩
def F.CAP_LANECFG_DT_K_AUTO : Fld := ⟨.CAP_LANECFG, 8, 1⟩
def F.CAP_LANECFG_PRESCALE : Fld := ⟨.CAP_LANECFG, 16, 16⟩

/-! ## CAP_PICK (Table CAP-6, 03_time_capture.md) -/

def F.CAP_PICK_PAIR_WIN : Fld := ⟨.CAP_PICK, 0, 19⟩
def F.CAP_PICK_DT_K : Fld := ⟨.CAP_PICK, 32, 32⟩

/-! ## CAP_BASE (Table CAP-7, 03_time_capture.md) -/

def F.CAP_BASE_BASE : Fld := ⟨.CAP_BASE, 0, 14⟩
def F.CAP_BASE_BASE_EFF : Fld := ⟨.CAP_BASE, 32, 14⟩

/-! ## CAP_STAT (Table CAP-8, 03_time_capture.md) -/

def F.CAP_STAT_P_EFF : Fld := ⟨.CAP_STAT, 0, 17⟩
def F.CAP_STAT_WALK_ACT : Fld := ⟨.CAP_STAT, 17, 1⟩
def F.CAP_STAT_K_VALID : Fld := ⟨.CAP_STAT, 18, 1⟩
def F.CAP_STAT_PEND : Fld := ⟨.CAP_STAT, 19, 1⟩
def F.CAP_STAT_K_EFF : Fld := ⟨.CAP_STAT, 32, 32⟩

/-! ## CAP_CNT0 (Table CAP-9, 03_time_capture.md) -/

def F.CAP_CNT0_COARSE_CNT : Fld := ⟨.CAP_CNT0, 0, 32⟩
def F.CAP_CNT0_CMP_COARSE_CNT : Fld := ⟨.CAP_CNT0, 32, 32⟩

/-! ## CAP_CNT1 (Table CAP-9, 03_time_capture.md) -/

def F.CAP_CNT1_NOPART_CNT : Fld := ⟨.CAP_CNT1, 0, 32⟩
def F.CAP_CNT1_ORPHAN_CNT : Fld := ⟨.CAP_CNT1, 32, 32⟩

/-! ## CAP_CNT2 (Table CAP-10, 03_time_capture.md) -/

def F.CAP_CNT2_CLAMP_CNT : Fld := ⟨.CAP_CNT2, 0, 32⟩

/-! ## CAP_WALK (Table CAP-11, 03_time_capture.md) -/

def F.CAP_WALK_X : Fld := ⟨.CAP_WALK, 0, 24⟩
def F.CAP_WALK_Y : Fld := ⟨.CAP_WALK, 32, 32⟩

/-! ## CAL_LSTAT (Table CAL-5, 04_relief_lanes_calibration.md) -/

def F.CAL_LSTAT_STATE : Fld := ⟨.CAL_LSTAT, 0, 3⟩
def F.CAL_LSTAT_RESTORED_OLDER : Fld := ⟨.CAL_LSTAT, 3, 1⟩
def F.CAL_LSTAT_OFFLINE : Fld := ⟨.CAL_LSTAT, 4, 1⟩
def F.CAL_LSTAT_MODELLED : Fld := ⟨.CAL_LSTAT, 5, 1⟩
def F.CAL_LSTAT_PRIO : Fld := ⟨.CAL_LSTAT, 6, 1⟩
def F.CAL_LSTAT_DISAGREE : Fld := ⟨.CAL_LSTAT, 7, 2⟩
def F.CAL_LSTAT_CARRY_POS : Fld := ⟨.CAL_LSTAT, 9, 5⟩
def F.CAL_LSTAT_TABLE_VER : Fld := ⟨.CAL_LSTAT, 32, 32⟩

/-! ## CAL_LQUAL (Table CAL-6, 04_relief_lanes_calibration.md) -/

def F.CAL_LQUAL_DNL_RMS : Fld := ⟨.CAL_LQUAL, 0, 16⟩
def F.CAL_LQUAL_INL_PEAK : Fld := ⟨.CAL_LQUAL, 16, 16⟩
def F.CAL_LQUAL_PREC_FS : Fld := ⟨.CAL_LQUAL, 32, 32⟩

/-! ## CAL_LCNT (Table CAL-7, 04_relief_lanes_calibration.md) -/

def F.CAL_LCNT_CAL_COUNT : Fld := ⟨.CAL_LCNT, 0, 32⟩
def F.CAL_LCNT_DISAGREE_CNT : Fld := ⟨.CAL_LCNT, 32, 16⟩
def F.CAL_LCNT_SKIP_CNT : Fld := ⟨.CAL_LCNT, 48, 16⟩

/-! ## CAL_LACT_T (Table CAL-8, 04_relief_lanes_calibration.md) -/

def F.CAL_LACT_T_ACT_T64 : Fld := ⟨.CAL_LACT_T, 0, 64⟩

/-! ## CAL_LACT_A (Table CAL-8, 04_relief_lanes_calibration.md) -/

def F.CAL_LACT_A_ACT_TURN : Fld := ⟨.CAL_LACT_A, 0, 40⟩
def F.CAL_LACT_A_ACT_SLOT : Fld := ⟨.CAL_LACT_A, 40, 16⟩
def F.CAL_LACT_A_AXIS_VALID : Fld := ⟨.CAL_LACT_A, 63, 1⟩

/-! ## CAL_LACT_M (Table CAL-9, 04_relief_lanes_calibration.md) -/

def F.CAL_LACT_M_ACT_TEMP : Fld := ⟨.CAL_LACT_M, 0, 16⟩
def F.CAL_LACT_M_SKEW : Fld := ⟨.CAL_LACT_M, 32, 32⟩

/-! ## CAL_LBASE (Table CAL-10, 04_relief_lanes_calibration.md) -/

def F.CAL_LBASE_DEFER_CNT : Fld := ⟨.CAL_LBASE, 0, 32⟩
def F.CAL_LBASE_DEFER_RUN : Fld := ⟨.CAL_LBASE, 32, 8⟩

/-! ## CAL_LEVT (Table CAL-11, 04_relief_lanes_calibration.md) -/

def F.CAL_LEVT_STATE_CHG : Fld := ⟨.CAL_LEVT, 0, 1⟩
def F.CAL_LEVT_FAILED : Fld := ⟨.CAL_LEVT, 1, 1⟩
def F.CAL_LEVT_RESTORED : Fld := ⟨.CAL_LEVT, 2, 1⟩
def F.CAL_LEVT_IE : Fld := ⟨.CAL_LEVT, 8, 8⟩

/-! ## CAL_BCFG (Table CAL-12, 04_relief_lanes_calibration.md) -/

def F.CAL_BCFG_DELTA_T : Fld := ⟨.CAL_BCFG, 0, 10⟩
def F.CAL_BCFG_POLICY : Fld := ⟨.CAL_BCFG, 10, 1⟩
def F.CAL_BCFG_RUN : Fld := ⟨.CAL_BCFG, 11, 1⟩
def F.CAL_BCFG_PAUSE : Fld := ⟨.CAL_BCFG, 16, 16⟩
def F.CAL_BCFG_BASE_WT : Fld := ⟨.CAL_BCFG, 32, 3⟩

/-! ## CAL_BSTAT (Table CAL-13, 04_relief_lanes_calibration.md) -/

def F.CAL_BSTAT_POS : Fld := ⟨.CAL_BSTAT, 0, 5⟩
def F.CAL_BSTAT_STEP : Fld := ⟨.CAL_BSTAT, 5, 3⟩
def F.CAL_BSTAT_NO_SPARE : Fld := ⟨.CAL_BSTAT, 8, 1⟩
def F.CAL_BSTAT_SWEEP_CNT : Fld := ⟨.CAL_BSTAT, 16, 16⟩
def F.CAL_BSTAT_TEMP : Fld := ⟨.CAL_BSTAT, 32, 16⟩

/-! ## CAL_BEVT (Table CAL-13, 04_relief_lanes_calibration.md) -/

def F.CAL_BEVT_BASE_STUCK : Fld := ⟨.CAL_BEVT, 0, 1⟩
def F.CAL_BEVT_LANE_RETIRED : Fld := ⟨.CAL_BEVT, 1, 1⟩
def F.CAL_BEVT_LANE_FAILED : Fld := ⟨.CAL_BEVT, 2, 1⟩
def F.CAL_BEVT_RELIEF_FAILED : Fld := ⟨.CAL_BEVT, 3, 1⟩
def F.CAL_BEVT_NO_SPARE : Fld := ⟨.CAL_BEVT, 4, 1⟩
def F.CAL_BEVT_SKIP : Fld := ⟨.CAL_BEVT, 5, 1⟩
def F.CAL_BEVT_VAULT_ERR : Fld := ⟨.CAL_BEVT, 6, 1⟩
def F.CAL_BEVT_SWEEP_DONE : Fld := ⟨.CAL_BEVT, 7, 1⟩
def F.CAL_BEVT_IE : Fld := ⟨.CAL_BEVT, 8, 8⟩

/-! ## CAL_BCNT (Table CAL-13, 04_relief_lanes_calibration.md) -/

def F.CAL_BCNT_SHORT_CNT : Fld := ⟨.CAL_BCNT, 0, 32⟩
def F.CAL_BCNT_VAULT_WR_CNT : Fld := ⟨.CAL_BCNT, 32, 32⟩

/-! ## CNT_CFG (Table CNT-8, 05_counting_and_pairing.md) -/

def F.CNT_CFG_EN : Fld := ⟨.CNT_CFG, 0, 1⟩
def F.CNT_CFG_EST : Fld := ⟨.CNT_CFG, 1, 3⟩
def F.CNT_CFG_FORM : Fld := ⟨.CNT_CFG, 4, 1⟩
def F.CNT_CFG_CNT_POL : Fld := ⟨.CNT_CFG, 5, 1⟩
def F.CNT_CFG_CL_FIXED : Fld := ⟨.CNT_CFG, 6, 1⟩
def F.CNT_CFG_CL_STAKE : Fld := ⟨.CNT_CFG, 7, 1⟩
def F.CNT_CFG_CL_COUNT : Fld := ⟨.CNT_CFG, 8, 1⟩
def F.CNT_CFG_CL_MARK : Fld := ⟨.CNT_CFG, 9, 1⟩
def F.CNT_CFG_REC_EN : Fld := ⟨.CNT_CFG, 10, 1⟩
def F.CNT_CFG_STAT_EN : Fld := ⟨.CNT_CFG, 11, 1⟩
def F.CNT_CFG_MARK_SEL : Fld := ⟨.CNT_CFG, 16, 7⟩
def F.CNT_CFG_MAXLEN_EXP : Fld := ⟨.CNT_CFG, 24, 6⟩

/-! ## CNT_LEN (Table CNT-9, 05_counting_and_pairing.md) -/

def F.CNT_LEN_LEN : Fld := ⟨.CNT_LEN, 0, 48⟩

/-! ## CNT_COUNT (Table CNT-9, 05_counting_and_pairing.md) -/

def F.CNT_COUNT_COUNT_N : Fld := ⟨.CNT_COUNT, 0, 48⟩

/-! ## CNT_STATCFG (Table CNT-10, 05_counting_and_pairing.md) -/

def F.CNT_STATCFG_PERIOD_GATES : Fld := ⟨.CNT_STATCFG, 0, 16⟩
def F.CNT_STATCFG_DEV_SHIFT : Fld := ⟨.CNT_STATCFG, 16, 6⟩

/-! ## CNT_STAT (Table CNT-11, 05_counting_and_pairing.md) -/

def F.CNT_STAT_GATE_IDX : Fld := ⟨.CNT_STAT, 0, 46⟩
def F.CNT_STAT_OPEN : Fld := ⟨.CNT_STAT, 46, 1⟩
def F.CNT_STAT_IDLE : Fld := ⟨.CNT_STAT, 47, 1⟩
def F.CNT_STAT_LIMIT_ACT : Fld := ⟨.CNT_STAT, 48, 1⟩
def F.CNT_STAT_CFG_ERR : Fld := ⟨.CNT_STAT, 49, 1⟩

/-! ## CNT_EVT (Table CNT-11, 05_counting_and_pairing.md) -/

def F.CNT_EVT_GATE_DONE : Fld := ⟨.CNT_EVT, 0, 1⟩
def F.CNT_EVT_LIMIT : Fld := ⟨.CNT_EVT, 1, 1⟩
def F.CNT_EVT_MERGE : Fld := ⟨.CNT_EVT, 2, 1⟩
def F.CNT_EVT_SAT : Fld := ⟨.CNT_EVT, 3, 1⟩
def F.CNT_EVT_DISC : Fld := ⟨.CNT_EVT, 4, 1⟩
def F.CNT_EVT_IE : Fld := ⟨.CNT_EVT, 8, 8⟩

/-! ## CNT_CNT (Table CNT-12, 05_counting_and_pairing.md) -/

def F.CNT_CNT_MERGE_CNT : Fld := ⟨.CNT_CNT, 0, 32⟩
def F.CNT_CNT_LIMIT_CNT : Fld := ⟨.CNT_CNT, 32, 32⟩

/-! ## CNT_IDX (Table CNT-12, 05_counting_and_pairing.md) -/

def F.CNT_IDX_EDGE_IDX : Fld := ⟨.CNT_IDX, 0, 64⟩

/-! ## PAIR_CFG (Table CNT-13, 05_counting_and_pairing.md) -/

def F.PAIR_CFG_EN : Fld := ⟨.PAIR_CFG, 0, 1⟩
def F.PAIR_CFG_KIND : Fld := ⟨.PAIR_CFG, 1, 2⟩
def F.PAIR_CFG_SRC_A : Fld := ⟨.PAIR_CFG, 3, 1⟩
def F.PAIR_CFG_SRC_B : Fld := ⟨.PAIR_CFG, 4, 1⟩
def F.PAIR_CFG_POL_A : Fld := ⟨.PAIR_CFG, 5, 1⟩
def F.PAIR_CFG_POL_B : Fld := ⟨.PAIR_CFG, 6, 1⟩
def F.PAIR_CFG_REC_EN : Fld := ⟨.PAIR_CFG, 7, 1⟩
def F.PAIR_CFG_STAT_EN : Fld := ⟨.PAIR_CFG, 8, 1⟩
def F.PAIR_CFG_LANE_A : Fld := ⟨.PAIR_CFG, 16, 9⟩
def F.PAIR_CFG_LANE_B : Fld := ⟨.PAIR_CFG, 32, 9⟩

/-! ## PAIR_WIN (Table CNT-13, 05_counting_and_pairing.md) -/

def F.PAIR_WIN_IWIN : Fld := ⟨.PAIR_WIN, 0, 40⟩

/-! ## PAIR_OFS (Table CNT-13, 05_counting_and_pairing.md) -/

def F.PAIR_OFS_OFS : Fld := ⟨.PAIR_OFS, 0, 64⟩

/-! ## PAIR_STATCFG (Table CNT-14, 05_counting_and_pairing.md) -/

def F.PAIR_STATCFG_ALL : Fld := ⟨.PAIR_STATCFG, 0, 22⟩

/-! ## PAIR_STAT (Table CNT-14, 05_counting_and_pairing.md) -/

def F.PAIR_STAT_SEQ : Fld := ⟨.PAIR_STAT, 0, 44⟩
def F.PAIR_STAT_CFG_ERR : Fld := ⟨.PAIR_STAT, 44, 1⟩
def F.PAIR_STAT_ARMED : Fld := ⟨.PAIR_STAT, 45, 1⟩

/-! ## PAIR_EVT (Table CNT-14, 05_counting_and_pairing.md) -/

def F.PAIR_EVT_RESULT : Fld := ⟨.PAIR_EVT, 0, 1⟩
def F.PAIR_EVT_NOSTOP : Fld := ⟨.PAIR_EVT, 1, 1⟩
def F.PAIR_EVT_DROP : Fld := ⟨.PAIR_EVT, 2, 1⟩
def F.PAIR_EVT_CFG_ERR : Fld := ⟨.PAIR_EVT, 3, 1⟩
def F.PAIR_EVT_IE : Fld := ⟨.PAIR_EVT, 8, 8⟩

/-! ## PAIR_CNT (Table CNT-14, 05_counting_and_pairing.md) -/

def F.PAIR_CNT_NOSTOP_CNT : Fld := ⟨.PAIR_CNT, 0, 32⟩
def F.PAIR_CNT_DROP_CNT : Fld := ⟨.PAIR_CNT, 32, 32⟩

/-! ## STAKE_MATCH (Table AXI-1, 06_axis_and_stakes.md) -/

def F.STAKE_MATCH_SLOT : Fld := ⟨.STAKE_MATCH, 0, 16⟩
def F.STAKE_MATCH_ANY : Fld := ⟨.STAKE_MATCH, 16, 1⟩
def F.STAKE_MATCH_EN : Fld := ⟨.STAKE_MATCH, 17, 1⟩
def F.STAKE_MATCH_M_M1 : Fld := ⟨.STAKE_MATCH, 24, 16⟩
def F.STAKE_MATCH_K : Fld := ⟨.STAKE_MATCH, 40, 16⟩

/-! ## STAKE_ACTION (Table AXI-2, 06_axis_and_stakes.md) -/

def F.STAKE_ACTION_DELAY : Fld := ⟨.STAKE_ACTION, 0, 25⟩
def F.STAKE_ACTION_ACTION : Fld := ⟨.STAKE_ACTION, 28, 4⟩
def F.STAKE_ACTION_LG : Fld := ⟨.STAKE_ACTION, 32, 6⟩
def F.STAKE_ACTION_UNIT : Fld := ⟨.STAKE_ACTION, 40, 8⟩
def F.STAKE_ACTION_ARG : Fld := ⟨.STAKE_ACTION, 48, 16⟩

/-! ## AXI_CFG (Table AXI-7, 06_axis_and_stakes.md) -/

def F.AXI_CFG_STEP_SRC : Fld := ⟨.AXI_CFG, 0, 7⟩
def F.AXI_CFG_STEP_POL : Fld := ⟨.AXI_CFG, 7, 1⟩
def F.AXI_CFG_MARK_SRC : Fld := ⟨.AXI_CFG, 8, 7⟩
def F.AXI_CFG_MARK_POL : Fld := ⟨.AXI_CFG, 15, 1⟩
def F.AXI_CFG_S_M1 : Fld := ⟨.AXI_CFG, 16, 16⟩
def F.AXI_CFG_POLICY : Fld := ⟨.AXI_CFG, 32, 2⟩
def F.AXI_CFG_RESYNC_N : Fld := ⟨.AXI_CFG, 34, 4⟩
def F.AXI_CFG_START_MODE : Fld := ⟨.AXI_CFG, 38, 1⟩
def F.AXI_CFG_COAST_EN : Fld := ⟨.AXI_CFG, 39, 1⟩
def F.AXI_CFG_COAST_TO : Fld := ⟨.AXI_CFG, 40, 16⟩

/-! ## AXI_OFS (Table AXI-7, 06_axis_and_stakes.md) -/

def F.AXI_OFS_MARK_OFS : Fld := ⟨.AXI_OFS, 0, 24⟩

/-! ## AXI_GEN (Table AXI-7, 06_axis_and_stakes.md) -/

def F.AXI_GEN_GEN_PERIOD : Fld := ⟨.AXI_GEN, 0, 48⟩

/-! ## AXI_PRESET (Table AXI-7, 06_axis_and_stakes.md) -/

def F.AXI_PRESET_TURN_PRESET : Fld := ⟨.AXI_PRESET, 0, 40⟩

/-! ## AXI_CTRL (Table AXI-8, 06_axis_and_stakes.md) -/

def F.AXI_CTRL_EN : Fld := ⟨.AXI_CTRL, 0, 1⟩
def F.AXI_CTRL_COMMIT : Fld := ⟨.AXI_CTRL, 1, 1⟩

/-! ## AXI_POS (Table AXI-8, 06_axis_and_stakes.md) -/

def F.AXI_POS_TURN : Fld := ⟨.AXI_POS, 0, 40⟩
def F.AXI_POS_SLOT : Fld := ⟨.AXI_POS, 40, 16⟩
def F.AXI_POS_STATE : Fld := ⟨.AXI_POS, 56, 2⟩

/-! ## AXI_STEPT (Table AXI-8, 06_axis_and_stakes.md) -/

def F.AXI_STEPT_T_LAST : Fld := ⟨.AXI_STEPT, 0, 64⟩

/-! ## AXI_PERIOD (Table AXI-8, 06_axis_and_stakes.md) -/

def F.AXI_PERIOD_P : Fld := ⟨.AXI_PERIOD, 0, 48⟩
def F.AXI_PERIOD_PVALID : Fld := ⟨.AXI_PERIOD, 48, 1⟩

/-! ## AXI_EVT (Table AXI-9, 06_axis_and_stakes.md) -/

def F.AXI_EVT_STARTED : Fld := ⟨.AXI_EVT, 0, 1⟩
def F.AXI_EVT_COAST : Fld := ⟨.AXI_EVT, 1, 1⟩
def F.AXI_EVT_RESUME : Fld := ⟨.AXI_EVT, 2, 1⟩
def F.AXI_EVT_MISMATCH : Fld := ⟨.AXI_EVT, 3, 1⟩
def F.AXI_EVT_RESYNC : Fld := ⟨.AXI_EVT, 4, 1⟩
def F.AXI_EVT_MISSING : Fld := ⟨.AXI_EVT, 5, 1⟩
def F.AXI_EVT_OVF : Fld := ⟨.AXI_EVT, 6, 1⟩
def F.AXI_EVT_LATE : Fld := ⟨.AXI_EVT, 7, 1⟩
def F.AXI_EVT_STALL : Fld := ⟨.AXI_EVT, 8, 1⟩
def F.AXI_EVT_COMMIT_DONE : Fld := ⟨.AXI_EVT, 9, 1⟩
def F.AXI_EVT_CFG_ERR : Fld := ⟨.AXI_EVT, 10, 1⟩
def F.AXI_EVT_FAST : Fld := ⟨.AXI_EVT, 11, 1⟩
def F.AXI_EVT_IE : Fld := ⟨.AXI_EVT, 16, 12⟩

/-! ## AXI_CNT0 (Table AXI-9, 06_axis_and_stakes.md) -/

def F.AXI_CNT0_MISMATCH_CNT : Fld := ⟨.AXI_CNT0, 0, 32⟩
def F.AXI_CNT0_MISSING_CNT : Fld := ⟨.AXI_CNT0, 32, 32⟩

/-! ## AXI_CNT1 (Table AXI-9, 06_axis_and_stakes.md) -/

def F.AXI_CNT1_COAST_CNT : Fld := ⟨.AXI_CNT1, 0, 32⟩
def F.AXI_CNT1_STRAY_CNT : Fld := ⟨.AXI_CNT1, 32, 32⟩

/-! ## AXI_CNT2 (Table AXI-9, 06_axis_and_stakes.md) -/

def F.AXI_CNT2_OVF_CNT : Fld := ⟨.AXI_CNT2, 0, 32⟩
def F.AXI_CNT2_LATE_CNT : Fld := ⟨.AXI_CNT2, 32, 32⟩

/-! ## AXI_CNT3 (Table AXI-9, 06_axis_and_stakes.md) -/

def F.AXI_CNT3_FAST_CNT : Fld := ⟨.AXI_CNT3, 0, 32⟩

/-! ## AXI_MARKDIR0 (Table AXI-9, 06_axis_and_stakes.md) -/

def F.AXI_MARKDIR0_DIR : Fld := ⟨.AXI_MARKDIR0, 0, 64⟩

/-! ## AXI_MARKDIR1 (Table AXI-9, 06_axis_and_stakes.md) -/

def F.AXI_MARKDIR1_DIR : Fld := ⟨.AXI_MARKDIR1, 0, 32⟩

/-! ## WEA_LMAP (Table WEA-8, 07_weavers.md) -/

def F.WEA_LMAP_QA : Fld := ⟨.WEA_LMAP, 0, 16⟩
def F.WEA_LMAP_QB : Fld := ⟨.WEA_LMAP, 16, 16⟩
def F.WEA_LMAP_EN : Fld := ⟨.WEA_LMAP, 32, 1⟩
def F.WEA_LMAP_QB_EN : Fld := ⟨.WEA_LMAP, 33, 1⟩
def F.WEA_LMAP_AMASK : Fld := ⟨.WEA_LMAP, 34, 4⟩
def F.WEA_LMAP_BMASK : Fld := ⟨.WEA_LMAP, 38, 4⟩

/-! ## WEA_LDROP (Table WEA-8, 07_weavers.md) -/

def F.WEA_LDROP_DROP_CNT : Fld := ⟨.WEA_LDROP, 0, 32⟩
def F.WEA_LDROP_SAT : Fld := ⟨.WEA_LDROP, 32, 1⟩

/-! ## WEA_FPCFG (Table WEA-8, 07_weavers.md) -/

def F.WEA_FPCFG_FP_BMAX : Fld := ⟨.WEA_FPCFG, 0, 12⟩
def F.WEA_FPCFG_FP_FLUSH_EXP : Fld := ⟨.WEA_FPCFG, 12, 6⟩

/-! ## WEA_WCFG (Table WEA-9, 07_weavers.md) -/

def F.WEA_WCFG_WMASK : Fld := ⟨.WEA_WCFG, 0, 16⟩
def F.WEA_WCFG_BUDGET : Fld := ⟨.WEA_WCFG, 16, 10⟩
def F.WEA_WCFG_BMAX : Fld := ⟨.WEA_WCFG, 26, 12⟩
def F.WEA_WCFG_AUTO_SPLIT : Fld := ⟨.WEA_WCFG, 38, 1⟩
def F.WEA_WCFG_FLUSH_EXP : Fld := ⟨.WEA_WCFG, 39, 6⟩
def F.WEA_WCFG_SIG_EN : Fld := ⟨.WEA_WCFG, 45, 1⟩

/-! ## WEA_WENTRY (Table WEA-9, 07_weavers.md) -/

def F.WEA_WENTRY_REC_PC : Fld := ⟨.WEA_WENTRY, 0, 10⟩
def F.WEA_WENTRY_SIG_PC : Fld := ⟨.WEA_WENTRY, 16, 10⟩
def F.WEA_WENTRY_BEND_PC : Fld := ⟨.WEA_WENTRY, 32, 10⟩

/-! ## WEA_WCTRL (Table WEA-9, 07_weavers.md) -/

def F.WEA_WCTRL_RUN : Fld := ⟨.WEA_WCTRL, 0, 1⟩

/-! ## WEA_WSTAT (Table WEA-10, 07_weavers.md) -/

def F.WEA_WSTAT_RUNNING : Fld := ⟨.WEA_WSTAT, 0, 1⟩
def F.WEA_WSTAT_FAULTED : Fld := ⟨.WEA_WSTAT, 1, 1⟩
def F.WEA_WSTAT_FALLBACK : Fld := ⟨.WEA_WSTAT, 2, 1⟩
def F.WEA_WSTAT_BUSY_SLOTS : Fld := ⟨.WEA_WSTAT, 3, 4⟩
def F.WEA_WSTAT_INTAKE : Fld := ⟨.WEA_WSTAT, 7, 7⟩
def F.WEA_WSTAT_OPEN : Fld := ⟨.WEA_WSTAT, 14, 4⟩
def F.WEA_WSTAT_SIG_PEND : Fld := ⟨.WEA_WSTAT, 18, 5⟩
def F.WEA_WSTAT_WAIT_IN : Fld := ⟨.WEA_WSTAT, 23, 3⟩
def F.WEA_WSTAT_WAITING : Fld := ⟨.WEA_WSTAT, 26, 1⟩

/-! ## WEA_WFAULT (Table WEA-10, 07_weavers.md) -/

def F.WEA_WFAULT_CAUSE : Fld := ⟨.WEA_WFAULT, 0, 3⟩
def F.WEA_WFAULT_PC : Fld := ⟨.WEA_WFAULT, 3, 10⟩
def F.WEA_WFAULT_SLOT : Fld := ⟨.WEA_WFAULT, 13, 2⟩
def F.WEA_WFAULT_QUEUE : Fld := ⟨.WEA_WFAULT, 16, 16⟩
def F.WEA_WFAULT_WORD : Fld := ⟨.WEA_WFAULT, 32, 32⟩

/-! ## WEA_WFTIME (Table WEA-10, 07_weavers.md) -/

def F.WEA_WFTIME_CAUSE_T : Fld := ⟨.WEA_WFTIME, 0, 64⟩

/-! ## WEA_WEVT (Table WEA-11, 07_weavers.md) -/

def F.WEA_WEVT_FAULT : Fld := ⟨.WEA_WEVT, 0, 1⟩
def F.WEA_WEVT_HALTED : Fld := ⟨.WEA_WEVT, 1, 1⟩
def F.WEA_WEVT_INTAKE_DROP : Fld := ⟨.WEA_WEVT, 2, 1⟩
def F.WEA_WEVT_EVICT : Fld := ⟨.WEA_WEVT, 3, 1⟩
def F.WEA_WEVT_SPLIT : Fld := ⟨.WEA_WEVT, 4, 1⟩
def F.WEA_WEVT_SIG_LOST : Fld := ⟨.WEA_WEVT, 5, 1⟩
def F.WEA_WEVT_SIG : Fld := ⟨.WEA_WEVT, 8, 16⟩
def F.WEA_WEVT_IE : Fld := ⟨.WEA_WEVT, 32, 24⟩

/-! ## WEA_WCNT0 (Table WEA-12, 07_weavers.md) -/

def F.WEA_WCNT0_REC_CNT : Fld := ⟨.WEA_WCNT0, 0, 32⟩
def F.WEA_WCNT0_PDROP_CNT : Fld := ⟨.WEA_WCNT0, 32, 32⟩

/-! ## WEA_WCNT1 (Table WEA-12, 07_weavers.md) -/

def F.WEA_WCNT1_EMIT_WORDS : Fld := ⟨.WEA_WCNT1, 0, 32⟩
def F.WEA_WCNT1_FAULT_CNT : Fld := ⟨.WEA_WCNT1, 32, 16⟩
def F.WEA_WCNT1_EVICT_CNT : Fld := ⟨.WEA_WCNT1, 48, 16⟩

/-! ## WEA_PCFG (Table WEA-13, 07_weavers.md) -/

def F.WEA_PCFG_FB_Q : Fld := ⟨.WEA_PCFG, 0, 16⟩
def F.WEA_PCFG_FB_EN : Fld := ⟨.WEA_PCFG, 16, 1⟩
def F.WEA_PCFG_BEND_CLOSE : Fld := ⟨.WEA_PCFG, 17, 1⟩
def F.WEA_PCFG_BEND_EN : Fld := ⟨.WEA_PCFG, 18, 1⟩
def F.WEA_PCFG_HIST_EN : Fld := ⟨.WEA_PCFG, 19, 1⟩
def F.WEA_PCFG_HIST_Q : Fld := ⟨.WEA_PCFG, 32, 16⟩

/-! ## WEA_PIN (Table WEA-13, 07_weavers.md) -/

def F.WEA_PIN_QUEUE : Fld := ⟨.WEA_PIN, 0, 16⟩
def F.WEA_PIN_EN : Fld := ⟨.WEA_PIN, 16, 1⟩

/-! ## WEA_TD (Table WEA-13, 07_weavers.md) -/

def F.WEA_TD_BASE : Fld := ⟨.WEA_TD, 0, 9⟩
def F.WEA_TD_SIZE_LOG2 : Fld := ⟨.WEA_TD, 9, 4⟩
def F.WEA_TD_ISHIFT : Fld := ⟨.WEA_TD, 13, 6⟩

/-! ## FLT_CFG (Table FLT-4, 08_filter_pipelines_histograms.md) -/

def F.FLT_CFG_EN : Fld := ⟨.FLT_CFG, 0, 1⟩
def F.FLT_CFG_MODE : Fld := ⟨.FLT_CFG, 1, 2⟩
def F.FLT_CFG_RST_SYNC : Fld := ⟨.FLT_CFG, 3, 1⟩
def F.FLT_CFG_RST_AXIS : Fld := ⟨.FLT_CFG, 4, 1⟩
def F.FLT_CFG_XF_DEF : Fld := ⟨.FLT_CFG, 5, 13⟩
def F.FLT_CFG_REPORT_EXP : Fld := ⟨.FLT_CFG, 18, 5⟩

/-! ## FLT_SEL (Table FLT-4, 08_filter_pipelines_histograms.md) -/

def F.FLT_SEL_TYPE : Fld := ⟨.FLT_SEL, 0, 4⟩
def F.FLT_SEL_ID : Fld := ⟨.FLT_SEL, 4, 10⟩
def F.FLT_SEL_SEL_KIND : Fld := ⟨.FLT_SEL, 14, 3⟩
def F.FLT_SEL_KIND_ANY : Fld := ⟨.FLT_SEL, 17, 1⟩
def F.FLT_SEL_ID_ANY : Fld := ⟨.FLT_SEL, 18, 1⟩

/-! ## FLT_XREF (Table FLT-4, 08_filter_pipelines_histograms.md) -/

def F.FLT_XREF_X_REF : Fld := ⟨.FLT_XREF, 0, 64⟩

/-! ## FLT_TAU (Table FLT-4, 08_filter_pipelines_histograms.md) -/

def F.FLT_TAU_TAU : Fld := ⟨.FLT_TAU, 0, 64⟩

/-! ## FLT_TOFS (Table FLT-4, 08_filter_pipelines_histograms.md) -/

def F.FLT_TOFS_TOFS : Fld := ⟨.FLT_TOFS, 0, 48⟩

/-! ## FLT_IO (Table FLT-4, 08_filter_pipelines_histograms.md) -/

def F.FLT_IO_IN_Q : Fld := ⟨.FLT_IO, 0, 16⟩
def F.FLT_IO_OUT_Q : Fld := ⟨.FLT_IO, 16, 16⟩
def F.FLT_IO_BMAX : Fld := ⟨.FLT_IO, 32, 12⟩
def F.FLT_IO_FLUSH_EXP : Fld := ⟨.FLT_IO, 44, 6⟩
def F.FLT_IO_HIST_BLK : Fld := ⟨.FLT_IO, 50, 9⟩

/-! ## FLT_CTRL (Table FLT-5, 08_filter_pipelines_histograms.md) -/

def F.FLT_CTRL_SWAP : Fld := ⟨.FLT_CTRL, 0, 1⟩
def F.FLT_CTRL_XF_N : Fld := ⟨.FLT_CTRL, 1, 13⟩
def F.FLT_CTRL_RESET : Fld := ⟨.FLT_CTRL, 14, 1⟩

/-! ## FLT_STAT (Table FLT-5, 08_filter_pipelines_histograms.md) -/

def F.FLT_STAT_BANK : Fld := ⟨.FLT_STAT, 0, 1⟩
def F.FLT_STAT_XFADING : Fld := ⟨.FLT_STAT, 1, 1⟩
def F.FLT_STAT_PENDING : Fld := ⟨.FLT_STAT, 2, 1⟩
def F.FLT_STAT_FILLING : Fld := ⟨.FLT_STAT, 3, 1⟩
def F.FLT_STAT_CFG_ERR : Fld := ⟨.FLT_STAT, 4, 1⟩
def F.FLT_STAT_J : Fld := ⟨.FLT_STAT, 5, 3⟩
def F.FLT_STAT_XF_POS : Fld := ⟨.FLT_STAT, 8, 13⟩

/-! ## FLT_EVT (Table FLT-5, 08_filter_pipelines_histograms.md) -/

def F.FLT_EVT_SWAPPED : Fld := ⟨.FLT_EVT, 0, 1⟩
def F.FLT_EVT_XF_DONE : Fld := ⟨.FLT_EVT, 1, 1⟩
def F.FLT_EVT_REPL : Fld := ⟨.FLT_EVT, 2, 1⟩
def F.FLT_EVT_XF_SKIP : Fld := ⟨.FLT_EVT, 3, 1⟩
def F.FLT_EVT_SAT : Fld := ⟨.FLT_EVT, 4, 1⟩
def F.FLT_EVT_GAP : Fld := ⟨.FLT_EVT, 5, 1⟩
def F.FLT_EVT_RESET : Fld := ⟨.FLT_EVT, 6, 1⟩
def F.FLT_EVT_CFG_ERR : Fld := ⟨.FLT_EVT, 7, 1⟩
def F.FLT_EVT_IE : Fld := ⟨.FLT_EVT, 8, 8⟩

/-! ## FLT_CNT0 (Table FLT-5, 08_filter_pipelines_histograms.md) -/

def F.FLT_CNT0_IN_CNT : Fld := ⟨.FLT_CNT0, 0, 64⟩

/-! ## FLT_CNT1 (Table FLT-5, 08_filter_pipelines_histograms.md) -/

def F.FLT_CNT1_OUT_CNT : Fld := ⟨.FLT_CNT1, 0, 64⟩

/-! ## FLT_CNT2 (Table FLT-5, 08_filter_pipelines_histograms.md) -/

def F.FLT_CNT2_GAP_CNT : Fld := ⟨.FLT_CNT2, 0, 32⟩
def F.FLT_CNT2_REPL_CNT : Fld := ⟨.FLT_CNT2, 32, 16⟩
def F.FLT_CNT2_SAT_CNT : Fld := ⟨.FLT_CNT2, 48, 16⟩

/-! ## FLT_SCFG (Table FLT-5, 08_filter_pipelines_histograms.md) -/

def F.FLT_SCFG_L_M1 : Fld := ⟨.FLT_SCFG, 0, 16⟩
def F.FLT_SCFG_D_M1 : Fld := ⟨.FLT_SCFG, 16, 16⟩
def F.FLT_SCFG_SHIFT : Fld := ⟨.FLT_SCFG, 32, 6⟩
def F.FLT_SCFG_SEN : Fld := ⟨.FLT_SCFG, 38, 1⟩

/-! ## FLT_GAIN (Table FLT-5, 08_filter_pipelines_histograms.md) -/

def F.FLT_GAIN_GAIN : Fld := ⟨.FLT_GAIN, 0, 32⟩

/-! ## FLT_OFFSET (Table FLT-5, 08_filter_pipelines_histograms.md) -/

def F.FLT_OFFSET_OFFSET : Fld := ⟨.FLT_OFFSET, 0, 64⟩

/-! ## HE_CFG (Table FLT-6, 08_filter_pipelines_histograms.md) -/

def F.HE_CFG_EN : Fld := ⟨.HE_CFG, 0, 1⟩
def F.HE_CFG_KEY_SRC : Fld := ⟨.HE_CFG, 1, 2⟩
def F.HE_CFG_IN_Q : Fld := ⟨.HE_CFG, 16, 16⟩
def F.HE_CFG_KSHIFT : Fld := ⟨.HE_CFG, 32, 6⟩
def F.HE_CFG_SNAP_EXP : Fld := ⟨.HE_CFG, 38, 6⟩

/-! ## HE_KOFS (Table FLT-6, 08_filter_pipelines_histograms.md) -/

def F.HE_KOFS_KOFS : Fld := ⟨.HE_KOFS, 0, 64⟩

/-! ## HE_SNAP (Table FLT-6, 08_filter_pipelines_histograms.md) -/

def F.HE_SNAP_FIRST : Fld := ⟨.HE_SNAP, 0, 12⟩
def F.HE_SNAP_NB_M1 : Fld := ⟨.HE_SNAP, 12, 10⟩
def F.HE_SNAP_OUT_Q : Fld := ⟨.HE_SNAP, 32, 16⟩

/-! ## HE_CTRL (Table FLT-6, 08_filter_pipelines_histograms.md) -/

def F.HE_CTRL_OP : Fld := ⟨.HE_CTRL, 0, 2⟩

/-! ## HE_STAT (Table FLT-6, 08_filter_pipelines_histograms.md) -/

def F.HE_STAT_TOTAL : Fld := ⟨.HE_STAT, 0, 48⟩
def F.HE_STAT_SAT : Fld := ⟨.HE_STAT, 48, 1⟩
def F.HE_STAT_WAIT_OPS : Fld := ⟨.HE_STAT, 49, 3⟩
def F.HE_STAT_CFG_ERR : Fld := ⟨.HE_STAT, 52, 1⟩

/-! ## HE_MIN (Table FLT-6, 08_filter_pipelines_histograms.md) -/

def F.HE_MIN_MIN : Fld := ⟨.HE_MIN, 0, 64⟩

/-! ## HE_MAX (Table FLT-6, 08_filter_pipelines_histograms.md) -/

def F.HE_MAX_MAX : Fld := ⟨.HE_MAX, 0, 64⟩

/-! ## HE_UNDER (Table FLT-6, 08_filter_pipelines_histograms.md) -/

def F.HE_UNDER_UNDER : Fld := ⟨.HE_UNDER, 0, 48⟩

/-! ## HE_OVER (Table FLT-6, 08_filter_pipelines_histograms.md) -/

def F.HE_OVER_OVER : Fld := ⟨.HE_OVER, 0, 48⟩

/-! ## HE_EVT (Table FLT-6, 08_filter_pipelines_histograms.md) -/

def F.HE_EVT_SNAP_DONE : Fld := ⟨.HE_EVT, 0, 1⟩
def F.HE_EVT_SAT : Fld := ⟨.HE_EVT, 1, 1⟩
def F.HE_EVT_LOST_OP : Fld := ⟨.HE_EVT, 2, 1⟩
def F.HE_EVT_LOST_KEY : Fld := ⟨.HE_EVT, 3, 1⟩
def F.HE_EVT_IE : Fld := ⟨.HE_EVT, 8, 8⟩

/-! ## HE_CNT (Table FLT-6, 08_filter_pipelines_histograms.md) -/

def F.HE_CNT_LOST_OP_CNT : Fld := ⟨.HE_CNT, 0, 32⟩
def F.HE_CNT_LOST_KEY_CNT : Fld := ⟨.HE_CNT, 32, 32⟩

/-! ## HE_SINCE (Table FLT-6, 08_filter_pipelines_histograms.md) -/

def F.HE_SINCE_SINCE : Fld := ⟨.HE_SINCE, 0, 64⟩

/-! ## TIM_TCFG (Table TIM-4, 09_timebase_synthesis.md) -/

def F.TIM_TCFG_REF_MODE : Fld := ⟨.TIM_TCFG, 0, 3⟩
def F.TIM_TCFG_LOCAL_SEL : Fld := ⟨.TIM_TCFG, 4, 2⟩
def F.TIM_TCFG_RET_POLICY : Fld := ⟨.TIM_TCFG, 6, 1⟩
def F.TIM_TCFG_BW : Fld := ⟨.TIM_TCFG, 8, 3⟩
def F.TIM_TCFG_WINDOW : Fld := ⟨.TIM_TCFG, 16, 16⟩
def F.TIM_TCFG_SLEW_RATE : Fld := ⟨.TIM_TCFG, 32, 9⟩
def F.TIM_TCFG_FTOL : Fld := ⟨.TIM_TCFG, 48, 8⟩

/-! ## TIM_TREFP (Table TIM-4, 09_timebase_synthesis.md) -/

def F.TIM_TREFP_PRIO : Fld := ⟨.TIM_TREFP, 0, 8⟩
def F.TIM_TREFP_AUTO_EN : Fld := ⟨.TIM_TREFP, 8, 4⟩
def F.TIM_TREFP_QUAL_TIME : Fld := ⟨.TIM_TREFP, 16, 16⟩

/-! ## TIM_REF (Table TIM-4, 09_timebase_synthesis.md) -/

def F.TIM_REF_FREQ : Fld := ⟨.TIM_REF, 0, 48⟩

/-! ## TIM_TSTAT (Table TIM-5, 09_timebase_synthesis.md) -/

def F.TIM_TSTAT_STATE : Fld := ⟨.TIM_TSTAT, 0, 3⟩
def F.TIM_TSTAT_REF_ACT : Fld := ⟨.TIM_TSTAT, 3, 2⟩
def F.TIM_TSTAT_REF_VALID : Fld := ⟨.TIM_TSTAT, 5, 1⟩
def F.TIM_TSTAT_QUAL : Fld := ⟨.TIM_TSTAT, 8, 4⟩
def F.TIM_TSTAT_LOS : Fld := ⟨.TIM_TSTAT, 12, 4⟩
def F.TIM_TSTAT_FBAD : Fld := ⟨.TIM_TSTAT, 16, 4⟩
def F.TIM_TSTAT_LOCAL_OK : Fld := ⟨.TIM_TSTAT, 20, 1⟩
def F.TIM_TSTAT_CFG_ERR : Fld := ⟨.TIM_TSTAT, 21, 1⟩

/-! ## TIM_THETA (Table TIM-5, 09_timebase_synthesis.md) -/

def F.TIM_THETA_THETA : Fld := ⟨.TIM_THETA, 0, 64⟩

/-! ## TIM_SREM (Table TIM-5, 09_timebase_synthesis.md) -/

def F.TIM_SREM_SREM : Fld := ⟨.TIM_SREM, 0, 64⟩

/-! ## TIM_STEP (Table TIM-5, 09_timebase_synthesis.md) -/

def F.TIM_STEP_DELTA : Fld := ⟨.TIM_STEP, 0, 64⟩

/-! ## TIM_FOFS (Table TIM-5, 09_timebase_synthesis.md) -/

def F.TIM_FOFS_FOFS : Fld := ⟨.TIM_FOFS, 0, 32⟩

/-! ## TIM_TEVT (Table TIM-5, 09_timebase_synthesis.md) -/

def F.TIM_TEVT_LOCK : Fld := ⟨.TIM_TEVT, 0, 1⟩
def F.TIM_TEVT_HOLDOVER : Fld := ⟨.TIM_TEVT, 1, 1⟩
def F.TIM_TEVT_RETURN : Fld := ⟨.TIM_TEVT, 2, 1⟩
def F.TIM_TEVT_SLEW_DONE : Fld := ⟨.TIM_TEVT, 3, 1⟩
def F.TIM_TEVT_STEPPED : Fld := ⟨.TIM_TEVT, 4, 1⟩
def F.TIM_TEVT_REF_SWITCH : Fld := ⟨.TIM_TEVT, 5, 1⟩
def F.TIM_TEVT_LOCAL_FAIL : Fld := ⟨.TIM_TEVT, 6, 1⟩
def F.TIM_TEVT_SYNC0_LOAD : Fld := ⟨.TIM_TEVT, 7, 1⟩
def F.TIM_TEVT_IE : Fld := ⟨.TIM_TEVT, 16, 8⟩

/-! ## TIM_SYNC (Table TIM-6, 09_timebase_synthesis.md) -/

def F.TIM_SYNC_ARM0 : Fld := ⟨.TIM_SYNC, 0, 1⟩
def F.TIM_SYNC_ARM1 : Fld := ⟨.TIM_SYNC, 1, 1⟩
def F.TIM_SYNC_POL0 : Fld := ⟨.TIM_SYNC, 2, 1⟩
def F.TIM_SYNC_POL1 : Fld := ⟨.TIM_SYNC, 3, 1⟩
def F.TIM_SYNC_SW1 : Fld := ⟨.TIM_SYNC, 4, 1⟩
def F.TIM_SYNC_LOAD0_PEND : Fld := ⟨.TIM_SYNC, 5, 1⟩

/-! ## TIM_PRESET (Table TIM-6, 09_timebase_synthesis.md) -/

def F.TIM_PRESET_PRESET : Fld := ⟨.TIM_PRESET, 0, 64⟩

/-! ## TIM_SYNCT0 (Table TIM-6, 09_timebase_synthesis.md) -/

def F.TIM_SYNCT0_T_SYNC : Fld := ⟨.TIM_SYNCT0, 0, 64⟩

/-! ## TIM_SYNCT1 (Table TIM-6, 09_timebase_synthesis.md) -/

def F.TIM_SYNCT1_T_SYNC : Fld := ⟨.TIM_SYNCT1, 0, 64⟩

/-! ## TIM_ORST (Table TIM-6, 09_timebase_synthesis.md) -/

def F.TIM_ORST_T_ORST : Fld := ⟨.TIM_ORST, 0, 64⟩

/-! ## TIM_TCNT (Table TIM-6, 09_timebase_synthesis.md) -/

def F.TIM_TCNT_HOLDOVER_CNT : Fld := ⟨.TIM_TCNT, 0, 16⟩
def F.TIM_TCNT_STEP_CNT : Fld := ⟨.TIM_TCNT, 16, 16⟩
def F.TIM_TCNT_SWITCH_CNT : Fld := ⟨.TIM_TCNT, 32, 16⟩
def F.TIM_TCNT_OLOST_CNT : Fld := ⟨.TIM_TCNT, 48, 16⟩

/-! ## TIM_OCTRL (Table TIM-7, 09_timebase_synthesis.md) -/

def F.TIM_OCTRL_ENTRY : Fld := ⟨.TIM_OCTRL, 0, 4⟩
def F.TIM_OCTRL_OP : Fld := ⟨.TIM_OCTRL, 4, 2⟩

/-! ## TIM_OQ (Table TIM-7, 09_timebase_synthesis.md) -/

def F.TIM_OQ_OEVQ : Fld := ⟨.TIM_OQ, 0, 16⟩
def F.TIM_OQ_OEVQ_EN : Fld := ⟨.TIM_OQ, 16, 1⟩
def F.TIM_OQ_LOL_GATE : Fld := ⟨.TIM_OQ, 17, 1⟩

/-! ## TIM_OSTAT (Table TIM-7, 09_timebase_synthesis.md) -/

def F.TIM_OSTAT_STATE : Fld := ⟨.TIM_OSTAT, 0, 3⟩
def F.TIM_OSTAT_ENTRY : Fld := ⟨.TIM_OSTAT, 4, 4⟩
def F.TIM_OSTAT_BAND : Fld := ⟨.TIM_OSTAT, 8, 8⟩

/-! ## TIM_OEVT (Table TIM-7, 09_timebase_synthesis.md) -/

def F.TIM_OEVT_RELOCKED : Fld := ⟨.TIM_OEVT, 0, 1⟩
def F.TIM_OEVT_LOST : Fld := ⟨.TIM_OEVT, 1, 1⟩
def F.TIM_OEVT_REJECT : Fld := ⟨.TIM_OEVT, 2, 1⟩
def F.TIM_OEVT_STALE : Fld := ⟨.TIM_OEVT, 3, 1⟩
def F.TIM_OEVT_CFG_ERR : Fld := ⟨.TIM_OEVT, 4, 1⟩
def F.TIM_OEVT_SYNC1_DONE : Fld := ⟨.TIM_OEVT, 5, 1⟩
def F.TIM_OEVT_LOOP_ERR : Fld := ⟨.TIM_OEVT, 6, 1⟩
def F.TIM_OEVT_SEARCH_DONE : Fld := ⟨.TIM_OEVT, 7, 1⟩
def F.TIM_OEVT_IE : Fld := ⟨.TIM_OEVT, 16, 8⟩

/-! ## TIM_BAND0 (Table TIM-7, 09_timebase_synthesis.md) -/

def F.TIM_BAND0_OSRC : Fld := ⟨.TIM_BAND0, 0, 1⟩
def F.TIM_BAND0_OREF : Fld := ⟨.TIM_BAND0, 1, 2⟩
def F.TIM_BAND0_R : Fld := ⟨.TIM_BAND0, 3, 10⟩
def F.TIM_BAND0_N_INT : Fld := ⟨.TIM_BAND0, 16, 16⟩
def F.TIM_BAND0_N_FRAC : Fld := ⟨.TIM_BAND0, 32, 24⟩

/-! ## TIM_BAND1 (Table TIM-7, 09_timebase_synthesis.md) -/

def F.TIM_BAND1_BAND : Fld := ⟨.TIM_BAND1, 0, 8⟩
def F.TIM_BAND1_VALID : Fld := ⟨.TIM_BAND1, 8, 1⟩
def F.TIM_BAND1_TEMP : Fld := ⟨.TIM_BAND1, 16, 16⟩
def F.TIM_BAND1_TUNE : Fld := ⟨.TIM_BAND1, 32, 16⟩

/-! ## TIM_OCLK (Table TIM-7, 09_timebase_synthesis.md) -/

def F.TIM_OCLK_EN : Fld := ⟨.TIM_OCLK, 0, 1⟩
def F.TIM_OCLK_SRC : Fld := ⟨.TIM_OCLK, 1, 1⟩
def F.TIM_OCLK_SYNC_EN : Fld := ⟨.TIM_OCLK, 2, 1⟩
def F.TIM_OCLK_DIV_X2 : Fld := ⟨.TIM_OCLK, 3, 13⟩
def F.TIM_OCLK_CDLY : Fld := ⟨.TIM_OCLK, 16, 8⟩
def F.TIM_OCLK_FDLY : Fld := ⟨.TIM_OCLK, 24, 7⟩

/-! ## TIM_OCSTAT (Table TIM-7, 09_timebase_synthesis.md) -/

def F.TIM_OCSTAT_RUNNING : Fld := ⟨.TIM_OCSTAT, 0, 1⟩
def F.TIM_OCSTAT_HELD : Fld := ⟨.TIM_OCSTAT, 1, 1⟩
def F.TIM_OCSTAT_CFG_ERR : Fld := ⟨.TIM_OCSTAT, 2, 1⟩

/-! ## TIM_LOOP (Table TIM-7, 09_timebase_synthesis.md) -/

def F.TIM_LOOP_EN : Fld := ⟨.TIM_LOOP, 0, 1⟩
def F.TIM_LOOP_CLKOUT_SEL : Fld := ⟨.TIM_LOOP, 1, 5⟩
def F.TIM_LOOP_LB_POS : Fld := ⟨.TIM_LOOP, 6, 4⟩
def F.TIM_LOOP_ACTIVE : Fld := ⟨.TIM_LOOP, 10, 1⟩
def F.TIM_LOOP_ERR : Fld := ⟨.TIM_LOOP, 11, 1⟩

/-! ## QD_CFG (Table QUE-5, 10_queues_and_bundles.md) -/

def F.QD_CFG_BASE : Fld := ⟨.QD_CFG, 0, 30⟩
def F.QD_CFG_SIZE_LOG2 : Fld := ⟨.QD_CFG, 32, 5⟩
def F.QD_CFG_EN : Fld := ⟨.QD_CFG, 40, 1⟩
def F.QD_CFG_CFG_ERR : Fld := ⟨.QD_CFG, 41, 1⟩

/-! ## QD_RD (Table QUE-5, 10_queues_and_bundles.md) -/

def F.QD_RD_RD : Fld := ⟨.QD_RD, 0, 27⟩

/-! ## QD_WR (Table QUE-5, 10_queues_and_bundles.md) -/

def F.QD_WR_CWR : Fld := ⟨.QD_WR, 0, 27⟩
def F.QD_WR_IWR : Fld := ⟨.QD_WR, 32, 27⟩

/-! ## QD_MARK (Table QUE-5, 10_queues_and_bundles.md) -/

def F.QD_MARK_RWM : Fld := ⟨.QD_MARK, 0, 27⟩
def F.QD_MARK_PROD : Fld := ⟨.QD_MARK, 32, 12⟩
def F.QD_MARK_CONS_KIND : Fld := ⟨.QD_MARK, 44, 4⟩
def F.QD_MARK_CONS_ID : Fld := ⟨.QD_MARK, 48, 12⟩
def F.QD_MARK_WRITERS : Fld := ⟨.QD_MARK, 60, 4⟩

/-! ## QD_THR (Table QUE-5, 10_queues_and_bundles.md) -/

def F.QD_THR_LEVEL : Fld := ⟨.QD_THR, 0, 27⟩
def F.QD_THR_NEXT_SEQ : Fld := ⟨.QD_THR, 32, 32⟩

/-! ## QD_FLAGS (Table QUE-6, 10_queues_and_bundles.md) -/

def F.QD_FLAGS_FULL : Fld := ⟨.QD_FLAGS, 0, 1⟩
def F.QD_FLAGS_EMPTY : Fld := ⟨.QD_FLAGS, 1, 1⟩
def F.QD_FLAGS_POP_RESP : Fld := ⟨.QD_FLAGS, 2, 2⟩
def F.QD_FLAGS_OVERRUN : Fld := ⟨.QD_FLAGS, 4, 1⟩
def F.QD_FLAGS_OVERSIZE : Fld := ⟨.QD_FLAGS, 5, 1⟩
def F.QD_FLAGS_THRESH : Fld := ⟨.QD_FLAGS, 6, 1⟩
def F.QD_FLAGS_ABORT : Fld := ⟨.QD_FLAGS, 7, 1⟩
def F.QD_FLAGS_LATE : Fld := ⟨.QD_FLAGS, 8, 1⟩
def F.QD_FLAGS_HOLD : Fld := ⟨.QD_FLAGS, 9, 1⟩
def F.QD_FLAGS_WOVF : Fld := ⟨.QD_FLAGS, 10, 1⟩
def F.QD_FLAGS_IE : Fld := ⟨.QD_FLAGS, 16, 7⟩

/-! ## QD_CNT0 (Table QUE-6, 10_queues_and_bundles.md) -/

def F.QD_CNT0_OVERRUN_CNT : Fld := ⟨.QD_CNT0, 0, 32⟩
def F.QD_CNT0_ABORT_CNT : Fld := ⟨.QD_CNT0, 32, 32⟩

/-! ## QD_CNT1 (Table QUE-6, 10_queues_and_bundles.md) -/

def F.QD_CNT1_OVERSIZE_CNT : Fld := ⟨.QD_CNT1, 0, 16⟩
def F.QD_CNT1_LATE_CNT : Fld := ⟨.QD_CNT1, 16, 16⟩
def F.QD_CNT1_HOLD_CNT : Fld := ⟨.QD_CNT1, 32, 16⟩

/-! ## QUE_POOL (Table QUE-7, 10_queues_and_bundles.md) -/

def F.QUE_POOL_POOL_BASE : Fld := ⟨.QUE_POOL, 0, 30⟩
def F.QUE_POOL_POOL_BUFS : Fld := ⟨.QUE_POOL, 32, 16⟩

/-! ## QUE_CTRL (Table QUE-7, 10_queues_and_bundles.md) -/

def F.QUE_CTRL_HOLD_EXP : Fld := ⟨.QUE_CTRL, 0, 6⟩

/-! ## QUE_STAT (Table QUE-7, 10_queues_and_bundles.md) -/

def F.QUE_STAT_POOL_USED : Fld := ⟨.QUE_STAT, 0, 16⟩
def F.QUE_STAT_POOL_PEAK : Fld := ⟨.QUE_STAT, 16, 16⟩
def F.QUE_STAT_FORCE_CNT : Fld := ⟨.QUE_STAT, 32, 32⟩

/-! ## RING_BASE (Table QUE-8, 10_queues_and_bundles.md) -/

def F.RING_BASE_BASE : Fld := ⟨.RING_BASE, 12, 52⟩

/-! ## RING_CFG (Table QUE-8, 10_queues_and_bundles.md) -/

def F.RING_CFG_EN : Fld := ⟨.RING_CFG, 0, 1⟩
def F.RING_CFG_SIZE_LOG2 : Fld := ⟨.RING_CFG, 1, 5⟩
def F.RING_CFG_FUNC : Fld := ⟨.RING_CFG, 6, 4⟩
def F.RING_CFG_VECTOR : Fld := ⟨.RING_CFG, 10, 11⟩
def F.RING_CFG_QUEUE : Fld := ⟨.RING_CFG, 32, 16⟩

/-! ## RING_HEAD (Table QUE-8, 10_queues_and_bundles.md) -/

def F.RING_HEAD_HEAD : Fld := ⟨.RING_HEAD, 0, 25⟩

/-! ## RING_TAIL (Table QUE-8, 10_queues_and_bundles.md) -/

def F.RING_TAIL_TAIL : Fld := ⟨.RING_TAIL, 0, 25⟩

/-! ## RING_WB (Table QUE-8, 10_queues_and_bundles.md) -/

def F.RING_WB_WB : Fld := ⟨.RING_WB, 3, 61⟩

/-! ## RING_STAT (Table QUE-8, 10_queues_and_bundles.md) -/

def F.RING_STAT_ACTIVE : Fld := ⟨.RING_STAT, 0, 1⟩
def F.RING_STAT_WAITING : Fld := ⟨.RING_STAT, 1, 1⟩
def F.RING_STAT_ERR : Fld := ⟨.RING_STAT, 2, 1⟩
def F.RING_STAT_ERR_CAUSE : Fld := ⟨.RING_STAT, 3, 3⟩

/-! ## RING_CNT (Table QUE-8, 10_queues_and_bundles.md) -/

def F.RING_CNT_BUNDLES : Fld := ⟨.RING_CNT, 0, 32⟩
def F.RING_CNT_WORDS : Fld := ⟨.RING_CNT, 32, 32⟩

/-! ## INT_SRC (Table INT-4, 11_interrupt_controller.md) -/

def F.INT_SRC_PRIO : Fld := ⟨.INT_SRC, 0, 6⟩
def F.INT_SRC_TARGET : Fld := ⟨.INT_SRC, 8, 4⟩
def F.INT_SRC_SENSE : Fld := ⟨.INT_SRC, 12, 1⟩
def F.INT_SRC_MOD_EN : Fld := ⟨.INT_SRC, 13, 1⟩
def F.INT_SRC_MOD : Fld := ⟨.INT_SRC, 14, 7⟩
def F.INT_SRC_WAKE_PREF : Fld := ⟨.INT_SRC, 21, 1⟩
def F.INT_SRC_HOST_EN : Fld := ⟨.INT_SRC, 22, 1⟩
def F.INT_SRC_HVEC : Fld := ⟨.INT_SRC, 24, 11⟩

/-! ## INT_MOD_CFG (Table INT-4, 11_interrupt_controller.md) -/

def F.INT_MOD_CFG_COUNT : Fld := ⟨.INT_MOD_CFG, 0, 16⟩
def F.INT_MOD_CFG_TIME : Fld := ⟨.INT_MOD_CFG, 16, 26⟩

/-! ## INT_MOD_STAT (Table INT-4, 11_interrupt_controller.md) -/

def F.INT_MOD_STAT_CNT : Fld := ⟨.INT_MOD_STAT, 0, 16⟩
def F.INT_MOD_STAT_TIMING : Fld := ⟨.INT_MOD_STAT, 16, 1⟩
def F.INT_MOD_STAT_OPEN : Fld := ⟨.INT_MOD_STAT, 17, 1⟩
def F.INT_MOD_STAT_FIRES : Fld := ⟨.INT_MOD_STAT, 32, 32⟩

/-! ## CORE_VBASE (Table INT-5, 11_interrupt_controller.md) -/

def F.CORE_VBASE_VBASE : Fld := ⟨.CORE_VBASE, 16, 16⟩

/-! ## CORE_THR (Table INT-5, 11_interrupt_controller.md) -/

def F.CORE_THR_THR : Fld := ⟨.CORE_THR, 0, 6⟩

/-! ## CORE_RUN (Table INT-5, 11_interrupt_controller.md) -/

def F.CORE_RUN_RUN : Fld := ⟨.CORE_RUN, 0, 6⟩
def F.CORE_RUN_DEPTH : Fld := ⟨.CORE_RUN, 6, 6⟩
def F.CORE_RUN_SLEEPING : Fld := ⟨.CORE_RUN, 12, 1⟩
def F.CORE_RUN_FROZEN : Fld := ⟨.CORE_RUN, 13, 1⟩
def F.CORE_RUN_MIE : Fld := ⟨.CORE_RUN, 14, 1⟩
def F.CORE_RUN_IN_ENTRY : Fld := ⟨.CORE_RUN, 15, 1⟩

/-! ## CORE_PRES (Table INT-5, 11_interrupt_controller.md) -/

def F.CORE_PRES_SOURCE : Fld := ⟨.CORE_PRES, 0, 10⟩
def F.CORE_PRES_VALID : Fld := ⟨.CORE_PRES, 10, 1⟩

/-! ## CORE_EOI (Table INT-5, 11_interrupt_controller.md) -/

def F.CORE_EOI_SOURCE : Fld := ⟨.CORE_EOI, 0, 10⟩

/-! ## CORE_CTRL (Table INT-5, 11_interrupt_controller.md) -/

def F.CORE_CTRL_STACK_RESET : Fld := ⟨.CORE_CTRL, 0, 1⟩

/-! ## CORE_FAULTINFO (Table INT-5, 11_interrupt_controller.md) -/

def F.CORE_FAULTINFO_EOI_SRC : Fld := ⟨.CORE_FAULTINFO, 0, 10⟩
def F.CORE_FAULTINFO_STK_EMPTY : Fld := ⟨.CORE_FAULTINFO, 10, 1⟩
def F.CORE_FAULTINFO_DEPTH : Fld := ⟨.CORE_FAULTINFO, 11, 6⟩
def F.CORE_FAULTINFO_TOP_PRIO : Fld := ⟨.CORE_FAULTINFO, 17, 6⟩
def F.CORE_FAULTINFO_TOP_SRC : Fld := ⟨.CORE_FAULTINFO, 23, 10⟩

/-! ## CORE_CNT (Table INT-5, 11_interrupt_controller.md) -/

def F.CORE_CNT_ENTRIES : Fld := ⟨.CORE_CNT, 0, 32⟩
def F.CORE_CNT_LATE_CNT : Fld := ⟨.CORE_CNT, 32, 16⟩
def F.CORE_CNT_FAULT_CNT : Fld := ⟨.CORE_CNT, 48, 16⟩

/-! ## CORE_STK (Table INT-5, 11_interrupt_controller.md) -/

def F.CORE_STK_SOURCE : Fld := ⟨.CORE_STK, 0, 10⟩
def F.CORE_STK_PRIO : Fld := ⟨.CORE_STK, 10, 6⟩
def F.CORE_STK_VALID : Fld := ⟨.CORE_STK, 16, 1⟩

/-! ## HV_MOD (Table INT-6, 11_interrupt_controller.md) -/

def F.HV_MOD_COUNT : Fld := ⟨.HV_MOD, 0, 16⟩
def F.HV_MOD_TIME : Fld := ⟨.HV_MOD, 16, 16⟩
def F.HV_MOD_SLEEP_POL : Fld := ⟨.HV_MOD, 32, 2⟩

/-! ## HV_STAT (Table INT-6, 11_interrupt_controller.md) -/

def F.HV_STAT_HELD_CNT : Fld := ⟨.HV_STAT, 0, 16⟩
def F.HV_STAT_TIMING : Fld := ⟨.HV_STAT, 16, 1⟩
def F.HV_STAT_WAKE_REQ : Fld := ⟨.HV_STAT, 17, 1⟩
def F.HV_STAT_SENT : Fld := ⟨.HV_STAT, 32, 32⟩

/-! ## HV_FERR (Table INT-6, 11_interrupt_controller.md) -/

def F.HV_FERR_HV_ERR_CNT : Fld := ⟨.HV_FERR, 0, 32⟩

/-! ## MBX_STAT (Table OCI-16, 12_ongen_command_interface.md) -/

def F.MBX_STAT_STATE : Fld := ⟨.MBX_STAT, 0, 2⟩
def F.MBX_STAT_TAG : Fld := ⟨.MBX_STAT, 16, 16⟩

/-! ## MBX_DB (Table OCI-16, 12_ongen_command_interface.md) -/

def F.MBX_DB_POST : Fld := ⟨.MBX_DB, 0, 4⟩
def F.MBX_DB_RELEASE : Fld := ⟨.MBX_DB, 4, 4⟩

/-! ## MBX_CFG (Table OCI-16, 12_ongen_command_interface.md) -/

def F.MBX_CFG_VECTOR : Fld := ⟨.MBX_CFG, 0, 7⟩
def F.MBX_CFG_NOTIFY_ALL : Fld := ⟨.MBX_CFG, 7, 1⟩

/-! ## MBX_NTAIL (Table OCI-16, 12_ongen_command_interface.md) -/

def F.MBX_NTAIL_NTAIL : Fld := ⟨.MBX_NTAIL, 0, 17⟩

/-! ## MBX_CNT (Table OCI-16, 12_ongen_command_interface.md) -/

def F.MBX_CNT_WR_IGN : Fld := ⟨.MBX_CNT, 0, 16⟩
def F.MBX_CNT_POST_IGN : Fld := ⟨.MBX_CNT, 16, 16⟩
def F.MBX_CNT_NLOST : Fld := ⟨.MBX_CNT, 32, 16⟩

/-! ## LNK_GRP (Table LNK-10, 13_lane_pool_and_partners.md) -/

def F.LNK_GRP_MODE : Fld := ⟨.LNK_GRP, 0, 3⟩
def F.LNK_GRP_RSFEC : Fld := ⟨.LNK_GRP, 3, 1⟩
def F.LNK_GRP_TXINV : Fld := ⟨.LNK_GRP, 4, 4⟩
def F.LNK_GRP_RXINV : Fld := ⟨.LNK_GRP, 8, 4⟩

/-! ## LNK_GSTAT (Table LNK-10, 13_lane_pool_and_partners.md) -/

def F.LNK_GSTAT_LOCK : Fld := ⟨.LNK_GSTAT, 0, 4⟩
def F.LNK_GSTAT_ALIGNED : Fld := ⟨.LNK_GSTAT, 4, 1⟩
def F.LNK_GSTAT_UP : Fld := ⟨.LNK_GSTAT, 5, 1⟩

/-! ## LNK_GEVT (Table LNK-10, 13_lane_pool_and_partners.md) -/

def F.LNK_GEVT_UP_CHG : Fld := ⟨.LNK_GEVT, 0, 1⟩
def F.LNK_GEVT_LOS : Fld := ⟨.LNK_GEVT, 1, 1⟩
def F.LNK_GEVT_CRC_STORM : Fld := ⟨.LNK_GEVT, 2, 1⟩
def F.LNK_GEVT_HS_FAIL : Fld := ⟨.LNK_GEVT, 3, 1⟩
def F.LNK_GEVT_ATTACH : Fld := ⟨.LNK_GEVT, 4, 1⟩
def F.LNK_GEVT_DETACH : Fld := ⟨.LNK_GEVT, 5, 1⟩
def F.LNK_GEVT_TABLE_FULL : Fld := ⟨.LNK_GEVT, 6, 1⟩
def F.LNK_GEVT_CREDIT_STALL : Fld := ⟨.LNK_GEVT, 7, 1⟩
def F.LNK_GEVT_IE : Fld := ⟨.LNK_GEVT, 8, 8⟩

/-! ## ETH_MAC (Table LNK-11, 13_lane_pool_and_partners.md) -/

def F.ETH_MAC_SMAC : Fld := ⟨.ETH_MAC, 0, 48⟩
def F.ETH_MAC_MTU : Fld := ⟨.ETH_MAC, 48, 16⟩

/-! ## ETH_CFG (Table LNK-11, 13_lane_pool_and_partners.md) -/

def F.ETH_CFG_SIP : Fld := ⟨.ETH_CFG, 0, 32⟩
def F.ETH_CFG_VID : Fld := ⟨.ETH_CFG, 32, 12⟩
def F.ETH_CFG_VLAN_EN : Fld := ⟨.ETH_CFG, 44, 1⟩
def F.ETH_CFG_PCP : Fld := ⟨.ETH_CFG, 45, 3⟩
def F.ETH_CFG_DSCP : Fld := ⟨.ETH_CFG, 48, 6⟩
def F.ETH_CFG_PAUSE_EN : Fld := ⟨.ETH_CFG, 54, 1⟩
def F.ETH_CFG_CSUM : Fld := ⟨.ETH_CFG, 55, 1⟩

/-! ## ETH_CNT (Table LNK-11, 13_lane_pool_and_partners.md) -/

def F.ETH_CNT_DGRAMS : Fld := ⟨.ETH_CNT, 0, 32⟩
def F.ETH_CNT_RX_DISC : Fld := ⟨.ETH_CNT, 32, 32⟩

/-! ## ECH_DST (Table LNK-12, 13_lane_pool_and_partners.md) -/

def F.ECH_DST_DMAC : Fld := ⟨.ECH_DST, 0, 48⟩
def F.ECH_DST_SPORT : Fld := ⟨.ECH_DST, 48, 16⟩

/-! ## ECH_IP (Table LNK-12, 13_lane_pool_and_partners.md) -/

def F.ECH_IP_DIP : Fld := ⟨.ECH_IP, 0, 32⟩
def F.ECH_IP_DPORT : Fld := ⟨.ECH_IP, 32, 16⟩
def F.ECH_IP_SOURCE_ID : Fld := ⟨.ECH_IP, 48, 16⟩

/-! ## ECH_CFG (Table LNK-12, 13_lane_pool_and_partners.md) -/

def F.ECH_CFG_QUEUE : Fld := ⟨.ECH_CFG, 0, 16⟩
def F.ECH_CFG_EN : Fld := ⟨.ECH_CFG, 16, 1⟩
def F.ECH_CFG_HB_EXP : Fld := ⟨.ECH_CFG, 17, 6⟩

/-! ## ECH_STAT (Table LNK-12, 13_lane_pool_and_partners.md) -/

def F.ECH_STAT_DSEQ : Fld := ⟨.ECH_STAT, 0, 32⟩
def F.ECH_STAT_ACTIVE : Fld := ⟨.ECH_STAT, 32, 1⟩
def F.ECH_STAT_ERR : Fld := ⟨.ECH_STAT, 33, 1⟩

/-! ## DLP_CFG (Table LNK-13, 13_lane_pool_and_partners.md) -/

def F.DLP_CFG_EN : Fld := ⟨.DLP_CFG, 0, 1⟩
def F.DLP_CFG_DETACH_Q : Fld := ⟨.DLP_CFG, 1, 1⟩
def F.DLP_CFG_CREDIT_TO : Fld := ⟨.DLP_CFG, 2, 16⟩
def F.DLP_CFG_CRC_LIM : Fld := ⟨.DLP_CFG, 18, 6⟩
def F.DLP_CFG_TIME_EN : Fld := ⟨.DLP_CFG, 24, 1⟩

/-! ## DLP_STAT (Table LNK-13, 13_lane_pool_and_partners.md) -/

def F.DLP_STAT_STATE : Fld := ⟨.DLP_STAT, 0, 3⟩
def F.DLP_STAT_ENTRY : Fld := ⟨.DLP_STAT, 3, 5⟩
def F.DLP_STAT_ENTRY_VALID : Fld := ⟨.DLP_STAT, 8, 1⟩
def F.DLP_STAT_TX_CRED : Fld := ⟨.DLP_STAT, 16, 16⟩

/-! ## DLP_CNT (Table LNK-13, 13_lane_pool_and_partners.md) -/

def F.DLP_CNT_CRC_CNT : Fld := ⟨.DLP_CNT, 0, 16⟩
def F.DLP_CNT_SEQ_GAP_CNT : Fld := ⟨.DLP_CNT, 16, 16⟩
def F.DLP_CNT_HS_FAIL_CNT : Fld := ⟨.DLP_CNT, 32, 16⟩
def F.DLP_CNT_BAD_FRAME_CNT : Fld := ⟨.DLP_CNT, 48, 16⟩

/-! ## PT_STAT (Table LNK-13, 13_lane_pool_and_partners.md) -/

def F.PT_STAT_ATTACHED : Fld := ⟨.PT_STAT, 0, 1⟩
def F.PT_STAT_GEN : Fld := ⟨.PT_STAT, 8, 8⟩
def F.PT_STAT_LINK : Fld := ⟨.PT_STAT, 16, 6⟩
def F.PT_STAT_CLASS : Fld := ⟨.PT_STAT, 24, 8⟩
def F.PT_STAT_CAPS : Fld := ⟨.PT_STAT, 32, 16⟩
def F.PT_STAT_REQ_Q : Fld := ⟨.PT_STAT, 48, 16⟩

/-! ## PT_ID0 (Table LNK-13, 13_lane_pool_and_partners.md) -/

def F.PT_ID0_IDENTITY : Fld := ⟨.PT_ID0, 0, 64⟩

/-! ## PT_ID1 (Table LNK-13, 13_lane_pool_and_partners.md) -/

def F.PT_ID1_IDENTITY : Fld := ⟨.PT_ID1, 0, 64⟩

/-! ## PT_TIME (Table LNK-13, 13_lane_pool_and_partners.md) -/

def F.PT_TIME_OFFSET : Fld := ⟨.PT_TIME, 0, 40⟩
def F.PT_TIME_DELAY : Fld := ⟨.PT_TIME, 40, 24⟩

/-! ## PT_CNT (Table LNK-13, 13_lane_pool_and_partners.md) -/

def F.PT_CNT_RX_BUNDLES : Fld := ⟨.PT_CNT, 0, 32⟩
def F.PT_CNT_DENIED_CNT : Fld := ⟨.PT_CNT, 32, 32⟩

/-! ## ACC_WRANGE (Table ACC-8, 14_access_and_security.md) -/

def F.ACC_WRANGE_BASE : Fld := ⟨.ACC_WRANGE, 0, 32⟩
def F.ACC_WRANGE_LIMIT : Fld := ⟨.ACC_WRANGE, 32, 32⟩

/-! ## ACC_WCTRL (Table ACC-8, 14_access_and_security.md) -/

def F.ACC_WCTRL_EN : Fld := ⟨.ACC_WCTRL, 0, 1⟩

/-! ## ACC_RD_LO (Table ACC-8, 14_access_and_security.md) -/

def F.ACC_RD_LO_MASK : Fld := ⟨.ACC_RD_LO, 0, 64⟩

/-! ## ACC_WR_LO (Table ACC-8, 14_access_and_security.md) -/

def F.ACC_WR_LO_MASK : Fld := ⟨.ACC_WR_LO, 0, 64⟩

/-! ## ACC_RD_HI (Table ACC-8, 14_access_and_security.md) -/

def F.ACC_RD_HI_MASK : Fld := ⟨.ACC_RD_HI, 0, 30⟩

/-! ## ACC_WR_HI (Table ACC-8, 14_access_and_security.md) -/

def F.ACC_WR_HI_MASK : Fld := ⟨.ACC_WR_HI, 0, 30⟩

/-! ## ACC_VSTAT (Table ACC-8, 14_access_and_security.md) -/

def F.ACC_VSTAT_VCNT : Fld := ⟨.ACC_VSTAT, 0, 32⟩
def F.ACC_VSTAT_VALID : Fld := ⟨.ACC_VSTAT, 32, 1⟩
def F.ACC_VSTAT_IE : Fld := ⟨.ACC_VSTAT, 33, 1⟩

/-! ## ACC_VCAP0 (Table ACC-8, 14_access_and_security.md) -/

def F.ACC_VCAP0_MASTER : Fld := ⟨.ACC_VCAP0, 0, 7⟩
def F.ACC_VCAP0_WRITE : Fld := ⟨.ACC_VCAP0, 7, 1⟩
def F.ACC_VCAP0_TARGET : Fld := ⟨.ACC_VCAP0, 8, 8⟩

/-! ## ACC_VCAP1 (Table ACC-8, 14_access_and_security.md) -/

def F.ACC_VCAP1_ADDRESS : Fld := ⟨.ACC_VCAP1, 0, 64⟩

/-! ## ACC_K3WIN (Table ACC-8, 14_access_and_security.md) -/

def F.ACC_K3WIN_K3_BLK : Fld := ⟨.ACC_K3WIN, 0, 9⟩

/-! ## ACC_BOOT (Table ACC-8, 14_access_and_security.md) -/

def F.ACC_BOOT_IMAGE : Fld := ⟨.ACC_BOOT, 0, 1⟩
def F.ACC_BOOT_FALLBACK : Fld := ⟨.ACC_BOOT, 1, 1⟩
def F.ACC_BOOT_TRIAL : Fld := ⟨.ACC_BOOT, 2, 1⟩
def F.ACC_BOOT_SECURE_EN : Fld := ⟨.ACC_BOOT, 3, 1⟩
def F.ACC_BOOT_DEBUG_UNLOCKED : Fld := ⟨.ACC_BOOT, 4, 1⟩
def F.ACC_BOOT_UNLOCK_FAILS : Fld := ⟨.ACC_BOOT, 5, 3⟩
def F.ACC_BOOT_FAIL_A : Fld := ⟨.ACC_BOOT, 8, 8⟩
def F.ACC_BOOT_FAIL_B : Fld := ⟨.ACC_BOOT, 16, 8⟩
def F.ACC_BOOT_SVN_FLOOR : Fld := ⟨.ACC_BOOT, 24, 8⟩

/-! ## PWR_ENG (Table PWR-11, 15_power_reset_recovery.md) -/

def F.PWR_ENG_PHASE : Fld := ⟨.PWR_ENG, 0, 2⟩
def F.PWR_ENG_READY : Fld := ⟨.PWR_ENG, 2, 1⟩
def F.PWR_ENG_RECOVERING : Fld := ⟨.PWR_ENG, 3, 1⟩
def F.PWR_ENG_LAST_WAKE : Fld := ⟨.PWR_ENG, 4, 4⟩
def F.PWR_ENG_WAKE_LANE : Fld := ⟨.PWR_ENG, 8, 9⟩
def F.PWR_ENG_LOCAL_HOLD : Fld := ⟨.PWR_ENG, 17, 1⟩
def F.PWR_ENG_LAST_RESET : Fld := ⟨.PWR_ENG, 24, 3⟩

/-! ## PWR_RST (Table PWR-11, 15_power_reset_recovery.md) -/

def F.PWR_RST_SOFT_ENGINE : Fld := ⟨.PWR_RST, 0, 1⟩
def F.PWR_RST_SOFT_CORE : Fld := ⟨.PWR_RST, 1, 1⟩
def F.PWR_RST_PENDING : Fld := ⟨.PWR_RST, 2, 1⟩

/-! ## PWR_BRST (Table PWR-11, 15_power_reset_recovery.md) -/

def F.PWR_BRST_BLOCK : Fld := ⟨.PWR_BRST, 0, 32⟩

/-! ## PWR_WAKE (Table PWR-11, 15_power_reset_recovery.md) -/

def F.PWR_WAKE_ALARM_EN : Fld := ⟨.PWR_WAKE, 0, 1⟩
def F.PWR_WAKE_I2C_EN : Fld := ⟨.PWR_WAKE, 1, 1⟩
def F.PWR_WAKE_PERST_EN : Fld := ⟨.PWR_WAKE, 2, 1⟩
def F.PWR_WAKE_WAKE_N_EN : Fld := ⟨.PWR_WAKE, 3, 1⟩

/-! ## PWR_ALARM (Table PWR-11, 15_power_reset_recovery.md) -/

def F.PWR_ALARM_ALARM : Fld := ⟨.PWR_ALARM, 0, 64⟩

/-! ## PWR_CSTAT (Table PWR-11, 15_power_reset_recovery.md) -/

def F.PWR_CSTAT_RUN : Fld := ⟨.PWR_CSTAT, 0, 48⟩

/-! ## PWR_HB (Table PWR-11, 15_power_reset_recovery.md) -/

def F.PWR_HB_AGE : Fld := ⟨.PWR_HB, 0, 16⟩
def F.PWR_HB_BEAT : Fld := ⟨.PWR_HB, 16, 1⟩

/-! ## PWR_HBW (Table PWR-11, 15_power_reset_recovery.md) -/

def F.PWR_HBW_AGE : Fld := ⟨.PWR_HBW, 0, 16⟩
def F.PWR_HBW_BEAT : Fld := ⟨.PWR_HBW, 16, 1⟩

/-! ## PWR_REC (Table PWR-11, 15_power_reset_recovery.md) -/

def F.PWR_REC_WARDEN : Fld := ⟨.PWR_REC, 0, 1⟩
def F.PWR_REC_LR_HALT : Fld := ⟨.PWR_REC, 1, 1⟩
def F.PWR_REC_HB3_EN : Fld := ⟨.PWR_REC, 2, 1⟩
def F.PWR_REC_LR_CAUSE : Fld := ⟨.PWR_REC, 3, 1⟩
def F.PWR_REC_LR_IMAGE : Fld := ⟨.PWR_REC, 4, 1⟩
def F.PWR_REC_TAKEOVER_CNT : Fld := ⟨.PWR_REC, 8, 8⟩
def F.PWR_REC_LR_CNT : Fld := ⟨.PWR_REC, 16, 8⟩
def F.PWR_REC_CORE_RST_CNT : Fld := ⟨.PWR_REC, 24, 8⟩

/-! ## PWR_LRT (Table PWR-11, 15_power_reset_recovery.md) -/

def F.PWR_LRT_T_FAULT : Fld := ⟨.PWR_LRT, 0, 64⟩

/-! ## PWR_EVT (Table PWR-11, 15_power_reset_recovery.md) -/

def F.PWR_EVT_WOKE : Fld := ⟨.PWR_EVT, 0, 1⟩
def F.PWR_EVT_SLEEP_ABANDONED : Fld := ⟨.PWR_EVT, 1, 1⟩
def F.PWR_EVT_HB_MISS : Fld := ⟨.PWR_EVT, 2, 1⟩
def F.PWR_EVT_CORE_RESTART : Fld := ⟨.PWR_EVT, 3, 1⟩
def F.PWR_EVT_TAKEOVER : Fld := ⟨.PWR_EVT, 4, 1⟩
def F.PWR_EVT_LR_RESTART : Fld := ⟨.PWR_EVT, 5, 1⟩
def F.PWR_EVT_DOMAIN_ERR : Fld := ⟨.PWR_EVT, 6, 1⟩
def F.PWR_EVT_READY : Fld := ⟨.PWR_EVT, 7, 1⟩
def F.PWR_EVT_IE : Fld := ⟨.PWR_EVT, 16, 8⟩

/-! ## MU_CFG (Table MON-6, 16_monitoring_and_errors.md) -/

def F.MU_CFG_EN : Fld := ⟨.MU_CFG, 0, 1⟩
def F.MU_CFG_KIND : Fld := ⟨.MU_CFG, 1, 2⟩
def F.MU_CFG_HI_EN : Fld := ⟨.MU_CFG, 3, 1⟩
def F.MU_CFG_LO_EN : Fld := ⟨.MU_CFG, 4, 1⟩
def F.MU_CFG_TARGET : Fld := ⟨.MU_CFG, 16, 16⟩

/-! ## MU_LIM (Table MON-6, 16_monitoring_and_errors.md) -/

def F.MU_LIM_HI : Fld := ⟨.MU_LIM, 0, 32⟩
def F.MU_LIM_LO : Fld := ⟨.MU_LIM, 32, 32⟩

/-! ## MU_CTRL (Table MON-6, 16_monitoring_and_errors.md) -/

def F.MU_CTRL_RESTART : Fld := ⟨.MU_CTRL, 0, 1⟩

/-! ## MU_STAT (Table MON-6, 16_monitoring_and_errors.md) -/

def F.MU_STAT_VALUE : Fld := ⟨.MU_STAT, 0, 32⟩
def F.MU_STAT_SAMPLES : Fld := ⟨.MU_STAT, 32, 32⟩

/-! ## MU_MINMAX (Table MON-6, 16_monitoring_and_errors.md) -/

def F.MU_MINMAX_MIN : Fld := ⟨.MU_MINMAX, 0, 32⟩
def F.MU_MINMAX_MAX : Fld := ⟨.MU_MINMAX, 32, 32⟩

/-! ## MU_EVT (Table MON-6, 16_monitoring_and_errors.md) -/

def F.MU_EVT_HIGH : Fld := ⟨.MU_EVT, 0, 1⟩
def F.MU_EVT_LOW : Fld := ⟨.MU_EVT, 1, 1⟩
def F.MU_EVT_IE : Fld := ⟨.MU_EVT, 8, 2⟩

/-! ## MON_ECC_CFG (Table MON-6, 16_monitoring_and_errors.md) -/

def F.MON_ECC_CFG_SCRUB_EXP : Fld := ⟨.MON_ECC_CFG, 0, 4⟩
def F.MON_ECC_CFG_CE_LIMIT : Fld := ⟨.MON_ECC_CFG, 32, 32⟩

/-! ## MON_ECC_CNT (Table MON-6, 16_monitoring_and_errors.md) -/

def F.MON_ECC_CNT_CE_CNT : Fld := ⟨.MON_ECC_CNT, 0, 32⟩
def F.MON_ECC_CNT_UE_CNT : Fld := ⟨.MON_ECC_CNT, 32, 16⟩
def F.MON_ECC_CNT_UE_DISC : Fld := ⟨.MON_ECC_CNT, 48, 16⟩

/-! ## MON_CE_ADDR (Table MON-6, 16_monitoring_and_errors.md) -/

def F.MON_CE_ADDR_ADDR : Fld := ⟨.MON_CE_ADDR, 0, 30⟩
def F.MON_CE_ADDR_VALID : Fld := ⟨.MON_CE_ADDR, 30, 1⟩

/-! ## MON_UE_ADDR (Table MON-6, 16_monitoring_and_errors.md) -/

def F.MON_UE_ADDR_ADDR : Fld := ⟨.MON_UE_ADDR, 0, 30⟩
def F.MON_UE_ADDR_VALID : Fld := ⟨.MON_UE_ADDR, 30, 1⟩

/-! ## MON_THERM_CFG (Table MON-6, 16_monitoring_and_errors.md) -/

def F.MON_THERM_CFG_WARN_T : Fld := ⟨.MON_THERM_CFG, 0, 16⟩
def F.MON_THERM_CFG_CRIT_T : Fld := ⟨.MON_THERM_CFG, 16, 16⟩

/-! ## MON_THERM_STAT (Table MON-6, 16_monitoring_and_errors.md) -/

def F.MON_THERM_STAT_FAULT : Fld := ⟨.MON_THERM_STAT, 0, 40⟩
def F.MON_THERM_STAT_WARN : Fld := ⟨.MON_THERM_STAT, 40, 1⟩
def F.MON_THERM_STAT_CRIT : Fld := ⟨.MON_THERM_STAT, 41, 1⟩
def F.MON_THERM_STAT_TRIPPED : Fld := ⟨.MON_THERM_STAT, 42, 1⟩

/-! ## MON_EVT (Table MON-6, 16_monitoring_and_errors.md) -/

def F.MON_EVT_VAULT_ERR : Fld := ⟨.MON_EVT, 0, 1⟩
def F.MON_EVT_VAULT_WRITE : Fld := ⟨.MON_EVT, 1, 1⟩
def F.MON_EVT_STORE_CE : Fld := ⟨.MON_EVT, 2, 1⟩
def F.MON_EVT_STORE_UE : Fld := ⟨.MON_EVT, 3, 1⟩
def F.MON_EVT_POOL_FORCE : Fld := ⟨.MON_EVT, 4, 1⟩
def F.MON_EVT_GUEST_FAULT : Fld := ⟨.MON_EVT, 5, 1⟩
def F.MON_EVT_WATCHDOG : Fld := ⟨.MON_EVT, 6, 1⟩
def F.MON_EVT_THERM_WARN : Fld := ⟨.MON_EVT, 7, 1⟩
def F.MON_EVT_THERM_CRIT : Fld := ⟨.MON_EVT, 8, 1⟩
def F.MON_EVT_SENSOR_FAULT : Fld := ⟨.MON_EVT, 9, 1⟩
def F.MON_EVT_IE : Fld := ⟨.MON_EVT, 16, 10⟩

/-! ## MON_TEMP (Table MON-6, 16_monitoring_and_errors.md) -/

def F.MON_TEMP_TEMP : Fld := ⟨.MON_TEMP, 0, 16⟩

/-! ## REG_ID (Table REG-5, 17_register_maps.md) -/

def F.REG_ID_DEVICE : Fld := ⟨.REG_ID, 0, 16⟩
def F.REG_ID_STEPPING : Fld := ⟨.REG_ID, 16, 8⟩
def F.REG_ID_LAYOUT : Fld := ⟨.REG_ID, 24, 8⟩

/-! ## REG_FW (Table REG-5, 17_register_maps.md) -/

def F.REG_FW_RELEASE : Fld := ⟨.REG_FW, 0, 32⟩
def F.REG_FW_FW_VALID : Fld := ⟨.REG_FW, 32, 1⟩
def F.REG_FW_IMAGE : Fld := ⟨.REG_FW, 33, 1⟩

/-! ## REG_IDENT0 (Table REG-5, 17_register_maps.md) -/

def F.REG_IDENT0_IDENTITY : Fld := ⟨.REG_IDENT0, 0, 64⟩

/-! ## REG_IDENT1 (Table REG-5, 17_register_maps.md) -/

def F.REG_IDENT1_IDENTITY : Fld := ⟨.REG_IDENT1, 0, 64⟩

/-! ## REG_CAPS (Table REG-5, 17_register_maps.md) -/

def F.REG_CAPS_WARDS : Fld := ⟨.REG_CAPS, 0, 8⟩
def F.REG_CAPS_LANES : Fld := ⟨.REG_CAPS, 8, 10⟩
def F.REG_CAPS_SECURE_EN : Fld := ⟨.REG_CAPS, 24, 1⟩
def F.REG_CAPS_WARD_FAIL : Fld := ⟨.REG_CAPS, 25, 1⟩

/-! ## REG_GSTAT (Table REG-5, 17_register_maps.md) -/

def F.REG_GSTAT_READY : Fld := ⟨.REG_GSTAT, 0, 1⟩
def F.REG_GSTAT_RECOVERING : Fld := ⟨.REG_GSTAT, 1, 1⟩
def F.REG_GSTAT_BOOT_FAIL : Fld := ⟨.REG_GSTAT, 2, 1⟩
def F.REG_GSTAT_LR_HALT : Fld := ⟨.REG_GSTAT, 3, 1⟩
def F.REG_GSTAT_FAULT : Fld := ⟨.REG_GSTAT, 4, 1⟩
def F.REG_GSTAT_TPLL_STATE : Fld := ⟨.REG_GSTAT, 5, 3⟩
def F.REG_GSTAT_OPLL_STATE : Fld := ⟨.REG_GSTAT, 8, 3⟩
def F.REG_GSTAT_DEBUG_UNLOCKED : Fld := ⟨.REG_GSTAT, 11, 1⟩

/-! ## REG_T64 (Table REG-5, 17_register_maps.md) -/

def F.REG_T64_T64 : Fld := ⟨.REG_T64, 0, 64⟩

/-! ## REG_BANK (Table REG-5, 17_register_maps.md) -/

def F.REG_BANK_SWIN_BLK : Fld := ⟨.REG_BANK, 0, 9⟩
def F.REG_BANK_CPAGE : Fld := ⟨.REG_BANK, 0, 3⟩

/-! ## REG_SCRATCH (Table REG-5, 17_register_maps.md) -/

def F.REG_SCRATCH_SCRATCH : Fld := ⟨.REG_SCRATCH, 0, 64⟩

/-! ## REG_WHOAMI (Table REG-5, 17_register_maps.md) -/

def F.REG_WHOAMI_MASTER : Fld := ⟨.REG_WHOAMI, 0, 7⟩

/-! ## REG_ACNT (Table REG-5, 17_register_maps.md) -/

def F.REG_ACNT_OFFDOM_CNT : Fld := ⟨.REG_ACNT, 0, 32⟩

end Sys2Proof.Machine
end

