-- ==== Sys2Proof/Machine/Tab.lean ====
section
/-!
DEFINITION. The one form in which the state holds sparse data: a list of key and value pairs, keys strictly rising, no
entry equal to what an unlisted key reads as, so that equal contents are equal lists. Registers, memories and the
per-unit tables are all held so.
-/

namespace Sys2Proof.Machine

/-- Key and value pairs in the canonical form of `Tab.wf`. -/
abbrev Tab (α : Type) := List (Nat × α)

/-- The entry of key `k`, if one is listed. -/
def Tab.find {α : Type} : Tab α → Nat → Option α
  | [], _ => none
  | (j, v) :: t, k => if j = k then some v else Tab.find t k

/-- What key `k` reads as; `d` gives an unlisted key's value. -/
def Tab.get {α : Type} (d : Nat → α) (t : Tab α) (k : Nat) : α :=
  (Tab.find t k).getD (d k)

/-- The table without any entry of key `k`. -/
def Tab.erase {α : Type} : Tab α → Nat → Tab α
  | [], _ => []
  | (j, v) :: t, k => if j = k then Tab.erase t k else (j, v) :: Tab.erase t k

/-- Put an entry before the first larger key. -/
def Tab.place {α : Type} : Tab α → Nat → α → Tab α
  | [], k, v => [(k, v)]
  | (j, x) :: t, k, v => if k < j then (k, v) :: (j, x) :: t else (j, x) :: Tab.place t k v

/-- Write key `k`: a value equal to the unlisted one removes the entry. -/
def Tab.set {α : Type} [DecidableEq α] (d : Nat → α) (t : Tab α) (k : Nat) (v : α) : Tab α :=
  if v = d k then Tab.erase t k else Tab.place (Tab.erase t k) k v

/-- Every key of the table is larger than `n`. -/
def Tab.above {α : Type} (n : Nat) : Tab α → Bool
  | [] => true
  | (j, _) :: t => decide (n < j) && Tab.above n t

/-- The canonical form: keys strictly rising, no entry equal to the unlisted value. -/
def Tab.wf {α : Type} [DecidableEq α] (d : Nat → α) : Tab α → Bool
  | [] => true
  | (j, v) :: t => decide (v ≠ d j) && Tab.above j t && Tab.wf d t

/-- The table with only the entries whose key satisfies `p` (used by the resets, which take the others back to their
unlisted values). -/
def Tab.keep {α : Type} (p : Nat → Bool) : Tab α → Tab α
  | [] => []
  | (j, v) :: t => if p j then (j, v) :: Tab.keep p t else Tab.keep p t

end Sys2Proof.Machine
end

