-- ==== Sys2Proof/Machine/State.lean ====
section
/-!
DEFINITION. The state of the block as plain data: every register, in one sparse table, and beside the registers the
state that the spec's rules give the units without giving it a register (sequences in progress, open gates, waiting
records, open bundles, memories and so on); the queue of commands that wait; the reasons a command can stop; and the
state at reset.
-/

namespace Sys2Proof.Machine

/-- Why the machine would stop with a fault. No meaning of this model answers with one: every error the spec
describes is an effect on the state (an event bit, a counter, a response status). -/
inductive Fault where
  /-- Raised by no command. Kept so that the type has a value; safe. -/
  | none
  deriving DecidableEq, Repr

/-- Why a command is refused. -/
inductive Refusal where
  /-- Raised by an arm of `exec` for a command that has no meaning yet. Safe: the machine stops. -/
  | notModelled (mnemonic : String)
  deriving DecidableEq, Repr

/-- What register word `k` of the register table reads as while nothing is listed for it: the reset value of its
field map (key `256 * i + r` is register `r` of index `i`). The reset values that depend on the index or that are
computed from other state are given where they are read. -/
def Reg.key (r : Reg) (i : Nat) : Nat := i * 256 + r.ctorIdx

/-! ## Records and bundles -/

/-- A record in flight: the T64 at which its owning chapter times it for ordering, its words, the lane it is
attributed to (R164), whether it is an AXIS record with CLOSE = 1, whether it is an EVENT or AXIS record, which is
never dropped (R161), for a ward-sourced AXIS record the lanes of its block that it follows (R157), and for a record
that the fast path has still to write the queues left. -/
structure Rec where
  t     : Nat
  ws    : List Word
  lane  : Option Nat := none
  close : Bool := false
  ev    : Bool := false
  mask  : Nat := 0
  dest  : Option (List Nat) := none
  deriving DecidableEq, Repr

/-- A bundle from its opening to its placement (R252, R257): queue, producer, records, floor, horizon, the T64 and the
progress at its opening, the T64 of its close while it awaits placement, whether it holds an assembly buffer, whether
it only counts (a would-be bundle of a queue that is not enabled, R251), its trailer flags so far, and the
step instant in the new scale at which it must end where a timebase step finds it open (R237). -/
structure Bundle where
  q        : Nat
  producer : Nat
  recs     : List Rec
  floor    : Nat
  horizon  : Nat
  openT    : Nat
  openH    : Nat
  closedT  : Nat := 0
  buf      : Bool := true
  dead     : Bool := false
  forced   : Bool := false
  straddle : Bool := false
  cut      : Option Nat := none
  deriving DecidableEq, Repr

/-! ## Lane front end (chapter 02) -/

/-- A running or recovering ramp (R31 to R35): its start, the settings it started with, whether it is held at ±1.2 V,
and once it has stopped the instant its recovery ends. -/
structure Ramp where
  ts      : Nat
  slope   : Nat
  dir     : Bool
  max     : Nat
  clamped : Bool := false
  recEnd  : Option Nat := none
  deriving DecidableEq, Repr

/-- A switching sequence (R42, R43): the pending configuration, the original t_b, the reference t_r, and how far it has
come (0 before t_b, 1 blanked, 2 unneeded circuits off and terminations new). -/
structure SwSeq where
  cfg   : Word
  tb    : Nat
  tr    : Nat
  stage : Nat
  deriving DecidableEq, Repr

/-- What a front end holds beside its registers: the configuration its circuits run in, a switching sequence, the
threshold word in force and the boundary at which a written one takes effect (R30), the ramp, and whether the input is
in overload (R22). -/
structure FreUnit where
  cfg   : Word := 0xA0
  sw    : Option SwSeq := none
  thr   : Word := 0
  thrAt : Option Nat := none
  ramp  : Option Ramp := none
  ovl   : Bool := false
  deriving DecidableEq, Repr

/-! ## Time capture (chapter 03) -/

/-- The stamping circuits of one front end: the interpolator next in rotation and, for IN (comparator A or the IN
receiver), comparator B and CMP, the reception of the last fully stamped edge and the last stamp of that input. -/
structure CapHw where
  rot   : Nat := 0
  fullA : Option Nat := none
  fullB : Option Nat := none
  fullC : Option Nat := none
  lastA : Option Nat := none
  lastB : Option Nat := none
  lastC : Option Nat := none
  deriving DecidableEq, Repr

/-- An A assertion that waits for its partner, with the settings it was made under (R61, R72) and its reception. -/
structure Search where
  tA    : Nat
  q     : Nat
  pick  : Nat
  win   : Nat
  k     : Nat
  kOk   : Bool
  bank  : Nat
  unit  : Nat
  rx    : Nat := tA
  deriving DecidableEq, Repr

/-- A record held in a lane's output stage (R70): records with equal times leave by rank (0 the lane's EVENTs and
results timed at a boundary, 1 IN, 2 CMP), and records of one input in the order of their edges, which is that of the
edges' stamps. -/
structure Held where
  rank : Nat
  ord  : Nat := 0
  r    : Rec
  deriving DecidableEq, Repr

/-- An edge as one front end has taken it: its circuit and polarity, whether it is the ramp's firing, its reception,
its unrounded stamp without skew correction in 2^-10 tick, its stamp and whether that is a full one, whether EDGE_SEL
or CMP_SEL selects it, whether the prescaler passes it, and whether a stamp was formed for it beyond the overlap's own
use; and in an overlap, for an edge of the side whose stamps decide, whether that side owns it and whether it was taken
as a partner (R80, R84, R85). With it go the settings at its reception: CAP_LANECFG, CAP_PICK, the DT factor and its
validity (R72). -/
structure Seen where
  circ    : Circuit
  lv      : Bool
  fired   : Bool := false
  rx      : Nat
  raw     : Int
  t       : Nat
  full    : Bool
  chosen  : Bool := false
  pass    : Bool := false
  stamped : Bool := false
  own     : Bool := true
  taken   : Bool := false
  cfg     : Word := 0x121
  pick    : Word := 0
  k       : Nat := 0
  kOk     : Bool := false
  deriving DecidableEq, Repr

/-- A partner event that no assertion has taken yet, though one of no later stamp may still be on its way (R61): the
unit that saw it, the event, whether it has been counted as an orphan, and its record in the output stage. -/
structure Early where
  unit    : Nat
  e       : Seen
  counted : Bool
  rcd     : Option Held := none
  deriving DecidableEq, Repr

/-- What a lane's capture holds beside its registers: the configuration words in force and the boundary at which
written ones take effect (R72) and whether CAP_LANECFG is one of them, the prescaler's phase, whether the last
assertion was passed (R56), the DT baseline and factor it computes from, the A assertions that wait for partners, the
partner events of late that none has taken, the output stage, the buffer in front of the block merge (R159), and the run
of dropped records (count, time of the first, time of the last; R160). -/
structure LaneCap where
  cfg      : Word := 0x121
  pick     : Word := 0
  base     : Nat := 0
  pendAt   : Option Nat := none
  pendCfg  : Bool := false
  pres     : Nat := 0
  passed   : Bool := false
  searches : List Search := []
  early    : List Early := []
  held     : List Held := []
  buf      : List Rec := []
  drop     : Option (Nat × Nat × Nat) := none
  deriving DecidableEq, Repr

/-! ## Calibration (chapter 04) -/

/-- One set of calibration tables of a unit (Table CAL-4): bin centres in the order interpolator * 512 + code (none:
the default table of R51), the three delays (none: the default delays of R51), offset trims, ramp gain and latency,
delay coefficients, DAC check points. -/
structure CalTables where
  bins : List Nat := []
  dly  : Option (Nat × Nat × Nat) := none
  offs : List Int := [0, 0]
  gain : Nat := 0x8000
  lat  : Nat := 0
  tc   : List Int := [0, 0, 0]
  dac  : List Int := []
  deriving DecidableEq, Repr

/-- What a unit (lane 0 to 511, relief lane 512 + b) holds for calibration: the tables in force, the
temperature offset of FROZEN on its delays (R92), whether a skew is retained, the T64 of its last vault write, the
stored flags, the tables last stored, its own quality figures PREC_FS, DNL_RMS and INL_PEAK (R103), a blank of a gap
(t_g and, once known, t_e; R92, R93, R102), the baseline in use and its sampling: the quiet window's opening, the sample
of the aperture, and whether comparator A asserted meanwhile (R95, R96). -/
structure CalUnit where
  tab     : CalTables := {}
  model   : Int × Int × Int := (0, 0, 0)
  skewOk  : Bool := false
  lastWr  : Option Nat := none
  stored  : CalTables := {}
  prec    : Nat := 0
  dnl     : Nat := 0
  inl     : Nat := 0
  gapG    : Option Nat := none
  gapE    : Option Nat := none
  quietAt : Option Nat := none
  sample  : Option Int := none
  hit     : Bool := false
  deriving DecidableEq, Repr

/-- An overlap in progress (R80 to R84): whether it is the handback's, its start, whether matching has begun and since
when; the edges that wait for their copies, in order, of the side whose stamps decide (the lane's at the handover, the
relief lane's at the handback) and of the other side; the other side's prescaler phase and whether its last
assertion was passed (R85); the number of matched IN edges, and the sums of S_lane - S_relief over odd and even matched
edges with their counts. -/
structure Overlap where
  back   : Bool
  t0     : Nat
  start  : Option Nat := none
  qD     : List Seen := []
  qN     : List Seen := []
  pres   : Nat := 0
  passed : Bool := false
  n      : Nat := 0
  sums   : Int × Int := (0, 0)
  cnts   : Nat × Nat := (0, 0)
  deriving DecidableEq, Repr

/-- A block's calibration sequencer: the next position in order, units named for the head of the cycle, the positions
skipped for this sweep (R82), the instant the unit in hand was taken and whether its cycle has overlaps, the overlap,
the boundary t_h or t_k once chosen, the skew agreed and whether it was retained, failed alignments and skew
disagreements in a row, whether the static runs agreed, the pulser hits and each interpolator's jitter of the first
code-density run, the new tables so far, code-density runs done, the end of the pause between sweeps, the sum and
number of the steps of the clean overlap (R86), a unit under reinstatement with its former state and whether its
last cycle agreed (R318), and the jitters for the quality figures. -/
structure CalBlk where
  next   : Nat := 0
  prio   : List Nat := []
  skipped : List Nat := []
  t0     : Nat := 0
  laps   : Bool := false
  ov     : Option Overlap := none
  bound  : Option Nat := none
  skew   : Int := 0
  kept   : Bool := false
  fails  : Nat := 0
  disK   : Nat := 0
  statOk : Bool := false
  hits1  : List Nat := []
  jit1   : List Nat := []
  new    : Option CalTables := none
  runs   : Nat := 0
  pauseT : Option Nat := none
  stepD  : Int := 0
  stepN  : Nat := 0
  reinst : Option (Nat × Nat) := none
  agreed : Bool := false
  jitter : List Nat := []
  deriving DecidableEq, Repr

/-- A calibration slot write (R99): the unit, the slot (1 A, 2 B), the bytes of the slot when it completes, and
the SEQ that it held before. -/
structure VaultWr where
  unit : Nat
  slot : Nat
  data : List Byte
  old  : List Byte
  deriving DecidableEq, Repr

/-! ## Counting and pairing (chapter 05) -/

/-- A boundary request (Table CNT-1): its instant, the kind of gate it opens (none: the same kind as the gate it
ends), how many requests it stands for (R108), and whether it is that of the open gate's maximum length. -/
structure Req where
  tb   : Nat
  idle : Option Bool := none
  n    : Nat := 1
  max  : Bool := false
  deriving DecidableEq, Repr

/-- An open gate: the CNT_CFG and CNT_COUNT words it opened under, whether its maximum length has been requested and
whether its opening boundary has counted as a merged one (R107, R108), its index, whether it is idle, the instant that
opened it (R112), t0 (the opening stamp, or B), the counted edges, the edge index of its first edge, the regression
accumulators of Table CNT-3, the asserted time and the last rising stamp for DUTY, its marks: discontinuity,
uncalibrated, relief-carried, stamp limit reached, and the reception of its first edge. -/
structure Gate where
  cfg   : Word
  count : Word := 0
  maxed : Bool := false
  merged : Bool := false
  idx   : Nat
  idle  : Bool
  topen : Nat
  t0    : Nat
  n     : Nat := 0
  first : Nat := 0
  rn    : Nat := 0
  sI    : Nat := 0
  sII   : Nat := 0
  sT    : Nat := 0
  sTT   : Nat := 0
  sIT   : Nat := 0
  high  : Nat := 0
  rise  : Option Nat := none
  disc  : Bool := false
  uncal : Bool := false
  rel   : Bool := false
  limit : Bool := false
  rx0   : Nat := t0
  deriving DecidableEq, Repr

/-- A statistics unit (R127, R128): its configuration in force, the first gate index of the period in hand, the time
its first gate began, over the samples so far their number, the first, the sums, the extremes and the marks; and of a
pairing unit whether its first period waits for the next gate, and the boundaries that wait until no result timed
before them can still be formed (instant, that instant as a record carries it, gate index there, and whether the period
in hand goes on, 1 closes there, or 2 is given up). -/
structure Stat where
  on    : Bool := false
  wait  : Bool := false
  cfg   : Nat := 0
  first : Nat := 0
  start : Nat := 0
  n     : Nat := 0
  x0    : Int := 0
  sx    : Int := 0
  sd    : Int := 0
  sdd   : Int := 0
  mn    : Int := 0
  mx    : Int := 0
  sat   : Bool := false
  q10   : Bool := false
  q01   : Bool := false
  due   : List (Nat × Nat × Nat × Nat) := []
  deriving DecidableEq, Repr

/-- An edge that a counting engine sees: its reception, its polarity, its stamp and whether that is a full one, where
the prescaler passed it and it was stamped, and whether a relief lane carried it. -/
structure CntIn where
  rx  : Nat
  lv  : Bool
  st  : Option (Nat × Bool)
  rel : Bool
  deriving DecidableEq, Repr

/-- A counting engine beside its registers: the configuration words in force and the boundary at which written ones
take effect (R115), the CNT_CFG and CNT_COUNT words before a reconfiguration that waits for its boundary, whether it
runs, the anchor t_c of its fixed grid and the next grid instant, the first instant at which gate 0 can open (R109),
the open gate, the requests that wait for their boundary, the grid instant at which a CONTINUOUS engine's next active
gate opens (R109), the t_c of a changeover between edge-bounded and time-bounded that waits for its boundary edge
(R115), that of a reconfiguration that waits for its boundary, the edges held for a stake's instant (R149), and its
statistics unit. -/
structure CntUnit where
  cfg    : Word := 0x30000400
  len    : Word := 0
  count  : Word := 0
  was    : Word × Word := (0, 0)
  pendAt : Option Nat := none
  on     : Bool := false
  tc     : Nat := 0
  nextFix : Nat := 0
  opens  : Nat := 0
  gate   : Option Gate := none
  reqs   : List Req := []
  openAt : Option Nat := none
  change : Option Nat := none
  recfg  : Option Nat := none
  wait   : List CntIn := []
  stat   : Stat := {}
  deriving DecidableEq, Repr

/-- A start or event a pairing unit holds: its stamp, its marks and its reception. -/
structure PEvt where
  t     : Nat
  uncal : Bool
  rel   : Bool
  rx    : Nat := t
  deriving DecidableEq, Repr

/-- A gate of one side of a RATIO unit: its index, opening stamp, length once it has closed, edges, marks, and the
reception of its first edge. -/
structure RGate where
  idx   : Nat
  t0    : Nat
  len   : Nat := 0
  n     : Nat := 1
  uncal : Bool := false
  rel   : Bool := false
  disc  : Bool := false
  rx0   : Nat := t0
  deriving DecidableEq, Repr

/-- One side of a RATIO unit (R124): its open gate, requests that wait for their boundary event, and closed gates that
wait for the other side. -/
structure RSide where
  gate   : Option RGate := none
  reqs   : List Req := []
  done   : List RGate := []
  deriving DecidableEq, Repr

/-- An edge on its way to a pairing unit: its stamp, whether it is an A event, its reception, whether it was stamped
and in full, whether its lane was uncalibrated and a relief lane owned it, and whether its ward's link dropped it
(R14); or, by `disc`, the place of a blank, a gap or a timebase step among the events (R126). -/
structure PIn where
  t       : Nat
  a       : Bool := false
  rx      : Nat := 0
  stamped : Bool := false
  full    : Bool := false
  uncal   : Bool := false
  rel     : Bool := false
  lost    : Bool := false
  disc    : Bool := false
  deriving DecidableEq, Repr

/-- Words written to a pairing unit that wait for their boundary (R439), and the requests that a RATIO unit starts with
there. -/
structure PairCfg where
  at_  : Nat
  cfg  : Word
  win  : Word
  ofs  : Word
  next : List Req := []
  deriving DecidableEq, Repr

/-- A pairing unit (0 to 127 WP, 128 to 191 XP) beside its registers: the words in force and those that wait for their
boundaries, oldest first (R439), the instant since which it takes its present events, the events that wait until none
before them can come (R121), the armed start or the cycle's first event and the cycle's B event, the sides of a RATIO
unit, whether an event was dropped since the last result and whether the events in hand have a discontinuity between
them, the edges that its wards sent lately, its statistics unit, and the endpoint that holds it. -/
structure PairSt where
  cfg    : Word := 0x80
  win    : Word := 0
  ofs    : Word := 0
  pend   : List PairCfg := []
  since  : Nat := 0
  q      : List PIn := []
  armed  : Option PEvt := none
  firstB : Option PEvt := none
  sideA  : RSide := {}
  sideB  : RSide := {}
  drop   : Bool := false
  disc   : Bool := false
  edges  : List (Nat × Nat) := []
  stat   : Stat := {}
  owner  : Option Nat := none
  deriving DecidableEq, Repr

/-! ## Block merge and weavers (chapter 07) -/

/-- A block's merge: the ward-sourced AXIS records that wait for it, the lane position taken last, and the records that
the fast path takes before all others (a record not yet written to all its queues, and after a weaver's fault those of
R189), and the horizon with which its bundles close once those are written (R370, R384). -/
structure MergeSt where
  evs : List Rec := []
  rr  : Nat := 15
  fb  : List Rec := []
  shut : Option Nat := none
  deriving DecidableEq, Repr

/-- A record, signal or bundle end in a weaver's intake or slot: its kind (0 record, 1 signal, 2 bundle end), the h
words, the record information's fields, the cause time, the merge horizon at it, the intake sequence number, and for a
plaza weaver the input. -/
structure WRec where
  kind  : Nat
  h     : List Word
  words : Nat
  lane  : Option Nat
  close : Bool
  input : Nat
  time  : Nat
  hor   : Nat
  seq   : Nat
  src   : Rec
  deriving DecidableEq, Repr

/-- An emission that waits for its record's retirement (R167): target queue, the words sent, O and C. -/
structure Emission where
  q     : Nat
  ws    : List Word
  o     : Bool
  c     : Bool
  deriving DecidableEq, Repr

/-- A record slot of a weaver: the record in hand, pc, private registers g1 to g7, h0 to h3, instructions executed,
its emissions so far, and whether its program has ended and how (dropped). -/
structure WSlot where
  r     : WRec
  pc    : Nat
  g     : List Word
  h     : List Word
  count : Nat
  emits : List Emission
  ended : Bool
  dropd : Bool := false
  deriving DecidableEq, Repr

/-- A weaver (0 to 31 BW, 32 to 39 PW) beside its registers: WCFG and WENTRY in force, intake, slots, the shared
registers g8 to g15, the next intake sequence number, signals that wait (t_s and ARG), whether it is stopping; for a
plaza weaver the records of input bundles that have not entered the intake, the bundle ends not yet reached (input,
LENGTH, horizon, header, trailer, sequence number of the first record after it), the input bundles not yet released
(input, LENGTH, horizon, the output bundles it waits for), per input the horizon of the last bundle taken, the horizon
of the last bundle whose end was reached, that of the last bundle released, the words taken and not released, and the
epoch point; and the writes to local data and WEA_TD that wait for the end of the record in hand (R194). -/
structure WeavSt where
  cfg    : Word := 0x3FFC000000
  entry  : Word := 0
  intake : List WRec := []
  slots  : List (Option WSlot) := [none, none, none, none]
  shared : List Word := [0, 0, 0, 0, 0, 0, 0, 0]
  seq    : Nat := 0
  sigs   : List (Nat × Nat) := []
  stop   : Bool := false
  feed   : List WRec := []
  ends   : List (Nat × Nat × Nat × Word × Word × Nat) := []
  unrel  : List (Nat × Nat × Nat × List Nat) := []
  taken  : List (Option Nat) := [none, none, none, none, none, none, none, none]
  ended  : List (Option Nat) := [none, none, none, none, none, none, none, none]
  rel    : List (Option Nat) := [none, none, none, none, none, none, none, none]
  ahead  : List Nat := [0, 0, 0, 0, 0, 0, 0, 0]
  eps    : List (Option Nat) := [none, none, none, none, none, none, none, none]
  writes : List (Bool × Nat × Word) := []
  deriving DecidableEq, Repr

/-! ## Queues (chapter 10) -/

/-- A queue beside its descriptor: the tracked writers (R260), the horizon of the last bundle of each producer (R259),
the queue horizon (R263), whether a loss is to be marked (R258), the g of the last committed EPOCH (R272), and after
timebase steps the g of each that is still to come, the times of the system EVENTs placed since EN went to 1 (R265),
and of the last fabric cycle with a commit or a pop its number, the depth at its start, the words popped in it and
whether it has set THRESH (R270). -/
structure QueSt where
  writers : List Nat := []
  prev    : List (Nat × Nat) := []
  hor     : Option Nat := none
  lost    : Bool := false
  epoch   : Option Nat := none
  after   : List Nat := []
  evts    : List Nat := []
  start   : Option (Nat × Nat × Nat × Bool) := none
  deriving DecidableEq, Repr

/-! ## The axis (chapter 06) -/

/-- A fired or issued stake (R147, R148): its index, action word, instant, the step's stamp and position word, and
the lane group's words at issue. -/
structure Fired where
  idx  : Nat
  act  : Word
  ts   : Nat
  step : Nat
  pos  : Word
  last : Nat
  lg   : List Word := []
  deriving DecidableEq, Repr

/-- The axis unit beside its registers: configuration in force, a pending enable or disable and its boundary, the
generator's t_g and step number, whether the run has its position, the last step of any kind and the last real one, the
last 64 intervals (newest first), while coasting the number of the next step and of the synthesised ones so far,
whether STALL was set since the last step, marks waiting for their step, the steps taken since the axis was enabled
(newest first, as far back as a mark can reach), those that have a mark, turn boundaries that may still get theirs
(R141), the HOLD run (j and its length), the positions taken and the changes of state (instant and AXI_POS word, newest
first), stakes that wait for issue, the first instant at which the next can be issued (R148), stakes that wait for
their instants, the steps and indices of the stakes that fired as far back as a mark can reach (R141), and action-word
shadows. -/
structure AxisSt where
  cfg    : Word := 0x0040000400007F7F
  ofs    : Word := 0
  gen    : Word := 0
  ctlAt  : Option (Nat × Bool) := none
  tg     : Nat := 0
  gk     : Nat := 0
  placed : Bool := false
  last   : Option Nat := none
  real   : Option Nat := none
  ivals  : List Nat := []
  coastK : Nat := 0
  synth  : Nat := 0
  stall  : Bool := false
  marks  : List Nat := []
  steps  : List Nat := []
  marked : List Nat := []
  due    : List Nat := []
  hold   : Nat × Nat := (0, 0)
  hist   : List (Nat × Word) := []
  fired  : List Fired := []
  issueAt : Nat := 0
  issued : List Fired := []
  acts   : List (Nat × Nat) := []
  shadow : List (Nat × Word) := []
  deriving DecidableEq, Repr

/-- A MARK port beside its direction bit: its output level, the end of a running pulse, and of its input the instant of
the last edge and the last stamp. Entries 96 to 99 are the inputs REFIN0 to REFIN3. -/
structure MarkSt where
  level : Bool := false
  pulse : Option Nat := none
  full  : Option Nat := none
  stamp : Option Nat := none
  deriving DecidableEq, Repr

/-! ## Timebase and outputs (chapter 09) -/

/-- The timebase and the output synthesiser beside their registers. Of each REFIN input: the last stamp formed, its
last edge or the start of its monitoring, and since when neither LOS nor FREQ_BAD has been set (R228). The start of
ACQUIRE (R230); the tracking component of the DCO word since each instant of the last second of tracking, newest first
(R232); the anchor (R231). While the offset of a returned reference is measured the sum of the offsets and their
number, and when the measurement began (R233); an instant of a slew, the offset left at it, and when the slew began
(R234); the step that STEP_WAIT holds with
its boundary once known, and the end of its measurement (R235); a SYNC_IN0 load with its boundary (R239). The OPLL
operation in progress (entry, whether a search, t_c), the T64 at which the outputs went low, whether an operation or a
loss of lock holds the outputs of the OPLL low, the instant of the next retry in LOST. The divider resets that wait
(t_1, the outputs held, whether it waits for a relock; R246) and t_1 of the one that an armed edge asked for; of each
output when its divider started, the cycle in which its delays last moved (R245), and when it completes the high phase
after which a hold takes effect (R242, R246). The timebase steps applied so far
(instant and Δ, the instants in the present scale; R236). -/
structure TimSt where
  last   : List (Option Nat) := [none, none, none, none]
  seen   : List Nat := [0, 0, 0, 0]
  clean  : List Nat := [0, 0, 0, 0]
  acq    : Nat := 0
  track  : List (Nat × Int) := []
  anchor : Nat := 0
  meas   : Option (Int × Nat) := none
  measT  : Nat := 0
  slew   : Nat × Int := (0, 0)
  slewT  : Nat := 0
  step   : Option (Int × Option Nat) := none
  stepT  : Nat := 0
  load   : Option (Int × Nat) := none
  op     : Option (Nat × Bool × Nat) := none
  low    : Nat := 0
  gate   : Bool := false
  retry  : Nat := 0
  drst   : List (Nat × List Nat × Bool) := []
  edge1  : Option Nat := none
  div    : List Nat := []
  cyc    : List Nat := []
  fall   : List Nat := []
  steps  : List (Nat × Int) := []
  deriving DecidableEq, Repr


/-! ## Interrupts and the host face (chapter 11) -/

/-- An interrupt source beside INT_SRC: its enable, the software latch (level) or PEND (edge), its input, ACTIVE, HELD,
the round-robin pointer, and the fabric cycle of the last transition at an edge source's input (R280). -/
structure SrcSt where
  en     : Bool := false
  latch  : Bool := false
  level  : Bool := false
  active : Bool := false
  held   : Bool := false
  rr     : Nat := 0
  last   : Option Nat := none
  deriving DecidableEq, Repr

/-- A control core as the EIC sees it beside its registers: mstatus.MIE, stopped in WFI, between a completion and the
`mret` (R289), the priority stack (top first: source, priority at claim), the entry window in progress (presented
source, its time, whether chained), a frame restore (its start), the vector at which the core last began a handler
(R285, R291), and the frames that it holds saved (R288, R290). -/
structure CoreSt where
  mie     : Bool := false
  wfi     : Bool := false
  eoi     : Bool := false
  stack   : List (Nat × Nat) := []
  win     : Option (Nat × Nat × Bool) := none
  restore : Option Nat := none
  fetch   : Nat := 0
  frames  : Nat := 0
  deriving DecidableEq, Repr

/-- An MSI-X vector: its table entry, its pending bit, and when its timer runs out (R294, R296). -/
structure VecSt where
  addr : Nat := 0
  data : Nat := 0
  mask : Bool := true
  pend : Bool := false
  due  : Option Nat := none
  deriving DecidableEq, Repr

/-- A host function: of its configuration words Memory Space Enable, Bus Master Enable, whether it is in D3hot, PME_En
(R298), MSI-X Enable and the function mask (R294), and of PF0 VF Enable (R327); and whether it is in or past its sleep
entry (R297). -/
structure FnSt where
  mem   : Bool := false
  bme   : Bool := false
  d3    : Bool := false
  pme   : Bool := false
  msix  : Bool := false
  fmask : Bool := false
  vf    : Bool := false
  sleep : Bool := false
  deriving DecidableEq, Repr

/-! ## The command interface (chapter 12) -/

/-- A notice that waits for room: its bytes, or the mark of lost ones (their number and the NSEQ of the first; R312). -/
structure KNote where
  lost  : Nat := 0
  first : Nat := 0
  bytes : List Byte := []
  deriving DecidableEq, Repr

/-- An endpoint's event queue and its place in the round of the mailboxes (R301, R311, R312). -/
structure EpSt where
  base   : Nat := 0
  wb     : Nat := 0
  log2n  : Nat := 0
  vector : Nat := 0
  mask   : Nat := 0
  nprod  : Nat := 0
  ntail  : Nat := 0
  nseq   : Nat := 0
  kept   : List KNote := []
  fifo   : List (List Byte) := []
  slot   : Nat := 3
  deriving DecidableEq, Repr

/-- A mailbox slot: 0 FREE, 1 POSTED, 2 BUSY, 3 DONE; the TAG last posted; its bytes (none: the X of reset, log entry
3); and the instant firmware took its command (R300). -/
structure SlotSt where
  st    : Nat := 0
  tag   : Nat := 0
  bytes : List Byte := []
  taken : Nat := 0
  deriving DecidableEq, Repr

/-- A command that firmware has taken and not yet answered for good (R302, R309, R310): its endpoint, slot, tag, opcode,
FLAGS and payload; whether it was taken under a slot that still waits for its response; whether its work has begun;
whether its endpoint has been reset meanwhile, so that nothing is reported (R313); the resources it holds (kind and
number); and the object and instant by which its end is known. -/
structure Job where
  ep    : Nat
  sl    : Nat
  tag   : Nat
  op    : Nat
  flags : Nat
  load  : List Byte
  slot  : Bool := true
  ran   : Bool := false
  gone  : Bool := false
  holds : List (Nat × Nat) := []
  obj   : Nat := 0
  at_   : Nat := 0
  deriving DecidableEq, Repr

/-- What a walk learning in progress has gathered (R315): the lane, its reference lane, the bank, the number of pairs
wanted and the reference offset, recent stamps of the reference lane, assertions (tA, Δ, window) that wait for one,
pairs (Δ, v), the command, and whether a switching sequence has ended it. -/
structure Learn where
  lane  : Nat
  ref   : Nat
  bank  : Nat
  need  : Nat
  ofs   : Int
  stamps : List Nat := []
  wait : List (Nat × Nat × Nat) := []
  pairs : List (Nat × Int) := []
  ep    : Nat
  tag   : Nat
  bad   : Bool := false
  deriving DecidableEq, Repr

/-! ## Filter pipelines and histogram engines (chapter 08) -/

/-- The input bundle that a consumer has in hand: its records not yet processed, its LENGTH, its horizon and whether
one is in hand, and the epoch point of the queue's latest EPOCH record (R197, R273). -/
structure InSt where
  busy : Bool := false
  left : List (List Word) := []
  len  : Nat := 0
  hor  : Nat := 0
  ep   : Option Nat := none
  deriving DecidableEq, Repr

/-- One stage of a bank: its inputs since it last started again, its integrator, and the quality of the last inputs and
whether each was FILL, newest first (R201, R204, R210). The comb's integrator values are in the store (R208). -/
structure FStage where
  n : Nat := 0
  i : Nat := 0
  e : List (Nat × Bool) := []
  deriving DecidableEq, Repr

/-- A bank: its stages, whether a value saturated between them since its last output, and that output (value, quality,
FILL, saturated). -/
structure FBank where
  st   : List FStage := [{}, {}, {}, {}]
  sat  : Bool := false
  last : Int × Nat × Bool × Bool := (0, 0, true, false)
  deriving DecidableEq, Repr

/-- A filter pipeline beside its registers: whether it runs, the configuration words in force, its input, the value of
the last good sample, the GATE_IDX or SEQ of the last sample, its banks, the time of its last output, a cross-fade in
progress (k and N), a swap request that waits (t_q and N), resets that wait for their time, the t_r of the FILT_RESET
EVENTs that wait for their output, and for the ladder the samples, the newest running sum (the 2^20 before it are in the
store), and per k the sum Q_k, the terms n_k and whether a saturated term contributed, and DISC. -/
structure FltSt where
  on    : Bool := false
  cfg   : Word := 0x280018
  sel   : Word := 0
  xref  : Word := 0
  tau   : Word := 0
  tofs  : Word := 0
  io    : Word := 0xFFF00000000
  inp   : InSt := {}
  good  : Nat := 0
  prev  : Option Nat := none
  bankA : FBank := {}
  bankB : FBank := {}
  out   : Option Nat := none
  xf    : Option (Nat × Nat) := none
  req   : Option (Nat × Nat) := none
  rsts  : List Nat := []
  evt   : List Nat := []
  n     : Nat := 0
  sum   : Nat := 0
  qs    : List (Nat × Nat × Bool) := []
  disc  : Bool := false
  deriving DecidableEq, Repr

/-- A histogram engine beside its registers: its input, the input horizon, the operations that wait (kind 0 COUNT,
1 SNAPSHOT, 2 SNAPSHOT_RESET, 3 RESET; argument; time), the frozen record of a snapshot not yet written with its time,
keys held back with their times, the next multiple of 2^SNAP_EXP, and of the latest instant that was counted: when it
was, its keys (true) and COUNT operations (false) and the registers as they were before each of them, the latest first
(R223). -/
structure HeSt where
  at_  : Nat := 0
  same : List (Bool × Int) := []
  old  : List (Reg × Nat × Word) := []
  inp  : InSt := {}
  hor  : Nat := 0
  ops  : List (Nat × Nat × Nat) := []
  snap : Option (List Word × Nat) := none
  keys : List (Int × Nat) := []
  per  : Nat := 0
  deriving DecidableEq, Repr

/-! ## Ward links, ports, links and partners (chapters 01 and 13) -/

/-- A ward's die-to-die link: the failed wires that the spares of each direction (up and down) replace, the first spare
first; its replays in each direction, since when frames have been failing in each, and whether the ward is out of
service (R12, R13). -/
structure WLink where
  spareUp   : List Nat := []
  spareDown : List Nat := []
  up     : Nat := 0
  down   : Nat := 0
  upT    : Option Nat := none
  downT  : Option Nat := none
  failed : Bool := false
  deriving DecidableEq, Repr

/-- The pool PLL: the frequency in kHz of the reference that it identified on REFIN3 at start-up, 0 before, and whether
it holds its frequency on a LOS of REFIN3 (R325). -/
structure PoolPll where
  khz  : Nat := 0
  held : Bool := false
  deriving DecidableEq, Repr

/-- An Ethernet port: when its transmitter resumes after a PAUSE, the identification of its next datagram, and the bytes
of the last frame it passed to the MAC, from the destination address to the end of the datagram (R328). -/
structure PortSt where
  pause : Option Nat := none
  ident : Nat := 0
  sent  : List Byte := []
  rr    : Nat := 15
  deriving DecidableEq, Repr

/-- An egress channel: whether its next datagram is the first since EN, the words already sent of the bundle at the
queue's RD, the HORIZON of its last datagram, and when it was sent (R330 to R332). -/
structure ChanSt where
  first : Bool := true
  pos   : Nat := 0
  hor   : Nat := 0
  last  : Nat := 0
  deriving DecidableEq, Repr

/-- A DLP link (R333 to R346): whether its lanes are locked and aligned; t_u and the instant of the next HELLO of a
discovery; when discovery may restart; whether ACCEPT has been sent and received, the partner's descriptor and the
entry reserved for it; FSEQ of the next frame sent and of the next expected; bundle and control credits held, CRET and
CCRET as last received, and the credits freed; when a frame was last received and sent; the CRC failures of the last
millisecond; BYEs still to send with their reason; since when a bundle has waited for credits; the instant of the next
TIME request; the bundles sent and not yet popped (queue, length, credits) with the credit returned towards the first,
and the queue served last; the MBX frames that wait for a control credit, each since when; PROGRESS of the latest KEEP
and the latest horizon; the words of the last frame sent. -/
structure LnkSt where
  locked : Bool := false
  tu     : Nat := 0
  hello  : Nat := 0
  retry  : Option Nat := none
  sentA  : Bool := false
  rcvdA  : Bool := false
  desc   : List Word := []
  res    : Option Nat := none
  seqTx  : Nat := 0
  seqRx  : Option Nat := none
  bTx    : Nat := 0
  cTx    : Nat := 0
  cret   : Nat := 0
  ccret  : Nat := 0
  freeB  : Nat := 0
  freeC  : Nat := 0
  rx     : Nat := 0
  tx     : Nat := 0
  crcs   : List Nat := []
  bye    : Nat := 0
  reason : Nat := 0
  waitT  : Option Nat := none
  timeT  : Nat := 0
  out    : List (Nat × Nat × Nat) := []
  paid   : Nat := 0
  rr     : Nat := 0
  mbx    : List (Nat × List Word) := []
  keepP  : Nat := 0
  hor    : Nat := 0
  sent   : List Word := []
  deriving DecidableEq, Repr


/-! ## Monitoring, security, register access and management (chapters 14, 16, 17 and 18) -/

/-- A temperature sensor: whether it has been read, its last reading in 1/256 °C, when, whether it is in WARN and in
CRIT (R397), and since when its readings have been of 115 °C or more (R398). -/
structure SensSt where
  seen : Bool := false
  val  : Int := 0
  at_  : Nat := 0
  warn : Bool := false
  crit : Bool := false
  hot  : Option Nat := none
  deriving DecidableEq, Repr

/-- The security fuses (Table ACC-4); the hashes as 48 bytes, none of them set where the list is empty. -/
structure FuseSt where
  secure : Bool := false
  hash0  : List Byte := []
  hash1  : List Byte := []
  revoke : Nat := 0
  debugHash : List Byte := []
  svn    : Nat := 0
  deriving DecidableEq, Repr

/-- The JTAG port: the instruction in force, the bytes captured for Shift-DR, the values loaded into the boundary
register, and those driven on the balls under EXTEST (R432). -/
structure JtagSt where
  ir    : Nat := 1
  dr    : List Byte := []
  scan  : List Nat := []
  drive : Option (List Nat) := none
  deriving DecidableEq, Repr

/-- A master's shadows (R412, R413): the word whose lower half it has read with the upper half latched, and the word
whose lower half it has staged with that half; and the word that its last read returned. -/
structure ShadSt where
  rd   : Option (Nat × Nat) := none
  wr   : Option (Nat × Nat) := none
  data : Word := 0
  deriving DecidableEq, Repr

/-- The I2C port beside IADDR, IDATA and ISTAT (R417, R430): the offset in force, the access in progress (whether a
write, and its start), and the bytes that the last read returned. -/
structure I2cSt where
  off  : Nat := 0
  busy : Option (Bool × Nat) := none
  out  : List Byte := []
  deriving DecidableEq, Repr


/-! ## Power (chapter 15) -/

/-- The engine's states (Table PWR-4); start-up, until READY, is `starting`. -/
inductive Eng where
  | off
  | starting
  | active
  | watch
  | deepSleep
  deriving DecidableEq, Repr

/-- What the power management holds beside its registers: whether firmware runs; the target of an armed sleep entry (0
none, 1 WATCH, 2 DEEP_SLEEP), when it was armed, t_a and t_q; the wake source latched (cause, lane, instant); the
waking edges (lane, T_w); the domain states at t_a; the weavers stopped at t_a; t_l and t_e of a wake; whether the
local oscillator was lost in WATCH; the instants of the last beats of K0 to K3 and of the warden; whether supervision
is armed; a SOFT_ENGINE waiting (R382) and the boundary at which one takes effect; how far start-up has come; the
last-resort sequencer's trigger and tries; the instants at which Ongen last started and at which the boot ROM last
started an image; PWR_OK; the PCI Express link (0
down, 1 L0, 2 L2); PERST_N and RESET_N; whether WAKE_N is asserted; whether FAULT_N is asserted by the sequencer or by
a trip; whether the trip holds start-up back (R398); the domain changes in progress (domain, 4 * old state + new
state); the per-block resets that wait (block, t_b); whether a failed trial makes the next start try the other image
first (R360), which outlives every reset; and whether start-up waits for the sensors to read low after a trip (R398).
-/
structure PwrSt where
  fw     : Bool := false
  target : Nat := 0
  armT   : Nat := 0
  ta     : Option Nat := none
  tq     : Option Nat := none
  wake   : Option (Nat × Nat × Nat) := none
  edges  : List (Nat × Nat) := []
  doms   : List Word := []
  weav   : List Nat := []
  tl     : Option Nat := none
  te     : Option Nat := none
  hold   : Bool := false
  beats  : List Nat := [0, 0, 0, 0, 0]
  armed  : Bool := false
  soft   : Bool := false
  softT  : Option Nat := none
  stage  : Nat := 0
  lrT    : Option Nat := none
  lrTry  : Nat := 0
  ongenT : Nat := 0
  bootT  : Nat := 0
  ok     : Bool := true
  pcie   : Nat := 0
  perst  : Bool := true
  reset  : Bool := false
  wakeN  : Bool := false
  fault  : Bool := false
  trip   : Bool := false
  pend   : List (Nat × Nat) := []
  blk    : List (Nat × Nat) := []
  other  : Bool := false
  cool   : Bool := false
  deriving DecidableEq, Repr


/-! ## The state -/

/-- The state of the engine as plain data. Every sparse field is in the canonical form of `Tab.wf`. The last field is
the queue of the commands that wait, first in, first out. -/
structure State where
  /-- T64, the engine's count of ticks. -/
  t64 : Nat := 0
  /-- The model's counter of free values (log entry 3). -/
  freeCnt : Nat := 0
  /-- T64 modulo 512 at the boundaries of the coarse periods, which a timebase step leaves where they are (R236). -/
  phase : Nat := 0
  /-- Whether the device is the DZ9256. -/
  small : Bool := false
  /-- The state of the engine. -/
  eng : Eng := .starting
  /-- Every register, keyed by register and index. -/
  regs : Tab Word := []
  /-- The front end of a unit. -/
  fre : Tab FreUnit := []
  /-- The stamping circuits of a front end. -/
  capHw : Tab CapHw := []
  /-- A lane's capture. -/
  cap : Tab LaneCap := []
  /-- The calibration of a unit. -/
  cal : Tab CalUnit := []
  /-- A block's calibration sequencer. -/
  calBlk : Tab CalBlk := []
  /-- A byte of the vault. -/
  vault : Tab Byte := []
  /-- The units that wait for a calibration slot write, in order. -/
  vaultQ : List Nat := []
  /-- The calibration slot write in progress. -/
  vaultWr : Option VaultWr := none
  /-- A lane's counting engine. -/
  cnt : Tab CntUnit := []
  /-- A pairing unit. -/
  pair : Tab PairSt := []
  /-- The axis unit. -/
  axis : AxisSt := {}
  /-- The timebase and the output synthesiser. -/
  tim : TimSt := {}
  /-- The TIM_OCLK word that an output runs by. -/
  clk : Tab Word := []
  /-- A MARK port. -/
  mark : Tab MarkSt := []
  /-- A block's merge. -/
  merge : Tab MergeSt := []
  /-- The progress of a producer that keeps one (R259). -/
  prog : Tab Nat := []
  /-- The records of cross-ward units that wait for a buffer (producer, queue, longest bundle, record). -/
  back : List (Nat × Nat × Nat × Rec) := []
  /-- A weaver. -/
  weav : Tab WeavSt := []
  /-- The open bundles of the engine, the least recently appended first. -/
  open_ : List Bundle := []
  /-- The closed bundles that await placement, in order of their close. -/
  wait : List Bundle := []
  /-- The producers to which a freed assembly buffer has gone. -/
  granted : List Nat := []
  /-- The producers that wait for an assembly buffer, in order of request. -/
  waiters : List Nat := []
  /-- A queue. -/
  que : Tab QueSt := []
  /-- A word of the store. -/
  store : Tab Word := []
  /-- The store words that hold a double-bit error (R395). -/
  ue : List Nat := []
  /-- The store words that hold a single-bit error, which no read has met yet (R395, log entry 55). -/
  ce : List Nat := []
  /-- Whether the store interface refreshes the store at double rate (R435). -/
  refresh : Bool := false
  /-- Pool PLL: the reference it has identified and whether it holds its frequency (R325). -/
  pool : PoolPll := {}
  /-- A filter pipeline. -/
  flt : Tab FltSt := []
  /-- A histogram engine. -/
  he : Tab HeSt := []
  /-- Whether a monitor unit has taken a sample since its EN or RESTART (R393). -/
  muOn : Tab Bool := []
  /-- The words that a DMA engine has copied into a host ring and not yet written back, and the queue they are of
  (R274, R275). -/
  ringC : Tab (Nat × Nat) := []
  /-- The ring to which a DMA engine was given last (R327). -/
  dmaRr : Nat := 1023
  /-- An interrupt source. -/
  src : Tab SrcSt := []
  /-- When the timer of a moderation unit runs out (R284). -/
  modT : Tab (Option Nat) := []
  /-- A control core as the EIC sees it. -/
  core : Tab CoreSt := []
  /-- An MSI-X vector. -/
  vec : Tab VecSt := []
  /-- A host function. -/
  fn : Tab FnSt := []
  /-- A byte of host memory, as writes with the requester ID of function `f` reach it (R274): f * 2^64 + address. -/
  host : Tab Byte := []
  /-- The 8-byte words of host memory, as `host` numbers bytes / 8, whose reads and writes by firmware the host ends
  with a completion error (R307). -/
  hostErr : List Nat := []
  /-- A byte of a core's local memory (core * 2^18 + offset). -/
  guest : Tab Byte := []
  /-- An endpoint of the command interface. -/
  ep : Tab EpSt := []
  /-- A mailbox slot (endpoint * 4 + slot). -/
  slot : Tab SlotSt := []
  /-- The commands that firmware has taken and not finished, in the order they were taken. -/
  jobs : List Job := []
  /-- The walk learnings in progress. -/
  learn : List Learn := []
  /-- The endpoint that holds the staging claim. -/
  claimEp : Option Nat := none
  /-- The endpoint to which a pairing unit is allocated. -/
  owner : Tab (Option Nat) := []
  /-- The store area of an allocated queue or, from 65,536 up, of a filter pipeline: 0 none, else 1 + log2 of its words
  + 64 * its first word. -/
  alloc : Tab Nat := []
  /-- The endpoint whose command firmware took last. -/
  lastEp : Nat := 49
  /-- The FAULT notices formed since RESET_N, the last 64, oldest first. -/
  errlog : List (List Byte) := []
  /-- A ward's die-to-die link. -/
  wlink : Tab WLink := []
  /-- When a pool group trains after a change of MODE (R324). -/
  grp : Tab (Option Nat) := []
  /-- An Ethernet port. -/
  port : Tab PortSt := []
  /-- An egress channel. -/
  chan : Tab ChanSt := []
  /-- A DLP link. -/
  lnk : Tab LnkSt := []
  /-- A temperature sensor. -/
  sens : Tab SensSt := []
  /-- The security fuses. -/
  fuse : FuseSt := {}
  /-- The nonce of the debug challenge in force (R363). -/
  nonce : List Byte := []
  /-- The JTAG port. -/
  jtag : JtagSt := {}
  /-- A master's shadows. -/
  shad : Tab ShadSt := []
  /-- The I2C port. -/
  i2c : I2cSt := {}
  /-- A word of the keep (R387). -/
  keep : Tab Word := []
  /-- The power management. -/
  pwr : PwrSt := {}
  /-- The commands that wait. -/
  pending : List Instr := []
  deriving DecidableEq, Repr

/-- The machine right after a POWER reset (Table PWR-8): every register and every unit at its reset value, T64 at 0,
the engine at the beginning of start-up, no command waiting. -/
def State.reset : State := {}

end Sys2Proof.Machine
end

