-- ==== Sys2Proof/Machine/Dflt.lean ====
section
/-!
DEFINITION. What a register reads as while nothing is listed for it: the reset value of its field map, with the few
that depend on the register's index.
-/

namespace Sys2Proof.Machine

/-- The reset value of INT_SRC of source `i`: SENSE follows Table INT-1 (bit 12; 1 = edge). -/
def srcReset (i : Nat) : Nat :=
  if (864 ≤ i ∧ i < 880) ∨ (912 ≤ i ∧ i < 944) ∨ (976 ≤ i ∧ i < 992) ∨ (1000 ≤ i ∧ i < 1004) then 4096 else 0

/-- What entry `k` of the register table reads as while it is not listed: the field map's reset value; window 0 of
every access table has EN = 1 (R357), groups 0 to 3 hold MODE 1 (Table LNK-10). -/
def Reg.dflt (k : Nat) : Word :=
  match Reg.ofNat (k % 256) with
  | .ACC_WCTRL => if (k / 256) % 16 = 0 then 1 else 0
  | .LNK_GRP => if k / 256 < 4 then 9 else 8
  | .INT_SRC => BitVec.ofNat 64 (srcReset (k / 256))
  | r => BitVec.ofNat 64 r.desc.reset

end Sys2Proof.Machine
end

