-- ==== Sys2Proof/Machine/Work.lean ====
section
/-!
DEFINITION. The named writes of the state, and the type in which every meaning does its work. A `Work s₀` is a state
together with the proof that it came from `s₀` by named writes alone, so that whatever every named write keeps (the
canonical form of a memory, the queue of waiting commands) every command keeps, by construction. Each named write
goes to one field of `State`; none of them touches the queue of waiting commands.
-/

namespace Sys2Proof.Machine

/-- One named write: from a state, the state it leaves. -/
inductive Write : State → State → Prop where
  | t64 (s : State) (x : Nat) : Write s { s with t64 := x }
  | freeCnt (s : State) (x : Nat) : Write s { s with freeCnt := x }
  | phase (s : State) (x : Nat) : Write s { s with phase := x }
  | small (s : State) (x : Bool) : Write s { s with small := x }
  | eng (s : State) (x : Eng) : Write s { s with eng := x }
  | regs (s : State) (k : Nat) (x : Word) : Write s { s with regs := Tab.set Reg.dflt s.regs k x }
  | regsKeep (s : State) (p : Nat → Bool) : Write s { s with regs := Tab.keep p s.regs }
  | fre (s : State) (k : Nat) (x : FreUnit) : Write s { s with fre := Tab.set (fun _ => ({} : FreUnit)) s.fre k x }
  | freKeep (s : State) (p : Nat → Bool) : Write s { s with fre := Tab.keep p s.fre }
  | capHw (s : State) (k : Nat) (x : CapHw) : Write s { s with capHw := Tab.set (fun _ => ({} : CapHw)) s.capHw k x }
  | capHwKeep (s : State) (p : Nat → Bool) : Write s { s with capHw := Tab.keep p s.capHw }
  | cap (s : State) (k : Nat) (x : LaneCap) : Write s { s with cap := Tab.set (fun _ => ({} : LaneCap)) s.cap k x }
  | capKeep (s : State) (p : Nat → Bool) : Write s { s with cap := Tab.keep p s.cap }
  | cal (s : State) (k : Nat) (x : CalUnit) : Write s { s with cal := Tab.set (fun _ => ({} : CalUnit)) s.cal k x }
  | calKeep (s : State) (p : Nat → Bool) : Write s { s with cal := Tab.keep p s.cal }
  | calBlk (s : State) (k : Nat) (x : CalBlk) : Write s { s with calBlk := Tab.set (fun _ => ({} : CalBlk)) s.calBlk k x }
  | calBlkKeep (s : State) (p : Nat → Bool) : Write s { s with calBlk := Tab.keep p s.calBlk }
  | vault (s : State) (k : Nat) (x : Byte) : Write s { s with vault := Tab.set (fun _ => (0 : Byte)) s.vault k x }
  | vaultKeep (s : State) (p : Nat → Bool) : Write s { s with vault := Tab.keep p s.vault }
  | vaultQ (s : State) (x : List Nat) : Write s { s with vaultQ := x }
  | vaultWr (s : State) (x : Option VaultWr) : Write s { s with vaultWr := x }
  | cnt (s : State) (k : Nat) (x : CntUnit) : Write s { s with cnt := Tab.set (fun _ => ({} : CntUnit)) s.cnt k x }
  | cntKeep (s : State) (p : Nat → Bool) : Write s { s with cnt := Tab.keep p s.cnt }
  | pair (s : State) (k : Nat) (x : PairSt) : Write s { s with pair := Tab.set (fun _ => ({} : PairSt)) s.pair k x }
  | pairKeep (s : State) (p : Nat → Bool) : Write s { s with pair := Tab.keep p s.pair }
  | axis (s : State) (x : AxisSt) : Write s { s with axis := x }
  | tim (s : State) (x : TimSt) : Write s { s with tim := x }
  | clk (s : State) (k : Nat) (x : Word) : Write s { s with clk := Tab.set (fun _ => (0x40 : Word)) s.clk k x }
  | clkKeep (s : State) (p : Nat → Bool) : Write s { s with clk := Tab.keep p s.clk }
  | mark (s : State) (k : Nat) (x : MarkSt) : Write s { s with mark := Tab.set (fun _ => ({} : MarkSt)) s.mark k x }
  | markKeep (s : State) (p : Nat → Bool) : Write s { s with mark := Tab.keep p s.mark }
  | merge (s : State) (k : Nat) (x : MergeSt) : Write s { s with merge := Tab.set (fun _ => ({} : MergeSt)) s.merge k x }
  | mergeKeep (s : State) (p : Nat → Bool) : Write s { s with merge := Tab.keep p s.merge }
  | prog (s : State) (k : Nat) (x : Nat) : Write s { s with prog := Tab.set (fun _ => (0 : Nat)) s.prog k x }
  | progKeep (s : State) (p : Nat → Bool) : Write s { s with prog := Tab.keep p s.prog }
  | back (s : State) (x : List (Nat × Nat × Nat × Rec)) : Write s { s with back := x }
  | weav (s : State) (k : Nat) (x : WeavSt) : Write s { s with weav := Tab.set (fun _ => ({} : WeavSt)) s.weav k x }
  | weavKeep (s : State) (p : Nat → Bool) : Write s { s with weav := Tab.keep p s.weav }
  | open_ (s : State) (x : List Bundle) : Write s { s with open_ := x }
  | wait (s : State) (x : List Bundle) : Write s { s with wait := x }
  | granted (s : State) (x : List Nat) : Write s { s with granted := x }
  | waiters (s : State) (x : List Nat) : Write s { s with waiters := x }
  | que (s : State) (k : Nat) (x : QueSt) : Write s { s with que := Tab.set (fun _ => ({} : QueSt)) s.que k x }
  | queKeep (s : State) (p : Nat → Bool) : Write s { s with que := Tab.keep p s.que }
  | store (s : State) (k : Nat) (x : Word) : Write s { s with store := Tab.set (fun _ => (0 : Word)) s.store k x }
  | storeKeep (s : State) (p : Nat → Bool) : Write s { s with store := Tab.keep p s.store }
  | ue (s : State) (x : List Nat) : Write s { s with ue := x }
  | ce (s : State) (x : List Nat) : Write s { s with ce := x }
  | refresh (s : State) (x : Bool) : Write s { s with refresh := x }
  | pool (s : State) (x : PoolPll) : Write s { s with pool := x }
  | flt (s : State) (k : Nat) (x : FltSt) : Write s { s with flt := Tab.set (fun _ => ({} : FltSt)) s.flt k x }
  | fltKeep (s : State) (p : Nat → Bool) : Write s { s with flt := Tab.keep p s.flt }
  | he (s : State) (k : Nat) (x : HeSt) : Write s { s with he := Tab.set (fun _ => ({} : HeSt)) s.he k x }
  | heKeep (s : State) (p : Nat → Bool) : Write s { s with he := Tab.keep p s.he }
  | muOn (s : State) (k : Nat) (x : Bool) : Write s { s with muOn := Tab.set (fun _ => (false : Bool)) s.muOn k x }
  | muOnKeep (s : State) (p : Nat → Bool) : Write s { s with muOn := Tab.keep p s.muOn }
  | ringC (s : State) (k : Nat) (x : Nat × Nat) : Write s { s with ringC := Tab.set (fun _ => ((0, 0) : Nat × Nat)) s.ringC k x }
  | ringCKeep (s : State) (p : Nat → Bool) : Write s { s with ringC := Tab.keep p s.ringC }
  | dmaRr (s : State) (x : Nat) : Write s { s with dmaRr := x }
  | src (s : State) (k : Nat) (x : SrcSt) : Write s { s with src := Tab.set (fun _ => ({} : SrcSt)) s.src k x }
  | srcKeep (s : State) (p : Nat → Bool) : Write s { s with src := Tab.keep p s.src }
  | modT (s : State) (k : Nat) (x : Option Nat) : Write s { s with modT := Tab.set (fun _ => (none : Option Nat)) s.modT k x }
  | modTKeep (s : State) (p : Nat → Bool) : Write s { s with modT := Tab.keep p s.modT }
  | core (s : State) (k : Nat) (x : CoreSt) : Write s { s with core := Tab.set (fun _ => ({} : CoreSt)) s.core k x }
  | coreKeep (s : State) (p : Nat → Bool) : Write s { s with core := Tab.keep p s.core }
  | vec (s : State) (k : Nat) (x : VecSt) : Write s { s with vec := Tab.set (fun _ => ({} : VecSt)) s.vec k x }
  | vecKeep (s : State) (p : Nat → Bool) : Write s { s with vec := Tab.keep p s.vec }
  | fn (s : State) (k : Nat) (x : FnSt) : Write s { s with fn := Tab.set (fun _ => ({} : FnSt)) s.fn k x }
  | fnKeep (s : State) (p : Nat → Bool) : Write s { s with fn := Tab.keep p s.fn }
  | host (s : State) (k : Nat) (x : Byte) : Write s { s with host := Tab.set (fun _ => (0 : Byte)) s.host k x }
  | hostKeep (s : State) (p : Nat → Bool) : Write s { s with host := Tab.keep p s.host }
  | hostErr (s : State) (x : List Nat) : Write s { s with hostErr := x }
  | guest (s : State) (k : Nat) (x : Byte) : Write s { s with guest := Tab.set (fun _ => (0 : Byte)) s.guest k x }
  | guestKeep (s : State) (p : Nat → Bool) : Write s { s with guest := Tab.keep p s.guest }
  | ep (s : State) (k : Nat) (x : EpSt) : Write s { s with ep := Tab.set (fun _ => ({} : EpSt)) s.ep k x }
  | epKeep (s : State) (p : Nat → Bool) : Write s { s with ep := Tab.keep p s.ep }
  | slot (s : State) (k : Nat) (x : SlotSt) : Write s { s with slot := Tab.set (fun _ => ({} : SlotSt)) s.slot k x }
  | slotKeep (s : State) (p : Nat → Bool) : Write s { s with slot := Tab.keep p s.slot }
  | jobs (s : State) (x : List Job) : Write s { s with jobs := x }
  | learn (s : State) (x : List Learn) : Write s { s with learn := x }
  | claimEp (s : State) (x : Option Nat) : Write s { s with claimEp := x }
  | owner (s : State) (k : Nat) (x : Option Nat) : Write s { s with owner := Tab.set (fun _ => (none : Option Nat)) s.owner k x }
  | ownerKeep (s : State) (p : Nat → Bool) : Write s { s with owner := Tab.keep p s.owner }
  | alloc (s : State) (k : Nat) (x : Nat) : Write s { s with alloc := Tab.set (fun _ => (0 : Nat)) s.alloc k x }
  | allocKeep (s : State) (p : Nat → Bool) : Write s { s with alloc := Tab.keep p s.alloc }
  | lastEp (s : State) (x : Nat) : Write s { s with lastEp := x }
  | errlog (s : State) (x : List (List Byte)) : Write s { s with errlog := x }
  | wlink (s : State) (k : Nat) (x : WLink) : Write s { s with wlink := Tab.set (fun _ => ({} : WLink)) s.wlink k x }
  | wlinkKeep (s : State) (p : Nat → Bool) : Write s { s with wlink := Tab.keep p s.wlink }
  | grp (s : State) (k : Nat) (x : Option Nat) : Write s { s with grp := Tab.set (fun _ => (none : Option Nat)) s.grp k x }
  | grpKeep (s : State) (p : Nat → Bool) : Write s { s with grp := Tab.keep p s.grp }
  | port (s : State) (k : Nat) (x : PortSt) : Write s { s with port := Tab.set (fun _ => ({} : PortSt)) s.port k x }
  | portKeep (s : State) (p : Nat → Bool) : Write s { s with port := Tab.keep p s.port }
  | chan (s : State) (k : Nat) (x : ChanSt) : Write s { s with chan := Tab.set (fun _ => ({} : ChanSt)) s.chan k x }
  | chanKeep (s : State) (p : Nat → Bool) : Write s { s with chan := Tab.keep p s.chan }
  | lnk (s : State) (k : Nat) (x : LnkSt) : Write s { s with lnk := Tab.set (fun _ => ({} : LnkSt)) s.lnk k x }
  | lnkKeep (s : State) (p : Nat → Bool) : Write s { s with lnk := Tab.keep p s.lnk }
  | sens (s : State) (k : Nat) (x : SensSt) : Write s { s with sens := Tab.set (fun _ => ({} : SensSt)) s.sens k x }
  | sensKeep (s : State) (p : Nat → Bool) : Write s { s with sens := Tab.keep p s.sens }
  | fuse (s : State) (x : FuseSt) : Write s { s with fuse := x }
  | nonce (s : State) (x : List Byte) : Write s { s with nonce := x }
  | jtag (s : State) (x : JtagSt) : Write s { s with jtag := x }
  | shad (s : State) (k : Nat) (x : ShadSt) : Write s { s with shad := Tab.set (fun _ => ({} : ShadSt)) s.shad k x }
  | shadKeep (s : State) (p : Nat → Bool) : Write s { s with shad := Tab.keep p s.shad }
  | i2c (s : State) (x : I2cSt) : Write s { s with i2c := x }
  | keep (s : State) (k : Nat) (x : Word) : Write s { s with keep := Tab.set (fun _ => (0 : Word)) s.keep k x }
  | keepKeep (s : State) (p : Nat → Bool) : Write s { s with keep := Tab.keep p s.keep }
  | pwr (s : State) (x : PwrSt) : Write s { s with pwr := x }

/-- `s` comes from `s₀` by named writes. -/
inductive Reach (s₀ : State) : State → Prop where
  | refl : Reach s₀ s₀
  | tail {s t : State} : Reach s₀ s → Write s t → Reach s₀ t

/-- A state on its way through a command: what it is now, and that it came from `s₀` by named writes. -/
structure Work (s₀ : State) where
  st : State
  ok : Reach s₀ st

/-- The start of a command's work. -/
def Work.start (s : State) : Work s := ⟨s, .refl⟩

/-- Write T64, the engine's count of ticks. -/
def Work.setT64 {s₀ : State} (s : Work s₀) (x : Nat) : Work s₀ :=
  ⟨{ s.st with t64 := x }, .tail s.ok (.t64 s.st x)⟩

/-- Write the model's counter of free values (log entry 3). -/
def Work.setFreeCnt {s₀ : State} (s : Work s₀) (x : Nat) : Work s₀ :=
  ⟨{ s.st with freeCnt := x }, .tail s.ok (.freeCnt s.st x)⟩

/-- Write T64 modulo 512 at the boundaries of the coarse periods, which a timebase step leaves where they are (R236). -/
def Work.setPhase {s₀ : State} (s : Work s₀) (x : Nat) : Work s₀ :=
  ⟨{ s.st with phase := x }, .tail s.ok (.phase s.st x)⟩

/-- Write whether the device is the DZ9256. -/
def Work.setSmall {s₀ : State} (s : Work s₀) (x : Bool) : Work s₀ :=
  ⟨{ s.st with small := x }, .tail s.ok (.small s.st x)⟩

/-- Write the state of the engine. -/
def Work.setEng {s₀ : State} (s : Work s₀) (x : Eng) : Work s₀ :=
  ⟨{ s.st with eng := x }, .tail s.ok (.eng s.st x)⟩

/-- Write every register, keyed by register and index. -/
def Work.setRegs {s₀ : State} (s : Work s₀) (k : Nat) (x : Word) : Work s₀ :=
  ⟨{ s.st with regs := Tab.set Reg.dflt s.st.regs k x }, .tail s.ok (.regs s.st k x)⟩

/-- Take the entries of regs whose key does not satisfy `p` back to their unlisted value. -/
def Work.keepRegs {s₀ : State} (s : Work s₀) (p : Nat → Bool) : Work s₀ :=
  ⟨{ s.st with regs := Tab.keep p s.st.regs }, .tail s.ok (.regsKeep s.st p)⟩

/-- Read the front end of a unit. -/
def State.freAt (s : State) (k : Nat) : FreUnit := Tab.get (fun _ => ({} : FreUnit)) s.fre k

/-- Read the front end of a unit. -/
abbrev Work.fre {s₀ : State} (s : Work s₀) (k : Nat) : FreUnit := s.st.freAt k

/-- Write the front end of a unit. -/
def Work.setFre {s₀ : State} (s : Work s₀) (k : Nat) (x : FreUnit) : Work s₀ :=
  ⟨{ s.st with fre := Tab.set (fun _ => ({} : FreUnit)) s.st.fre k x }, .tail s.ok (.fre s.st k x)⟩

/-- Take the entries of fre whose key does not satisfy `p` back to their unlisted value. -/
def Work.keepFre {s₀ : State} (s : Work s₀) (p : Nat → Bool) : Work s₀ :=
  ⟨{ s.st with fre := Tab.keep p s.st.fre }, .tail s.ok (.freKeep s.st p)⟩

/-- Read the stamping circuits of a front end. -/
def State.capHwAt (s : State) (k : Nat) : CapHw := Tab.get (fun _ => ({} : CapHw)) s.capHw k

/-- Read the stamping circuits of a front end. -/
abbrev Work.capHw {s₀ : State} (s : Work s₀) (k : Nat) : CapHw := s.st.capHwAt k

/-- Write the stamping circuits of a front end. -/
def Work.setCapHw {s₀ : State} (s : Work s₀) (k : Nat) (x : CapHw) : Work s₀ :=
  ⟨{ s.st with capHw := Tab.set (fun _ => ({} : CapHw)) s.st.capHw k x }, .tail s.ok (.capHw s.st k x)⟩

/-- Take the entries of capHw whose key does not satisfy `p` back to their unlisted value. -/
def Work.keepCapHw {s₀ : State} (s : Work s₀) (p : Nat → Bool) : Work s₀ :=
  ⟨{ s.st with capHw := Tab.keep p s.st.capHw }, .tail s.ok (.capHwKeep s.st p)⟩

/-- Read a lane's capture. -/
def State.capAt (s : State) (k : Nat) : LaneCap := Tab.get (fun _ => ({} : LaneCap)) s.cap k

/-- Read a lane's capture. -/
abbrev Work.cap {s₀ : State} (s : Work s₀) (k : Nat) : LaneCap := s.st.capAt k

/-- Write a lane's capture. -/
def Work.setCap {s₀ : State} (s : Work s₀) (k : Nat) (x : LaneCap) : Work s₀ :=
  ⟨{ s.st with cap := Tab.set (fun _ => ({} : LaneCap)) s.st.cap k x }, .tail s.ok (.cap s.st k x)⟩

/-- Take the entries of cap whose key does not satisfy `p` back to their unlisted value. -/
def Work.keepCap {s₀ : State} (s : Work s₀) (p : Nat → Bool) : Work s₀ :=
  ⟨{ s.st with cap := Tab.keep p s.st.cap }, .tail s.ok (.capKeep s.st p)⟩

/-- Read the calibration of a unit. -/
def State.calAt (s : State) (k : Nat) : CalUnit := Tab.get (fun _ => ({} : CalUnit)) s.cal k

/-- Read the calibration of a unit. -/
abbrev Work.cal {s₀ : State} (s : Work s₀) (k : Nat) : CalUnit := s.st.calAt k

/-- Write the calibration of a unit. -/
def Work.setCal {s₀ : State} (s : Work s₀) (k : Nat) (x : CalUnit) : Work s₀ :=
  ⟨{ s.st with cal := Tab.set (fun _ => ({} : CalUnit)) s.st.cal k x }, .tail s.ok (.cal s.st k x)⟩

/-- Take the entries of cal whose key does not satisfy `p` back to their unlisted value. -/
def Work.keepCal {s₀ : State} (s : Work s₀) (p : Nat → Bool) : Work s₀ :=
  ⟨{ s.st with cal := Tab.keep p s.st.cal }, .tail s.ok (.calKeep s.st p)⟩

/-- Read a block's calibration sequencer. -/
def State.calBlkAt (s : State) (k : Nat) : CalBlk := Tab.get (fun _ => ({} : CalBlk)) s.calBlk k

/-- Read a block's calibration sequencer. -/
abbrev Work.calBlk {s₀ : State} (s : Work s₀) (k : Nat) : CalBlk := s.st.calBlkAt k

/-- Write a block's calibration sequencer. -/
def Work.setCalBlk {s₀ : State} (s : Work s₀) (k : Nat) (x : CalBlk) : Work s₀ :=
  ⟨{ s.st with calBlk := Tab.set (fun _ => ({} : CalBlk)) s.st.calBlk k x }, .tail s.ok (.calBlk s.st k x)⟩

/-- Take the entries of calBlk whose key does not satisfy `p` back to their unlisted value. -/
def Work.keepCalBlk {s₀ : State} (s : Work s₀) (p : Nat → Bool) : Work s₀ :=
  ⟨{ s.st with calBlk := Tab.keep p s.st.calBlk }, .tail s.ok (.calBlkKeep s.st p)⟩

/-- Read a byte of the vault. -/
def State.vaultAt (s : State) (k : Nat) : Byte := Tab.get (fun _ => (0 : Byte)) s.vault k

/-- Read a byte of the vault. -/
abbrev Work.vault {s₀ : State} (s : Work s₀) (k : Nat) : Byte := s.st.vaultAt k

/-- Write a byte of the vault. -/
def Work.setVault {s₀ : State} (s : Work s₀) (k : Nat) (x : Byte) : Work s₀ :=
  ⟨{ s.st with vault := Tab.set (fun _ => (0 : Byte)) s.st.vault k x }, .tail s.ok (.vault s.st k x)⟩

/-- Take the entries of vault whose key does not satisfy `p` back to their unlisted value. -/
def Work.keepVault {s₀ : State} (s : Work s₀) (p : Nat → Bool) : Work s₀ :=
  ⟨{ s.st with vault := Tab.keep p s.st.vault }, .tail s.ok (.vaultKeep s.st p)⟩

/-- Write the units that wait for a calibration slot write, in order. -/
def Work.setVaultQ {s₀ : State} (s : Work s₀) (x : List Nat) : Work s₀ :=
  ⟨{ s.st with vaultQ := x }, .tail s.ok (.vaultQ s.st x)⟩

/-- Write the calibration slot write in progress. -/
def Work.setVaultWr {s₀ : State} (s : Work s₀) (x : Option VaultWr) : Work s₀ :=
  ⟨{ s.st with vaultWr := x }, .tail s.ok (.vaultWr s.st x)⟩

/-- Read a lane's counting engine. -/
def State.cntAt (s : State) (k : Nat) : CntUnit := Tab.get (fun _ => ({} : CntUnit)) s.cnt k

/-- Read a lane's counting engine. -/
abbrev Work.cnt {s₀ : State} (s : Work s₀) (k : Nat) : CntUnit := s.st.cntAt k

/-- Write a lane's counting engine. -/
def Work.setCnt {s₀ : State} (s : Work s₀) (k : Nat) (x : CntUnit) : Work s₀ :=
  ⟨{ s.st with cnt := Tab.set (fun _ => ({} : CntUnit)) s.st.cnt k x }, .tail s.ok (.cnt s.st k x)⟩

/-- Take the entries of cnt whose key does not satisfy `p` back to their unlisted value. -/
def Work.keepCnt {s₀ : State} (s : Work s₀) (p : Nat → Bool) : Work s₀ :=
  ⟨{ s.st with cnt := Tab.keep p s.st.cnt }, .tail s.ok (.cntKeep s.st p)⟩

/-- Read a pairing unit. -/
def State.pairAt (s : State) (k : Nat) : PairSt := Tab.get (fun _ => ({} : PairSt)) s.pair k

/-- Read a pairing unit. -/
abbrev Work.pair {s₀ : State} (s : Work s₀) (k : Nat) : PairSt := s.st.pairAt k

/-- Write a pairing unit. -/
def Work.setPair {s₀ : State} (s : Work s₀) (k : Nat) (x : PairSt) : Work s₀ :=
  ⟨{ s.st with pair := Tab.set (fun _ => ({} : PairSt)) s.st.pair k x }, .tail s.ok (.pair s.st k x)⟩

/-- Take the entries of pair whose key does not satisfy `p` back to their unlisted value. -/
def Work.keepPair {s₀ : State} (s : Work s₀) (p : Nat → Bool) : Work s₀ :=
  ⟨{ s.st with pair := Tab.keep p s.st.pair }, .tail s.ok (.pairKeep s.st p)⟩

/-- Write the axis unit. -/
def Work.setAxis {s₀ : State} (s : Work s₀) (x : AxisSt) : Work s₀ :=
  ⟨{ s.st with axis := x }, .tail s.ok (.axis s.st x)⟩

/-- Write the timebase and the output synthesiser. -/
def Work.setTim {s₀ : State} (s : Work s₀) (x : TimSt) : Work s₀ :=
  ⟨{ s.st with tim := x }, .tail s.ok (.tim s.st x)⟩

/-- Read the TIM_OCLK word that an output runs by. -/
def State.clkAt (s : State) (k : Nat) : Word := Tab.get (fun _ => (0x40 : Word)) s.clk k

/-- Read the TIM_OCLK word that an output runs by. -/
abbrev Work.clk {s₀ : State} (s : Work s₀) (k : Nat) : Word := s.st.clkAt k

/-- Write the TIM_OCLK word that an output runs by. -/
def Work.setClk {s₀ : State} (s : Work s₀) (k : Nat) (x : Word) : Work s₀ :=
  ⟨{ s.st with clk := Tab.set (fun _ => (0x40 : Word)) s.st.clk k x }, .tail s.ok (.clk s.st k x)⟩

/-- Take the entries of clk whose key does not satisfy `p` back to their unlisted value. -/
def Work.keepClk {s₀ : State} (s : Work s₀) (p : Nat → Bool) : Work s₀ :=
  ⟨{ s.st with clk := Tab.keep p s.st.clk }, .tail s.ok (.clkKeep s.st p)⟩

/-- Read a MARK port. -/
def State.markAt (s : State) (k : Nat) : MarkSt := Tab.get (fun _ => ({} : MarkSt)) s.mark k

/-- Read a MARK port. -/
abbrev Work.mark {s₀ : State} (s : Work s₀) (k : Nat) : MarkSt := s.st.markAt k

/-- Write a MARK port. -/
def Work.setMark {s₀ : State} (s : Work s₀) (k : Nat) (x : MarkSt) : Work s₀ :=
  ⟨{ s.st with mark := Tab.set (fun _ => ({} : MarkSt)) s.st.mark k x }, .tail s.ok (.mark s.st k x)⟩

/-- Take the entries of mark whose key does not satisfy `p` back to their unlisted value. -/
def Work.keepMark {s₀ : State} (s : Work s₀) (p : Nat → Bool) : Work s₀ :=
  ⟨{ s.st with mark := Tab.keep p s.st.mark }, .tail s.ok (.markKeep s.st p)⟩

/-- Read a block's merge. -/
def State.mergeAt (s : State) (k : Nat) : MergeSt := Tab.get (fun _ => ({} : MergeSt)) s.merge k

/-- Read a block's merge. -/
abbrev Work.merge {s₀ : State} (s : Work s₀) (k : Nat) : MergeSt := s.st.mergeAt k

/-- Write a block's merge. -/
def Work.setMerge {s₀ : State} (s : Work s₀) (k : Nat) (x : MergeSt) : Work s₀ :=
  ⟨{ s.st with merge := Tab.set (fun _ => ({} : MergeSt)) s.st.merge k x }, .tail s.ok (.merge s.st k x)⟩

/-- Take the entries of merge whose key does not satisfy `p` back to their unlisted value. -/
def Work.keepMerge {s₀ : State} (s : Work s₀) (p : Nat → Bool) : Work s₀ :=
  ⟨{ s.st with merge := Tab.keep p s.st.merge }, .tail s.ok (.mergeKeep s.st p)⟩

/-- Read the progress of a producer that keeps one (R259). -/
def State.progAt (s : State) (k : Nat) : Nat := Tab.get (fun _ => (0 : Nat)) s.prog k

/-- Read the progress of a producer that keeps one (R259). -/
abbrev Work.prog {s₀ : State} (s : Work s₀) (k : Nat) : Nat := s.st.progAt k

/-- Write the progress of a producer that keeps one (R259). -/
def Work.setProg {s₀ : State} (s : Work s₀) (k : Nat) (x : Nat) : Work s₀ :=
  ⟨{ s.st with prog := Tab.set (fun _ => (0 : Nat)) s.st.prog k x }, .tail s.ok (.prog s.st k x)⟩

/-- Take the entries of prog whose key does not satisfy `p` back to their unlisted value. -/
def Work.keepProg {s₀ : State} (s : Work s₀) (p : Nat → Bool) : Work s₀ :=
  ⟨{ s.st with prog := Tab.keep p s.st.prog }, .tail s.ok (.progKeep s.st p)⟩

/-- Write the records of cross-ward units that wait for a buffer (producer, queue, longest bundle, record). -/
def Work.setBack {s₀ : State} (s : Work s₀) (x : List (Nat × Nat × Nat × Rec)) : Work s₀ :=
  ⟨{ s.st with back := x }, .tail s.ok (.back s.st x)⟩

/-- Read a weaver. -/
def State.weavAt (s : State) (k : Nat) : WeavSt := Tab.get (fun _ => ({} : WeavSt)) s.weav k

/-- Read a weaver. -/
abbrev Work.weav {s₀ : State} (s : Work s₀) (k : Nat) : WeavSt := s.st.weavAt k

/-- Write a weaver. -/
def Work.setWeav {s₀ : State} (s : Work s₀) (k : Nat) (x : WeavSt) : Work s₀ :=
  ⟨{ s.st with weav := Tab.set (fun _ => ({} : WeavSt)) s.st.weav k x }, .tail s.ok (.weav s.st k x)⟩

/-- Take the entries of weav whose key does not satisfy `p` back to their unlisted value. -/
def Work.keepWeav {s₀ : State} (s : Work s₀) (p : Nat → Bool) : Work s₀ :=
  ⟨{ s.st with weav := Tab.keep p s.st.weav }, .tail s.ok (.weavKeep s.st p)⟩

/-- Write the open bundles of the engine, the least recently appended first. -/
def Work.setOpen_ {s₀ : State} (s : Work s₀) (x : List Bundle) : Work s₀ :=
  ⟨{ s.st with open_ := x }, .tail s.ok (.open_ s.st x)⟩

/-- Write the closed bundles that await placement, in order of their close. -/
def Work.setWait {s₀ : State} (s : Work s₀) (x : List Bundle) : Work s₀ :=
  ⟨{ s.st with wait := x }, .tail s.ok (.wait s.st x)⟩

/-- Write the producers to which a freed assembly buffer has gone. -/
def Work.setGranted {s₀ : State} (s : Work s₀) (x : List Nat) : Work s₀ :=
  ⟨{ s.st with granted := x }, .tail s.ok (.granted s.st x)⟩

/-- Write the producers that wait for an assembly buffer, in order of request. -/
def Work.setWaiters {s₀ : State} (s : Work s₀) (x : List Nat) : Work s₀ :=
  ⟨{ s.st with waiters := x }, .tail s.ok (.waiters s.st x)⟩

/-- Read a queue. -/
def State.queAt (s : State) (k : Nat) : QueSt := Tab.get (fun _ => ({} : QueSt)) s.que k

/-- Read a queue. -/
abbrev Work.que {s₀ : State} (s : Work s₀) (k : Nat) : QueSt := s.st.queAt k

/-- Write a queue. -/
def Work.setQue {s₀ : State} (s : Work s₀) (k : Nat) (x : QueSt) : Work s₀ :=
  ⟨{ s.st with que := Tab.set (fun _ => ({} : QueSt)) s.st.que k x }, .tail s.ok (.que s.st k x)⟩

/-- Take the entries of que whose key does not satisfy `p` back to their unlisted value. -/
def Work.keepQue {s₀ : State} (s : Work s₀) (p : Nat → Bool) : Work s₀ :=
  ⟨{ s.st with que := Tab.keep p s.st.que }, .tail s.ok (.queKeep s.st p)⟩

/-- Read a word of the store. -/
def State.storeAt (s : State) (k : Nat) : Word := Tab.get (fun _ => (0 : Word)) s.store k

/-- Read a word of the store. -/
abbrev Work.store {s₀ : State} (s : Work s₀) (k : Nat) : Word := s.st.storeAt k

/-- Write a word of the store. -/
def Work.setStore {s₀ : State} (s : Work s₀) (k : Nat) (x : Word) : Work s₀ :=
  ⟨{ s.st with store := Tab.set (fun _ => (0 : Word)) s.st.store k x }, .tail s.ok (.store s.st k x)⟩

/-- Take the entries of store whose key does not satisfy `p` back to their unlisted value. -/
def Work.keepStore {s₀ : State} (s : Work s₀) (p : Nat → Bool) : Work s₀ :=
  ⟨{ s.st with store := Tab.keep p s.st.store }, .tail s.ok (.storeKeep s.st p)⟩

/-- Write the store words that hold a double-bit error (R395). -/
def Work.setUe {s₀ : State} (s : Work s₀) (x : List Nat) : Work s₀ :=
  ⟨{ s.st with ue := x }, .tail s.ok (.ue s.st x)⟩

/-- Write the store words that hold a single-bit error, which no read has met yet (R395, log entry 55). -/
def Work.setCe {s₀ : State} (s : Work s₀) (x : List Nat) : Work s₀ :=
  ⟨{ s.st with ce := x }, .tail s.ok (.ce s.st x)⟩

/-- Write whether the store interface refreshes the store at double rate (R435). -/
def Work.setRefresh {s₀ : State} (s : Work s₀) (x : Bool) : Work s₀ :=
  ⟨{ s.st with refresh := x }, .tail s.ok (.refresh s.st x)⟩

/-- Write pool PLL: the reference it has identified and whether it holds its frequency (R325). -/
def Work.setPool {s₀ : State} (s : Work s₀) (x : PoolPll) : Work s₀ :=
  ⟨{ s.st with pool := x }, .tail s.ok (.pool s.st x)⟩

/-- Read a filter pipeline. -/
def State.fltAt (s : State) (k : Nat) : FltSt := Tab.get (fun _ => ({} : FltSt)) s.flt k

/-- Read a filter pipeline. -/
abbrev Work.flt {s₀ : State} (s : Work s₀) (k : Nat) : FltSt := s.st.fltAt k

/-- Write a filter pipeline. -/
def Work.setFlt {s₀ : State} (s : Work s₀) (k : Nat) (x : FltSt) : Work s₀ :=
  ⟨{ s.st with flt := Tab.set (fun _ => ({} : FltSt)) s.st.flt k x }, .tail s.ok (.flt s.st k x)⟩

/-- Take the entries of flt whose key does not satisfy `p` back to their unlisted value. -/
def Work.keepFlt {s₀ : State} (s : Work s₀) (p : Nat → Bool) : Work s₀ :=
  ⟨{ s.st with flt := Tab.keep p s.st.flt }, .tail s.ok (.fltKeep s.st p)⟩

/-- Read a histogram engine. -/
def State.heAt (s : State) (k : Nat) : HeSt := Tab.get (fun _ => ({} : HeSt)) s.he k

/-- Read a histogram engine. -/
abbrev Work.he {s₀ : State} (s : Work s₀) (k : Nat) : HeSt := s.st.heAt k

/-- Write a histogram engine. -/
def Work.setHe {s₀ : State} (s : Work s₀) (k : Nat) (x : HeSt) : Work s₀ :=
  ⟨{ s.st with he := Tab.set (fun _ => ({} : HeSt)) s.st.he k x }, .tail s.ok (.he s.st k x)⟩

/-- Take the entries of he whose key does not satisfy `p` back to their unlisted value. -/
def Work.keepHe {s₀ : State} (s : Work s₀) (p : Nat → Bool) : Work s₀ :=
  ⟨{ s.st with he := Tab.keep p s.st.he }, .tail s.ok (.heKeep s.st p)⟩

/-- Read whether a monitor unit has taken a sample since its EN or RESTART (R393). -/
def State.muOnAt (s : State) (k : Nat) : Bool := Tab.get (fun _ => (false : Bool)) s.muOn k

/-- Read whether a monitor unit has taken a sample since its EN or RESTART (R393). -/
abbrev Work.muOn {s₀ : State} (s : Work s₀) (k : Nat) : Bool := s.st.muOnAt k

/-- Write whether a monitor unit has taken a sample since its EN or RESTART (R393). -/
def Work.setMuOn {s₀ : State} (s : Work s₀) (k : Nat) (x : Bool) : Work s₀ :=
  ⟨{ s.st with muOn := Tab.set (fun _ => (false : Bool)) s.st.muOn k x }, .tail s.ok (.muOn s.st k x)⟩

/-- Take the entries of muOn whose key does not satisfy `p` back to their unlisted value. -/
def Work.keepMuOn {s₀ : State} (s : Work s₀) (p : Nat → Bool) : Work s₀ :=
  ⟨{ s.st with muOn := Tab.keep p s.st.muOn }, .tail s.ok (.muOnKeep s.st p)⟩

/-- Read the words that a host ring has copied and not yet written back (R275). -/
def State.ringCAt (s : State) (k : Nat) : Nat × Nat := Tab.get (fun _ => ((0, 0) : Nat × Nat)) s.ringC k

/-- Read the words that a host ring has copied and not yet written back (R275). -/
abbrev Work.ringC {s₀ : State} (s : Work s₀) (k : Nat) : Nat × Nat := s.st.ringCAt k

/-- Write the words that a host ring has copied and not yet written back (R275). -/
def Work.setRingC {s₀ : State} (s : Work s₀) (k : Nat) (x : Nat × Nat) : Work s₀ :=
  ⟨{ s.st with ringC := Tab.set (fun _ => ((0, 0) : Nat × Nat)) s.st.ringC k x }, .tail s.ok (.ringC s.st k x)⟩

/-- Take the entries of ringC whose key does not satisfy `p` back to their unlisted value. -/
def Work.keepRingC {s₀ : State} (s : Work s₀) (p : Nat → Bool) : Work s₀ :=
  ⟨{ s.st with ringC := Tab.keep p s.st.ringC }, .tail s.ok (.ringCKeep s.st p)⟩

/-- Write the ring to which a DMA engine was given last (R327). -/
def Work.setDmaRr {s₀ : State} (s : Work s₀) (x : Nat) : Work s₀ :=
  ⟨{ s.st with dmaRr := x }, .tail s.ok (.dmaRr s.st x)⟩

/-- Read an interrupt source. -/
def State.srcAt (s : State) (k : Nat) : SrcSt := Tab.get (fun _ => ({} : SrcSt)) s.src k

/-- Read an interrupt source. -/
abbrev Work.src {s₀ : State} (s : Work s₀) (k : Nat) : SrcSt := s.st.srcAt k

/-- Write an interrupt source. -/
def Work.setSrc {s₀ : State} (s : Work s₀) (k : Nat) (x : SrcSt) : Work s₀ :=
  ⟨{ s.st with src := Tab.set (fun _ => ({} : SrcSt)) s.st.src k x }, .tail s.ok (.src s.st k x)⟩

/-- Take the entries of src whose key does not satisfy `p` back to their unlisted value. -/
def Work.keepSrc {s₀ : State} (s : Work s₀) (p : Nat → Bool) : Work s₀ :=
  ⟨{ s.st with src := Tab.keep p s.st.src }, .tail s.ok (.srcKeep s.st p)⟩

/-- Read when the timer of a moderation unit runs out (R284). -/
def State.modTAt (s : State) (k : Nat) : Option Nat := Tab.get (fun _ => (none : Option Nat)) s.modT k

/-- Read when the timer of a moderation unit runs out (R284). -/
abbrev Work.modT {s₀ : State} (s : Work s₀) (k : Nat) : Option Nat := s.st.modTAt k

/-- Write when the timer of a moderation unit runs out (R284). -/
def Work.setModT {s₀ : State} (s : Work s₀) (k : Nat) (x : Option Nat) : Work s₀ :=
  ⟨{ s.st with modT := Tab.set (fun _ => (none : Option Nat)) s.st.modT k x }, .tail s.ok (.modT s.st k x)⟩

/-- Take the entries of modT whose key does not satisfy `p` back to their unlisted value. -/
def Work.keepModT {s₀ : State} (s : Work s₀) (p : Nat → Bool) : Work s₀ :=
  ⟨{ s.st with modT := Tab.keep p s.st.modT }, .tail s.ok (.modTKeep s.st p)⟩

/-- Read a control core as the EIC sees it. -/
def State.coreAt (s : State) (k : Nat) : CoreSt := Tab.get (fun _ => ({} : CoreSt)) s.core k

/-- Read a control core as the EIC sees it. -/
abbrev Work.core {s₀ : State} (s : Work s₀) (k : Nat) : CoreSt := s.st.coreAt k

/-- Write a control core as the EIC sees it. -/
def Work.setCore {s₀ : State} (s : Work s₀) (k : Nat) (x : CoreSt) : Work s₀ :=
  ⟨{ s.st with core := Tab.set (fun _ => ({} : CoreSt)) s.st.core k x }, .tail s.ok (.core s.st k x)⟩

/-- Take the entries of core whose key does not satisfy `p` back to their unlisted value. -/
def Work.keepCore {s₀ : State} (s : Work s₀) (p : Nat → Bool) : Work s₀ :=
  ⟨{ s.st with core := Tab.keep p s.st.core }, .tail s.ok (.coreKeep s.st p)⟩

/-- Read an MSI-X vector. -/
def State.vecAt (s : State) (k : Nat) : VecSt := Tab.get (fun _ => ({} : VecSt)) s.vec k

/-- Read an MSI-X vector. -/
abbrev Work.vec {s₀ : State} (s : Work s₀) (k : Nat) : VecSt := s.st.vecAt k

/-- Write an MSI-X vector. -/
def Work.setVec {s₀ : State} (s : Work s₀) (k : Nat) (x : VecSt) : Work s₀ :=
  ⟨{ s.st with vec := Tab.set (fun _ => ({} : VecSt)) s.st.vec k x }, .tail s.ok (.vec s.st k x)⟩

/-- Take the entries of vec whose key does not satisfy `p` back to their unlisted value. -/
def Work.keepVec {s₀ : State} (s : Work s₀) (p : Nat → Bool) : Work s₀ :=
  ⟨{ s.st with vec := Tab.keep p s.st.vec }, .tail s.ok (.vecKeep s.st p)⟩

/-- Read a host function. -/
def State.fnAt (s : State) (k : Nat) : FnSt := Tab.get (fun _ => ({} : FnSt)) s.fn k

/-- Read a host function. -/
abbrev Work.fn {s₀ : State} (s : Work s₀) (k : Nat) : FnSt := s.st.fnAt k

/-- Write a host function. -/
def Work.setFn {s₀ : State} (s : Work s₀) (k : Nat) (x : FnSt) : Work s₀ :=
  ⟨{ s.st with fn := Tab.set (fun _ => ({} : FnSt)) s.st.fn k x }, .tail s.ok (.fn s.st k x)⟩

/-- Take the entries of fn whose key does not satisfy `p` back to their unlisted value. -/
def Work.keepFn {s₀ : State} (s : Work s₀) (p : Nat → Bool) : Work s₀ :=
  ⟨{ s.st with fn := Tab.keep p s.st.fn }, .tail s.ok (.fnKeep s.st p)⟩

/-- Read a byte of host memory. -/
def State.hostAt (s : State) (k : Nat) : Byte := Tab.get (fun _ => (0 : Byte)) s.host k

/-- Read a byte of host memory. -/
abbrev Work.host {s₀ : State} (s : Work s₀) (k : Nat) : Byte := s.st.hostAt k

/-- Write a byte of host memory. -/
def Work.setHost {s₀ : State} (s : Work s₀) (k : Nat) (x : Byte) : Work s₀ :=
  ⟨{ s.st with host := Tab.set (fun _ => (0 : Byte)) s.st.host k x }, .tail s.ok (.host s.st k x)⟩

/-- Take the entries of host whose key does not satisfy `p` back to their unlisted value. -/
def Work.keepHost {s₀ : State} (s : Work s₀) (p : Nat → Bool) : Work s₀ :=
  ⟨{ s.st with host := Tab.keep p s.st.host }, .tail s.ok (.hostKeep s.st p)⟩

/-- Write the 8-byte words of host memory, as `host` numbers bytes / 8, whose reads and writes by firmware the host
ends with a completion error (R307). -/
def Work.setHostErr {s₀ : State} (s : Work s₀) (x : List Nat) : Work s₀ :=
  ⟨{ s.st with hostErr := x }, .tail s.ok (.hostErr s.st x)⟩

/-- Read a byte of a core's local memory (core * 2^18 + offset). -/
def State.guestAt (s : State) (k : Nat) : Byte := Tab.get (fun _ => (0 : Byte)) s.guest k

/-- Read a byte of a core's local memory (core * 2^18 + offset). -/
abbrev Work.guest {s₀ : State} (s : Work s₀) (k : Nat) : Byte := s.st.guestAt k

/-- Write a byte of a core's local memory (core * 2^18 + offset). -/
def Work.setGuest {s₀ : State} (s : Work s₀) (k : Nat) (x : Byte) : Work s₀ :=
  ⟨{ s.st with guest := Tab.set (fun _ => (0 : Byte)) s.st.guest k x }, .tail s.ok (.guest s.st k x)⟩

/-- Take the entries of guest whose key does not satisfy `p` back to their unlisted value. -/
def Work.keepGuest {s₀ : State} (s : Work s₀) (p : Nat → Bool) : Work s₀ :=
  ⟨{ s.st with guest := Tab.keep p s.st.guest }, .tail s.ok (.guestKeep s.st p)⟩

/-- Read an endpoint of the command interface. -/
def State.epAt (s : State) (k : Nat) : EpSt := Tab.get (fun _ => ({} : EpSt)) s.ep k

/-- Read an endpoint of the command interface. -/
abbrev Work.ep {s₀ : State} (s : Work s₀) (k : Nat) : EpSt := s.st.epAt k

/-- Write an endpoint of the command interface. -/
def Work.setEp {s₀ : State} (s : Work s₀) (k : Nat) (x : EpSt) : Work s₀ :=
  ⟨{ s.st with ep := Tab.set (fun _ => ({} : EpSt)) s.st.ep k x }, .tail s.ok (.ep s.st k x)⟩

/-- Take the entries of ep whose key does not satisfy `p` back to their unlisted value. -/
def Work.keepEp {s₀ : State} (s : Work s₀) (p : Nat → Bool) : Work s₀ :=
  ⟨{ s.st with ep := Tab.keep p s.st.ep }, .tail s.ok (.epKeep s.st p)⟩

/-- Read a mailbox slot (endpoint * 4 + slot). -/
def State.slotAt (s : State) (k : Nat) : SlotSt := Tab.get (fun _ => ({} : SlotSt)) s.slot k

/-- Read a mailbox slot (endpoint * 4 + slot). -/
abbrev Work.slot {s₀ : State} (s : Work s₀) (k : Nat) : SlotSt := s.st.slotAt k

/-- Write a mailbox slot (endpoint * 4 + slot). -/
def Work.setSlot {s₀ : State} (s : Work s₀) (k : Nat) (x : SlotSt) : Work s₀ :=
  ⟨{ s.st with slot := Tab.set (fun _ => ({} : SlotSt)) s.st.slot k x }, .tail s.ok (.slot s.st k x)⟩

/-- Take the entries of slot whose key does not satisfy `p` back to their unlisted value. -/
def Work.keepSlot {s₀ : State} (s : Work s₀) (p : Nat → Bool) : Work s₀ :=
  ⟨{ s.st with slot := Tab.keep p s.st.slot }, .tail s.ok (.slotKeep s.st p)⟩

/-- Write the commands that firmware has taken and not finished, in the order they were taken. -/
def Work.setJobs {s₀ : State} (s : Work s₀) (x : List Job) : Work s₀ :=
  ⟨{ s.st with jobs := x }, .tail s.ok (.jobs s.st x)⟩

/-- Write the walk learnings in progress. -/
def Work.setLearn {s₀ : State} (s : Work s₀) (x : List Learn) : Work s₀ :=
  ⟨{ s.st with learn := x }, .tail s.ok (.learn s.st x)⟩

/-- Write the endpoint that holds the staging claim. -/
def Work.setClaimEp {s₀ : State} (s : Work s₀) (x : Option Nat) : Work s₀ :=
  ⟨{ s.st with claimEp := x }, .tail s.ok (.claimEp s.st x)⟩

/-- Read the endpoint to which a pairing unit is allocated. -/
def State.ownerAt (s : State) (k : Nat) : Option Nat := Tab.get (fun _ => (none : Option Nat)) s.owner k

/-- Read the endpoint to which a pairing unit is allocated. -/
abbrev Work.owner {s₀ : State} (s : Work s₀) (k : Nat) : Option Nat := s.st.ownerAt k

/-- Write the endpoint to which a pairing unit is allocated. -/
def Work.setOwner {s₀ : State} (s : Work s₀) (k : Nat) (x : Option Nat) : Work s₀ :=
  ⟨{ s.st with owner := Tab.set (fun _ => (none : Option Nat)) s.st.owner k x }, .tail s.ok (.owner s.st k x)⟩

/-- Take the entries of owner whose key does not satisfy `p` back to their unlisted value. -/
def Work.keepOwner {s₀ : State} (s : Work s₀) (p : Nat → Bool) : Work s₀ :=
  ⟨{ s.st with owner := Tab.keep p s.st.owner }, .tail s.ok (.ownerKeep s.st p)⟩

/-- Read the store area of an allocated queue or, from 65,536 up, of a filter pipeline: 0 none, else 1 + log2 of its
words + 64 * its first word. -/
def State.allocAt (s : State) (k : Nat) : Nat := Tab.get (fun _ => (0 : Nat)) s.alloc k

/-- Read the store area of an allocated queue or, from 65,536 up, of a filter pipeline: 0 none, else 1 + log2 of its
words + 64 * its first word. -/
abbrev Work.alloc {s₀ : State} (s : Work s₀) (k : Nat) : Nat := s.st.allocAt k

/-- Write the store area of an allocated queue or, from 65,536 up, of a filter pipeline: 0 none, else 1 + log2 of its
words + 64 * its first word. -/
def Work.setAlloc {s₀ : State} (s : Work s₀) (k : Nat) (x : Nat) : Work s₀ :=
  ⟨{ s.st with alloc := Tab.set (fun _ => (0 : Nat)) s.st.alloc k x }, .tail s.ok (.alloc s.st k x)⟩

/-- Take the entries of alloc whose key does not satisfy `p` back to their unlisted value. -/
def Work.keepAlloc {s₀ : State} (s : Work s₀) (p : Nat → Bool) : Work s₀ :=
  ⟨{ s.st with alloc := Tab.keep p s.st.alloc }, .tail s.ok (.allocKeep s.st p)⟩

/-- Write the endpoint whose command firmware took last. -/
def Work.setLastEp {s₀ : State} (s : Work s₀) (x : Nat) : Work s₀ :=
  ⟨{ s.st with lastEp := x }, .tail s.ok (.lastEp s.st x)⟩

/-- Write the FAULT notices formed since RESET_N, the last 64, oldest first. -/
def Work.setErrlog {s₀ : State} (s : Work s₀) (x : List (List Byte)) : Work s₀ :=
  ⟨{ s.st with errlog := x }, .tail s.ok (.errlog s.st x)⟩

/-- Read a ward's die-to-die link. -/
def State.wlinkAt (s : State) (k : Nat) : WLink := Tab.get (fun _ => ({} : WLink)) s.wlink k

/-- Read a ward's die-to-die link. -/
abbrev Work.wlink {s₀ : State} (s : Work s₀) (k : Nat) : WLink := s.st.wlinkAt k

/-- Write a ward's die-to-die link. -/
def Work.setWlink {s₀ : State} (s : Work s₀) (k : Nat) (x : WLink) : Work s₀ :=
  ⟨{ s.st with wlink := Tab.set (fun _ => ({} : WLink)) s.st.wlink k x }, .tail s.ok (.wlink s.st k x)⟩

/-- Take the entries of wlink whose key does not satisfy `p` back to their unlisted value. -/
def Work.keepWlink {s₀ : State} (s : Work s₀) (p : Nat → Bool) : Work s₀ :=
  ⟨{ s.st with wlink := Tab.keep p s.st.wlink }, .tail s.ok (.wlinkKeep s.st p)⟩

/-- Read when a pool group trains after a change of MODE (R324). -/
def State.grpAt (s : State) (k : Nat) : Option Nat := Tab.get (fun _ => (none : Option Nat)) s.grp k

/-- Read when a pool group trains after a change of MODE (R324). -/
abbrev Work.grp {s₀ : State} (s : Work s₀) (k : Nat) : Option Nat := s.st.grpAt k

/-- Write when a pool group trains after a change of MODE (R324). -/
def Work.setGrp {s₀ : State} (s : Work s₀) (k : Nat) (x : Option Nat) : Work s₀ :=
  ⟨{ s.st with grp := Tab.set (fun _ => (none : Option Nat)) s.st.grp k x }, .tail s.ok (.grp s.st k x)⟩

/-- Take the entries of grp whose key does not satisfy `p` back to their unlisted value. -/
def Work.keepGrp {s₀ : State} (s : Work s₀) (p : Nat → Bool) : Work s₀ :=
  ⟨{ s.st with grp := Tab.keep p s.st.grp }, .tail s.ok (.grpKeep s.st p)⟩

/-- Read an Ethernet port. -/
def State.portAt (s : State) (k : Nat) : PortSt := Tab.get (fun _ => ({} : PortSt)) s.port k

/-- Read an Ethernet port. -/
abbrev Work.port {s₀ : State} (s : Work s₀) (k : Nat) : PortSt := s.st.portAt k

/-- Write an Ethernet port. -/
def Work.setPort {s₀ : State} (s : Work s₀) (k : Nat) (x : PortSt) : Work s₀ :=
  ⟨{ s.st with port := Tab.set (fun _ => ({} : PortSt)) s.st.port k x }, .tail s.ok (.port s.st k x)⟩

/-- Take the entries of port whose key does not satisfy `p` back to their unlisted value. -/
def Work.keepPort {s₀ : State} (s : Work s₀) (p : Nat → Bool) : Work s₀ :=
  ⟨{ s.st with port := Tab.keep p s.st.port }, .tail s.ok (.portKeep s.st p)⟩

/-- Read an egress channel. -/
def State.chanAt (s : State) (k : Nat) : ChanSt := Tab.get (fun _ => ({} : ChanSt)) s.chan k

/-- Read an egress channel. -/
abbrev Work.chan {s₀ : State} (s : Work s₀) (k : Nat) : ChanSt := s.st.chanAt k

/-- Write an egress channel. -/
def Work.setChan {s₀ : State} (s : Work s₀) (k : Nat) (x : ChanSt) : Work s₀ :=
  ⟨{ s.st with chan := Tab.set (fun _ => ({} : ChanSt)) s.st.chan k x }, .tail s.ok (.chan s.st k x)⟩

/-- Take the entries of chan whose key does not satisfy `p` back to their unlisted value. -/
def Work.keepChan {s₀ : State} (s : Work s₀) (p : Nat → Bool) : Work s₀ :=
  ⟨{ s.st with chan := Tab.keep p s.st.chan }, .tail s.ok (.chanKeep s.st p)⟩

/-- Read a DLP link. -/
def State.lnkAt (s : State) (k : Nat) : LnkSt := Tab.get (fun _ => ({} : LnkSt)) s.lnk k

/-- Read a DLP link. -/
abbrev Work.lnk {s₀ : State} (s : Work s₀) (k : Nat) : LnkSt := s.st.lnkAt k

/-- Write a DLP link. -/
def Work.setLnk {s₀ : State} (s : Work s₀) (k : Nat) (x : LnkSt) : Work s₀ :=
  ⟨{ s.st with lnk := Tab.set (fun _ => ({} : LnkSt)) s.st.lnk k x }, .tail s.ok (.lnk s.st k x)⟩

/-- Take the entries of lnk whose key does not satisfy `p` back to their unlisted value. -/
def Work.keepLnk {s₀ : State} (s : Work s₀) (p : Nat → Bool) : Work s₀ :=
  ⟨{ s.st with lnk := Tab.keep p s.st.lnk }, .tail s.ok (.lnkKeep s.st p)⟩

/-- Read a temperature sensor. -/
def State.sensAt (s : State) (k : Nat) : SensSt := Tab.get (fun _ => ({} : SensSt)) s.sens k

/-- Read a temperature sensor. -/
abbrev Work.sens {s₀ : State} (s : Work s₀) (k : Nat) : SensSt := s.st.sensAt k

/-- Write a temperature sensor. -/
def Work.setSens {s₀ : State} (s : Work s₀) (k : Nat) (x : SensSt) : Work s₀ :=
  ⟨{ s.st with sens := Tab.set (fun _ => ({} : SensSt)) s.st.sens k x }, .tail s.ok (.sens s.st k x)⟩

/-- Take the entries of sens whose key does not satisfy `p` back to their unlisted value. -/
def Work.keepSens {s₀ : State} (s : Work s₀) (p : Nat → Bool) : Work s₀ :=
  ⟨{ s.st with sens := Tab.keep p s.st.sens }, .tail s.ok (.sensKeep s.st p)⟩

/-- Write the security fuses. -/
def Work.setFuse {s₀ : State} (s : Work s₀) (x : FuseSt) : Work s₀ :=
  ⟨{ s.st with fuse := x }, .tail s.ok (.fuse s.st x)⟩

/-- Write the nonce of the debug challenge in force (R363). -/
def Work.setNonce {s₀ : State} (s : Work s₀) (x : List Byte) : Work s₀ :=
  ⟨{ s.st with nonce := x }, .tail s.ok (.nonce s.st x)⟩

/-- Write the JTAG port. -/
def Work.setJtag {s₀ : State} (s : Work s₀) (x : JtagSt) : Work s₀ :=
  ⟨{ s.st with jtag := x }, .tail s.ok (.jtag s.st x)⟩

/-- Read a master's shadows. -/
def State.shadAt (s : State) (k : Nat) : ShadSt := Tab.get (fun _ => ({} : ShadSt)) s.shad k

/-- Read a master's shadows. -/
abbrev Work.shad {s₀ : State} (s : Work s₀) (k : Nat) : ShadSt := s.st.shadAt k

/-- Write a master's shadows. -/
def Work.setShad {s₀ : State} (s : Work s₀) (k : Nat) (x : ShadSt) : Work s₀ :=
  ⟨{ s.st with shad := Tab.set (fun _ => ({} : ShadSt)) s.st.shad k x }, .tail s.ok (.shad s.st k x)⟩

/-- Take the entries of shad whose key does not satisfy `p` back to their unlisted value. -/
def Work.keepShad {s₀ : State} (s : Work s₀) (p : Nat → Bool) : Work s₀ :=
  ⟨{ s.st with shad := Tab.keep p s.st.shad }, .tail s.ok (.shadKeep s.st p)⟩

/-- Write the I2C port. -/
def Work.setI2c {s₀ : State} (s : Work s₀) (x : I2cSt) : Work s₀ :=
  ⟨{ s.st with i2c := x }, .tail s.ok (.i2c s.st x)⟩

/-- Read a word of the keep (R387). -/
def State.keepAt (s : State) (k : Nat) : Word := Tab.get (fun _ => (0 : Word)) s.keep k

/-- Read a word of the keep (R387). -/
abbrev Work.keep {s₀ : State} (s : Work s₀) (k : Nat) : Word := s.st.keepAt k

/-- Write a word of the keep (R387). -/
def Work.setKeep {s₀ : State} (s : Work s₀) (k : Nat) (x : Word) : Work s₀ :=
  ⟨{ s.st with keep := Tab.set (fun _ => (0 : Word)) s.st.keep k x }, .tail s.ok (.keep s.st k x)⟩

/-- Take the entries of keep whose key does not satisfy `p` back to their unlisted value. -/
def Work.keepKeep {s₀ : State} (s : Work s₀) (p : Nat → Bool) : Work s₀ :=
  ⟨{ s.st with keep := Tab.keep p s.st.keep }, .tail s.ok (.keepKeep s.st p)⟩

/-- Write the power management. -/
def Work.setPwr {s₀ : State} (s : Work s₀) (x : PwrSt) : Work s₀ :=
  ⟨{ s.st with pwr := x }, .tail s.ok (.pwr s.st x)⟩

end Sys2Proof.Machine
end

