-- ==== Sys2Proof/Machine/Ops.lean ====
section
/-!
DEFINITION. The operations that every family shares: registers and their fields, counters that saturate, event bits,
time, free values, the numbering of units, and the packing of words.
-/

namespace Sys2Proof.Machine

/-! ## Numbers and words -/

/-- A number as a word, modulo 2^64. -/
abbrev w64 (n : Nat) : Word := BitVec.ofNat 64 n

/-- Bits `lo` to `lo + w - 1` of a number. -/
def bits (n lo w : Nat) : Nat := n / 2 ^ lo % 2 ^ w

/-- Bit `i` of a number. -/
def bit (n i : Nat) : Bool := n / 2 ^ i % 2 == 1

/-- A Bool as 0 or 1. -/
def b2n (b : Bool) : Nat := if b then 1 else 0

/-- The `w`-bit two's complement field of a signed number. -/
def sfield (w : Nat) (x : Int) : Nat := (x % (2 ^ w : Nat)).toNat

/-- The signed number in a `w`-bit two's complement field. -/
def sval (w n : Nat) : Int :=
  let m := n % 2 ^ w
  if m < 2 ^ (w - 1) then (m : Int) else (m : Int) - (2 ^ w : Nat)

/-- floor (x / y + 1/2) for y > 0: round half up, as R49 and R116 round. -/
def rnd (x : Int) (y : Nat) : Int := (2 * x + y) / (2 * y)

/-- Round to the nearest integer, ties away from zero (R65, R95). -/
def rndAway (x : Int) (y : Nat) : Int :=
  if x < 0 then -((2 * (-x) + y) / (2 * y)) else (2 * x + y) / (2 * y)

/-- Clamp a signed number to a range. -/
def clampI (lo hi x : Int) : Int := if x < lo then lo else if hi < x then hi else x

/-- The integer square root, by `k` halvings of the search for its bits. -/
def isqrtAux : Nat → Nat → Nat → Nat
  | 0, _, r => r
  | k + 1, n, r =>
    let c := r + 2 ^ k
    if c * c ≤ n then isqrtAux k n c else isqrtAux k n r

/-- floor (sqrt n) for n < 2^256. -/
def isqrt (n : Nat) : Nat := isqrtAux 128 n 0

/-! ## Registers -/

/-- The word of register `r` of index `i`. -/
def State.reg (s : State) (r : Reg) (i : Nat) : Word := Tab.get Reg.dflt s.regs (Reg.key r i)

/-- The value of field `f` in a word. -/
def Fld.of (f : Fld) (v : Word) : Nat := bits v.toNat f.lo f.w

/-- Word `v` with field `f` set to `x` modulo its width. -/
def Fld.put (f : Fld) (v : Word) (x : Nat) : Word :=
  let n := v.toNat
  w64 (n - bits n f.lo f.w * 2 ^ f.lo + x % 2 ^ f.w * 2 ^ f.lo)

/-- Field `f` of register index `i`. -/
def State.get (s : State) (f : Fld) (i : Nat) : Nat := f.of (s.reg f.reg i)

/-- Whether a one-bit field is set. -/
def State.on (s : State) (f : Fld) (i : Nat) : Bool := s.get f i == 1

variable {s₀ : State}

/-- The word of register `r` of index `i`. -/
abbrev Work.reg (s : Work s₀) (r : Reg) (i : Nat) : Word := s.st.reg r i

/-- Field `f` of register index `i`. -/
abbrev Work.get (s : Work s₀) (f : Fld) (i : Nat) : Nat := s.st.get f i

/-- Whether a one-bit field is set. -/
abbrev Work.on (s : Work s₀) (f : Fld) (i : Nat) : Bool := s.st.on f i

/-- Write the whole word of register `r` of index `i`. -/
def Work.wreg (s : Work s₀) (r : Reg) (i : Nat) (v : Word) : Work s₀ := s.setRegs (Reg.key r i) v

/-- Write field `f` of register index `i`. -/
def Work.put (s : Work s₀) (f : Fld) (i x : Nat) : Work s₀ :=
  s.wreg f.reg i (f.put (s.reg f.reg i) x)

/-- Set a one-bit field: an event bit. -/
def Work.flag (s : Work s₀) (f : Fld) (i : Nat) : Work s₀ := s.put f i 1

/-- Add `n` to a counter field that saturates at its width. -/
def Work.count (s : Work s₀) (f : Fld) (i : Nat) (n : Nat := 1) : Work s₀ :=
  s.put f i (min (s.get f i + n) (2 ^ f.w - 1))

/-- Add `n` to a counter field that wraps. -/
def Work.wrap (s : Work s₀) (f : Fld) (i : Nat) (n : Nat := 1) : Work s₀ := s.put f i (s.get f i + n)

/-- Do `g` only where `c` holds. -/
def Work.when (s : Work s₀) (c : Bool) (g : Work s₀ → Work s₀) : Work s₀ := if c then g s else s

/-- Do `g` for every element of a list in order. -/
def Work.each {α : Type} (s : Work s₀) (xs : List α) (g : Work s₀ → α → Work s₀) : Work s₀ := xs.foldl g s

/-- The indices of the listed entries of register `r` whose word satisfies `p`, in rising order. -/
def State.indices (s : State) (r : Reg) (p : Word → Bool) : List Nat :=
  s.regs.filterMap fun (k, v) => if k % 256 = r.ctorIdx && p v then some (k / 256) else none

/-! ## Time -/

/-- T64 at instant `t`: throughout WATCH, until the timebase counts on at t_l, it is 16,384 times the count KA of 10 ns
periods (R372). -/
def State.tick (s : State) (t : Nat) : Nat := if s.eng == .watch && s.pwr.tl.isNone then t / 16384 * 16384 else t

/-- The keep-alive counter KA in WATCH (R372). -/
def State.ka (s : State) : Nat := s.t64 / 16384

/-- Time goes on to `t`; it never goes back. -/
def Work.at (s : Work s₀) (t : Nat) : Work s₀ := s.setT64 (max s.st.t64 (s.st.tick t))

/-- The present T64. -/
abbrev Work.now (s : Work s₀) : Nat := s.st.t64

/-- The cycle of the 800 MHz fabric clock that the present instant lies in (R270, R280). -/
def State.cycle (s : State) : Nat := s.t64 / 2048

/-- The place of instant `t` in its coarse period. Coarse periods are physical: a timebase step moves T64 and not them,
so that boundaries lie at `phase` modulo 512 (R236). -/
def State.fine (s : State) (t : Nat) : Nat := (t + 512 - s.phase % 512) % 512

/-- The first coarse boundary after `t`. -/
def State.coarse (s : State) (t : Nat) : Nat := t - s.fine t + 512

/-- The first coarse boundary at or after `t`. -/
def State.coarseUp (s : State) (t : Nat) : Nat := if s.fine t = 0 then t else s.coarse t

/-- The stamp `t` of an edge received at `rx` in the scale in which it was taken. The state holds every stamp in the
present scale; a record carries it as it was: Δ is taken off again for each timebase step since the coarse period of its
reception (R236). -/
def State.stampAt (s : State) (rx t : Nat) : Nat :=
  s.tim.steps.foldl (fun x (p : Nat × Int) => if rx < p.1 then ((x : Int) - p.2).toNat else x) t

/-- An instant in the scale of its own time. -/
def State.stamp (s : State) (t : Nat) : Nat := s.stampAt t t

/-- The instant nearest to the present one whose T64, modulo 2^64, is `x`. -/
def State.near (s : State) (x : Int) : Nat :=
  ((s.t64 : Int) + sval 64 (sfield 64 (x - s.t64))).toNat

/-- The instant in the present scale of a stamp `x` as a record carries it: the latest that has been reached (R236). -/
def State.unstamp (s : State) (x : Nat) : Nat :=
  s.tim.steps.foldr (fun (p : Nat × Int) t => if p.1 ≤ t && t ≤ s.t64 then t else s.near (t + p.2)) (s.near x)

/-- The horizon of a bundle with floor `f` as its header carries it: a part that a timebase step ends has the old
scale's value (R266). -/
def State.stampHor (s : State) (f h : Nat) : Nat :=
  s.tim.steps.foldl (fun x (p : Nat × Int) => if f < p.1 && h ≤ p.1 then ((x : Int) - p.2).toNat else x) h

/-- `n` ns in ticks, rounded to the nearest tick (R4: 1 ns is 1,638.4 ticks). -/
def ns (n : Nat) : Nat := (n * 16384 + 5) / 10

/-- `n` µs in ticks, exactly. -/
def us (n : Nat) : Nat := n * 1638400

/-- `n` ms in ticks, exactly. -/
def ms (n : Nat) : Nat := n * 1638400000

/-! ## Free values -/

/-- A value that the spec leaves open: the next of the free words. -/
def Work.fresh (s : Work s₀) : Work s₀ × Word :=
  (s.setFreeCnt (s.st.freeCnt + 1), Config.freeWord s.st.freeCnt)

/-! ## Numbering -/

/-- The block of unit `u`: lanes by sixteen, relief lane 512 + b in block b. -/
def blockOf (u : Nat) : Nat := if u < 512 then u / 16 else u - 512

/-- The ward of unit `u`. -/
def wardOf (u : Nat) : Nat := blockOf u / 4

/-- The position of unit `u` in its block's cycle: 0 to 15, the relief lane 16. -/
def posOf (u : Nat) : Nat := if u < 512 then u % 16 else 16

/-- The unit at position `p` of block `b`. -/
def unitAt (b p : Nat) : Nat := if p < 16 then 16 * b + p else 512 + b

/-- The units of block `b`. -/
def unitsOf (b : Nat) : List Nat := (List.range 17).map (unitAt b)

/-- The lanes of block `b`. -/
def lanesOf (b : Nat) : List Nat := (List.range 16).map (16 * b + ·)

/-- Whether a lane is absent (R2, Table SCO-1). -/
def State.laneAbsent (s : State) (n : Nat) : Bool := s.small && (256 ≤ n && n < 512)

/-- Whether block `b` is absent. -/
def State.blockAbsent (s : State) (b : Nat) : Bool := s.small && 16 ≤ b

/-! ## Power domains -/

/-- The state of power domain `d`: 0 OFF, 1 RETAIN, 2 ON, 3 CHANGING (Table PWR-11). -/
def State.dom (s : State) (d : Nat) : Nat := bits (s.reg .PWR_DSTAT (d / 32)).toNat (2 * (d % 32)) 2

/-- Whether domain `d` is ON. -/
def State.domOn (s : State) (d : Nat) : Bool :=
  s.eng != .off && s.dom d == 2 && !(s.small && 41 ≤ d && d ≤ 80)

/-- Write the state of domain `d`. -/
def Work.setDom (s : Work s₀) (d x : Nat) : Work s₀ :=
  s.put ⟨.PWR_DSTAT, 2 * (d % 32), 2⟩ (d / 32) x

/-- The front-end domain of block `b` (Table PWR-1). -/
def pdFront (b : Nat) : Nat := 1 + 10 * (b / 4) + b % 4

/-- The capture domain of block `b`. -/
def pdCapture (b : Nat) : Nat := 5 + 10 * (b / 4) + b % 4

/-- The ward logic domain of ward `w`. -/
def pdLogic (w : Nat) : Nat := 9 + 10 * w

/-- The ward engine domain of ward `w`. -/
def pdEngines (w : Nat) : Nat := 10 + 10 * w

/-! ## Words of records -/

/-- The low 47 bits of a time (R71). -/
def t47 (t : Nat) : Nat := t % 2 ^ 47

/-- A lane-form EVENT record (Tables MON-1, MON-2) ordered by `t` and stamped `ts`. -/
def laneEvent (n lkind t ts : Nat) (w1 : Word) : Rec :=
  { t := t, ws := [w64 (0x9 * 2 ^ 60 + 2 ^ 59 + n * 2 ^ 50 + lkind * 2 ^ 47 + t47 ts), w1],
    lane := some n, ev := true }

/-- A general-form EVENT record (Tables MON-1, MON-3). -/
def genEvent (kind aux t : Nat) (w1 : Word) : Rec :=
  { t := t, ws := [w64 (0x9 * 2 ^ 60 + kind * 2 ^ 53 + aux % 64 * 2 ^ 47 + t47 t), w1], ev := true }

end Sys2Proof.Machine
end

