-- ==== Sys2Proof/Machine/Bytes.lean ====
section
/-!
DEFINITION. Bytes, and the writes of bytes to host memory, to the cores' local memories and to the store.
-/

namespace Sys2Proof.Machine

variable {s₀ : State}

/-! ## Bytes -/

/-- The `w` bytes of a number, least significant first. -/
def le (w n : Nat) : List Byte := (List.range w).map fun i => BitVec.ofNat 8 (n / 256 ^ i)

/-- The number that bytes spell, least significant first. -/
def unle : List Byte → Nat
  | [] => 0
  | b :: bs => b.toNat + 256 * unle bs

/-- Bytes `o` to `o + w - 1` of a list as a number; bytes past its end count as 0. -/
def field (bs : List Byte) (o w : Nat) : Nat := unle ((bs.drop o).take w)

/-- A list of bytes cut or filled with zeros to `n`. -/
def fit (n : Nat) (bs : List Byte) : List Byte := (bs ++ List.replicate n 0).take n

/-- Where the table of host memory has address `a` of the memory that function `f` reaches (log entry 50). -/
def hostKey (f a : Nat) : Nat := f * 2 ^ 64 + a % 2 ^ 64

/-- Write bytes to host memory at bus address `a`, with the requester ID of function `f` (R274). -/
def Work.hostWrite (s : Work s₀) (f a : Nat) (bs : List Byte) : Work s₀ :=
  (s.each bs.zipIdx fun s (b, i) => s.setHost (hostKey f (a + i)) b)

/-- The 256 KiB of local memory of core `c` start here in the table. -/
def coreMem (c : Nat) : Nat := c * 2 ^ 18

/-- Write bytes to the local memory of core `c`. -/
def Work.coreWrite (s : Work s₀) (c a : Nat) (bs : List Byte) : Work s₀ :=
  (s.each bs.zipIdx fun s (b, i) => s.setGuest (coreMem c + (a + i) % 2 ^ 18) b)

/-- Write a word of the store; it no longer holds an error (R395). -/
def Work.storeWrite (s : Work s₀) (a : Nat) (v : Word) : Work s₀ :=
  let a := a % 2 ^ 30
  let s := s.when (s.st.ue.contains a) fun s => s.setUe (s.st.ue.filter (· != a))
  let s := s.when (s.st.ce.contains a) fun s => s.setCe (s.st.ce.filter (· != a))
  s.setStore a v

/-- Write one byte of the store at byte address `a` (eight to the word, the least significant first). -/
def Work.storeByte (s : Work s₀) (a : Nat) (b : Byte) : Work s₀ :=
  s.storeWrite (a / 8) ((⟨.FRE_INCFG, 8 * (a % 8), 8⟩ : Fld).put (s.store (a / 8)) b.toNat)

/-! ## The vault -/

/-- Bytes of the vault. -/
def State.vaultBytes (s : State) (a n : Nat) : List Byte := (List.range n).map fun i => s.vaultAt (a + i)

/-- Write bytes to the vault. -/
def Work.vaultWrite (s : Work s₀) (a : Nat) (bs : List Byte) : Work s₀ :=
  s.each bs.zipIdx fun s (b, i) => s.setVault (a + i) b

/-- The words that bytes spell, eight bytes to the word, least significant first. -/
def byteWords : Nat → List Byte → List Word
  | 0, _ => []
  | n + 1, bs => w64 (unle (bs.take 8)) :: byteWords n (bs.drop 8)

/-! ## CRC-32C (Table CAL-4) -/

/-- One step of CRC-32C, reflected (R97): a bit leaves at the low end. -/
def crcBit (c : Nat) : Nat := if c % 2 = 1 then (c / 2) ^^^ 0x82F63B78 else c / 2

/-- CRC-32C over one more byte. -/
def crcByte (c : Nat) (b : Byte) : Nat :=
  crcBit (crcBit (crcBit (crcBit (crcBit (crcBit (crcBit (crcBit (c ^^^ b.toNat))))))))

/-- CRC-32C of a list of bytes: polynomial 0x1EDC6F41 reflected, initial value and final XOR 0xFFFFFFFF. -/
def crc32c (bs : List Byte) : Nat := bs.foldl crcByte 0xFFFFFFFF ^^^ 0xFFFFFFFF

/-- The byte image of words, each little-endian. -/
def wordBytes (ws : List Word) : List Byte := ws.flatMap fun w => le 8 w.toNat

end Sys2Proof.Machine
end

