-- ==== Sys2Proof/Machine/Frames.lean ====
section
/-!
DEFINITION. DLP frames as the engine sends them (R334, R336, R344).
-/

namespace Sys2Proof.Machine

variable {s₀ : State}

/-- Change link `l`. -/
def Work.modLnk (s : Work s₀) (l : Nat) (f : LnkSt → LnkSt) : Work s₀ := s.setLnk l (f (s.lnk l))

/-- The words of a frame (Table LNK-4). -/
def frameWords (ftype cret ccret seq : Nat) (ws : List Word) : List Word :=
  let body := w64 (ftype * 2 ^ 60 + ws.length * 2 ^ 47 + ccret % 8 * 2 ^ 44 + cret % 256 * 2 ^ 32 + seq % 2 ^ 32) :: ws
  body ++ [w64 (crc32c (wordBytes body))]

/-- The engine sends a frame over link `l`. -/
def Work.frameSend (s : Work s₀) (l ftype : Nat) (ws : List Word) : Work s₀ :=
  let now := s.now
  s.modLnk l fun x => { x with seqTx := (x.seqTx + 1) % 2 ^ 32, tx := now,
                               sent := frameWords ftype x.freeB x.freeC x.seqTx ws }

/-- The link of the partner in entry `e`. -/
def State.linkOf (s : State) (e : Nat) : Nat := s.get F.PT_STAT_LINK e

/-- Whether entry `e` holds a partner. -/
def State.attached (s : State) (e : Nat) : Bool := s.on F.PT_STAT_ATTACHED e

/-- Whether link `l` can send an MBX frame at once (R336, R344). -/
def State.mbxFree (s : State) (l : Nat) : Bool := (s.lnkAt l).mbx.isEmpty && (s.lnkAt l).cTx != 0

/-- An MBX frame goes to the partner in entry `e`, or waits for a control credit (R344). -/
def Work.mbxSend (s : Work s₀) (e : Nat) (ws : List Word) : Work s₀ :=
  let l := s.st.linkOf e
  if !s.st.attached e then s
  else if s.st.mbxFree l then (s.modLnk l fun x => { x with cTx := x.cTx - 1 }).frameSend l 5 ws
  else
    let now := s.now
    s.modLnk l fun x => { x with mbx := x.mbx ++ [(now, ws)] }

end Sys2Proof.Machine
end

