-- ==== Sys2Proof/Machine/Lane.lean ====
section
/-!
DEFINITION. What the lane families share: which front end carries a lane's signal, the output stage in which a lane's
records wait (R70), a lane's EVENT records, and the blanks during which a lane's edges are neither stamped nor counted.
-/

namespace Sys2Proof.Machine

variable {s₀ : State}

/-- Whether ward `w` was not brought into service at start-up (R12). -/
def State.wardFailed (s : State) (w : Nat) : Bool := (s.wlinkAt w).failed

/-- The calibration state of unit `u` as CAL_LSTAT codes it: 0 UNCAL, 1 OK, 2 RELIEF, 3 RETIRED, 4 FAILED. The units of
a ward that is not in service are FAILED (R12). -/
def State.calState (s : State) (u : Nat) : Nat := if s.wardFailed (wardOf u) then 4 else s.get F.CAL_LSTAT_STATE u

/-- The lane that block `b`'s relief lane carries (CARRY_POS), if any. -/
def State.carried (s : State) (b : Nat) : Option Nat :=
  let p := s.get F.CAL_LSTAT_CARRY_POS (512 + b)
  if p < 16 then some (16 * b + p) else none

/-- The loopback lane of block `b` while loopback is in effect (R247). -/
def State.loopLane (s : State) (b : Nat) : Option Nat :=
  if s.on F.TIM_LOOP_ACTIVE b then some (16 * b + s.get F.TIM_LOOP_LB_POS b) else none

/-- The lane whose signal block `b`'s relief lane takes: the loopback lane, the carried lane, or the lane of an overlap
in progress. -/
def State.reliefLane (s : State) (b : Nat) : Option Nat :=
  match s.loopLane b, s.carried b with
  | some n, _ => some n
  | none, some n => some n
  | none, none =>
    if (s.calBlkAt b).ov.isSome then some (16 * b + s.get F.CAL_BSTAT_POS b % 16) else none

/-- The lane whose signal unit `u`'s front end sees. -/
def State.laneOfUnit (s : State) (u : Nat) : Option Nat :=
  if u < 512 then some u else s.reliefLane (u - 512)

/-- The unit whose front end carries the signal of lane `n`. -/
def State.carrier (s : State) (n : Nat) : Nat :=
  if s.carried (n / 16) = some n || s.loopLane (n / 16) = some n then 512 + n / 16 else n

/-- Whether lane `n` is blanked by a switching sequence past its t_b (R42). -/
def State.blanked (s : State) (n : Nat) : Bool :=
  match (s.freAt n).sw with
  | some q => 1 ≤ q.stage
  | none => false

/-- Whether unit `u` is inside a gap of R92, R93 or R102. -/
def State.inGap (s : State) (u : Nat) : Bool :=
  match (s.calAt u).gapG with
  | some g => decide (g ≤ s.t64)
  | none => false

/-- Whether the data path stamps and counts: not in WATCH or DEEP_SLEEP, not while the engine is OFF. -/
def State.running (s : State) : Bool := s.eng == .active || s.eng == .starting

/-- The hold H of lane `n`'s output stage (R70). A search that waits under earlier settings keeps their hold, so that
the records go on leaving in order of time (R72). -/
def State.holdTime (s : State) (n : Nat) : Nat :=
  let c := s.capAt n
  let h :=
    if F.CAP_LANECFG_PICK.of c.cfg = 0 && F.CAP_LANECFG_CMP_REC.of c.cfg = 0 then 0
    else
      let w := F.CAP_PICK_PAIR_WIN.of c.pick
      (if w = 0 then 2 ^ 19 else w) + 2 ^ 18
  (c.searches.map fun a => a.win + 2 ^ 18).foldl max h

/-- Whether a record leaves the output stage before another: by time, rank and the order of their edges (R70). -/
def Held.before (h x : Held) : Bool :=
  h.r.t < x.r.t || (h.r.t == x.r.t && (h.rank < x.rank || (h.rank == x.rank && h.ord < x.ord)))

/-- Put a record into a list in the order of R70, after those that leave with it. -/
def heldInsert (h : Held) : List Held → List Held
  | [] => [h]
  | x :: xs => if h.before x then h :: x :: xs else x :: heldInsert h xs

/-- Change lane `n`'s capture. -/
def Work.modCap (s : Work s₀) (n : Nat) (f : LaneCap → LaneCap) : Work s₀ := s.setCap n (f (s.cap n))

/-- Change the front end of unit `u`. -/
def Work.modFre (s : Work s₀) (u : Nat) (f : FreUnit → FreUnit) : Work s₀ := s.setFre u (f (s.fre u))

/-- Change the calibration of unit `u`. -/
def Work.modCal (s : Work s₀) (u : Nat) (f : CalUnit → CalUnit) : Work s₀ := s.setCal u (f (s.cal u))

/-- Change the sequencer of block `b`. -/
def Work.modBlk (s : Work s₀) (b : Nat) (f : CalBlk → CalBlk) : Work s₀ := s.setCalBlk b (f (s.calBlk b))

/-- Change lane `n`'s counting engine. -/
def Work.modCnt (s : Work s₀) (n : Nat) (f : CntUnit → CntUnit) : Work s₀ := s.setCnt n (f (s.cnt n))

/-- Change pairing unit `p`. -/
def Work.modPair (s : Work s₀) (p : Nat) (f : PairSt → PairSt) : Work s₀ := s.setPair p (f (s.pair p))

/-- A record enters lane `n`'s output stage (R70): rank 0 the lane's EVENTs and boundary results, 1 IN, 2 CMP; `ord` the
stamp of its edge. -/
def Work.hold (s : Work s₀) (n rank : Nat) (r : Rec) (ord : Nat := 0) : Work s₀ :=
  s.modCap n fun c => { c with held := heldInsert ⟨rank, ord, r⟩ c.held }

/-- An EVENT of lane `n` goes the way of the lane's records, before every record of its time (R86, R161). -/
def Work.laneEv (s : Work s₀) (n lkind t : Nat) (w1 : Nat) : Work s₀ :=
  s.hold n 0 (laneEvent n lkind t (s.st.stamp t) (w64 w1))

/-! ## Events on their way to a pairing unit -/

/-- Whether a new event of a pairing unit stands before one that waits (R121): by stamp, an A event before a B event of
the same stamp; those of one input stay in order. -/
def PIn.before (e x : PIn) : Bool :=
  (e.disc || x.disc || e.a != x.a) && (e.t < x.t || (e.t == x.t && (e.disc || (e.a && !x.disc))))

/-- A new event takes its place among those that wait. -/
def pinInsert (e : PIn) (q : List PIn) : List PIn :=
  let r := q.reverse
  (r.dropWhile e.before).reverse ++ e :: (r.takeWhile e.before).reverse

/-- A discontinuity at `t` stands between the events of pairing unit `p` (R126). -/
def Work.pairDisc (s : Work s₀) (p t : Nat) : Work s₀ :=
  s.modPair p fun x => { x with q := pinInsert { t := t, disc := true } x.q }

/-! ## Stakes on their way (R149) -/

/-- A source code with the reserved codes as 127 (R132). -/
def srcCode (c : Nat) : Nat := if 100 < c then 127 else c

/-- The step source in force. -/
def State.stepSrc (s : State) : Nat := srcCode (F.AXI_CFG_STEP_SRC.of s.axis.cfg)

/-- A state code of AXI_POS: 0 OFF, 1 SEEK, 2 RUN, 3 COAST. -/
def State.axisState (s : State) : Nat := s.get F.AXI_POS_STATE 0

/-- The instant t_k of step `k` after a step at `t` (R143). -/
def State.coastAt (s : State) (t k : Nat) : Nat := (rnd ((t * 2 ^ 16 + k * s.get F.AXI_PERIOD_P 0 : Nat) : Int) (2 ^ 16)).toNat

/-- The step that the axis expects next and would synthesise without an edge (R143). -/
def State.lateStep (s : State) : Option Nat :=
  let x := s.axis
  if s.axisState = 3 then some (s.coastAt (x.real.getD 0) x.coastK)
  else if s.axisState = 2 && F.AXI_CFG_COAST_EN.of x.cfg = 1 && s.stepSrc != 100 && s.on F.AXI_PERIOD_PVALID 0 then
    x.last.map (s.coastAt · 1)
  else none

/-- DELAY in force. -/
def actDelay (act : Word) : Nat := min (2 ^ 24) (F.STAKE_ACTION_DELAY.of act)

/-- The words of the lane group that an action word reaches. -/
def State.groupOf (s : State) (act : Word) : List Word :=
  let g := if F.STAKE_ACTION_ACTION.of act = 6 then F.STAKE_ACTION_ARG.of act % 64 else F.STAKE_ACTION_LG.of act
  (List.range 8).map fun w => s.reg .AXI_LG (8 * g + w)

/-- Whether words of a lane group hold lane `n`. -/
def inGroup (lg : List Word) (n : Nat) : Bool := bit (lg.getD (n / 64) 0).toNat (n % 64)

/-- The instants of the actions for lane `n`, of the kinds `k`, that have not yet acted: of stakes issued or fired, and
of those of a step that may still be synthesised, whichever its position. -/
def State.actsDue (s : State) (k : Word → Bool) (n : Nat) : List Nat :=
  let x := s.axis
  let late := match s.lateStep with
    | none => []
    | some t => (s.indices .STAKE_MATCH fun w => F.STAKE_MATCH_EN.of w == 1).filterMap fun i =>
      let a := s.reg .STAKE_ACTION i
      if k a && inGroup (s.groupOf a) n then some (t + actDelay a) else none
  ((x.issued.filter fun f => k f.act && inGroup f.lg n) ++
    (x.fired.filter fun f => s.t64 ≤ f.last && k f.act && inGroup (s.groupOf f.act) n)).map (·.ts) ++ late

/-- The CNT_CFG word under which an edge is counted: the open gate's, or before gate 0 the one in force. -/
def CntUnit.cfgOf (c : CntUnit) : Word :=
  match c.gate with
  | some g => g.cfg
  | none => if c.recfg.isSome then c.was.1 else c.cfg

/-- The instants of the gate actions that have not yet reached lane `n`'s engine. -/
def State.gateActs (s : State) (n : Nat) : List Nat :=
  let c := s.cntAt n
  if c.on && (F.CNT_CFG_CL_STAKE.of c.cfg == 1 || F.CNT_CFG_CL_STAKE.of c.cfgOf == 1) then
    s.actsDue (fun a => F.STAKE_ACTION_ACTION.of a < 3) n
  else []

/-- Whether a gate action for lane `n`'s engine that acts by `b` has not yet reached it. -/
def State.gateDue (s : State) (n b : Nat) : Bool := (s.gateActs n).any (· ≤ b)

/-- The instants of the ward-sourced AXIS records of lane `n` that are still to be formed (R157). -/
def State.axisActs (s : State) (n : Nat) : List Nat :=
  s.actsDue (fun a => F.STAKE_ACTION_ACTION.of a == 6 && bit (F.STAKE_ACTION_UNIT.of a) 0) n

/-- The instant for which an edge that a counting engine holds stands. -/
def CntIn.at (e : CntIn) : Nat := match e.st with | some (t, _) => t | none => e.rx

/-- Mark lane `n`'s open gate as holding a discontinuity, and the pairing units that use the lane (R42, R114, R126). -/
def Work.markDisc (s : Work s₀) (n : Nat) : Work s₀ :=
  let s := s.modCnt n fun c => { c with gate := c.gate.map fun g => { g with disc := true } }
  s.each (s.st.pair.map (·.1)) fun s p =>
    let c := (s.pair p).cfg
    if F.PAIR_CFG_LANE_A.of c = n || F.PAIR_CFG_LANE_B.of c = n then s.pairDisc p s.now else s

end Sys2Proof.Machine
end

