-- ==== Sys2Proof/Machine/Sources.lean ====
section
/-!
DEFINITION. What raises interrupts (chapter 11): MSI-X vectors and their moderation (R294 to R296), and the sources of
the EIC: their inputs, PEND, events, moderation units and the waking of cores (R279 to R284, R293).
-/

namespace Sys2Proof.Machine

variable {s₀ : State}

/-! ## MSI-X -/

/-- Change vector `v`. -/
def Work.modVec (s : Work s₀) (v : Nat) (f : VecSt → VecSt) : Work s₀ := s.setVec v (f (s.vec v))

/-- The message of vector `v` goes out: its data, to its address (R294). -/
def Work.vecFire (s : Work s₀) (v : Nat) : Work s₀ :=
  let x := s.vec v
  let s := s.modVec v fun x => { x with pend := false }
  (s.hostWrite (v / 128) x.addr (le 4 x.data)).wrap F.HV_STAT_SENT v

/-- Whether vector `v` or its function is masked, or the function's MSI-X is not enabled, which holds its messages as
the function mask does (log entry 51). -/
def State.masked (s : State) (v : Nat) : Bool :=
  (s.vecAt v).mask || (s.fnAt (v / 128)).fmask || !(s.fnAt (v / 128)).msix

/-- Vector `v` sends its message, or where it is masked sets its pending bit (R296). -/
def Work.vecSend (s : Work s₀) (v : Nat) : Work s₀ :=
  let s := (s.put F.HV_STAT_HELD_CNT v 0).put F.HV_STAT_TIMING v 0
  let s := s.modVec v fun x => { x with due := none }
  if s.st.masked v then s.modVec v fun x => { x with pend := true } else s.vecFire v

/-- The timer of vector `v` starts, where TIME is not 0 (R296). -/
def Work.vecStart (s : Work s₀) (v : Nat) : Work s₀ :=
  let t := s.get F.HV_MOD_TIME v
  let due := s.now + us t
  s.when (t != 0) fun s => (s.modVec v fun x => { x with due := some due }).flag F.HV_STAT_TIMING v

/-- COUNT in force of vector `v`. -/
def State.vecCount (s : State) (v : Nat) : Nat := max 1 (s.get F.HV_MOD_COUNT v)

/-- SLEEP_POL in force of vector `v`. -/
def State.sleepPol (s : State) (v : Nat) : Nat := s.get F.HV_MOD_SLEEP_POL v % 3

/-- A notification event reaches vector `v` on behalf of function `f` (R295, R296). -/
def Work.notify (s : Work s₀) (f v : Nat) : Work s₀ :=
  if v / 128 != f || 16 ≤ f then s.count F.HV_FERR_HV_ERR_CNT f
  else
    let first := s.get F.HV_STAT_HELD_CNT v = 0
    let s := s.count F.HV_STAT_HELD_CNT v
    let asleep := (s.fn f).sleep
    let timed := !asleep || s.st.sleepPol v = 2
    let s := s.when (first && timed) fun s => s.vecStart v
    if !asleep && s.st.vecCount v ≤ s.get F.HV_STAT_HELD_CNT v then s.vecSend v else s

/-! ## Inputs -/

/-- Whether an event bit of a register is set together with its enable: `w` events from bit `lo`, enables from bit
`ie`. -/
def State.raised (s : State) (r : Reg) (i lo ie w : Nat) : Bool :=
  let v := (s.reg r i).toNat
  bits v lo w &&& bits v ie w != 0

/-- Whether an event of a pairing unit whose LANE_A is `n` is enabled onto the lane's source (chapter 05). -/
def State.pairRaised (s : State) (n : Nat) : Bool :=
  (s.indices .PAIR_EVT fun _ => true).any fun p => s.get F.PAIR_CFG_LANE_A p == n && s.raised .PAIR_EVT p 0 8 4

/-- Whether the front-end events of unit `u` are enabled onto its source: a relief lane's by the FRE_IE of the lane
whose configuration it runs (R39, R44, R46). -/
def State.freRaised (s : State) (u : Nat) : Bool :=
  (s.reg .FRE_EVT u).toNat &&& (s.reg .FRE_IE ((s.laneOfUnit u).getD u)).toNat != 0

/-- The input of level source `k` where registers define it (R39, R194, R215, R269, R279, R356, R394, R399 and the
field maps); none for the other sources. -/
def State.inputOf (s : State) (k : Nat) : Option Bool :=
  if k < 512 then
    some (s.freRaised k || s.raised .CAL_LEVT k 0 8 3 || s.raised .CNT_EVT k 0 8 5 || s.pairRaised k)
  else if k < 544 then
    some (s.freRaised k || s.raised .CAL_LEVT k 0 8 3 || s.raised .CAL_BEVT (k - 512) 0 8 8)
  else if k < 552 then none
  else if k < 616 then some (s.raised .FLT_EVT (k - 552) 0 8 8)
  else if k < 680 then some (s.raised .HE_EVT (k - 616) 0 8 4 || s.raised .MU_EVT (k - 616) 0 8 2)
  else if k < 808 then
    let g := k - 680
    some ((s.indices .QD_FLAGS fun _ => true).any fun q => q / 512 == g && s.raised .QD_FLAGS q 4 16 7)
  else if k < 848 then some (s.raised .WEA_WEVT (k - 808) 0 32 24)
  else if k < 864 then some (s.raised .LNK_GEVT (k - 848) 0 8 8)
  else if k < 880 then none
  else if k < 888 then some (s.raised .TIM_TEVT 0 (k - 880) (k - 864) 1)
  else if k < 896 then some (s.raised .TIM_OEVT 0 (k - 888) (k - 872) 1)
  else if k < 908 then some (s.raised .AXI_EVT 0 (k - 896) (k - 880) 1)
  else if k < 912 then some false
  else if k < 944 then none
  else if k < 952 then some (s.raised .PWR_EVT 0 (k - 944) (k - 928) 1)
  else if k = 960 || k = 961 then some (s.raised .MON_EVT 0 (k - 960) (k - 944) 1)
  else if k < 976 then some false
  else if k < 992 then none
  else if k = 992 then some (s.on F.ACC_VSTAT_VALID 0 && s.on F.ACC_VSTAT_IE 0)
  else if k < 998 then some (s.raised .MON_EVT 0 (k - 991) (k - 975) 1)
  else if k < 1000 then some false
  else if k < 1004 then none
  else if 1008 ≤ k && k < 1011 then some (s.raised .MON_EVT 0 (k - 1001) (k - 985) 1)
  else some false

/-- Whether the SENSE field of source `k` says edge. -/
def State.senseEdge (s : State) (k : Nat) : Bool := s.on F.INT_SRC_SENSE k

/-- The input of source `k`. -/
def State.input (s : State) (k : Nat) : Bool := (s.inputOf k).getD (s.srcAt k).level

/-- Whether source `k` belongs to an absent ward: it never becomes pending (R2, Table SCO-1). -/
def State.srcAbsent (s : State) (k : Nat) : Bool :=
  s.small && (256 ≤ k && k < 512 || 528 ≤ k && k < 544 || 548 ≤ k && k < 552 || 824 ≤ k && k < 840)

/-- Whether source `k` never becomes pending: one of those that the source map assigns to nothing (Table INT-1, R279,
R399 and chapter 15), or an absent one. -/
def State.srcMute (s : State) (k : Nat) : Bool :=
  s.srcAbsent k || (908 ≤ k && k < 912) || (952 ≤ k && k < 960) || (962 ≤ k && k < 976) || k == 998 || k == 999 ||
    (1004 ≤ k && k < 1008) || 1011 ≤ k

/-- PEND of source `k` (R280); that of a source that never becomes pending is never set. -/
def State.pendOf (s : State) (k : Nat) : Bool :=
  !s.srcMute k && ((s.srcAt k).latch || (!s.senseEdge k && s.input k))

/-- Whether source `k` is enabled (R281). -/
def State.enabledSrc (s : State) (k : Nat) : Bool := (s.srcAt k).en && s.get F.INT_SRC_PRIO k != 0

/-- The moderation unit to which source `k` is bound (R284). -/
def State.modUnit (s : State) (k : Nat) : Option Nat :=
  if s.on F.INT_SRC_MOD_EN k then some (s.get F.INT_SRC_MOD k) else none

/-- Whether a moderation unit holds source `k`: its HELD bit, or the rise of a level that the EIC has yet to take into
account while the unit is CLOSED. -/
def State.heldNow (s : State) (k : Nat) : Bool :=
  (s.srcAt k).held ||
    match s.modUnit k with
    | some u => !s.on F.INT_MOD_STAT_OPEN u && !s.senseEdge k && s.input k && !(s.srcAt k).level && !(s.srcAt k).latch
    | none => false

/-! ## Waking -/

/-- Whether core `c` sleeps (R283). -/
def State.asleep (s : State) (c : Nat) : Bool := (s.coreAt c).wfi || s.dom (81 + c) == 1

/-- Source `k`, where it is enabled, pending and not held, wakes every sleeping core of its TARGET (R293): from WFI at
once, from RETAIN through the PMU. -/
def Work.wakeFor (s : Work s₀) (k : Nat) : Work s₀ :=
  if s.st.enabledSrc k && s.st.pendOf k && !s.st.heldNow k then
    s.each [0, 1, 2, 3] fun s c =>
      s.when (bit (s.get F.INT_SRC_TARGET k) c) fun s =>
        let s := s.when (s.core c).wfi fun s => s.setCore c { s.core c with wfi := false }
        s.when (s.st.dom (81 + c) == 1 && s.st.domOn 85) fun s =>
          let p := s.st.pwr
          (s.setDom (81 + c) 3).setPwr { p with pend := p.pend ++ [(81 + c, 6)] }
  else s

/-! ## Moderation units (R284) -/

/-- Change source `k`. -/
def Work.modSrc (s : Work s₀) (k : Nat) (f : SrcSt → SrcSt) : Work s₀ := s.setSrc k (f (s.src k))

/-- The sources bound to moderation unit `u`. -/
def State.boundSrcs (s : State) (u : Nat) : List Nat :=
  s.indices .INT_SRC fun v => F.INT_SRC_MOD_EN.of v == 1 && F.INT_SRC_MOD.of v == u

/-- An open unit closes when no bound source is pending. -/
def Work.modClose (s : Work s₀) (u : Nat) : Work s₀ :=
  s.when (s.on F.INT_MOD_STAT_OPEN u && !(s.st.boundSrcs u).any s.st.pendOf) fun s => s.put F.INT_MOD_STAT_OPEN u 0

/-- The unit to which source `k` is bound closes if nothing is left pending there. -/
def Work.modCloseOf (s : Work s₀) (k : Nat) : Work s₀ :=
  match s.st.modUnit k with
  | some u => s.modClose u
  | none => s

/-- Moderation unit `u` opens. -/
def Work.modOpen (s : Work s₀) (u : Nat) : Work s₀ :=
  let held := (s.st.src.filter fun (k, x) => x.held && s.st.modUnit k == some u).map (·.1)
  let s := s.each held fun s k => s.modSrc k fun x => { x with held := false }
  let s := ((s.put F.INT_MOD_STAT_CNT u 0).put F.INT_MOD_STAT_TIMING u 0).setModT u none
  let s := (s.flag F.INT_MOD_STAT_OPEN u).wrap F.INT_MOD_STAT_FIRES u
  (s.each held fun s k => s.wakeFor k).modClose u

/-- An event of source `k` reaches its moderation unit. -/
def Work.modEvent (s : Work s₀) (k : Nat) : Work s₀ :=
  match s.st.modUnit k with
  | none => s
  | some u =>
    if s.on F.INT_MOD_STAT_OPEN u then s
    else
      let first := !s.on F.INT_MOD_STAT_TIMING u
      let s := (s.modSrc k fun x => { x with held := true }).count F.INT_MOD_STAT_CNT u
      let s := s.when first fun s =>
        let t := max 1 (min 65000000 (s.get F.INT_MOD_CFG_TIME u))
        (s.setModT u (some (s.now + t * 163840))).flag F.INT_MOD_STAT_TIMING u
      s.when (max 1 (s.get F.INT_MOD_CFG_COUNT u) ≤ s.get F.INT_MOD_STAT_CNT u) fun s => s.modOpen u

/-- MODERATION_TIMER (R284): the timer of unit `u` reaches TIME and the unit opens. -/
def Work.modTimer (s : Work s₀) (u : Nat) : Work s₀ :=
  match s.modT u with
  | none => s
  | some d => (s.at d).modOpen u

/-! ## Events -/

/-- An event of source `k` (R284, R295): moderation, the host face, and the waking of cores. -/
def Work.srcEvent (s : Work s₀) (k : Nat) : Work s₀ :=
  let s := s.modEvent k
  let s := s.when (s.on F.INT_SRC_HOST_EN k) fun s =>
    let v := s.get F.INT_SRC_HVEC k
    s.notify (v / 128) v
  s.wakeFor k

/-- A 0-to-1 transition at the input of edge source `k` (R280). -/
def Work.srcEdge (s : Work s₀) (k : Nat) : Work s₀ :=
  let c := s.st.cycle
  (s.modSrc k fun x => { x with latch := true, last := some c }).srcEvent k

/-- The EIC takes the input `lv` of source `k` into account (R280); where registers define the input, they decide. A
source that never becomes pending takes none. -/
def Work.srcInput (s : Work s₀) (k : Nat) (lv : Bool) : Work s₀ :=
  if (976 ≤ k && k < 992) || s.st.srcMute k then s
  else
    let new := (s.st.inputOf k).getD lv
    let x := s.src k
    let s := s.modSrc k fun x => { x with level := new }
    if new && !x.level then
      if s.st.senseEdge k then s.srcEdge k
      else if x.latch then s
      else s.srcEvent k
    else s.modCloseOf k

end Sys2Proof.Machine
end

