-- ==== Sys2Proof/Machine/HostFace.lean ====
section
/-!
DEFINITION. The notices of the command interface (R311, R312): the event queues into which firmware writes notices.
-/

namespace Sys2Proof.Machine

variable {s₀ : State}

/-! ## Notices -/

/-- Change endpoint `e`. -/
def Work.modEp (s : Work s₀) (e : Nat) (f : EpSt → EpSt) : Work s₀ := s.setEp e (f (s.ep e))

/-- The bytes of a notice entry (Table OCI-6). -/
def noteBytes (ntype tag status opcode nseq t : Nat) (data : List Byte) : List Byte :=
  let d := data.take 40
  le 2 ntype ++ le 2 tag ++ le 2 status ++ le 2 d.length ++ le 4 nseq ++ le 2 opcode ++ le 2 0 ++ le 8 t ++ fit 40 d

/-- Whether endpoint `e`'s event queue has room for an entry (R311). A partner's notices leave in MBX frames, and its
queue is full while there is no control credit for one (R344). -/
def State.noteRoom (s : State) (e : Nat) : Bool :=
  let x := s.epAt e
  if e = 17 then x.fifo.length < 16
  else if 18 ≤ e then s.attached (e - 18) && s.mbxFree (s.linkOf (e - 18))
  else x.log2n != 0 && (x.nprod + 2 ^ (x.log2n + 1) - x.ntail % 2 ^ (x.log2n + 1)) % 2 ^ (x.log2n + 1) < 2 ^ x.log2n

/-- Write bytes into a memory of endpoint `e`: host memory, or for the guest core its local memory or, from
0x4000_0000 up, its store window (R311, R358). -/
def Work.epWrite (s : Work s₀) (e a : Nat) (bs : List Byte) : Work s₀ :=
  if e < 16 then s.hostWrite e a bs
  else if 0x40000000 ≤ a then
    let base := s.get F.ACC_K3WIN_K3_BLK 0 * 2 ^ 21
    (s.each bs.zipIdx fun s (b, i) => s.storeByte (8 * base + (a + i - 0x40000000)) b)
  else s.coreWrite 3 (a % 2 ^ 18) bs

/-- One entry goes into endpoint `e`'s event queue, which has room (R311). -/
def Work.noteWrite (s : Work s₀) (e : Nat) (bs : List Byte) : Work s₀ :=
  let x := s.ep e
  if e = 17 then s.modEp e fun x => { x with fifo := x.fifo ++ [bs] }
  else if 18 ≤ e then s.mbxSend (e - 18) (w64 8 :: byteWords 8 bs)
  else
    let p := (x.nprod + 1) % 2 ^ (x.log2n + 1)
    let s := s.epWrite e (x.base + 64 * (x.nprod % 2 ^ x.log2n)) bs
    let s := s.epWrite e x.wb (le 8 p)
    let s := s.modEp e fun x => { x with nprod := p }
    if e < 16 then s.notify e (128 * e + x.vector % 128)
    else s.srcEdge 977

/-- The waiting notices of endpoint `e` go into its queue while it has room. -/
def Work.noteFlush (s : Work s₀) (e : Nat) : Nat → Work s₀
  | 0 => s
  | fuel + 1 =>
    match (s.ep e).kept with
    | [] => s
    | k :: rest =>
      if !s.st.noteRoom e then s
      else
        let s := s.modEp e fun x => { x with kept := rest }
        if k.lost = 0 then (s.noteWrite e k.bytes).noteFlush e fuel
        else
          let n := (s.ep e).nseq
          let s := s.modEp e fun x => { x with nseq := (x.nseq + 1) % 2 ^ 32 }
          (s.noteWrite e (noteBytes 2 0 0 0 n s.now (le 4 k.lost ++ le 4 k.first))).noteFlush e fuel

/-- A notice with sequence number `n` of endpoint `e` is lost (R312). -/
def Work.noteLose (s : Work s₀) (e n : Nat) : Work s₀ :=
  let s := s.count F.MBX_CNT_NLOST e
  s.modEp e fun x => { x with kept := match x.kept.getLast? with
    | some k => if k.lost = 0 then x.kept ++ [{ lost := 1, first := n }]
      else x.kept.dropLast ++ [{ k with lost := k.lost + 1 }]
    | none => [{ lost := 1, first := n }] }

/-- An OVERFLOW notice that waits is formed: it precedes any notice formed after the losses (R312). -/
def Work.noteMark (s : Work s₀) (e : Nat) : Work s₀ :=
  match (s.ep e).kept.getLast? with
  | none => s
  | some k =>
    if k.lost = 0 then s
    else
      let t := s.now
      s.modEp e fun x => { x with
        nseq := (x.nseq + 1) % 2 ^ 32
        kept := x.kept.dropLast ++ [{ bytes := noteBytes 2 0 0 0 x.nseq t (le 4 k.lost ++ le 4 k.first) }] }

/-- Firmware forms a notice for endpoint `e` (R312). -/
def Work.noteTo (s : Work s₀) (e cls ntype tag status opcode : Nat) (data : List Byte) : Work s₀ :=
  if cls != 0 && !bit (s.ep e).mask cls then s
  else
    let s := s.noteFlush e (s.ep e).kept.length
    let s := s.when (ntype == 1) fun s => s.noteMark e
    let x := s.ep e
    let n := x.nseq
    let s := s.modEp e fun x => { x with nseq := (x.nseq + 1) % 2 ^ 32 }
    let bs := noteBytes ntype tag status opcode n s.now data
    if ntype = 1 then
      (s.modEp e fun x => { x with kept := x.kept ++ [{ bytes := bs }] }).noteFlush e (x.kept.length + 1)
    else if (s.ep e).kept.isEmpty && s.st.noteRoom e then s.noteWrite e bs
    else s.noteLose e n

/-- The endpoints: the host functions, the guest core, I2C, and the partners that are attached. -/
def State.endpoints (s : State) : List Nat :=
  List.range 18 ++ ((List.range 32).filter fun e => s.on F.PT_STAT_ATTACHED e).map (· + 18)

/-- A notice to every endpoint that takes its class (R312). While no firmware runs none is formed; in the outage of a
restart it is lost (R313). -/
def Work.notice (s : Work s₀) (cls ntype : Nat) (data : List Byte) : Work s₀ :=
  if s.st.pwr.fw then s.each s.st.endpoints fun s e => s.noteTo e cls ntype 0 0 0 data
  else if s.on F.PWR_ENG_RECOVERING 0 then
    s.each s.st.endpoints fun s e => s.when (bit (s.ep e).mask cls) fun s =>
      let n := (s.ep e).nseq
      (s.modEp e fun x => { x with nseq := (x.nseq + 1) % 2 ^ 32 }).noteLose e n
  else s

/-- An event bit is set; where that raises its EIC source (it was 0, and its IE is set) firmware forms a notice of it
(chapter 16's introduction; Table OCI-5). -/
def Work.evtNote (s : Work s₀) (f ie : Fld) (cls ntype : Nat) (data : State → List Byte) : Work s₀ :=
  let rises := !s.on f 0 && bit (s.get ie 0) f.lo
  let s := s.flag f 0
  s.when rises fun s => s.notice cls ntype (data s.st)

/-- An event of the timebase: TIMEBASE notice. -/
def Work.tevt (s : Work s₀) (f : Fld) (_i : Nat) : Work s₀ :=
  s.evtNote f F.TIM_TEVT_IE 4 0x40 fun s =>
    le 1 (s.reg .TIM_TEVT 0).toNat ++ le 1 (s.get F.TIM_TSTAT_STATE 0) ++ le 2 0 ++ le 8 (s.reg .TIM_THETA 0).toNat ++
      le 8 (s.reg .TIM_STEP 0).toNat

/-- An event of the outputs: OPLL notice. -/
def Work.oevt (s : Work s₀) (f : Fld) (_i : Nat) : Work s₀ :=
  s.evtNote f F.TIM_OEVT_IE 4 0x41 fun s =>
    le 1 (s.reg .TIM_OEVT 0).toNat ++ le 1 (s.get F.TIM_OSTAT_STATE 0) ++ le 1 (s.get F.TIM_OSTAT_ENTRY 0)

/-- An event of the axis: AXIS notice. -/
def Work.aevt (s : Work s₀) (f : Fld) (_i : Nat) : Work s₀ :=
  s.evtNote f F.AXI_EVT_IE 5 0x50 fun s => le 2 (s.get ⟨.AXI_EVT, 0, 12⟩ 0) ++ le 8 (s.reg .AXI_POS 0).toNat

/-- Free bytes for what the spec leaves open of a notice. -/
def Work.freeBytes (s : Work s₀) (n : Nat) : Work s₀ × List Byte :=
  let k := s.st.freeCnt
  (s.setFreeCnt (k + 1), (List.range n).map fun i => Config.freeByte (2 ^ 32 * (k + 1) + i))

/-- A FAULT notice (class 3) of EIC source `src`, its cause code and capture free; the error log keeps it
(Tables OCI-5 and MON-5). In the outage of a restart it is lost (R313). -/
def Work.faultNotice (s : Work s₀) (src : Nat) : Work s₀ :=
  if !s.st.pwr.fw then s.notice 3 0x30 []
  else
    let (s, bs) := s.freeBytes 18
    let data := le 2 src ++ bs
    let n := match s.st.errlog.getLast? with
      | some b => (field b 8 4 + 1) % 2 ^ 32
      | none => 0
    let s := s.setErrlog ((s.st.errlog ++ [noteBytes 0x30 0 0 0 n s.now data]).reverse.take 64).reverse
    s.notice 3 0x30 data

/-- The EIC source of bit `k` of MON_EVT (Table MON-4). -/
def monSource (k : Nat) : Nat := if k < 2 then 960 + k else if k < 7 then 991 + k else 1001 + k

/-- An error source of MON_EVT is raised; where its interrupt enable is set firmware forms a FAULT notice (chapter 16's
introduction, R399). -/
def Work.monEvt (s : Work s₀) (f : Fld) : Work s₀ :=
  let rises := !s.on f 0 && bit (s.get F.MON_EVT_IE 0) f.lo
  let s := s.flag f 0
  s.when rises fun s => s.faultNotice (monSource f.lo)

end Sys2Proof.Machine
end

