-- ==== Sys2Proof/Machine/Access.lean ====
section
/-!
DEFINITION. Access tables (chapter 14): who may read or write an address of a target, what a denied access does, and
what an access to a domain that is not ON does (R411).
-/

namespace Sys2Proof.Machine

variable {s₀ : State}

/-- Bit `m` of the read or write mask of window `i` (16 * target + window). -/
def State.maskBit (s : State) (i m : Nat) (wr : Bool) : Bool :=
  if m < 64 then bit (s.reg (if wr then .ACC_WR_LO else .ACC_RD_LO) i).toNat m
  else bit (s.reg (if wr then .ACC_WR_HI else .ACC_RD_HI) i).toNat (m - 64)

/-- Whether window `i` grants master `m` the address `a` in this direction (R352). -/
def State.windowGrants (s : State) (i m a : Nat) (wr : Bool) : Bool :=
  s.on F.ACC_WCTRL_EN i && s.get F.ACC_WRANGE_BASE i ≤ a && a ≤ s.get F.ACC_WRANGE_LIMIT i && s.maskBit i m wr

/-- Whether the debug port is locked (R362). -/
def State.jtagLocked (s : State) : Bool :=
  s.on F.ACC_BOOT_SECURE_EN 0 && !s.on F.ACC_BOOT_DEBUG_UNLOCKED 0

/-- Whether master `m` is granted address `a` of target `tgt` (R352, R353, R362). Masters 94 to 127 are never
presented and hold no bit. -/
def State.grants (s : State) (m tgt a : Nat) (wr : Bool) : Bool :=
  if m ≥ 94 || tgt = 18 || tgt = 19 || tgt > 147 then false
  else if m = 93 && s.jtagLocked then false
  else if wr && tgt = 17 then false
  else if 16 ≤ m && m < 19 then true
  else (List.range 16).any fun w => s.windowGrants (16 * tgt + w) m a wr

/-- A violation is counted, and captured if the capture is empty, which raises source 992 (R356, R399). -/
def Work.violation (s : Work s₀) (m tgt a : Nat) (wr : Bool) : Work s₀ :=
  let s := s.count F.ACC_VSTAT_VCNT 0
  if s.on F.ACC_VSTAT_VALID 0 then s
  else
    let s := s.wreg .ACC_VCAP0 0 (w64 (m % 128 + b2n wr * 128 + tgt % 256 * 256))
    let s := s.wreg .ACC_VCAP1 0 (w64 a)
    let s := s.flag F.ACC_VSTAT_VALID 0
    s.when (s.on F.ACC_VSTAT_IE 0) fun s => s.faultNotice 992

/-- An access of the guest core that is denied, reaches nothing or reads a double-bit error raises an access fault in K3
(R358, R396, R407). K0 to K2 handle their own, which leave no state. -/
def Work.trap (s : Work s₀) (m : Nat) : Work s₀ := s.when (m == 19) fun s => s.monEvt F.MON_EVT_GUEST_FAULT

/-- A number for the register word at address `a` of target `tgt`, by which a master's shadow names it. -/
def wordKey (tgt a : Nat) : Nat := tgt * 2 ^ 40 + a / 8

/-- Master `m` makes an access to word `k`: what it latched on its last read is no longer the previous access, and a
lower half that it has staged for another word is discarded (R412, R413). -/
def Work.touch (s : Work s₀) (m k : Nat) : Work s₀ :=
  let x := s.shad m
  s.setShad m { x with rd := none, wr := x.wr.filter (·.1 == k) }

/-- What comes of an access by master `m` at address `a` of target `tgt`, in power domain `pd`: nothing but a count
where the domain is not ON (R411), a violation where the table denies it (R355), else `g`. -/
def Work.access (s : Work s₀) (m tgt a pd : Nat) (wr : Bool) (g : Work s₀ → Work s₀) : Work s₀ :=
  let s := s.touch m (wordKey tgt a)
  if !s.st.domOn pd then s.count F.REG_ACNT_OFFDOM_CNT 0
  else if s.st.grants m tgt a wr then g s
  else (s.violation m tgt a wr).trap m

/-- Firmware (masters 16 to 18) acts for itself and is never denied (R353). -/
def firmware : Nat := 16

end Sys2Proof.Machine
end

