-- ==== Sys2Proof/Machine/Samples.lean ====
section
/-!
DEFINITION. What the monitor units (R393) and the histogram engines (R220 to R224) take as samples and keys, and the
operations of the histogram engines. The records that engines read from queues are in Filter.lean.
-/

namespace Sys2Proof.Machine

variable {s₀ : State}

/-- A sample `v` of a kind reaches every monitor unit that follows it (R393). -/
def Work.mu (s : Work s₀) (kind target v : Nat) : Work s₀ :=
  let v := min v (2 ^ 32 - 1)
  s.each (s.st.indices .MU_CFG fun c => F.MU_CFG_EN.of c == 1 && F.MU_CFG_KIND.of c == kind &&
      (kind == 3 || F.MU_CFG_TARGET.of c == target)) fun s h =>
    let old := s.get F.MU_STAT_VALUE h
    let first := !s.muOn h
    let hi := s.get F.MU_LIM_HI h
    let lo := s.get F.MU_LIM_LO h
    let s := s.when (s.on F.MU_CFG_HI_EN h && hi ≤ v && (first || old < hi)) fun s => s.flag F.MU_EVT_HIGH h
    let s := s.when (s.on F.MU_CFG_LO_EN h && v ≤ lo && (first || lo < old)) fun s => s.flag F.MU_EVT_LOW h
    let s := (s.put F.MU_STAT_VALUE h v).wrap F.MU_STAT_SAMPLES h
    let s := s.put F.MU_MINMAX_MIN h (min v (s.get F.MU_MINMAX_MIN h))
    (s.put F.MU_MINMAX_MAX h (max v (s.get F.MU_MINMAX_MAX h))).setMuOn h true

/-- RESTART of monitor unit `h` (R393): MIN and MAX become VALUE. -/
def Work.muRestart (s : Work s₀) (h : Nat) : Work s₀ :=
  let v := s.get F.MU_STAT_VALUE h
  ((s.put F.MU_MINMAX_MIN h v).put F.MU_MINMAX_MAX h v).setMuOn h false

/-- A write to MU_CFG: the first sample after EN goes to 1 counts as the first (R393). -/
def Work.wrMuCfg (s : Work s₀) (h : Nat) (v : Word) : Work s₀ :=
  let off := !s.on F.MU_CFG_EN h
  let s := s.wreg .MU_CFG h (v &&& 0xFFFF001F)
  s.when off fun s => s.setMuOn h false

/-! ## Histogram engines -/

/-- Change histogram engine `h`. -/
def Work.modHe (s : Work s₀) (h : Nat) (f : HeSt → HeSt) : Work s₀ := s.setHe h (f (s.he h))

/-- Add one to a 48-bit count; one that is full sets SAT (R221). -/
def Work.heInc (s : Work s₀) (h : Nat) (f : Fld) (i : Nat) : Work s₀ :=
  if s.get f i + 1 < 2 ^ 48 then s.wrap f i
  else (s.flag F.HE_STAT_SAT h).flag F.HE_EVT_SAT h

/-- The count that key `v` of engine `h` raises beside TOTAL (R221). -/
def State.heBin (s : State) (h : Nat) (v : Int) : Fld × Nat :=
  let i := (v - sval 64 (s.reg .HE_KOFS h).toNat) / (2 ^ s.get F.HE_CFG_KSHIFT h : Nat)
  if i < 0 then (F.HE_UNDER_UNDER, h)
  else if 4095 < i then (F.HE_OVER_OVER, h)
  else (⟨.HE_BIN, 0, 48⟩, 4096 * h + i.toNat)

/-- A key (true) or the COUNT of a bin (false) of engine `h` timed `t` is counted (R221, R222); what the registers were
before it is held for a snapshot at its instant (R223). -/
def Work.heOne (s : Work s₀) (h t : Nat) (k : Bool × Int) : Work s₀ :=
  let v := k.2
  let (f, i) := if k.1 then s.st.heBin h v else (⟨.HE_BIN, 0, 48⟩, 4096 * h + v.toNat)
  let old := [(f.reg, i), (.HE_STAT, h), (.HE_MIN, h), (.HE_MAX, h)].map fun (r, i) => (r, i, s.reg r i)
  let s := s.modHe h fun x =>
    if x.at_ = t then { x with same := x.same ++ [k], old := old ++ x.old }
    else { x with at_ := t, same := [k], old := old }
  let s := (s.heInc h f i).heInc h F.HE_STAT_TOTAL h
  let s := s.when (k.1 && v < sval 64 (s.reg .HE_MIN h).toNat) fun s => s.wreg .HE_MIN h (w64 (sfield 64 v))
  s.when (k.1 && sval 64 (s.reg .HE_MAX h).toNat < v) fun s => s.wreg .HE_MAX h (w64 (sfield 64 v))

/-- Where the latest instant counted is at or after `t`, the counts of engine `h` go back to before it (R223); answers
what was counted then. -/
def Work.heBack (s : Work s₀) (h t : Nat) : Work s₀ × List (Bool × Int) :=
  let x := s.he h
  if x.at_ < t then (s, [])
  else
    let s := s.each x.old fun s (r, i, w) =>
      if r = .HE_STAT then (s.put F.HE_STAT_TOTAL i (F.HE_STAT_TOTAL.of w)).put F.HE_STAT_SAT i (F.HE_STAT_SAT.of w)
      else s.wreg r i w
    (s.modHe h fun x => { x with same := [], old := [] }, x.same)

/-- A key or a COUNT timed `t` is counted; one that comes before the latest instant counted takes its place (R222). -/
def Work.heCount (s : Work s₀) (h t : Nat) (k : Bool × Int) : Work s₀ :=
  let last := (s.he h).at_
  let (s, later) := s.heBack h (t + 1)
  (s.heOne h t k).each later fun s k => s.heOne h last k

/-- Whether a key timed `t` must wait: behind a snapshot not yet written (R223), or behind an operation that comes
before it in time (R222). -/
def HeSt.blocks (x : HeSt) (t : Nat) : Bool :=
  x.snap.isSome || x.ops.any fun (k, _, o) => o < t || (o == t && (k == 1 || k == 2))

/-- Key `v` timed `t` reaches engine `h` (R220, R223). -/
def Work.heKey (s : Work s₀) (h : Nat) (v : Int) (t : Nat) : Work s₀ :=
  let x := s.he h
  if !x.blocks t then s.heCount h t (true, v)
  else if 2 ≤ s.get F.HE_CFG_KEY_SRC h && 256 ≤ x.keys.length then
    (s.count F.HE_CNT_LOST_KEY_CNT h).flag F.HE_EVT_LOST_KEY h
  else s.modHe h fun x => { x with keys := x.keys ++ [(v, t)] }

/-- The keys held back are offered again. -/
def Work.heDrain (s : Work s₀) (h : Nat) : Work s₀ :=
  let ks := (s.he h).keys
  (s.modHe h fun x => { x with keys := [] }).each ks fun s (v, t) => s.heKey h v t

/-- The counts of engine `h` are cleared at `t` (R222). -/
def Work.heClear (s : Work s₀) (h t : Nat) : Work s₀ :=
  let s := s.keepRegs fun k => !(k % 256 == Reg.HE_BIN.ctorIdx && k / 256 / 4096 == h)
  let s := ((s.put F.HE_UNDER_UNDER h 0).put F.HE_OVER_OVER h 0).put F.HE_STAT_TOTAL h 0
  let s := (s.wreg .HE_MIN h (w64 (2 ^ 63 - 1))).wreg .HE_MAX h (w64 (2 ^ 63))
  let s := s.modHe h fun x => { x with same := [], old := [] }
  (s.put F.HE_STAT_SAT h 0).wreg .HE_SINCE h (w64 t)

/-- The words of a HIST record of engine `h` at `t` (R224, Table FLT-3). -/
def State.histWords (s : State) (h t : Nat) (rst : Bool) : List Word :=
  let first := s.get F.HE_SNAP_FIRST h
  let want := 4 * (s.get F.HE_SNAP_NB_M1 h + 1)
  let n := if first + want ≤ 4096 then want else (4096 - first) / 4 * 4
  let bin := fun i => s.get ⟨.HE_BIN, 0, 48⟩ (4096 * h + first + i)
  let body := (List.range (n / 4)).flatMap fun g =>
    let x := bin (4 * g) + bin (4 * g + 1) * 2 ^ 48 + bin (4 * g + 2) * 2 ^ 96 + bin (4 * g + 3) * 2 ^ 144
    [w64 x, w64 (x / 2 ^ 64), w64 (x / 2 ^ 128)]
  [w64 (0xA * 2 ^ 60 + h * 2 ^ 54 + s.get F.HE_STAT_SAT h * 2 ^ 53 + b2n rst * 2 ^ 52 +
      s.get F.HE_CFG_KEY_SRC h * 2 ^ 50 + t47 t),
    w64 (first + n * 2 ^ 12), s.reg .HE_SINCE h, s.reg .HE_MIN h, s.reg .HE_MAX h,
    w64 (s.get F.HE_UNDER_UNDER h), w64 (s.get F.HE_OVER_OVER h), w64 (s.get F.HE_STAT_TOTAL h)] ++ body

/-- An operation takes effect (R222, R223): 0 COUNT, 1 SNAPSHOT, 2 SNAPSHOT_RESET, 3 RESET. A snapshot holds nothing
timed at its own instant: what has been counted of it counts after the snapshot. -/
def Work.heApply (s : Work s₀) (h kind arg t : Nat) : Work s₀ :=
  match kind with
  | 0 => s.heCount h t (false, (arg % 4096 : Nat))
  | 3 => s.heClear h t
  | _ =>
    let last := (s.he h).at_
    let (s, later) := s.heBack h t
    let ws := s.st.histWords h t (kind == 2)
    let s := s.modHe h fun x => { x with snap := some (ws, t) }
    (s.when (kind == 2) fun s => s.heClear h t).each later fun s k => s.heOne h last k

/-- Put an operation among those that wait, in order of time. -/
def opInsert (o : Nat × Nat × Nat) : List (Nat × Nat × Nat) → List (Nat × Nat × Nat)
  | [] => [o]
  | x :: xs => if o.2.2 < x.2.2 then o :: x :: xs else x :: opInsert o xs

/-- An operation reaches engine `h` (R222): with KEY_SRC 2 or 3 it acts at once where nothing is in its way, else it
waits; a fifth that would wait is lost. -/
def Work.heOp (s : Work s₀) (h kind arg t : Nat) : Work s₀ :=
  let x := s.he h
  if 2 ≤ s.get F.HE_CFG_KEY_SRC h && x.snap.isNone && x.ops.isEmpty then s.heApply h kind arg t
  else if 4 ≤ x.ops.length then (s.count F.HE_CNT_LOST_OP_CNT h).flag F.HE_EVT_LOST_OP h
  else
    let s := s.modHe h fun x => { x with ops := opInsert (kind, arg, t) x.ops }
    s.put F.HE_STAT_WAIT_OPS h (x.ops.length + 1)

/-- The keys that a queue's commits and releases give the engines that observe it (R220): kind 2 QDEPTH, 3 LATENCY. -/
def Work.heQueueKey (s : Work s₀) (q kind : Nat) (v : Int) : Work s₀ :=
  s.each (s.st.indices .HE_CFG fun c => F.HE_CFG_EN.of c == 1 && F.HE_CFG_KEY_SRC.of c == kind &&
    F.HE_CFG_IN_Q.of c == q) fun s h => s.heKey h v s.now

/-- SNAP_EXP in force of engine `h`: none where it is off (R222). -/
def State.snapExp (s : State) (h : Nat) : Option Nat :=
  let e := s.get F.HE_CFG_SNAP_EXP h
  if e = 0 then none else some (max 13 (min 47 e))

/-- Whether HE_SEL does not suit KEY_SRC (R220). -/
def State.heBad (s : State) (h : Nat) : Bool :=
  let ty := s.get F.FLT_SEL_TYPE (64 + h)
  match s.get F.HE_CFG_KEY_SRC h with
  | 0 => !(2 ≤ ty && ty ≤ 6)
  | 1 => !(1 ≤ ty && ty ≤ 6)
  | _ => false

/-- CFG_ERR of engine `h` follows its configuration while it is enabled. -/
def Work.heCheck (s : Work s₀) (h : Nat) : Work s₀ :=
  s.put F.HE_STAT_CFG_ERR h (b2n (s.on F.HE_CFG_EN h && s.st.heBad h))

/-- A write to HE_CFG: the next periodic snapshot is at the next multiple of 2^SNAP_EXP (R222); an engine that stops
leaves its input where it is. -/
def Work.wrHeCfg (s : Work s₀) (h : Nat) (v : Word) : Work s₀ :=
  let s := s.wreg .HE_CFG h (v &&& 0xFFFFFFF0007)
  let s := match s.st.snapExp h with
    | some e => s.modHe h fun x => { x with per := (s.now / 2 ^ e + 1) * 2 ^ e }
    | none => s
  s.heCheck h

end Sys2Proof.Machine
end

