-- ==== Sys2Proof/Machine/Clocks.lean ====
section
/-!
DEFINITION. The output clocks as signals (R240, R244 to R246): the frequency of an output's source, whether it toggles, the
phase of its divider and its level. What commands do to them is in Outputs.lean.
-/

namespace Sys2Proof.Machine

/-! ## Frequencies -/

/-- f_src of entry `e` in 2^-16 Hz (R240). -/
def State.srcFreq (s : State) (e : Nat) : Nat :=
  if s.on F.TIM_BAND0_OSRC e then s.get F.TIM_REF_FREQ (s.get F.TIM_BAND0_OREF e) else 3200000000 * 2 ^ 16

/-- f_VCO of entry `e` as a fraction: numerator and denominator, in Hz. -/
def State.vcoFreq (s : State) (e : Nat) : Nat × Nat :=
  (s.srcFreq e * (s.get F.TIM_BAND0_N_INT e * 2 ^ 24 + s.get F.TIM_BAND0_N_FRAC e), s.get F.TIM_BAND0_R e * 2 ^ 40)

/-- STATE of the OPLL (Table TIM-7): 0 OFF, 1 SEARCH, 2 RELOCK, 3 LOCKED, 4 LOST. -/
def State.opll (s : State) : Nat := s.get F.TIM_OSTAT_STATE 0

/-- The source of output `c` in force as a fraction of Hz: none where the OPLL is OFF. -/
def State.clkSource (s : State) (c : Nat) : Option (Nat × Nat) :=
  if F.TIM_OCLK_SRC.of (s.clkAt c) = 1 then some (3200000000, 1)
  else if s.opll = 0 then none
  else some (s.vcoFreq (s.get F.TIM_OSTAT_ENTRY 0))

/-- DIV_X2 in force (Table TIM-7): the half-source periods of an output cycle (R244). -/
def State.divX2 (s : State) (c : Nat) : Nat := max 2 (F.TIM_OCLK_DIV_X2.of (s.clkAt c))

/-- Whether output `c` is outside 1 MHz to 4.0 GHz (R244). -/
def State.clkBad (s : State) (c : Nat) : Bool :=
  match s.clkSource c with
  | none => false
  | some (n, d) => 2 * n < 1000000 * d * s.divX2 c || 4000000000 * d * s.divX2 c < 2 * n

/-! ## Whether an output toggles -/

/-- When output `c` last completed, or completes, the high phase after which a hold takes effect (R242, R246). -/
def State.clkFall (s : State) (c : Nat) : Nat := s.tim.fall.getD c 0

/-- Whether output `c` is still in that high phase. -/
def State.clkEnds (s : State) (c : Nat) : Bool := s.t64 < s.clkFall c

/-- Whether output `c` is held low by a relock, a loss of lock or a divider reset; it has completed its high phase. -/
def State.clkHeld (s : State) (c : Nat) : Bool :=
  !s.clkEnds c &&
    ((F.TIM_OCLK_SRC.of (s.clkAt c) = 0 && s.tim.gate) || s.tim.drst.any fun (_, os, _) => os.contains c)

/-- Whether the source of output `c` runs. -/
def State.clkDriven (s : State) (c : Nat) : Bool :=
  s.domOn 89 && (F.TIM_OCLK_SRC.of (s.clkAt c) = 1 || s.opll = 3 || s.opll = 4)

/-- Whether output `c` toggles. -/
def State.clkRuns (s : State) (c : Nat) : Bool :=
  F.TIM_OCLK_EN.of (s.clkAt c) = 1 &&
    ((s.domOn 89 && s.clkEnds c) || (s.clkDriven c && !s.clkHeld c && !s.clkBad c))

/-- TIM_OCSTAT of output `c` (Table TIM-7). -/
def State.ocstat (s : State) (c : Nat) : Word := w64 (b2n (s.clkRuns c) + 2 * b2n (s.clkHeld c) + 4 * b2n (s.clkBad c))

/-! ## Phase and level (R242, R244, R245) -/

/-- The T64 at which the divider of output `c` last started a cycle that its later cycles follow: a restart, or the edge
from which a changed DIV_X2 counts. -/
def State.divAt (s : State) (c : Nat) : Nat := s.tim.div.getD c 0

/-- The half-source periods of output `c` from the first rising edge after its divider's start to `t`, which comes CDLY
and FDLY after it; none before it. -/
def State.clkHalves (s : State) (c t : Nat) : Option Nat :=
  match s.clkSource c with
  | none => none
  | some (n, d) =>
    let x : Int := 10000 * ((t : Int) - s.divAt c) - (49152 * F.TIM_OCLK_FDLY.of (s.clkAt c) : Nat)
    let h := x * (n : Nat) / (8192000000000000 * d : Nat) - (F.TIM_OCLK_CDLY.of (s.clkAt c) : Nat)
    if h < 0 then none else some h.toNat

/-- Whether the divider of output `c` is in the high phase of its cycle at `t` (R244), where its source runs and nothing
holds it. -/
def State.divHigh (s : State) (c t : Nat) : Bool :=
  s.clkDriven c && !s.clkHeld c && !s.clkBad c &&
    match s.clkHalves c t with
    | some h => h % s.divX2 c < s.divX2 c / 2
    | none => false

/-- The level of output `c` at `t` (R244): a high phase after which a hold takes effect is completed (R242, R246). -/
def State.clkLevel (s : State) (c t : Nat) : Bool :=
  F.TIM_OCLK_EN.of (s.clkAt c) = 1 && ((s.domOn 89 && t < s.clkFall c) || s.divHigh c t)

/-- The first instant at which output `c` is `h` half-source periods past the first rising edge after its divider's
start, in whole ticks. -/
def State.clkInstant (s : State) (c h : Nat) : Nat :=
  match s.clkSource c with
  | some (n, d) =>
    let x := ((h + F.TIM_OCLK_CDLY.of (s.clkAt c)) * (8192000000000000 * d) + n - 1) / n
    s.divAt c + (x + 49152 * F.TIM_OCLK_FDLY.of (s.clkAt c) + 9999) / 10000
  | none => s.divAt c

/-- When output `c`, asked at `t` to go low, is low: at the end of a high phase in progress (R242, R246). -/
def State.fallOf (s : State) (c t : Nat) : Nat :=
  if t < s.clkFall c then s.clkFall c
  else if !s.clkLevel c t then t
  else match s.clkHalves c t with
    | some h => s.clkInstant c (h - h % s.divX2 c + s.divX2 c / 2)
    | none => t

/-- The next start of a cycle of the divider of output `c` whose rising edge, CDLY and FDLY later, comes after `t`, in
whole ticks (R245). -/
def State.nextRise (s : State) (c t : Nat) : Nat :=
  match s.clkSource c, s.clkHalves c t with
  | some (n, d), some h => s.divAt c + ((h / s.divX2 c + 1) * (819200000000 * d * s.divX2 c) + n - 1) / n
  | some _, none => s.divAt c
  | none, _ => t

end Sys2Proof.Machine
end

