-- ==== Sys2Proof/Machine/FrontEnd.lean ====
section
/-!
DEFINITION. The lane front end (chapter 02): circuits and their power-up, thresholds, the ramp, overload and the
switching sequence up to the end of its blank. The edges themselves are in Edge.lean, the end of a switching sequence in
Calibration.lean.
-/

namespace Sys2Proof.Machine

variable {s₀ : State}

/-! ## Circuits -/

/-- Whether block `b`'s sequencer has its relief lane offline in the relief lane's own cycle, carrying nothing. -/
def State.reliefCycle (s : State) (b : Nat) : Bool :=
  s.get F.CAL_BSTAT_POS b == 16 && s.get F.CAL_BSTAT_STEP b != 0 && (s.carried b).isNone

/-- The front-end configuration that unit `u` runs in: its lane's, wherever the signal is carried (R44, R46). A relief
lane that takes no lane's signal runs in the reset configuration, and in its own cycle with every circuit powered in
analogue mode, since all of Table CAL-1 is measured (log entry 34). -/
def State.feCfg (s : State) (u : Nat) : Word :=
  match s.laneOfUnit u with
  | some n => (s.freAt n).cfg
  | none => if 512 ≤ u && s.reliefCycle (u - 512) then 0x3A1 else 0xA0

/-- Whether the configuration powers a circuit (R23, R24, R36). -/
def powersCircuit (cfg : Word) : Circuit → Bool
  | .a => F.FRE_INCFG_EN.of cfg == 1
  | .b => F.FRE_INCFG_EN.of cfg == 1 && F.FRE_INCFG_MODE.of cfg == 0 && F.FRE_INCFG_B_EN.of cfg == 1
  | .cmp => F.FRE_INCFG_CMP_EN.of cfg == 1

/-- Whether unit `u` is a relief lane in loopback: a receiver of its own then replaces its front end (R247). -/
def State.looped (s : State) (u : Nat) : Bool := 512 ≤ u && (s.loopLane (u - 512)).isSome

/-- Whether circuit `c` of unit `u` delivers edges: powered, connected, and not in a blank (R26, R42, R92); in loopback
the signal of the output CLKOUT_SEL stands for the IN edges (R247). In a blank the circuit's level
and its EDGE events rest too, where R42 speaks of stamping and counting alone (log entry 34). -/
def State.circuitLive (s : State) (u : Nat) (c : Circuit) : Bool :=
  match s.laneOfUnit u with
  | none => false
  | some n =>
    if s.looped u then c == .a
    else s.domOn (pdFront (blockOf u)) && powersCircuit (s.freAt n).cfg c && !s.blanked n && !s.inGap n &&
      !(u < 512 && s.get F.CAL_BSTAT_STEP (u / 16) == 2 && s.get F.CAL_BSTAT_POS (u / 16) == u % 16)

/-- The status field that shows a circuit's output level. -/
def lvlFld : Circuit → Fld
  | .a => F.FRE_STAT_LVL_A
  | .b => F.FRE_STAT_LVL_B
  | .cmp => F.FRE_STAT_LVL_CMP

/-- The status field that shows a circuit UNRESOLVED. -/
def unresFld : Circuit → Fld
  | .a => F.FRE_STAT_UNRES_A
  | .b => F.FRE_STAT_UNRES_B
  | .cmp => F.FRE_STAT_UNRES_CMP

/-- The settling time of a speed code, in ticks (Table FRE-3). -/
def speedSettle (code : Nat) : Nat :=
  if code < 2 then 327680 else if code = 2 then 1638400 else 32768000

/-- The longest settling time of the circuits that a configuration powers (Timeline FRE-1, Tables FRE-2 and FRE-3). -/
def settleTime (cfg : Word) : Nat :=
  let a := if !powersCircuit cfg .a then 0
    else if F.FRE_INCFG_MODE.of cfg = 1 then 327680 else speedSettle (F.FRE_INCFG_SPEED_A.of cfg)
  let b := if powersCircuit cfg .b then speedSettle (F.FRE_INCFG_SPEED_B.of cfg) else 0
  let c := if powersCircuit cfg .cmp then 327680 else 0
  max a (max b c)

/-- An UNRESOLVED bit takes a value: each fall from 1 to 0 sets RESOLVED (R41). -/
def Work.setUnres (s : Work s₀) (u : Nat) (c : Circuit) (x : Bool) : Work s₀ :=
  let s := s.when (s.on (unresFld c) u && !x) fun s => s.flag F.FRE_EVT_RESOLVED u
  s.put (unresFld c) u (b2n x)

/-- A circuit of unit `u` takes its state at power-up from its input (R40); an unpowered one reads 0. -/
def Work.powerUp (s : Work s₀) (u : Nat) (c : Circuit) (cfg : Word) (p : InPos) : Work s₀ :=
  let live := powersCircuit cfg c && s.st.domOn (pdFront (blockOf u))
  let s := s.put (lvlFld c) u (b2n (live && p == .above))
  s.setUnres u c (live && p == .inside)

/-- All three circuits of unit `u` power up in configuration `cfg`, whose speeds are in force from then on (log entry
34). -/
def Work.powerUpAll (s : Work s₀) (u : Nat) (cfg : Word) (pa pb pc : InPos) : Work s₀ :=
  let s := s.powerUp u .a cfg pa
  let s := s.powerUp u .b cfg pb
  let s := s.powerUp u .cmp cfg pc
  let s := s.put F.FRE_STAT_SPEED_A_EFF u (F.FRE_INCFG_SPEED_A.of cfg)
  s.put F.FRE_STAT_SPEED_B_EFF u (F.FRE_INCFG_SPEED_B.of cfg)

/-- The circuits that a configuration does not power read 0. -/
def Work.powerDown (s : Work s₀) (u : Nat) (cfg : Word) : Work s₀ :=
  s.each [Circuit.a, .b, .cmp] fun s c =>
    if powersCircuit cfg c then s else (s.put (lvlFld c) u 0).setUnres u c false

/-- The front end of unit `u` is without power, or without its signal: no circuit runs, and no ramp (R32). -/
def Work.frontOff (s : Work s₀) (u : Nat) : Work s₀ :=
  ((s.powerDown u 0).put F.FRE_STAT_RAMP_RUN u 0).setFre u { s.fre u with ramp := none, ovl := false }

/-- EN_EFF of lane `n` shows whether its IN path is powered and out of any switching sequence (Table FRE-8). -/
def Work.showEn (s : Work s₀) (n : Nat) : Work s₀ :=
  let f := s.fre n
  s.put F.FRE_STAT_EN_EFF n
    (b2n (f.sw.isNone && F.FRE_INCFG_EN.of f.cfg == 1 && s.st.domOn (pdFront (blockOf n))))

/-! ## Thresholds and the DT factor -/

/-- The threshold codes in use for lane `n`, comparators A and B, with baseline tracking (R94). -/
def State.thrCodes (s : State) (n : Nat) : Int × Int :=
  let f := s.freAt n
  let a := sval 14 (F.FRE_THR_THR_A.of f.thr)
  let b := sval 14 (F.FRE_THR_THR_B.of f.thr)
  if F.FRE_INCFG_MODE.of f.cfg = 0 && s.on F.FRE_INCFG_BASE_TRK n then
    let d := sval 14 (s.get F.CAP_BASE_BASE_EFF n) - sval 14 (s.capAt n).base
    (clampI (-8192) 8191 (a + d), clampI (-8192) 8191 (b + d))
  else (a, b)

/-- The DT factor of lane `n` in units of 2^-17 and whether it is valid (R63); one that is not valid reads as 0 (log
entry 35). -/
def State.dtFactor (s : State) (n : Nat) : Nat × Bool :=
  let c := s.capAt n
  if F.FRE_INCFG_MODE.of (s.freAt n).cfg = 1 || F.CAP_LANECFG_DT_K_AUTO.of c.cfg = 0 then
    (F.CAP_PICK_DT_K.of c.pick, true)
  else
    let (a, b) := s.thrCodes n
    let e := sval 14 (s.get F.CAP_BASE_BASE_EFF n)
    if a < b && e ≤ a then ((rnd (2 ^ 17 * (a - e)) (b - a).toNat).toNat, true) else (0, false)

/-- The DT factor is computed again after a change of a threshold, the baseline or the configuration (R63). -/
def Work.dtUpdate (s : Work s₀) (n : Nat) : Work s₀ :=
  let (k, ok) := s.st.dtFactor n
  let s := s.put F.CAP_STAT_K_EFF n k
  s.put F.CAP_STAT_K_VALID n (b2n ok)

/-- A write to FRE_THR: it takes effect at the first coarse boundary (R30). -/
def Work.wrThr (s : Work s₀) (n : Nat) (v : Word) : Work s₀ :=
  let s := s.wreg .FRE_THR n (v &&& 0x003F3FFF003F3FFF)
  s.modFre n fun f => { f with thrAt := some (f.thrAt.getD (s.st.coarse s.now)) }

/-- THRESHOLD_APPLY (R30): the written thresholds and hysteresis of lane `u` take effect at their boundary. -/
def execThresholdApply (u : Nat) (s : State) : Host.Outcome State Fault Refusal :=
  let s := Work.start s
  .next <| (match (s.fre u).thrAt with
    | none => s
    | some t =>
      let s := s.at t
      let s := s.modFre u fun f => { f with thr := s.reg .FRE_THR u, thrAt := none }
      s.dtUpdate u).st

/-- `n` µV in the unit of a voltage operand. -/
def uV (n : Nat) : Int := 2048 * n

/-- Whether voltages of the two legs of IN are in overload (Table FRE-1, R22): a leg below -1.3 V or above +1.7 V, or a
differential voltage of more than 1.25 V. -/
def overloaded (v : Int × Int) : Bool :=
  let leg := fun (v : Int) => v < -uV 1300000 || uV 1700000 < v
  leg v.1 || leg v.2 || 1250000 * 2048 < (v.1 - v.2).natAbs

/-- OVERLOAD (R22): the legs of the IN input of unit `u`, in analogue mode, come to the voltages `v` (P, N); each entry
into overload sets the event and counts, in a blank too. -/
def execOverload (t u : Nat) (v : Int × Int) (s : State) : Host.Outcome State Fault Refusal :=
  let s := (Work.start s).at t
  let seen := (s.st.laneOfUnit u).isSome && s.st.domOn (pdFront (blockOf u)) && F.FRE_INCFG_MODE.of (s.st.feCfg u) == 0 &&
    !s.st.looped u
  let on := overloaded v && seen
  let enter := on && !(s.fre u).ovl
  let s := s.modFre u fun f => { f with ovl := on }
  .next (s.when enter fun s => (s.flag F.FRE_EVT_OVERLOAD u).count F.FRE_CNT_OVERLOAD_CNT u).st

/-! ## The ramp -/

/-- The latency from a start event to t_s, in ticks, from the unit's tables (R32; 400 ps before calibration). -/
def State.rampLat (s : State) (u : Nat) : Nat :=
  let l := (s.calAt u).tab.lat
  (if l = 0 then 671089 else l) / 1024

/-- A start event for the ramp of unit `u` at `t` (R32, R35). From the start event on RAMP_RUN is 1 and a further start
event is a miss, although the ramp itself starts at t_s (log entry 34). -/
def Work.rampStart (s : Work s₀) (u t : Nat) : Work s₀ :=
  match s.st.laneOfUnit u with
  | none => s
  | some n =>
    let r := s.reg .FRE_RAMP n
    if !s.st.circuitLive u .b then s
    else if (s.fre u).ramp.isSome then
      (s.flag F.FRE_EVT_RAMP_MISS u).count F.FRE_CNT_RAMP_MISS_CNT u
    else if F.FRE_RAMP_SLOPE.of r = 0 then s
    else
      let m := F.FRE_RAMP_RAMP_MAX.of r
      let s := s.modFre u fun f => { f with ramp := some {
        ts := t + s.st.rampLat u, slope := F.FRE_RAMP_SLOPE.of r, dir := F.FRE_RAMP_DIR.of r == 1,
        max := if m = 0 then 2 ^ 24 else m } }
      s.flag F.FRE_STAT_RAMP_RUN u

/-- The ramp of unit `u` stops at `t` and begins its recovery (R33), which takes the whole of its 2.5 ns (log entry
34). -/
def Work.rampStop (s : Work s₀) (u t : Nat) : Work s₀ :=
  s.modFre u fun f => { f with ramp := f.ramp.map fun r => { r with recEnd := some (t + 4096) } }

/-- RAMP_TIMEOUT (R33): a running ramp reaches RAMP_MAX ticks and is stopped. -/
def execRampTimeout (u : Nat) (s : State) : Host.Outcome State Fault Refusal :=
  let s := Work.start s
  .next <| (match (s.fre u).ramp with
    | some ⟨ts, _, _, m, _, none⟩ =>
      let s := s.at (ts + m)
      (s.rampStop u (ts + m)).flag F.FRE_EVT_RAMP_TIMEOUT u
    | _ => s).st

/-- The instant at which a ramp reaches ±1.2 V (R34): 2,400 ticks per code step at a slope code of 1. -/
def State.clampAt (s : State) (u : Nat) (r : Ramp) : Nat :=
  let code := match s.laneOfUnit u with
    | some n => (s.thrCodes n).2
    | none => 0
  let d := if r.dir then code + 8192 else 8192 - code
  r.ts + (d.toNat * 2400 + r.slope - 1) / r.slope

/-- V_R of unit `u`'s ramp at `t` (R31): 125 units a tick and step of SLOPE; nothing before t_s and in recovery (log
entry 34). -/
def State.rampVolts (s : State) (u t : Nat) : Int :=
  match (s.freAt u).ramp with
  | some r =>
    let x : Int := 125 * r.slope * (t - r.ts : Nat)
    if r.recEnd.isSome then 0 else if r.dir then -x else x
  | none => 0

/-- The assert threshold and the hysteresis of circuit `c` of unit `u` at `t`, in 1/2,048 µV (R24, R27, R29, R31, R34):
300,000 a step of the DAC and 1,024,000 a step of HYST; comparator B's moves with its ramp and holds at ±1.2 V; a
receiver has the typical ±12.5 mV of Table FRE-2. -/
def State.thresholds (s : State) (u t : Nat) (c : Circuit) : Int × Int :=
  match s.laneOfUnit u with
  | none => (uV 12500, uV 25000)
  | some n =>
    let f := s.freAt n
    let (a, b) := s.thrCodes n
    let top : Int := 8192 * 300000
    match c with
    | .cmp => (uV 12500, uV 25000)
    | .a => if F.FRE_INCFG_MODE.of f.cfg = 1 then (uV 12500, uV 25000)
      else (300000 * a, 1024000 * F.FRE_THR_HYST_A.of f.thr)
    | .b => (clampI (-top) top (300000 * b + s.rampVolts u t), 1024000 * F.FRE_THR_HYST_B.of f.thr)

/-- The voltage that circuit `c` of unit `u` compares where its input is at `v` (R20, R36). -/
def State.compared (s : State) (u : Nat) (c : Circuit) (v : Int) : Int :=
  let f := match c with | .cmp => F.FRE_INCFG_CMP_INV | _ => F.FRE_INCFG_INV
  if f.of (s.feCfg u) = 1 then -v else v

/-- Where the input of circuit `c` of unit `u`, at `v`, lies at `t` (R24, R40). -/
def State.inputPos (s : State) (u t : Nat) (c : Circuit) (v : Int) : InPos :=
  let (th, hy) := s.thresholds u t c
  let x := s.compared u c v
  if th < x then .above else if x < th - hy then .below else .inside

/-- The level to which the output that unit `u` takes in loopback changes at `t`, if it makes an edge then (R247). -/
def State.loopEdge (s : State) (u t : Nat) : Option Bool :=
  let o := s.get F.TIM_LOOP_CLKOUT_SEL (blockOf u)
  if s.clkLevel o t == s.clkLevel o (t - 1) then none else some (s.clkLevel o t)

/-- The output to which circuit `c` of unit `u` changes as its input comes to `v` at `t` (R24): it asserts above its
assert threshold and deasserts below its release threshold; an UNRESOLVED one reports the rise alone (R40). In loopback
the internal signal of an output clock is the input (R247). -/
def State.newLevel (s : State) (u t : Nat) (c : Circuit) (v : Int) : Option Bool :=
  if s.looped u then s.loopEdge u t
  else match s.inputPos u t c v with
  | .above => if s.on (lvlFld c) u then none else some true
  | .below => if s.on (lvlFld c) u && !s.on (unresFld c) u then some false else none
  | .inside => none

/-- All three circuits of unit `u` power up in configuration `cfg` from inputs at `va`, `vb` and `vc` (R40); the ramp is
taken at zero. -/
def Work.powerUpFrom (s : Work s₀) (u : Nat) (cfg : Word) (va vb vc : Int) : Work s₀ :=
  let flat := (s.setFre u { s.fre u with ramp := none }).st
  let p := fun (c : Circuit) (v : Int) => flat.inputPos u s.now c v
  s.powerUpAll u cfg (p .a va) (p .b vb) (p .cmp vc)

/-- RAMP_CLAMP (R34): the ramped threshold reaches ±1.2 V and holds there. -/
def execRampClamp (u : Nat) (s : State) : Host.Outcome State Fault Refusal :=
  let s := Work.start s
  .next <| (match (s.fre u).ramp with
    | some r =>
      if r.clamped || r.recEnd.isSome then s
      else
        let s := s.at (s.st.clampAt u r)
        let s := s.modFre u fun f => { f with ramp := some { r with clamped := true } }
        s.flag F.FRE_EVT_RAMP_CLAMP u
    | none => s).st

/-- RAMP_RECOVERY_END (R33): the stopped ramp has returned to zero and can start again. -/
def execRampRecoveryEnd (u : Nat) (s : State) : Host.Outcome State Fault Refusal :=
  let s := Work.start s
  .next <| (match (s.fre u).ramp with
    | some ⟨_, _, _, _, _, some e⟩ =>
      let s := s.at e
      (s.modFre u fun f => { f with ramp := none }).put F.FRE_STAT_RAMP_RUN u 0
    | _ => s).st

/-! ## The switching sequence -/

/-- A write to FRE_INCFG of lane `n` (R38, R42, R43, R94): the fields are stored; a change of a switching field
(bits 0 to 11) starts a switching sequence, or restarts one in progress. BASE_TRK acts at the write (log entry 35). -/
def Work.wrIncfg (s : Work s₀) (n : Nat) (v : Word) : Work s₀ :=
  let old := s.reg .FRE_INCFG n
  let v := v &&& 0x3FFF
  let v := if F.FRE_INCFG_MODE.of v = 1 then F.FRE_INCFG_WAKE_EN.put v 0 else v
  let s := s.wreg .FRE_INCFG n v
  let trk := F.FRE_INCFG_BASE_TRK.of old = 0 && F.FRE_INCFG_BASE_TRK.of v = 1
  let s := s.when (trk || F.FRE_INCFG_BASE_TRK.of v = 0) fun s =>
    (s.put F.CAP_BASE_BASE_EFF n (s.cap n).base).dtUpdate n
  if v &&& 0xFFF = old &&& 0xFFF then s
  else
    let tb := s.st.coarse s.now
    let s := (s.flag F.FRE_STAT_SWITCHING n).put F.FRE_STAT_EN_EFF n 0
    s.modFre n fun f => match f.sw with
      | none => { f with sw := some ⟨v, tb, tb, 0⟩ }
      | some q =>
        if q.stage = 0 then { f with sw := some { q with cfg := v } }
        else { f with sw := some ⟨v, q.tb, max q.tb tb, 1⟩ }

/-- SWITCHING_WRITE (R42, R43): master `m` writes FRE_INCFG of lane `n`. -/
def execSwitchingWrite (t m n : Nat) (v : Word) (s : State) : Host.Outcome State Fault Refusal :=
  let s := (Work.start s).at t
  .next (s.access m 0 (n * 0x40) (pdLogic (wardOf n)) true fun s =>
    if s.st.laneAbsent n then s else s.wrIncfg n v).st

/-- SWITCH_CIRCUITS_OFF (R42, R43): 20 ns after t_r the circuits not needed are off and the terminations new. -/
def execSwitchCircuitsOff (u : Nat) (s : State) : Host.Outcome State Fault Refusal :=
  let s := Work.start s
  .next <| (match (s.fre u).sw with
    | some q =>
      if q.stage = 1 then
        let s := s.at (q.tr + 32768)
        let s := s.modFre u fun f => { f with cfg := q.cfg, sw := some { q with stage := 2 } }
        s.powerDown (s.st.carrier u) q.cfg
      else s
    | none => s).st

end Sys2Proof.Machine
end

