-- ==== Sys2Proof/Machine/Stamp.lean ====
section
/-!
DEFINITION. Stamps (R48 to R58): the tables, delays and skew of a unit, the stamp of an edge, its quality, and how late an
edge can reach capture.
-/

namespace Sys2Proof.Machine

variable {s₀ : State}

/-! ## Stamps -/

/-- The tables that unit `u` stamps with: those in force, or for a lane in the overlap of its handback the new ones
(Timeline CAL-1). -/
def State.tables (s : State) (u : Nat) : CalTables :=
  let b := blockOf u
  if u < 512 && s.get F.CAL_BSTAT_STEP b == 3 && s.get F.CAL_BSTAT_POS b == u % 16 then
    ((s.calBlkAt b).new).getD (s.calAt u).tab
  else (s.calAt u).tab

/-- F_i(c) in 2^-10 tick (R48, R51). -/
def CalTables.bin (tb : CalTables) (i c : Nat) : Nat := tb.bins.getD (512 * i + c) (1024 * c + 512)

/-- The typical delay of a circuit, in 2^-10 tick, which serves until the first calibration (R51, Tables FRE-2 and
FRE-3; log entry 12). -/
def typDelay (cfg : Word) (c : Circuit) : Nat :=
  let sp := fun (x : Nat) => match x with
    | 0 => 150995
    | 1 => 587203
    | 2 => 5033165
    | _ => 3355443200
  match c with
  | .cmp => 201327
  | .a => if F.FRE_INCFG_MODE.of cfg = 1 then 201327 else sp (F.FRE_INCFG_SPEED_A.of cfg)
  | .b => sp (F.FRE_INCFG_SPEED_B.of cfg)

/-- The delay of circuit `c` of unit `u`, in 2^-10 tick (R48), with the temperature model of FROZEN (R92). -/
def State.delay (s : State) (u : Nat) (c : Circuit) : Int :=
  let (ma, mb, mc) := (s.calAt u).model
  match (s.tables u).dly, c with
  | some (a, _, _), .a => a + ma
  | some (_, b, _), .b => b + mb
  | some (_, _, d), .cmp => d + mc
  | none, c => typDelay (s.feCfg u) c

/-- The skew that corrects a stamp of unit `u` (R83): K for a relief lane that takes a lane's signal, nothing for a lane
or in loopback. -/
def State.skewOf (s : State) (u : Nat) : Int :=
  if u < 512 || s.looped u || (s.reliefLane (u - 512)).isNone then 0 else (s.calBlkAt (u - 512)).skew

/-- The unrounded stamp of an edge, in 2^-10 tick, without skew correction: interpolator `i`, or none for a coarse-only
edge (R49, R54). -/
def State.rawStamp (s : State) (u : Nat) (c : Circuit) (i : Option Nat) (t : Nat) : Int :=
  let f := match i with
    | some i => (s.tables u).bin i (s.fine t)
    | none => 256 * 1024
  (1024 * (t - s.fine t) + f : Nat) - s.delay u c

/-- An unrounded stamp as a time. The model's time is not reduced modulo 2^64 (log entry 39); a stamp below 0 is. -/
def roundStamp (x : Int) : Nat :=
  let r := rnd x 1024
  if 0 ≤ r then r.toNat else (r % (2 ^ 64 : Nat)).toNat

/-- A stamp: unrounded and without skew correction in 2^-10 tick, as it is given, and whether it is a full one. -/
structure Stamp where
  raw  : Int
  t    : Nat
  full : Bool

/-- The distance to the previous full stamp that a full stamp needs (R53, R58). -/
def fullGap : Circuit → Nat
  | .a => 1024
  | _ => 8192

/-- What the stamping circuits hold of one input: the reception of its last full stamp, its last stamp, and the
interpolator that its next full stamp takes (R52, R53, R58). -/
def CapHw.input (h : CapHw) : Circuit → Option Nat × Option Nat × Nat
  | .a => (h.fullA, h.lastA, h.rot)
  | .b => (h.fullB, h.lastB, 4)
  | .cmp => (h.fullC, h.lastC, 5)

/-- The stamp of an edge that circuit `c` of unit `u` delivers at `t` (R49 to R54, R58): full where the previous full
stamp of that input is far enough away, else coarse-only, strictly between its neighbours. `tn` is the reception of the
next edge of that input that gets a full stamp; it bounds where that stamp is formed within 2.5 ns. Stamps of one input
keep the order of its edges, a full one also where `tn` did not name it (log entry 44). -/
def State.stampOf (s : State) (u : Nat) (c : Circuit) (t : Nat) (tn : Option Nat) : Stamp :=
  let (lastFull, lastT, i) := (s.capHwAt u).input c
  let far := fun (x : Nat) => lastFull.all fun f => decide (f + fullGap c ≤ x)
  let full := far t
  let time := fun (raw : Int) => roundStamp (raw + s.skewOf u)
  let raw := s.rawStamp u c (if full then some i else none) t
  let next := (tn.filter fun x => t < x && x ≤ t + 4096 && far x).map fun x => time (s.rawStamp u c (some i) x)
  let lo := match lastT with
    | some p => max (time raw) (p + 1)
    | none => time raw
  let r := match full, next with
    | false, some x => min lo (x - 1)
    | _, _ => lo
  ⟨raw, r, full⟩

/-- The stamping circuits of unit `u` have given stamp `x` to an edge that circuit `c` delivered at `t`: a full one
takes the interpolator. -/
def Work.takeStamp (s : Work s₀) (u : Nat) (c : Circuit) (t : Nat) (x : Stamp) : Work s₀ :=
  let h := s.capHw u
  let nf := fun (o : Option Nat) => if x.full then some t else o
  s.setCapHw u <| match c with
    | .a => { h with rot := if x.full then (h.rot + 1) % 4 else h.rot, fullA := nf h.fullA, lastA := some x.t }
    | .b => { h with fullB := nf h.fullB, lastB := some x.t }
    | .cmp => { h with fullC := nf h.fullC, lastC := some x.t }

/-- The quality of a stamp of lane `n` that unit `u` formed (R51, R55): 11 also for one formed with default tables,
after an abandoned first cycle too (log entry 45). -/
def State.quality (s : State) (n u : Nat) (full : Bool) : Nat :=
  let st := s.calState n
  if st = 0 || st = 4 || (st = 3 && s.carried (n / 16) != some n) || (s.tables u).dly.isNone then 3
  else if !full then 2
  else if 512 ≤ u then 1
  else 0

/-- How much later than its stamp an edge of unit `u` can reach capture: the largest input delay, and a coarse period.
-/
def State.lag (s : State) (u : Nat) : Nat :=
  ((max (s.delay u .a) (max (s.delay u .b) (s.delay u .cmp))) / 1024).toNat + 512

/-- How much later than its stamp an edge of lane `n` can reach what stands behind capture: in an overlap the later of
its two copies may have to be awaited (R80). -/
def State.laneLag (s : State) (n : Nat) : Nat :=
  let b := n / 16
  if (s.calBlkAt b).ov.isSome && s.get F.CAL_BSTAT_POS b == n % 16 then max (s.lag n) (s.lag (512 + b)) + 512
  else s.lag (s.carrier n)

/-- Whether an edge of lane `n` can come. -/
def State.lanePowered (s : State) (n : Nat) : Bool :=
  let c := (s.freAt n).cfg
  powersCircuit c .a || powersCircuit c .cmp || s.loopLane (n / 16) == some n

end Sys2Proof.Machine
end

