-- ==== Sys2Proof/Machine/Bundles.lean ====
section
/-!
DEFINITION. Bundles from opening to close, the assembly pool, and the discards of a lane's buffer (chapter 10 R251 to
R260, chapter 07 R159). Placement is in Queues.lean.
-/

namespace Sys2Proof.Machine

variable {s₀ : State}

/-- Change queue `q`. -/
def Work.modQue (s : Work s₀) (q : Nat) (f : QueSt → QueSt) : Work s₀ := s.setQue q (f (s.que q))

/-- The words of a bundle, header and trailer included (R252). -/
def Bundle.len (b : Bundle) : Nat := 3 + (b.recs.map (·.ws.length)).foldl (· + ·) 0

/-- Whether queue `q` is active (R250). -/
def State.active (s : State) (q : Nat) : Bool := s.on F.QD_CFG_EN q

/-- The active queues, in rising order. -/
def State.activeQueues (s : State) : List Nat := s.indices .QD_CFG fun v => F.QD_CFG_EN.of v == 1

/-- Buffers of the assembly pool (R257, Table QUE-7). -/
def State.poolBufs (s : State) : Nat := max 1 (s.get F.QUE_POOL_POOL_BUFS 0)

/-- Buffers in use: one for each open or waiting bundle that holds one. -/
def State.poolUsed (s : State) : Nat := ((s.open_ ++ s.wait).filter (·.buf)).length

/-- What POOL_USED reads after each buffer that is taken or freed on its way from `old` to `u` (R393). -/
def poolSteps (old u : Nat) : List Nat :=
  (List.range (u - old)).map (old + 1 + ·) ++ (List.range (old - u)).map (old - 1 - ·)

/-- QUE_STAT shows the pool; the monitor units take a sample at each buffer taken or freed (R393). -/
def Work.showPool (s : Work s₀) : Work s₀ :=
  let u := s.st.poolUsed
  let old := s.get F.QUE_STAT_POOL_USED 0
  let s := s.put F.QUE_STAT_POOL_USED 0 u
  let s := s.when (s.get F.QUE_STAT_POOL_PEAK 0 < u) fun s => s.put F.QUE_STAT_POOL_PEAK 0 u
  s.each (poolSteps old u) fun s v => s.mu 3 0 v

/-- The open bundle of a producer in a queue. -/
def State.openOf (s : State) (prod q : Nat) : Option Bundle :=
  s.open_.find? fun b => b.producer == prod && b.q == q

/-- The horizon of a producer's previous bundle in a queue since EN went to 1. -/
def State.prevHor (s : State) (prod q : Nat) : Option Nat :=
  ((s.queAt q).prev.find? fun p => p.1 == prod).map (·.2)

/-- A bundle meets its end without a place: ABORT and its count; the next committed bundle carries LOST (R258). -/
def Work.abort (s : Work s₀) (q : Nat) : Work s₀ :=
  let s := (s.count F.QD_CNT0_ABORT_CNT q).flag F.QD_FLAGS_ABORT q
  s.modQue q fun x => { x with lost := true }

/-- A producer becomes a writer of a queue; a ninth is not tracked and sets WOVF (R260). -/
def Work.addWriter (s : Work s₀) (prod q : Nat) : Work s₀ :=
  let ws := (s.que q).writers
  if ws.contains prod then s
  else if ws.length < 8 then
    (s.modQue q fun x => { x with writers := x.writers ++ [prod] }).put F.QD_MARK_WRITERS q (ws.length + 1)
  else s.flag F.QD_FLAGS_WOVF q

/-- A producer that stops leaves every writer set (R260). -/
def Work.dropWriter (s : Work s₀) (prod : Nat) : Work s₀ :=
  s.each (s.st.que.map (·.1)) fun s q =>
    let ws := (s.que q).writers.filter (· != prod)
    if ws.length = (s.que q).writers.length then s
    else (s.modQue q fun x => { x with writers := ws }).put F.QD_MARK_WRITERS q ws.length

/-- An output bundle of a plaza weaver ends, and input bundles no longer wait for it (R187). -/
def Work.notAwaited (s : Work s₀) (prod q : Nat) : Work s₀ :=
  if 0x40 ≤ prod && prod < 0x48 then
    let x := s.weav (prod - 0x20)
    s.setWeav (prod - 0x20) { x with unrel := x.unrel.map fun (i, n, h, qs) => (i, n, h, qs.filter (· != q)) }
  else s

/-- Close bundle `b` with horizon `h`, never below the producer's previous one there (R179, R259). -/
def Work.closeThis (s : Work s₀) (b : Bundle) (h : Nat) (forced : Bool := false) : Work s₀ :=
  let s := s.setOpen_ (s.st.open_.filter fun x => !(x.producer == b.producer && x.q == b.q))
  let s := s.notAwaited b.producer b.q
  if b.dead then s.abort b.q
  else
    let h := max h ((s.st.prevHor b.producer b.q).getD 0)
    let s := s.modQue b.q fun x =>
      { x with prev := (x.prev.filter fun p => p.1 != b.producer) ++ [(b.producer, h)] }
    let s := s.setWait (s.st.wait ++ [{ b with horizon := h, closedT := s.now, forced := b.forced || forced }])
    s.when forced fun s => s.count F.QUE_STAT_FORCE_CNT 0

/-- Close a producer's open bundle in a queue, if there is one. -/
def Work.close (s : Work s₀) (prod q h : Nat) : Work s₀ :=
  match s.st.openOf prod q with
  | some b => s.closeThis b h
  | none => s

/-- Close every open bundle of a producer. -/
def Work.closeAll (s : Work s₀) (prod h : Nat) : Work s₀ :=
  s.each (s.st.open_.filter (·.producer == prod)) fun s b => s.closeThis b h

/-- A producer's progress reaches `t`: its bundles that a timebase step found open end at the step (R237). -/
def Work.cutAt (s : Work s₀) (prod t : Nat) : Work s₀ :=
  s.each (s.st.open_.filter (·.producer == prod)) fun s b =>
    match b.cut with
    | some te => if te ≤ t then s.closeThis b te else s
    | none => s

/-- Rewind every open bundle of a producer (R258). -/
def Work.rewindOpen (s : Work s₀) (prod : Nat) : Work s₀ :=
  let mine := s.st.open_.filter (·.producer == prod)
  let s := s.setOpen_ (s.st.open_.filter (·.producer != prod))
  (s.each mine fun s b => s.abort b.q).showPool

/-- The floor that a new bundle of a producer would have in a queue (R259). -/
def State.newFloor (s : State) (prod q progress : Nat) : Nat := (s.prevHor prod q).getD progress

/-- Whether a producer can open a bundle in a queue: the queue is not active (the bundle then only counts), or a buffer
has been granted to it, or one is free and nobody waits (R257). -/
def State.canOpen (s : State) (prod q : Nat) : Bool :=
  !s.active q || s.granted.contains prod || (s.waiters.isEmpty && s.poolUsed + s.granted.length < s.poolBufs)

/-- The least of a list of times, at most `d`. -/
def leastOf (d : Nat) (ts : List Nat) : Nat := ts.foldl min d

/-- The inputs of plaza weaver `p` that are enabled and whose queue is bound to them (R186). -/
def State.pins (s : State) (p : Nat) : List Nat :=
  (List.range 8).filter fun i =>
    let q := s.get F.WEA_PIN_QUEUE (8 * p + i)
    s.on F.WEA_PIN_EN (8 * p + i) && s.get F.QD_MARK_CONS_KIND q == 5 && s.get F.QD_MARK_CONS_ID q == 8 * p + i

/-- Element `i` of a list of optional times. -/
def optAt (xs : List (Option Nat)) (i : Nat) : Option Nat := (xs[i]?).getD none

/-- The time of the first result that pairing unit `p` has in hand (Table CNT-6): its armed start or cycle, or the
oldest RATIO gate of A whose result is not formed, or the first event that waits. -/
def PairSt.oldest (x : PairSt) : Option Nat :=
  match x.armed, x.sideA.done, x.sideA.gate, x.q.find? (!·.disc) with
  | some e, _, _, _ => some e.t
  | none, g :: _, _, _ => some g.t0
  | none, [], some g, _ => some g.t0
  | none, [], none, e => e.map (·.t)

/-! ## The merge horizon (R163) -/

/-- The time up to which lane `n` has released its records: T64 less its hold and what an edge's stamp can lie behind
T64, or the first record it still holds, or the DROP EVENT of lost ones. -/
def State.laneRelease (s : State) (n : Nat) : Nat :=
  let c := s.capAt n
  let behind := if s.lanePowered n then max (s.holdTime n) (s.lag (s.carrier n)) else s.holdTime n
  leastOf (s.t64 - behind) ((c.held.map (·.r.t)) ++ c.buf.map (·.t) ++ (c.drop.map (·.2.1)).toList ++
    (s.cntAt n).wait.map (·.at) ++ s.gateActs n)

/-- The times of the results that the ward pairing units with LANE_A in block `b` have in hand. -/
def State.pairStarts (s : State) (b : Nat) : List Nat :=
  ((List.range 16).map (16 * (b / 4) + ·)).filterMap fun p =>
    let x := s.pairAt p
    if F.PAIR_CFG_LANE_A.of x.cfg / 16 = b then x.oldest else none

/-- The merge horizon of block `b`: the least time over its sources, never going back. -/
def State.mergeHor (s : State) (b : Nat) : Nat :=
  let m := s.mergeAt b
  let ts := (lanesOf b).map s.laneRelease ++ s.pairStarts b ++ (m.evs ++ m.fb).map (·.t) ++ (lanesOf b).flatMap s.axisActs
  max (s.progAt b) (leastOf s.t64 ts)

/-- The present merge horizon of weaver `w`: the block's (R163), or for a plaza weaver that of the input bundles whose
ends it has reached (R186). -/
def State.weavHor (s : State) (w : Nat) : Nat :=
  if w < 32 then s.mergeHor w
  else match (s.pins (w - 32)).map fun i => (optAt (s.weavAt w).ended i).getD 0 with
    | [] => 0
    | h :: hs => leastOf h hs

/-- How far behind T64 the stamp of an edge that still comes to pairing unit `p` can lie. -/
def State.pairLag (s : State) (p : Nat) : Nat :=
  let c := (s.pairAt p).cfg
  max (s.laneLag (F.PAIR_CFG_LANE_A.of c)) (s.laneLag (F.PAIR_CFG_LANE_B.of c))

/-- The least time that a later result of pairing unit `p` can carry: that of a result in hand, or T64 less what an
edge's stamp can lie behind it (R440). -/
def State.pairProgress (s : State) (p : Nat) : Nat :=
  let base := s.t64 - max (2 ^ 17) (s.pairLag p)
  match (s.pairAt p).oldest with
  | some t => min t base
  | none => base

/-- The floor of the axis unit as a writer of every active queue (R260). -/
def State.axisFloor (s : State) : Nat :=
  let o := sval 24 s.axis.ofs.toNat
  ((s.t64 - 2 ^ 17 : Nat) - (if o < 0 then -o else 0)).toNat

/-- A producer's progress (R259): of a fast path and of a weaver the present merge horizon. -/
def State.progress (s : State) (prod : Nat) : Nat :=
  if prod < 0x20 then s.mergeHor prod
  else if 0x20 ≤ prod && prod < 0x48 then s.weavHor (prod - 0x20)
  else if 0x100 ≤ prod && prod < 0x140 then s.pairProgress (128 + (prod - 0x100))
  else if prod = 0x140 then s.axisFloor
  else if prod = 0x142 then s.t64 - 2 ^ 17
  else s.progAt prod

/-- A producer opens a bundle in a queue (R257, R259, R260). -/
def Work.openNew (s : Work s₀) (prod q progress : Nat) : Work s₀ :=
  let live := s.st.active q
  let b : Bundle :=
    { q := q, producer := prod, recs := [], floor := s.st.newFloor prod q progress, horizon := 0,
      openT := s.now, openH := progress, buf := live, dead := !live }
  let s := s.when live fun s => (s.setGranted (s.st.granted.erase prod)).addWriter prod q
  let s := s.setOpen_ (s.st.open_ ++ [b])
  s.when live (·.showPool)

/-- The queue manager closes the open bundle least recently appended to, with its producer's progress as horizon
(R257). -/
def Work.forceOne (s : Work s₀) : Work s₀ :=
  match s.st.open_.find? (·.buf) with
  | some b => (s.monEvt F.MON_EVT_POOL_FORCE).closeThis b (s.st.progress b.producer) true
  | none => s

/-- No buffer is free: the producer that asked waits, and its request, which forces one close, stands (R257). -/
def Work.forceClose (s : Work s₀) (prod : Nat) : Work s₀ :=
  if s.st.granted.contains prod || s.st.waiters.contains prod then s
  else (s.setWaiters (s.st.waiters ++ [prod])).forceOne

/-- Append a record to a producer's open bundle in a queue; a would-be bundle discards it (R251). -/
def Work.append (s : Work s₀) (prod q : Nat) (r : Rec) : Work s₀ :=
  match s.st.openOf prod q with
  | none => s
  | some b =>
    let rest := s.st.open_.filter fun x => !(x.producer == prod && x.q == q)
    s.setOpen_ (rest ++ [if b.dead then b else { b with recs := b.recs ++ [r] }])

/-- A bundle of records formed at once: opened, filled and closed (R188, R191). A fault's EVENT takes no assembly
buffer (`pool` false). A copy of an input bundle keeps its horizon (`keep`), though another copy's was higher (log
entry 47). -/
def Work.ownBundle (s : Work s₀) (prod q hor : Nat) (rs : List Rec) (pool : Bool := true) (keep : Bool := false) : Work s₀ :=
  let live := s.st.active q
  let floor := s.st.newFloor prod q (s.st.progress prod)
  let b : Bundle := { q := q, producer := prod, recs := rs, floor := if keep then min floor hor else floor,
                      horizon := 0, openT := s.now, openH := hor, buf := live && pool, dead := !live }
  let s := s.when (live && pool) fun s => (s.setGranted (s.st.granted.erase prod)).addWriter prod q
  if !live then s.abort q
  else
    let top := max hor ((s.st.prevHor prod q).getD 0)
    let h := if keep then hor else top
    let s := s.modQue q fun x => { x with prev := (x.prev.filter fun p => p.1 != prod) ++ [(prod, top)] }
    (s.setWait (s.st.wait ++ [{ b with horizon := h, closedT := s.now }])).showPool

/-- A bundle that the queue manager forms itself: one record, floor and horizon at its time, no buffer (R157, R265). -/
def Work.sysBundle (s : Work s₀) (prod q : Nat) (r : Rec) : Work s₀ :=
  if s.st.active q then
    s.setWait (s.st.wait ++ [{ q := q, producer := prod, recs := [r], floor := r.t, horizon := r.t, openT := s.now,
                               openH := r.t, closedT := s.now, buf := false }])
  else s

/-- A system EVENT goes into every active queue (R265). -/
def Work.sysEvent (s : Work s₀) (prod : Nat) (r : Rec) : Work s₀ :=
  s.each s.st.activeQueues fun s q => s.sysBundle prod q r

/-! ## A lane's buffer in front of the block merge (R159, R160) -/

/-- Words in a list of records. -/
def recWords (rs : List Rec) : Nat := (rs.map (·.ws.length)).foldl (· + ·) 0

/-- Whether lane `n`'s records go to its block's weaver (R164). -/
def State.weaved (s : State) (n : Nat) : Bool :=
  s.on F.WEA_WSTAT_RUNNING (n / 16) && bit (F.WEA_WCFG_WMASK.of (s.weavAt (n / 16)).cfg) (n % 16)

/-- A record of lane `n` is dropped and counted (R159, R160). -/
def Work.dropRec (s : Work s₀) (n : Nat) (r : Rec) : Work s₀ :=
  let full := s.get F.WEA_LDROP_DROP_CNT n + 1 ≥ 2 ^ 32
  let s := s.count F.WEA_LDROP_DROP_CNT n
  let s := s.when full fun s => s.flag F.WEA_LDROP_SAT n
  let s := s.modCap n fun c => { c with drop := some (match c.drop with
    | none => (1, r.t, r.t)
    | some (k, a, z) => (k + 1, min a r.t, max z r.t)) }
  s.when (s.st.weaved n) fun s => s.flag F.WEA_WEVT_INTAKE_DROP (n / 16)

/-- A record enters lane `n`'s buffer of 64 words, or is dropped (R159). EVENTs take no room there; they wait at the
merge, in order with the lane's records (R161). -/
def Work.pushBuf (s : Work s₀) (n : Nat) (r : Rec) : Work s₀ :=
  let used := recWords ((s.cap n).buf.filter fun x => !x.ev)
  if r.ev || used + r.ws.length ≤ 64 then s.modCap n fun c => { c with buf := c.buf ++ [r] }
  else s.dropRec n r

/-- RECORD_HOLD_RELEASE (R70, R130): the first record of lane `n`'s output stage leaves once T64 has passed its time
plus H; a record timed at a boundary waits for every edge stamped before it. -/
def execRecordHoldRelease (n : Nat) (s : State) : Host.Outcome State Fault Refusal :=
  let s := Work.start s
  .next <| (match (s.cap n).held with
    | [] => s
    | h :: rest =>
      -- an edge that waits for a stake may close a gate before this record (R130, R149)
      if (s.cnt n).wait.any (fun (e : CntIn) => e.at ≤ h.r.t) || s.st.gateDue n h.r.t then s else
      let wait := s.st.holdTime n
      let s := s.at (h.r.t + if h.rank = 0 && s.st.lanePowered n then max wait (s.st.lag (s.st.carrier n)) else wait)
      let s := s.modCap n fun c => { c with held := rest }
      s.pushBuf n h.r).st

end Sys2Proof.Machine
end

