-- ==== Sys2Proof/Machine/Counting.lean ====
section
/-!
DEFINITION. Counting engines (chapter 05): statistics units, gates, boundary requests, estimators, MEAS and STAT
records, the edges that an engine counts, and the application of a configuration.
-/

namespace Sys2Proof.Machine

variable {s₀ : State}

/-! ## Statistics units (R127, R128) -/

/-- Gates per period. -/
def statGates (cfg : Nat) : Nat := if cfg % 65536 = 0 then 65536 else cfg % 65536

/-- A sample joins the period in hand. -/
def Stat.add (a : Stat) (x : Int) (q : Nat) : Stat :=
  if a.n = 2 ^ 32 - 1 then { a with q10 := true }
  else
    let x0 := if a.n = 0 then x else a.x0
    let raw := (x - x0) / (2 ^ bits a.cfg 16 6 : Nat)
    let d := clampI (-(2 ^ 31 : Nat)) (2 ^ 31 - 1) raw
    { a with
      n := a.n + 1, x0 := x0, sx := a.sx + (x - x0), sd := a.sd + d, sdd := a.sdd + d * d,
      mn := if a.n = 0 then x else min a.mn x, mx := if a.n = 0 then x else max a.mx x,
      sat := a.sat || d != raw, q10 := a.q10 || q == 2, q01 := a.q01 || q == 1 }

/-- The STAT record of a period (Table CNT-7), of source and ID `srcId`, that ends at `tEnd`. -/
def statRec (srcId : Nat) (lane : Nat) (a : Stat) (start tEnd : Nat) : Rec :=
  let w0 := fun (q : Nat) (sat : Bool) =>
    w64 (0x5 * 2 ^ 60 + srcId * 2 ^ 50 + q * 2 ^ 48 + b2n sat * 2 ^ 47 + t47 start)
  if a.n = 0 then { t := tEnd, ws := [w0 3 false, 0, 0, 0], lane := some lane }
  else
    let sh := 2 ^ bits a.cfg 16 6
    let mean := a.x0 + rnd a.sx a.n
    let v := ((a.n : Int) * a.sdd - a.sd * a.sd).toNat
    let sdOut := (isqrt (4 * v) + a.n) / (2 * a.n)
    let lo := ((mean - a.mn) / (sh : Nat)).toNat
    let hi := ((a.mx - mean) / (sh : Nat)).toNat
    let top := 2 ^ 32 - 1
    let q := if a.q10 then 2 else if a.q01 then 1 else 0
    { t := tEnd, lane := some lane,
      ws := [w0 q (a.sat || lo > top || hi > top), w64 (sfield 64 mean), w64 (a.n * 2 ^ 32 + min sdOut top),
             w64 (min lo top * 2 ^ 32 + min hi top)] }

/-- A period begins at gate `first`, whose time is `start`, with the configuration then in the register. -/
def statOpen (on : Bool) (cfg first start : Nat) : Stat :=
  { on := on, cfg := cfg, first := first, start := start }

/-- The gate index reaches `j` at time `b`, which a record carries as `c`: the records of the periods that end there,
and the period then in hand. -/
def Stat.pass (a : Stat) (srcId lane cfg j b c : Nat) : List Rec × Stat :=
  if !a.on || j < a.first + statGates a.cfg then ([], a)
  else
    let one := statRec srcId lane a a.start b
    let g := statGates cfg
    let from1 := a.first + statGates a.cfg
    let skipped := (j - from1) / g
    let empty := statRec srcId lane {} c b
    (one :: List.replicate skipped empty, statOpen true cfg (from1 + skipped * g) c)

/-! ## Estimators -/

/-- The first instant at or after `t` whose T64 is a multiple of `l` (R107). -/
def gridUp (l t : Nat) : Nat := t / 2 ^ 64 * 2 ^ 64 + (t % 2 ^ 64 + l - 1) / l * l

/-- The estimator in a CNT_CFG word; 6 and 7 act as 0 (R131). -/
def estOf (cfg : Word) : Nat :=
  let e := F.CNT_CFG_EST.of cfg
  if e > 5 then 0 else e

/-- Whether an estimator is time-bounded (TOTALIZE, RATE). -/
def timeBounded (est : Nat) : Bool := est == 2 || est == 3

/-- The gate length or τ0 in force, in ticks (Table CNT-9). -/
def lenOf (len : Word) : Nat :=
  let l := F.CNT_LEN_LEN.of len
  if l = 0 then 2 ^ 48 else max l 8192

/-- Counted edges per gate (Table CNT-9). -/
def countOf (c : Word) : Nat :=
  let n := F.CNT_COUNT_COUNT_N.of c
  if n = 0 then 2 ^ 48 else n

/-- MAXLEN_EXP in force, 13 to 48. -/
def maxExp (cfg : Word) : Nat := max 13 (min 48 (F.CNT_CFG_MAXLEN_EXP.of cfg))

/-- The stamp limit n_max of a gate (R119). -/
def nMax (cfg : Word) : Nat := min (2 ^ 32) (2 ^ (64 - maxExp cfg))

/-- A frequency in 2^-24 Hz: `n` cycles in `d` ticks (Table CNT-2; 1.6384 * 10^12 = 2^14 * 10^8). -/
def freqOf (n d : Nat) : Nat := (rnd ((n * 10 ^ 8 * 2 ^ 38 : Nat) : Int) d).toNat

/-- The regression sums D_II, D_IT (signed) and D_TT of a gate, modulo 2^128 (R118). -/
def regSums (g : Gate) : Nat × Int × Nat :=
  let m : Int := (2 ^ 128 : Nat)
  let ii := (((g.rn * g.sII : Nat) : Int) - (g.sI * g.sI : Nat)) % m
  let it := (((g.rn * g.sIT : Nat) : Int) - (g.sI * g.sT : Nat)) % m
  let tt := (((g.rn * g.sTT : Nat) : Int) - (g.sT * g.sT : Nat)) % m
  (ii.toNat, sval 128 it.toNat, tt.toNat)

/-- The residual of a regression gate in 2^-8 tick (R120). -/
def regResid (g : Gate) : Nat :=
  if g.rn < 3 then 0
  else
    let (ii, it, tt) := regSums g
    let num := ((tt * ii : Nat) : Int) - it * it
    let den := ii * g.rn * (g.rn - 2)
    if den = 0 then 0 else min 0xFFFF ((isqrt (4 * 65536 * num.toNat / den) + 1) / 2)

/-- The result of a gate that ends at `t1` (Table CNT-2, R117): KIND, RESULT, whether it saturated, and whether
the gate yields no result (R114). -/
def measResult (cfg : Word) (g : Gate) (t1 : Nat) : Nat × Nat × Bool × Bool :=
  let dT := t1 - g.t0
  let form := F.CNT_CFG_FORM.of cfg
  let sat := fun (x : Nat) => if x > 2 ^ 63 - 1 then (2 ^ 63 - 1, true) else (x, false)
  match estOf cfg with
  | 1 =>
    let (ii, it, _) := regSums g
    if g.rn < 2 then (2 + form, 0, false, true)
    else if form = 0 then (2, freqOf ii it.toNat, false, false)
    else
      let (x, o) := sat (rnd (2 ^ 16 * it) ii).toNat
      (3, x, o, false)
  | 2 => (4, g.n, false, false)
  | 3 => (5, freqOf g.n dT, false, false)
  | 4 =>
    let x := (rnd ((2 ^ 32 * g.high : Nat) : Int) dT).toNat
    (6, min x (2 ^ 32 - 1), x > 2 ^ 32 - 1, false)
  | 5 => (7, freqOf g.n dT, false, false)
  | _ =>
    if form = 0 then (0, freqOf g.n dT, false, false)
    else
      let (x, o) := sat (rnd ((dT * 2 ^ 16 : Nat) : Int) g.n).toNat
      (1, x, o, false)

/-! ## Gates -/

/-- Lane `n` is UNCAL or FAILED (R114). -/
def State.laneBad (s : State) (n : Nat) : Bool := s.calState n == 0 || s.calState n == 4

/-- Lane `n`'s engine reaches gate `j` at `b`, which a record carries as `z`: the pairing units whose statistics follow
it see the boundary, once no result timed before it can still be formed. The period in hand goes on where it can (`how`
0), closes there (1) or is given up (2; R127). -/
def Work.pairDue (s : Work s₀) (n b z j how : Nat) : Work s₀ :=
  s.each (s.st.pair.map (·.1)) fun s p =>
    let x := s.pair p
    if F.PAIR_CFG_LANE_A.of x.cfg = n && x.stat.on then
      s.modPair p fun x => { x with stat := { x.stat with due := x.stat.due ++ [(b, z, j, how)] } }
    else s

/-- The records and the statistics of a period boundary of lane `n`'s engine: the gate index reaches `j` at `b`, which a
record carries as `z`. -/
def Work.statPass (s : Work s₀) (n j b z : Nat) : Work s₀ :=
  let (rs, a) := (s.cnt n).stat.pass n n (s.reg .CNT_STATCFG n).toNat j b z
  let s := s.modCnt n fun c => { c with stat := a }
  (s.each rs fun s r => s.hold n 0 r).pairDue n b z j 0

/-- The statistics period in hand of lane `n`'s engine ends at `t`, which a record carries as `z`, with the gates it
holds; one that has just begun there holds none (R127). -/
def Work.statClose (s : Work s₀) (n t z : Nat) : Work s₀ :=
  let a := (s.cnt n).stat
  s.when (a.on && !(a.start == z && a.n == 0)) fun s => s.hold n 0 (statRec n n a a.start t)

/-- A sequence of statistics periods of lane `n`'s engine begins at gate `j`, whose time a record carries as `t` (R127,
R129). -/
def Work.statBegin (s : Work s₀) (n j t : Nat) : Work s₀ :=
  s.modCnt n fun c => { c with stat := statOpen (F.CNT_CFG_STAT_EN.of c.cfg = 1) (s.reg .CNT_STATCFG n).toNat j t }

/-- Whether a timebase step lies between the opening stamp of an edge-bounded gate and its boundary edge at `t1`, which
then closes the gate for the step's request or for one after it (R114). -/
def State.stepIn (s : State) (g : Gate) (t1 : Nat) : Bool :=
  !timeBounded (estOf g.cfg) && s.tim.steps.any fun p => decide (g.t0 < p.1) && decide (p.1 ≤ t1)

/-- Lane `n`'s open gate ends at `t1`: its MEAS record and its sample (R114, R116, R127). -/
def Work.closeGate (s : Work s₀) (n : Nat) (g : Gate) (t1 : Nat) : Work s₀ :=
  let c := s.cnt n
  if g.idle then s
  else
    let (kind, res, sat, bad) := measResult g.cfg g t1
    let uncal := g.uncal || s.st.laneBad n || bad
    let q := if uncal then 3 else if g.disc || s.st.stepIn g t1 || g.limit || sat then 2 else if g.rel then 1 else 0
    let res := if q = 3 then 0 else res
    let w3 := if kind = 7 then g.first % 2 ^ 48 * 65536
      else min g.n (2 ^ 48 - 1) * 65536 + (if kind = 2 || kind = 3 then regResid g else 0)
    let r : Rec :=
      { t := t1, lane := some n,
        ws := [w64 (0x3 * 2 ^ 60 + n * 2 ^ 51 + kind * 2 ^ 48 + q * 2 ^ 46 + g.idx % 2 ^ 46), w64 (s.st.stampAt g.rx0 g.t0),
               w64 res, w64 w3] }
    let s := s.when (F.CNT_CFG_REC_EN.of g.cfg = 1) fun s => (s.hold n 0 r).flag F.CNT_EVT_GATE_DONE n
    let s := s.when sat fun s => s.flag F.CNT_EVT_SAT n
    let s := s.when (q = 2) fun s => s.flag F.CNT_EVT_DISC n
    s.when (q != 3 && c.stat.on) fun s =>
      s.modCnt n fun c => { c with stat := c.stat.add (sval 64 res) q }

/-! ## The RATIO units and statistics that follow an engine (R124, R127) -/

/-- Whether unit `p` is a cross-ward unit. -/
def isXp (p : Nat) : Bool := 128 ≤ p

/-- Whether unit `p` can work: its lanes in reach and its two events not the same, and for RATIO LANE_A's engine
running without CFG_ERR (R121, R124, R125). -/
def State.pairBad (s : State) (p : Nat) (c : Word) : Bool :=
  let la := F.PAIR_CFG_LANE_A.of c
  let lb := F.PAIR_CFG_LANE_B.of c
  let same := la = lb && F.PAIR_CFG_SRC_A.of c = F.PAIR_CFG_SRC_B.of c && F.PAIR_CFG_POL_A.of c = F.PAIR_CFG_POL_B.of c
  let far := if isXp p then s.laneAbsent la || s.laneAbsent lb else la / 64 != p / 16 || lb / 64 != p / 16
  same || far ||
    (F.PAIR_CFG_KIND.of c = 2 && (!(s.cntAt la).on || s.on F.CNT_STAT_CFG_ERR la))

/-- CFG_ERR of unit `p` follows its condition; while it holds the unit keeps nothing (R121, R124). -/
def Work.pairCheck (s : Work s₀) (p : Nat) : Work s₀ :=
  let x := s.pair p
  if F.PAIR_CFG_EN.of x.cfg = 0 then s.put F.PAIR_STAT_CFG_ERR p 0
  else if s.st.pairBad p x.cfg then
    let s := s.when (!s.on F.PAIR_STAT_CFG_ERR p) fun s => s.flag F.PAIR_EVT_CFG_ERR p
    let s := (s.flag F.PAIR_STAT_CFG_ERR p).put F.PAIR_STAT_ARMED p 0
    s.modPair p fun x => { x with armed := none, firstB := none, sideA := {}, sideB := {} }
  else s.put F.PAIR_STAT_CFG_ERR p 0

/-- The RATIO units that follow lane `n`'s engine see its state change (R124). -/
def Work.ratioCheck (s : Work s₀) (n : Nat) : Work s₀ :=
  s.each (s.st.pair.map (·.1)) fun s p =>
    if F.PAIR_CFG_KIND.of (s.pair p).cfg = 2 && F.PAIR_CFG_LANE_A.of (s.pair p).cfg = n then s.pairCheck p else s

/-- Boundary requests of lane `n`'s engine reach the RATIO units that take its gates, `anew` where the engine starts
afresh; a unit whose written words wait for their boundary keeps those from there on for its start (R124, R439). -/
def Work.ratioRequest (s : Work s₀) (n : Nat) (anew : Bool) (rs : List Req) : Work s₀ :=
  let takes := fun (c : Word) => F.PAIR_CFG_EN.of c = 1 && F.PAIR_CFG_KIND.of c = 2 && F.PAIR_CFG_LANE_A.of c = n
  let side := fun (a : RSide) => if anew then { reqs := rs } else { a with reqs := a.reqs ++ rs }
  s.each (s.st.pair.map (·.1)) fun s p => s.modPair p fun x =>
    let pend := x.pend.map fun e =>
      if takes e.cfg then { e with next := (if anew then [] else e.next) ++ rs.filter fun (r : Req) => e.at_ ≤ r.tb } else e
    if takes x.cfg then { x with pend := pend, sideA := side x.sideA, sideB := side x.sideB } else { x with pend := pend }

/-- Show lane `n`'s open gate in CNT_STAT. -/
def Work.showGate (s : Work s₀) (n : Nat) : Work s₀ :=
  match (s.cnt n).gate with
  | none => ((s.put F.CNT_STAT_OPEN n 0).put F.CNT_STAT_IDLE n 0).put F.CNT_STAT_LIMIT_ACT n 0
  | some g =>
    let s := s.put F.CNT_STAT_GATE_IDX n g.idx
    let s := s.put F.CNT_STAT_OPEN n 1
    let s := s.put F.CNT_STAT_IDLE n (b2n g.idle)
    s.put F.CNT_STAT_LIMIT_ACT n (b2n g.limit)

/-- How many requests a list stands for. -/
def reqCount (rs : List Req) : Nat := (rs.map (·.n)).foldl (· + ·) 0

/-- The kind of the gate that requests open: that of the last one that names a kind, else `idle`. -/
def reqIdle (rs : List Req) (idle : Bool) : Bool := rs.foldl (fun b r => r.idle.getD b) idle

/-- A boundary of lane `n` formed by the requests `rs` (R108): the open gate, if any, ends at `t1`, and the next opens
with `t0`, under the configuration in force there (R115); `rx` is the reception of the edge that opens it, if one does.
A request for the maximum length of a gate that has ended falls away. -/
def Work.boundary (s : Work s₀) (n : Nat) (rs : List Req) (t1 t0 : Nat) (rx : Nat := t0) : Work s₀ :=
  let c := s.cnt n
  let z := s.st.stampAt rx t0
  let k := reqCount rs
  let idle := reqIdle rs (match c.gate with | some g => g.idle | none => false)
  let idx := match c.gate with | some g => g.idx + k | none => 0
  let early := match c.recfg with | some t => decide (t0 < t) | none => false
  let s := match c.gate with | some g => s.closeGate n g t1 | none => s
  let s := s.when (1 < k) fun s =>
    (s.count F.CNT_CNT_MERGE_CNT n (if c.gate.isSome then 1 else k - 1)).flag F.CNT_EVT_MERGE n
  let cfg := if early then c.was.1 else c.cfg
  let topen := if timeBounded (estOf cfg) then t0 else (rs.map (·.tb)).foldl min (rs.head?.elim t1 (·.tb))
  let g : Gate :=
    { cfg := cfg, count := if early then c.was.2 else c.count, merged := 1 < k,
      idx := idx, idle := idle, topen := topen, t0 := t0, rx0 := rx, first := s.get F.CNT_IDX_EDGE_IDX n,
      uncal := s.st.laneBad n, disc := s.st.blanked n || s.st.inGap n }
  let keep := fun (rs : List Req) => rs.filter (!·.max)
  let s := s.modCnt n fun c => { c with
    gate := some g, reqs := keep c.reqs, change := if early then c.change else none, recfg := if early then c.recfg else none }
  let s := s.each (s.st.pair.map (·.1)) fun s p => s.when (F.PAIR_CFG_LANE_A.of (s.pair p).cfg = n) fun s =>
    s.modPair p fun x => { x with
      sideA := { x.sideA with reqs := x.sideA.reqs.filter fun (r : Req) => !r.max || r.tb ≤ t0 }
      sideB := { x.sideB with reqs := x.sideB.reqs.filter fun (r : Req) => !r.max || r.tb ≤ t0 } }
  let s := if c.gate.isNone then (s.statBegin n idx z).pairDue n t0 z 0 2
    else if c.recfg.isSome && !early then ((s.statClose n t1 z).statBegin n idx z).pairDue n t0 z idx 1
    else s.statPass n idx t1 z
  s.showGate n

/-- A boundary request reaches lane `n`'s engine, and the RATIO units that follow the engine (R107, R124). Before the
instant at which gate 0 can open there is no gate for it to end (R109). -/
def Work.request (s : Work s₀) (n : Nat) (r : Req) : Work s₀ :=
  let c := s.cnt n
  if !c.on || s.on F.CNT_STAT_CFG_ERR n || (c.gate.isNone && r.tb < c.opens) then s
  else (s.modCnt n fun c => { c with reqs := c.reqs ++ [r] }).ratioRequest n false [r]

/-- The open gate of lane `n` is discarded without a record (R113, R115). -/
def Work.dropGate (s : Work s₀) (n : Nat) : Work s₀ :=
  let s := s.modCnt n fun c => { c with gate := none, reqs := [], openAt := none, change := none, recfg := none }
  (s.ratioCheck n).showGate n

/-- The instant of a time-bounded boundary: the coarse boundary at or after t_b (R111). -/
def State.bound (s : State) (r : Req) : Nat := s.coarseUp r.tb

/-- The time-bounded boundary at `b` of lane `n`, formed by every request whose boundary is at or before `b`. One that
comes after the boundary was formed merges into it (R108). -/
def Work.timeClose (s : Work s₀) (n b : Nat) : Work s₀ :=
  let c := s.cnt n
  let (now, later) := c.reqs.partition fun (r : Req) => s.st.bound r ≤ b
  let s := s.modCnt n fun c => { c with reqs := later }
  if now.isEmpty then s
  else match c.gate with
    | some g =>
      if timeBounded (estOf g.cfg) && g.t0 = b then
        let k := reqCount now
        let idx := if g.idx = 0 then 0 else g.idx + k
        let turn := c.recfg.isSome
        let g' := { g with idx := idx, idle := reqIdle now g.idle, merged := true,
                           cfg := if turn then c.cfg else g.cfg, count := if turn then c.count else g.count }
        let s := s.modCnt n fun c => { c with gate := some g', recfg := none }
        let s := (s.count F.CNT_CNT_MERGE_CNT n (if g.idx = 0 then k else if g.merged then 0 else 1)).flag F.CNT_EVT_MERGE n
        let z := s.st.stamp b
        let s := if turn then ((s.statClose n b z).statBegin n idx z).pairDue n b z idx 1 else s.statPass n idx b z
        s.showGate n
      else s.boundary n now b b
    | none => s.boundary n now b b

/-- Every time-bounded boundary of lane `n` up to `b`, in order, in at most `fuel` steps. -/
def Work.timeUpTo (s : Work s₀) (n b : Nat) : Nat → Work s₀
  | 0 => s
  | fuel + 1 =>
    match (s.cnt n).reqs with
    | [] => s
    | r :: rs =>
      let m := rs.foldl (fun m (x : Req) => min m (s.st.bound x)) (s.st.bound r)
      if m ≤ b then (s.timeClose n m).timeUpTo n b fuel else s

/-- Every time-bounded boundary of lane `n` up to `b`. -/
def Work.timeAll (s : Work s₀) (n b : Nat) : Work s₀ := s.timeUpTo n b (s.cnt n).reqs.length

/-- FIXED_LENGTH_REQUEST (R107): T64 reaches the next instant of lane `n`'s fixed or CONTINUOUS grid. -/
def execFixedLengthRequest (n : Nat) (s : State) : Host.Outcome State Fault Refusal :=
  let s := Work.start s
  let c := s.cnt n
  let grid := F.CNT_CFG_CL_FIXED.of c.cfg = 1 || estOf c.cfg = 5
  .next <| (if c.on && grid then
      let s := s.at c.nextFix
      let act := c.openAt = some c.nextFix
      let s := s.modCnt n fun c => { c with
        nextFix := c.nextFix + lenOf c.len, openAt := if act then none else c.openAt }
      s.request n { tb := c.nextFix, idle := if act then some false else none }
    else s).st

/-- MAXIMUM_LENGTH_REQUEST (R107, R112): lane `n`'s open gate reaches 2^MAXLEN_EXP ticks; once for each gate. -/
def execMaximumLengthRequest (n : Nat) (s : State) : Host.Outcome State Fault Refusal :=
  let s := Work.start s
  .next <| (match (s.cnt n).gate with
    | some g =>
      if g.maxed then s
      else
        let tb := g.topen + 2 ^ maxExp g.cfg
        let s := (s.at tb).modCnt n fun c => { c with gate := some { g with maxed := true } }
        s.request n { tb := tb, max := true }
    | none => s).st

/-! ## Edges (R106 to R112, R115) -/

/-- A counted edge of index `i` joins a gate (R106, R118, R119): a regression stamp beyond the limit marks the gate. The
maximum length of R112 shuts out no stamp of a gate that is still open (log entry 15). -/
def Gate.take (g : Gate) (i : Nat) (st : Option Nat) (rel : Bool) : Gate :=
  let g := { g with n := g.n + 1, rel := g.rel || rel }
  match st with
  | none => g
  | some t =>
    if estOf g.cfg != 1 || g.limit then g
    else if g.rn = nMax g.cfg then { g with limit := true }
    else
      let m := 2 ^ 128
      let x := t - g.t0
      { g with rn := g.rn + 1, sI := (g.sI + i) % m, sII := (g.sII + i * i) % m, sT := (g.sT + x) % m,
               sTT := (g.sTT + x * x) % m, sIT := (g.sIT + i * x) % m }

/-- P_EFF of lane `n` doubles, up to 65,536 (R119). -/
def Work.limitHit (s : Work s₀) (n : Nat) : Work s₀ :=
  let s := s.put F.CAP_STAT_P_EFF n (min 65536 (2 * s.get F.CAP_STAT_P_EFF n))
  (s.flag F.CNT_EVT_LIMIT n).count F.CNT_CNT_LIMIT_CNT n

/-- The asserted time of a DUTY gate (Table CNT-2). -/
def Gate.duty (g : Gate) (rising : Bool) (t : Nat) : Gate :=
  if estOf g.cfg != 4 then g
  else if rising then { g with rise := some t }
  else match g.rise with
    | some r => { g with high := g.high + (t - r), rise := none }
    | none => g

/-- Whether an edge is one that a CNT_CFG word counts (R106). -/
def CntIn.counts (e : CntIn) (cfg : Word) : Bool := e.lv == (F.CNT_CFG_CNT_POL.of cfg == 0)

/-- The stamp of a fully stamped edge that the prescaler passed. -/
def CntIn.full (e : CntIn) : Option Nat :=
  match e.st with
  | some (t, true) => some t
  | _ => none

/-- Whether an edge is at or after the t_c of a reconfiguration that waits for its boundary edge, and counted by the new
configuration (R115). -/
def CntUnit.turns (c : CntUnit) (e : CntIn) : Bool :=
  match c.recfg, e.full with
  | some tc, some t => decide (tc ≤ t) && e.counts c.cfg
  | _, _ => false

/-- A fully stamped edge at `t`, received at `rx`, is the boundary edge of every request of lane `n` up to its stamp
(R110). -/
def Work.edgeBound (s : Work s₀) (n t rx : Nat) : Work s₀ :=
  let (due, later) := (s.cnt n).reqs.partition fun (r : Req) => decide (r.tb ≤ t)
  if due.isEmpty then s else (s.modCnt n fun c => { c with reqs := later }).boundary n due t t rx

/-- The boundary edge at `t`, received at `rx` in the coarse period that begins at `per`, of a changeover between an
edge-bounded and a time-bounded estimator; every request before `per` merges with it (R115). -/
def Work.changeOver (s : Work s₀) (n t rx per : Nat) : Work s₀ :=
  let c := s.cnt n
  let timed := timeBounded (estOf c.cfg)
  let (due, later) := c.reqs.partition fun (r : Req) =>
    if timed then decide (s.st.bound r ≤ max per (s.st.coarseUp (c.change.getD t))) else r.tb ≤ t || r.tb < per
  let s := s.modCnt n fun c => { c with reqs := later }
  let t1 := if timeBounded (estOf c.cfgOf) then per else t
  if timed then s.boundary n due t1 per else s.boundary n due t1 t rx

/-- The boundaries that a counted edge brings to lane `n`'s engine. -/
def Work.edgeGates (s : Work s₀) (n : Nat) (e : CntIn) : Work s₀ :=
  let per := e.rx - s.st.fine e.rx
  let c := s.cnt n
  let timed := timeBounded (estOf c.cfgOf)
  let s := s.when (timed && c.change.isNone) fun s => s.timeAll n per
  -- R107: the counted edge that follows COUNT_N counted edges of the open gate
  let full := match (s.cnt n).gate with
    | some g => F.CNT_CFG_CL_COUNT.of g.cfg == 1 && e.counts g.cfg && g.n == countOf g.count
    | none => false
  let s := s.when full fun s =>
    if timed && c.change.isNone then (s.request n { tb := per }).timeClose n per
    else s.request n { tb := match e.st with | some (t, _) => t | none => e.rx - (s.st.delay n .a).toNat / 1024 }
  match e.full with
  | none => s
  | some t =>
    let c := s.cnt n
    match c.change with
    | some _ => if c.turns e then s.changeOver n t e.rx per else if timed then s else s.edgeBound n t e.rx
    | none => if timed || (c.recfg.any (· ≤ t) && !c.turns e) then s else s.edgeBound n t e.rx

/-- An edge of lane `n` reaches its counting engine (R106 to R112, R115). -/
def Work.cntEdge (s : Work s₀) (n : Nat) (e : CntIn) : Work s₀ :=
  let duty := fun (s : Work s₀) => match e.st with
    | some (t, _) => s.modCnt n fun c => { c with gate := c.gate.map (·.duty e.lv t) }
    | none => s
  let s := if e.lv then s else duty s
  let c := s.cnt n
  let s := if !(e.counts c.cfgOf || c.turns e) then s
    else
      let i := s.get F.CNT_IDX_EDGE_IDX n
      let live := c.on && !s.on F.CNT_STAT_CFG_ERR n
      let s := s.when live fun s => s.edgeGates n e
      let s := match (s.cnt n).gate with
        | none => s
        | some g =>
          if !live || !e.counts g.cfg then s
          else
            let g' := g.take i (Option.map Prod.fst e.st) e.rel
            let s := s.modCnt n fun c => { c with gate := some g' }
            if g'.limit && !g.limit then (s.limitHit n).showGate n else s
      s.wrap F.CNT_IDX_EDGE_IDX n
  if e.lv then duty s else s

/-! ## Edges held for a stake (R149) -/

/-- The edges that lane `n`'s engine holds are counted, in order, up to the first that a gate action still precedes. -/
def Work.cntRelease (s : Work s₀) (n : Nat) : Nat → Work s₀
  | 0 => s
  | fuel + 1 =>
    match (s.cnt n).wait with
    | [] => s
    | e :: rest =>
      if s.st.gateDue n e.rx then s
      else ((s.modCnt n fun c => { c with wait := rest }).cntEdge n e).cntRelease n fuel

/-- The edges that lane `n`'s engine no longer needs to hold are counted. -/
def Work.cntGo (s : Work s₀) (n : Nat) : Work s₀ := s.cntRelease n (s.cnt n).wait.length

/-- An edge of lane `n` comes to its counting engine, which holds it while a gate action before it has not acted. -/
def Work.cntIn (s : Work s₀) (n : Nat) (e : CntIn) : Work s₀ :=
  (s.modCnt n fun c => { c with wait := c.wait ++ [e] }).cntGo n

/-- TIME_BOUNDED_CLOSE (R111): at the next boundary of lane `n`, which every request up to it has reached, a
time-bounded gate closes and its MEAS record is written. -/
def execTimeBoundedClose (n : Nat) (s : State) : Host.Outcome State Fault Refusal :=
  let s := Work.start s
  let c := s.cnt n
  .next <| (match c.reqs with
    | r :: rs =>
      if timeBounded (estOf c.cfgOf) && c.change.isNone then
        let b := rs.foldl (fun m (x : Req) => min m (s.st.bound x)) (s.st.bound r)
        if s.st.gateDue n b || !c.wait.isEmpty then s else (s.at b).timeClose n b
      else s
    | [] => s).st

/-! ## Configuration -/

/-- Whether lane `n`'s engine lacks the stamps its estimator needs (R113). The model takes
a pick-off mode to stamp whatever EDGE_SEL holds, which is then not looked at but for DUTY (log entry 15). -/
def State.cntCfgBad (s : State) (n : Nat) (cfg : Word) : Bool :=
  let cap := (s.capAt n).cfg
  let sel := F.CAP_LANECFG_EDGE_SEL.of cap
  let est := estOf cfg
  if timeBounded est then false
  else if est = 4 then sel != 3 || F.CAP_LANECFG_PRESCALE.of cap != 0
  else if F.CAP_LANECFG_PICK.of cap != 0 then false
  else if F.CNT_CFG_CNT_POL.of cfg = 0 then sel == 2
  else sel == 0 || sel == 1

/-- Lane `n`'s engine starts at `t` as newly enabled (R109). The request that opens gate 0 comes at `t`, or for
CONTINUOUS with its grid. -/
def Work.cntStart (s : Work s₀) (n t : Nat) : Work s₀ :=
  let c := s.cnt n
  let est := estOf c.cfg
  let l := lenOf c.len
  let first : List Req := if est = 5 then [] else [{ tb := t }]
  let s := s.modCnt n fun c => { c with
    on := true, tc := t, gate := none, change := none, recfg := none, openAt := none, stat := {},
    opens := if est = 5 then gridUp l t else t,
    nextFix := if est = 5 then gridUp l t else t + l,
    reqs := first }
  let s := ((s.put F.CNT_STAT_GATE_IDX n 0).ratioCheck n).ratioRequest n true first
  if timeBounded est then s.timeClose n t else s.showGate n

/-- The engine's stamping condition is evaluated again at `t` (R113): it can set CFG_ERR only while the engine is
enabled. -/
def Work.cntCheck (s : Work s₀) (n t : Nat) : Work s₀ :=
  let c := s.cnt n
  let bad := s.st.cntCfgBad n c.cfg
  let was := s.on F.CNT_STAT_CFG_ERR n
  if !c.on then (if bad then s else s.put F.CNT_STAT_CFG_ERR n 0)
  else
    let s := s.put F.CNT_STAT_CFG_ERR n (b2n bad)
    if bad && !was then s.dropGate n else if !bad && was then s.cntStart n t else s

/-- Lane `n`'s engine goes from EN = 0 to 1 at `t`: it starts unless its condition holds it back (R109, R113). -/
def Work.cntEnable (s : Work s₀) (n t : Nat) : Work s₀ :=
  ((s.modCnt n fun c => { c with on := true }).put F.CNT_STAT_CFG_ERR n 1).cntCheck n t

/-- Lane `n`'s engine takes the words written to its registers. -/
def Work.cntLoad (s : Work s₀) (n : Nat) : Work s₀ :=
  s.modCnt n fun c => { c with cfg := s.reg .CNT_CFG n, len := s.reg .CNT_LEN n, count := s.reg .CNT_COUNT n, pendAt := none }

/-- A running engine takes its new configuration at `t`, which is a boundary request of its open gate (R115). Before
gate 0 can open there is none, and the engine starts with the new configuration. -/
def Work.cntTurn (s : Work s₀) (n t : Nat) : Work s₀ :=
  let old := s.cnt n
  if old.gate.isNone && t < old.opens then (s.cntLoad n).cntStart n t else
  let s := s.when (timeBounded (estOf old.cfgOf) && old.change.isNone) fun s => s.timeAll n (t - 1)
  let s := s.cntLoad n
  let cfg := (s.cnt n).cfg
  let l := lenOf (s.cnt n).len
  let tb0 := timeBounded (estOf old.cfgOf)
  let tb1 := timeBounded (estOf cfg)
  let grid := estOf cfg = 5 && gridUp l t != t
  let s := s.modCnt n fun c => { c with
    was := if c.recfg.isSome then c.was else (old.cfg, old.count), tc := t, recfg := some t,
    change := if tb0 != tb1 then some t else none,
    nextFix := if grid then gridUp l t else t + l,
    openAt := if grid then some (gridUp l t) else none }
  let s := s.request n { tb := t, idle := if grid then some true else none }
  if tb0 && tb1 then s.timeClose n t else s

/-- CNT_CONFIG_APPLY (R109, R115): written CNT_CFG, CNT_LEN and CNT_COUNT of lane `n` take effect at their boundary,
after the gate actions and the edges before it (R149). -/
def execCntConfigApply (n : Nat) (s : State) : Host.Outcome State Fault Refusal :=
  let s := Work.start s
  .next <| (match (s.cnt n).pendAt with
    | none => s
    | some t =>
      if s.st.gateDue n t then s
      else
        let s := (s.at t).cntGo n
        let c := s.cnt n
        let en := F.CNT_CFG_EN.of (s.reg .CNT_CFG n) = 1 && s.st.domOn (pdEngines (wardOf n))
        if !en then
          let s := s.when c.on fun s => (s.statClose n t (s.st.stamp t)).pairDue n t (s.st.stamp t) 0 1
          (((s.cntLoad n).modCnt n fun c => { c with on := false, stat := {} }).dropGate n).cntCheck n t
        else if !c.on then (s.cntLoad n).cntEnable n t
        else if s.on F.CNT_STAT_CFG_ERR n then (s.cntLoad n).cntCheck n t
        else (s.cntTurn n t).cntCheck n t).st

end Sys2Proof.Machine
end

