-- ==== Sys2Proof/Machine/Pairing.lean ====
section
/-!
DEFINITION. Pairing units (chapter 05): INTERVAL, PHASE and RATIO results, PAIR records, the units' configuration and
the bundles of the cross-ward units (R440). Units 0 to 127 are WPw.u, units 128 to 191 are XPx.
-/

namespace Sys2Proof.Machine

variable {s₀ : State}

/-- The producer ID under which a cross-ward unit writes (R18). -/
def xpProducer (p : Nat) : Nat := 0x100 + (p - 128)

/-- The queues to which the fast path maps a record of class bit `cls` (0 EDGE, 1 MEAS, 2 PAIR, 3 STAT; none: EVENT,
AXIS, PAD, USER, FILT) of lane `n` (R162). -/
def State.mapped (s : State) (n : Nat) (cls : Option Nat) (anyEn : Bool := false) : List Nat :=
  let v := s.reg .WEA_LMAP n
  if F.WEA_LMAP_EN.of v = 0 && !anyEn then []
  else
    let a := match cls with | some k => bit (F.WEA_LMAP_AMASK.of v) k | none => true
    let b := F.WEA_LMAP_QB_EN.of v = 1 && (match cls with | some k => bit (F.WEA_LMAP_BMASK.of v) k | none => true)
    let qa := F.WEA_LMAP_QA.of v
    let qb := F.WEA_LMAP_QB.of v
    (if a then [qa] else []) ++ (if b && !(a && qa = qb) then [qb] else [])

/-- FP_BMAX in force in block `b` (R163). -/
def State.fpMax (s : State) (b : Nat) : Nat := max 3 (s.get F.WEA_FPCFG_FP_BMAX b)

/-- The fast path's and the cross-ward units' way to append a record to a bundle of at most `bmax` words (R163). -/
def Work.fpAppend (s : Work s₀) (prod q bmax progress : Nat) (r : Rec) : Work s₀ :=
  let n := r.ws.length
  let s := match s.st.openOf prod q with
    | some b => if b.len + n > bmax then s.closeThis b progress else s
    | none => s
  let s := if (s.st.openOf prod q).isNone then s.openNew prod q progress else s
  let s := s.append prod q r
  if 3 + n > bmax then s.close prod q progress else s

/-- Whether a record of `n` words needs a new bundle of a producer in a queue that holds at most `bmax` words. -/
def State.needsNew (s : State) (prod q bmax n : Nat) : Bool :=
  match s.openOf prod q with
  | some b => decide (b.len + n > bmax)
  | none => true

/-- The credits that a bundle of `n` words costs as a BUNDLE frame (R336): its LEN is `n` + 1. -/
def bundleCost (n : Nat) : Nat := (n + 3 + 63) / 64

/-- A partner's bundle, held as one record of all its words with the horizon as its time, enters an assembly buffer,
and its frame's credits are freed. The partner's progress follows the horizon as raised to that of its previous bundle
in the queue (R336, R341, R342). -/
def Work.ptPlace (s : Work s₀) (prod q : Nat) (r : Rec) : Work s₀ :=
  let l := s.st.linkOf (prod - 0x160)
  let h := if s.st.active q then max r.t ((s.st.prevHor prod q).getD 0) else r.t
  let s := (s.openNew prod q (s.st.progress prod)).append prod q r
  let s := s.close prod q r.t
  let s := s.modLnk l fun x => { x with freeB := x.freeB + bundleCost (r.ws.length + 3), hor := h }
  s.setProg prod (max h (s.lnk l).keepP)

/-- The time of a pipeline bundle's last record, its horizon (R207). -/
def Bundle.lastT (b : Bundle) : Nat := (b.recs.getLast?.map (·.t)).getD b.openH

/-- A record goes into a pipeline's bundle in a queue (R207); one marked CLOSE, the last of a ladder report, closes it.
-/
def Work.fltAppend (s : Work s₀) (prod q bmax : Nat) (r : Rec) : Work s₀ :=
  let s := if (s.st.openOf prod q).isNone then s.openNew prod q (s.st.progress prod) else s
  let s := s.append prod q { r with close := false }
  if r.close || bmax < 3 + r.ws.length then s.close prod q r.t else s

/-- Producers whose records wait for a buffer one by one: plaza weavers with their HIST copies (R188), pipelines,
histogram engines, cross-ward units and partners. -/
def Work.placeRec (s : Work s₀) (prod q bmax : Nat) (r : Rec) : Work s₀ :=
  if 0x160 ≤ prod then s.ptPlace prod q r
  else if prod < 0x80 then s.ownBundle prod q r.t [r]
  else if prod < 0x100 then s.fltAppend prod q bmax r
  else s.fpAppend prod q bmax (s.st.progress prod) r

/-- Whether a record of such a producer needs an assembly buffer of its own. -/
def State.takesBuf (s : State) (prod q bmax : Nat) (r : Rec) : Bool :=
  0x160 ≤ prod || prod < 0x80 || s.needsNew prod q bmax r.ws.length

/-- A record of such a producer goes into a bundle; while no buffer is free it waits, and those after it (R257). -/
def Work.xpAppend (s : Work s₀) (prod q bmax : Nat) (r : Rec) : Work s₀ :=
  let s := s.cutAt prod r.t
  let s := if 0x80 ≤ prod && prod < 0x100 && s.st.needsNew prod q bmax r.ws.length then
      s.close prod q (((s.st.openOf prod q).map (·.lastT)).getD 0)
    else s
  if s.st.back.any (·.1 == prod) then s.setBack (s.st.back ++ [(prod, q, bmax, r)])
  else if s.st.takesBuf prod q bmax r && !s.st.canOpen prod q then
    (s.forceClose prod).setBack (s.st.back ++ [(prod, q, bmax, r)])
  else s.placeRec prod q bmax r

/-- The waiting records of a producer that has been granted a buffer. -/
def Work.backFlush (s : Work s₀) (prod : Nat) : Work s₀ :=
  let mine := s.st.back.filter (·.1 == prod)
  let s := s.setBack (s.st.back.filter (·.1 != prod))
  s.each mine fun s (p, q, m, r) => s.xpAppend p q m r

/-- A record of pairing unit `p` with lane `n` as LANE_A: a ward unit's goes to the lane's buffer, a cross-ward unit's
into its own bundles (R440). -/
def Work.pairEmit (s : Work s₀) (p n cls : Nat) (r : Rec) : Work s₀ :=
  if isXp p then
    s.each (s.st.mapped n (some cls)) fun s q => s.xpAppend (xpProducer p) q (s.st.fpMax (n / 16)) r
  else s.pushBuf n r

/-- The statistics ID of a pairing unit with its source bit (Table CNT-7). -/
def pairStatId (p : Nat) : Nat := 512 + (if isXp p then 256 + (p - 128) else p)

/-- The first boundary that waits is passed in unit `p`'s statistics (R127). -/
def Work.pairStatPass (s : Work s₀) (p : Nat) : Work s₀ :=
  let x := s.pair p
  match x.stat.due with
  | [] => s
  | (b, z, j, how) :: rest =>
    let n := F.PAIR_CFG_LANE_A.of x.cfg
    let cfg := (s.reg .PAIR_STATCFG p).toNat
    let (rs, a) :=
      if !x.stat.on then ([], x.stat)
      else if x.stat.wait || how = 2 then ([], statOpen true cfg j z)
      else if how = 1 then ([statRec (pairStatId p) n x.stat x.stat.start b], statOpen true cfg j z)
      else x.stat.pass (pairStatId p) n cfg j b z
    let s := s.modPair p fun x => { x with stat := { a with due := rest } }
    s.each rs fun s r => s.pairEmit p n 3 r

/-- Whether a result timed before `b` can still be formed: an event, start, cycle or RATIO gate of before `b` is in
hand, or such an event can still come (R127). -/
def State.pairHolds (s : State) (p b : Nat) : Bool :=
  let x := s.pairAt p
  let old := fun (t : Nat) => decide (t < b)
  x.armed.any (old ·.t) || x.q.any (old ·.t) || x.sideA.done.any (old ·.t0) || x.sideA.gate.any (old ·.t0) ||
    (F.PAIR_CFG_EN.of x.cfg == 1 && s.t64 ≤ b + s.pairLag p)

/-- The boundaries that wait in unit `p`'s statistics are passed, up to the first before which a result can still be
formed. -/
def Work.pairStatTry (s : Work s₀) (p : Nat) : Nat → Work s₀
  | 0 => s
  | fuel + 1 =>
    match (s.pair p).stat.due with
    | [] => s
    | (b, _) :: _ => if s.st.pairHolds p b then s else (s.pairStatPass p).pairStatTry p fuel

/-- The boundaries up to time `t` are passed in unit `p`'s statistics: a result timed `t` is being formed. -/
def Work.pairStatUpTo (s : Work s₀) (p t : Nat) : Nat → Work s₀
  | 0 => s
  | fuel + 1 =>
    match (s.pair p).stat.due with
    | [] => s
    | (b, _) :: _ => if t < b then s else (s.pairStatPass p).pairStatUpTo p t fuel

/-- A result of unit `p` with word 0's time `t`, the stamp of an edge received at `rx`: its PAIR record, sequence
number, event and sample (R126). -/
def Work.pairResult (s : Work s₀) (p t rx : Nat) (uncal rel : Bool) (res : Nat) (sres : Int) (aux : Nat) : Work s₀ :=
  let s := s.pairStatUpTo p t (s.pair p).stat.due.length
  let x := s.pair p
  let c := x.cfg
  let n := F.PAIR_CFG_LANE_A.of c
  let kind := F.PAIR_CFG_KIND.of c % 3
  let q := if uncal then 3 else if x.drop || x.disc then 2 else if rel then 1 else 0
  let seq := s.get F.PAIR_STAT_SEQ p
  let unit := if isXp p then p - 128 else p
  let w0 := 0x4 * 2 ^ 60 + kind * 2 ^ 58 + unit * 2 ^ 51 + b2n (isXp p) * 2 ^ 50 + q * 2 ^ 48 + t47 (s.st.stampAt rx t)
  let w1 := n * 2 ^ 55 + F.PAIR_CFG_LANE_B.of c * 2 ^ 46 + F.PAIR_CFG_SRC_A.of c * 2 ^ 45
    + F.PAIR_CFG_SRC_B.of c * 2 ^ 44 + seq
  let r : Rec := { t := t, ws := [w64 w0, w64 w1, w64 res, w64 aux], lane := some n }
  let s := s.wrap F.PAIR_STAT_SEQ p
  let s := s.flag F.PAIR_EVT_RESULT p
  let s := s.modPair p fun x => { x with drop := false, disc := false,
                                         stat := if x.stat.on && !x.stat.wait && q != 3 then x.stat.add sres q else x.stat }
  s.when (F.PAIR_CFG_REC_EN.of c = 1) fun s => s.pairEmit p n 2 r

/-- A start or cycle of unit `p` ends without a stop (R122, R123). -/
def Work.noStop (s : Work s₀) (p : Nat) : Work s₀ :=
  (s.count F.PAIR_CNT_NOSTOP_CNT p).flag F.PAIR_EVT_NOSTOP p

/-- The longest interval of unit `p` (Table CNT-13). -/
def iwinOf (w : Word) : Nat :=
  let i := F.PAIR_WIN_IWIN.of w
  if i = 0 then 2 ^ 40 else i

/-- Arm unit `p`, or disarm it, and show it; nothing lies between the events in hand yet. -/
def Work.arm (s : Work s₀) (p : Nat) (e : Option PEvt) : Work s₀ :=
  let s := s.modPair p fun x => { x with armed := e, firstB := none, disc := false }
  s.put F.PAIR_STAT_ARMED p (b2n (e.isSome && F.PAIR_CFG_KIND.of (s.pair p).cfg % 3 == 0))

/-- An A event of an INTERVAL or PHASE unit (R122, R123). -/
def Work.pairA (s : Work s₀) (p : Nat) (e : PEvt) : Work s₀ :=
  let x := s.pair p
  if F.PAIR_CFG_KIND.of x.cfg = 1 then
    let s := match x.armed, x.firstB with
      | some a, some b =>
        let phi := (rnd ((2 ^ 32 * (b.t - a.t) : Nat) : Int) (e.t - a.t)).toNat % 2 ^ 32
        s.pairResult p a.t a.rx (a.uncal || b.uncal || e.uncal) (a.rel || b.rel || e.rel) phi phi (e.t - a.t)
      | some _, none => s.noStop p
      | none, _ => s
    s.arm p (some e)
  else (s.when x.armed.isSome fun s => s.noStop p).arm p (some e)

/-- A B event of an INTERVAL or PHASE unit (R122, R123). -/
def Work.pairB (s : Work s₀) (p : Nat) (e : PEvt) : Work s₀ :=
  let x := s.pair p
  match x.armed with
  | none => s
  | some a =>
    if e.t < a.t then s
    else if F.PAIR_CFG_KIND.of x.cfg = 1 then
      if x.firstB.isSome then s else s.modPair p fun x => { x with firstB := some e }
    else if e.t ≤ a.t + iwinOf x.win then
      let v := ((e.t - a.t) * 65536 : Nat) - sval 64 x.ofs.toNat
      let v := clampI (-(2 ^ 63 - 1)) (2 ^ 63 - 1) v
      (s.pairResult p a.t a.rx (a.uncal || e.uncal) (a.rel || e.rel) (sfield 64 v) v 0).arm p none
    else (s.noStop p).arm p none

/-- One edge of one side of a RATIO unit (R124): `ev` its full stamp where it has one. The boundary event belongs to
both the gate it ends and the one it opens. -/
def RSide.edge (a : RSide) (ev : Option PEvt) : RSide :=
  match ev with
  | some e =>
    let due := a.reqs.filter fun (r : Req) => r.tb ≤ e.t
    if due.isEmpty then
      { a with gate := a.gate.map fun g => { g with n := g.n + 1, uncal := g.uncal || e.uncal, rel := g.rel || e.rel } }
    else
      let rest := a.reqs.filter fun (r : Req) => !(r.tb ≤ e.t)
      -- each side counts the same requests, so that its gates keep the numbers of the engine's (R124)
      let fresh : RGate := { idx := reqCount due - 1, t0 := e.t, uncal := e.uncal, rel := e.rel, rx0 := e.rx }
      match a.gate with
      | some g =>
        let shut := { g with len := e.t - g.t0, uncal := g.uncal || e.uncal, rel := g.rel || e.rel }
        { a with gate := some { fresh with idx := g.idx + reqCount due }, reqs := rest, done := a.done ++ [shut] }
      | none => { a with gate := some fresh, reqs := rest }
  | none => { a with gate := a.gate.map fun g => { g with n := g.n + 1 } }

/-- The results of a RATIO unit whose two sides have closed the same gate; a gate that only one side closed yields
none. -/
def Work.ratioResults (s : Work s₀) (p : Nat) : Nat → Work s₀
  | 0 => s
  | fuel + 1 =>
    let x := s.pair p
    match x.sideA.done, x.sideB.done with
    | a :: as, b :: bs =>
      let s := s.when (a.idx ≤ b.idx) fun s => s.modPair p fun x => { x with sideA := { x.sideA with done := as } }
      let s := s.when (b.idx ≤ a.idx) fun s => s.modPair p fun x => { x with sideB := { x.sideB with done := bs } }
      let s := s.when (a.idx = b.idx) fun s =>
        let r := min (rnd ((2 ^ 40 * b.n * a.len : Nat) : Int) (a.n * b.len)).toNat (2 ^ 64 - 1)
        let s := s.modPair p fun x => { x with disc := a.disc || b.disc }
        s.pairResult p a.t0 a.rx0 (a.uncal || b.uncal) (a.rel || b.rel) r (sval 64 r) a.len
      s.ratioResults p fuel
    | _, _ => s

/-- Whether an edge of ward `w` for unit `p` at `t` is beyond a limit (R14): 200 Medge/s of the pair or 1.6 Gedge/s of
the ward, each over 2^23 ticks (log entry 8). -/
def State.crossDrop (s : State) (p w t : Nat) : Bool :=
  let late := fun (_, u) => decide (t < u + 2 ^ 23)
  1024 ≤ ((s.pairAt p).edges.filter late).length ||
    8192 ≤ (s.pair.map fun (_, x) => ((x.edges.filter fun e => e.1 == w && late e)).length).foldl (· + ·) 0

/-- What ward `w` sends for cross-ward unit `p` at `t`, an edge or the summary of a RATIO gate, goes over its link. -/
def Work.crossSend (s : Work s₀) (p w t : Nat) : Work s₀ :=
  s.modPair p fun x => { x with edges := ((w, t) :: x.edges).take 1024 }

/-- It is dropped and counted, and the unit's next result carries quality 10 (R126). -/
def Work.crossLose (s : Work s₀) (p : Nat) : Work s₀ :=
  let s := (s.count F.PAIR_CNT_DROP_CNT p).flag F.PAIR_EVT_DROP p
  s.modPair p fun x => { x with drop := true }

/-- An event of a side of RATIO unit `p` (R124): a gate that closes there is sent as a summary, which the limits may
drop (R125, R126). -/
def Work.ratioEdge (s : Work s₀) (p w rx : Nat) (isA : Bool) (e : Option PEvt) : Work s₀ :=
  let a := if isA then (s.pair p).sideA else (s.pair p).sideB
  let b := a.edge e
  let sent := isXp p && a.done.length < b.done.length
  let lost := sent && s.st.crossDrop p w rx
  let b := if lost then { b with done := a.done } else b
  let s := s.modPair p fun x => if isA then { x with sideA := b } else { x with sideB := b }
  let s := if lost then s.crossLose p else s.when sent fun s => s.crossSend p w rx
  s.ratioResults p ((s.pair p).sideA.done.length + (s.pair p).sideB.done.length)

/-! ## The order of events (R121) -/

/-- The PAIR_CFG word for an event stamped `t`: the one in force, or from its boundary on the one written (R439). -/
def State.pairCfgFor (s : State) (p t : Nat) : Word :=
  let x := s.pairAt p
  x.pend.foldl (fun c (e : PairCfg) => if e.at_ ≤ t then e.cfg else c) x.cfg

/-- Whether no edge of lane `n` stamped at or before `t` can still come. -/
def State.settled (s : State) (n t : Nat) : Bool := !s.lanePowered n || t + s.laneLag n < s.t64

/-- Whether an event at the head of unit `p`'s queue, with `rest` behind it, can be taken: none that comes before it is
still on its way. A RATIO unit's waits for the boundary requests up to it. -/
def State.pairReady (s : State) (p : Nat) (e : PIn) (rest : List PIn) : Bool :=
  let c := (s.pairAt p).cfg
  let la := F.PAIR_CFG_LANE_A.of c
  let lb := F.PAIR_CFG_LANE_B.of c
  let one := la == lb && F.PAIR_CFG_SRC_A.of c == F.PAIR_CFG_SRC_B.of c
  let comes := fun (a : Bool) => rest.any (fun x => !x.disc && x.a == a) || s.settled (if a then la else lb) e.t
  if F.PAIR_CFG_EN.of c = 0 then true
  else if e.disc then (comes true && comes false) || one
  else if F.PAIR_CFG_KIND.of c = 2 then
    !s.gateDue la e.rx && (s.cntAt la).wait.isEmpty && (F.CNT_CFG_CL_COUNT.of (s.cntAt la).cfg == 0 || s.settled la e.t)
  else one || comes (!e.a)

/-- An edge for unit `p`, in its order: of a RATIO unit, of a start or a stop, one that a link dropped, or the place of
a discontinuity (R121, R124, R126). -/
def Work.pairTake (s : Work s₀) (p : Nat) (e : PIn) : Work s₀ :=
  let s := s.pairCheck p
  let c := (s.pair p).cfg
  let ev : PEvt := ⟨e.t, e.uncal, e.rel, e.rx⟩
  if F.PAIR_CFG_EN.of c = 0 || s.on F.PAIR_STAT_CFG_ERR p then s
  else if e.disc then
    let mark := fun (a : RSide) => { a with gate := a.gate.map fun (g : RGate) => { g with disc := true } }
    s.modPair p fun x => { x with disc := x.disc || x.armed.isSome, sideA := mark x.sideA, sideB := mark x.sideB }
  else if F.PAIR_CFG_KIND.of c = 2 then
    s.ratioEdge p (wardOf (if e.a then F.PAIR_CFG_LANE_A.of c else F.PAIR_CFG_LANE_B.of c)) e.rx e.a
      (if e.stamped && e.full then some ev else none)
  else if e.lost then (s.crossLose p).arm p none
  else if e.a then s.pairA p ev
  else s.pairB p ev

/-- The events of unit `p` that can be taken are taken in order, those before `till` whatever may still come; the ones
from the boundary of a written configuration on wait for it. -/
def Work.pairRun (s : Work s₀) (p till : Nat) : Nat → Work s₀
  | 0 => s
  | fuel + 1 =>
    let x := s.pair p
    match x.q with
    | [] => s
    | e :: rest =>
      if x.pend.any (·.at_ ≤ e.t) || !(e.t < till || s.st.pairReady p e rest) then s
      else ((s.modPair p fun x => { x with q := rest }).pairTake p e).pairRun p till fuel

/-- Unit `p` takes the events that it can, and passes the boundaries of its statistics that it can. -/
def Work.pairDrain (s : Work s₀) (p : Nat) (till : Nat := 0) : Work s₀ :=
  let s := s.pairRun p till (s.pair p).q.length
  s.pairStatTry p (s.pair p).stat.due.length

/-- An edge of lane `n` from input `src` (0 IN, 1 CMP) and of polarity `pol` (0 rising), with `e` its stamp and marks,
is sent to unit `p` where it is one of its events (R121, R124): over the ward links for a cross-ward unit, which may
drop it (R14, R126). -/
def Work.pairEdge (s : Work s₀) (p n src pol : Nat) (e : PIn) : Work s₀ :=
  let c := s.st.pairCfgFor p e.t
  let isA := F.PAIR_CFG_LANE_A.of c = n && F.PAIR_CFG_SRC_A.of c = src && F.PAIR_CFG_POL_A.of c = pol
  let isB := F.PAIR_CFG_LANE_B.of c = n && F.PAIR_CFG_SRC_B.of c = src && F.PAIR_CFG_POL_B.of c = pol
  if F.PAIR_CFG_EN.of c = 0 || !(isA || isB) || s.st.pairBad p c || e.t < (s.pair p).since then s
  else if F.PAIR_CFG_KIND.of c = 2 then
    s.modPair p fun x => { x with q := pinInsert { e with a := isA } x.q }
  else if !e.stamped then s
  else
    let lost := isXp p && s.st.crossDrop p (wardOf n) e.rx
    let s := s.when (isXp p && !lost) fun s => s.crossSend p (wardOf n) e.rx
    s.modPair p fun x => { x with q := pinInsert { e with a := isA, lost := lost } x.q }

/-- The units that take lane `n` as A or B, in force or as written. -/
def State.pairsOf (s : State) (n : Nat) : List Nat :=
  let of := fun (c : Word) => F.PAIR_CFG_LANE_A.of c == n || F.PAIR_CFG_LANE_B.of c == n
  (s.pair.map (·.1)).filter fun p => of (s.pairAt p).cfg || (s.pairAt p).pend.any (of ·.cfg)

/-- An edge of lane `n` reaches every pairing unit that takes it (R121). -/
def Work.pairEdges (s : Work s₀) (n src pol : Nat) (e : PIn) : Work s₀ :=
  s.each (s.st.pairsOf n) fun s p => (s.pairEdge p n src pol e).pairDrain p

/-- Lane `n`'s engine and the pairing units that take the lane go on with the edges they held for a stake (R149). -/
def Work.laneGo (s : Work s₀) (n : Nat) : Work s₀ := (s.cntGo n).each (s.st.pairsOf n) fun s p => s.pairDrain p

/-- Every engine and pairing unit goes on with the edges it held for stakes, some of which have fallen away. -/
def Work.stakesGone (s : Work s₀) : Work s₀ :=
  s.each ((s.st.cnt.filter fun (_, c) => !c.wait.isEmpty).map (·.1)) fun s n => s.laneGo n

/-- IWIN_EXPIRY (R122): the armed start of unit `p` becomes older than IWIN. Once no B event within IWIN of it can
still come, it is discarded. -/
def execIwinExpiry (p : Nat) (s : State) : Host.Outcome State Fault Refusal :=
  let s := Work.start s
  .next <| (match (s.pair p).armed with
    | some a =>
      if F.PAIR_CFG_KIND.of (s.pair p).cfg % 3 = 0 then
        let last := a.t + iwinOf (s.pair p).win
        let s := (s.at (last + s.st.pairLag p + 1)).pairDrain p
        s.when ((s.pair p).armed == some a && (s.pair p).q.all (last < ·.t)) fun s => (s.noStop p).arm p none
      else s
    | none => s).st

/-- The mask of the PAIR_CFG fields whose change restarts a unit (R439): KIND, sources, polarities and lanes. -/
def pairRestartMask : Word := 0x1FF01FF007E

/-- Unit `p` goes over to words written to its registers (R439, R127). -/
def Work.pairTurn (s : Work s₀) (p : Nat) (e : PairCfg) : Work s₀ :=
  let x := s.pair p
  let t := e.at_
  let c := e.cfg
  let en0 := F.PAIR_CFG_EN.of x.cfg = 1
  let en1 := F.PAIR_CFG_EN.of c = 1
  let restart := en1 && (!en0 || (x.cfg &&& pairRestartMask) != (c &&& pairRestartMask))
  let stat := F.PAIR_CFG_STAT_EN.of c = 1
  let n := F.PAIR_CFG_LANE_A.of x.cfg
  let m := F.PAIR_CFG_LANE_A.of c
  let s := s.when (restart && x.stat.on && !x.stat.wait && en0) fun s =>
    let s := s.pairStatUpTo p t x.stat.due.length
    s.pairEmit p n 3 (statRec (pairStatId p) n (s.pair p).stat (s.pair p).stat.start t)
  let s := s.modPair p fun x => { x with
    cfg := c, win := e.win, ofs := e.ofs, pend := x.pend.drop 1, since := t }
  let s := s.when (restart || !en1) fun s =>
    -- R439: a RATIO unit starts from the next boundary of LANE_A's engine, one at t_c included
    let side : RSide := { reqs := e.next }
    -- the boundaries passed since t_c are still to come in the statistics
    let due := if m = n then (s.pair p).stat.due else []
    let j := match due, (s.cnt m).gate with
      | (_, _, j, _) :: _, _ => j - 1
      | [], some g => g.idx
      | [], none => 0
    let begin : Stat :=
      if en1 && stat then { statOpen true (s.reg .PAIR_STATCFG p).toNat j (s.st.stamp t) with due := due } else {}
    (s.modPair p fun x => { x with sideA := side, sideB := side, stat := begin }).arm p none
  let s := s.when (en1 && !en0) fun s => (s.put F.PAIR_STAT_SEQ p 0).modPair p fun x => { x with drop := false }
  -- STAT_EN alone begins with the next gate of LANE_A's engine
  let s := s.when (en1 && stat && !(s.pair p).stat.on) fun s =>
    s.modPair p fun x => { x with stat := { x.stat with on := true, wait := true } }
  let s := s.when (!stat) fun s => s.modPair p fun x => { x with stat := {} }
  (s.pairCheck p).pairDrain p

/-- The written words of unit `p` take effect: first the events stamped before their boundary, which must all have
come. -/
def Work.pairApply (s : Work s₀) (p : Nat) : Work s₀ :=
  match (s.pair p).pend with
  | [] => s
  | e :: _ =>
    let s := s.at (if F.PAIR_CFG_EN.of (s.pair p).cfg = 1 then e.at_ + s.st.pairLag p else e.at_)
    (s.pairDrain p e.at_).pairTurn p e

/-- PAIR_CONFIG_APPLY (R439, R127): written PAIR_CFG, PAIR_WIN and PAIR_OFS of unit `p` take effect at their boundary.
-/
def execPairConfigApply (p : Nat) (s : State) : Host.Outcome State Fault Refusal := .next ((Work.start s).pairApply p).st

/-- XP_BUNDLE_CLOSE (R440): a cross-ward unit closes its open bundle in queue `q` once its progress has advanced past
the flush limit. -/
def execXpBundleClose (t x q : Nat) (s : State) : Host.Outcome State Fault Refusal :=
  let p := 128 + x
  let s := ((Work.start s).at t).pairDrain p
  let n := F.PAIR_CFG_LANE_A.of (s.pair p).cfg
  let e := s.get F.WEA_FPCFG_FP_FLUSH_EXP (n / 16)
  let lim := if e = 0 then 2 ^ 30 else min (2 ^ 30) (2 ^ max 13 (min 47 e))
  let h := s.st.pairProgress p
  let s := s.cutAt (xpProducer p) h
  .next <| (match s.st.openOf (xpProducer p) q with
    | some b => if b.openH + lim < h then s.closeThis b h else s
    | none => s).st

end Sys2Proof.Machine
end

