-- ==== Sys2Proof/Machine/Capture.lean ====
section
/-!
DEFINITION. Time capture (chapter 03): the prescaler's factor, partner searches, pick-off and its records, and
the application of a capture configuration. The edges that use all this are in Edge.lean.
-/

namespace Sys2Proof.Machine

variable {s₀ : State}

/-! ## Records -/

/-- An EDGE record (Table CAP-3) of lane `n`: polarity, source, quality, time, and the time that it carries. -/
def edgeRec (n : Nat) (pol : Bool) (src q t : Nat) (c : Nat := t) : Rec :=
  { t := t, lane := some n,
    ws := [w64 (0x1 * 2 ^ 60 + n * 2 ^ 51 + b2n pol * 2 ^ 50 + src * 2 ^ 49 + q * 2 ^ 47 + t47 c)] }

/-! ## Pick-off -/

/-- The partner window in force, in ticks (R61). -/
def winOf (pick : Word) : Nat :=
  let w := F.CAP_PICK_PAIR_WIN.of pick
  if w = 0 then 2 ^ 19 else w

/-- Entry `k` of bank `bank` of lane `n`'s walk table: X and signed Y (R64). -/
def State.walk (s : State) (n bank k : Nat) : Nat × Int :=
  let v := s.reg .CAP_WALK (n * 128 + bank * 64 + k)
  (F.CAP_WALK_X.of v, sval 32 (F.CAP_WALK_Y.of v))

/-- The used points of a walk table: up to the first X that does not rise (R64). -/
def walkUsed : List (Nat × Int) → List (Nat × Int)
  | [] => []
  | [p] => [p]
  | p :: q :: rest => if p.1 < q.1 then p :: walkUsed (q :: rest) else [p]

/-- The walk W at `d`, in 2^-8 tick, and whether the end value was used (R65). -/
def walkEval : List (Nat × Int) → Nat → Int × Bool
  | [], _ => (0, false)
  | [(x, y)], d => (y, decide (x < d))
  | (x0, y0) :: (x1, y1) :: rest, d =>
    if d ≤ x0 then (y0, decide (d < x0))
    else if d < x1 then (y0 + rndAway ((y1 - y0) * (d - x0 : Nat)) (x1 - x0), false)
    else walkEval ((x1, y1) :: rest) d

/-- What pick-off makes of an assertion at `tA` with its partner `d` ticks later: the time of the record, whether the
correction was in range, and TCLAMP (R63 to R68). -/
def State.pickTime (s : State) (n : Nat) (a : Search) (d : Nat) : Nat × Bool × Bool :=
  if a.pick = 1 then
    if !a.kOk || 2 ^ 18 * 2 ^ 17 < d * a.k then (a.tA, false, false)
    else ((rnd ((a.tA * 2 ^ 17 : Nat) - (d * a.k : Nat) : Int) (2 ^ 17)).toNat, true, false)
  else
    let tb := walkUsed ((List.range 64).map (s.walk n a.bank))
    if tb.length < 2 then (a.tA, false, false)
    else
      let (w, cl) := walkEval tb d
      if 2 ^ 18 * 256 < w.natAbs then (a.tA, false, cl)
      else ((rnd ((a.tA * 256 : Nat) - w) 256).toNat, true, cl)

/-- The EDGE_X record of an assertion of lane `n` (R69, R75), with its counts, goes to the output stage. -/
def Work.edgeX (s : Work s₀) (n : Nat) (a : Search) (t code delta : Nat) : Work s₀ :=
  let s := s.when (bit code 2) fun s => s.count F.CAP_CNT1_NOPART_CNT n
  let s := s.when (bit code 4 || bit code 5) fun s => s.count F.CAP_CNT2_CLAMP_CNT n
  s.hold n 1
    { t := t, lane := some n,
      ws := [w64 (0x2 * 2 ^ 60 + n * 2 ^ 51 + 2 ^ 50 + a.q * 2 ^ 47 + t47 (s.st.stampAt a.rx t)),
             w64 (code * 2 ^ 56 + min delta (2 ^ 24 - 1) * 2 ^ 32 + s.st.stampAt a.rx a.tA % 2 ^ 32)] }
    a.tA

/-- An assertion ends without a partner (R61, R67): NOPART, and neither RANGE nor CLAMP_CNT, though the walk bank or the
DT factor be invalid (log entry 35). -/
def Work.noPartner (s : Work s₀) (n : Nat) (a : Search) : Work s₀ :=
  s.edgeX n a a.tA (a.pick + 4) (2 ^ 24 - 1)

/-- The pairs of a walk learning that its stamps decide (R315): an assertion takes the first stamp of the reference lane
that lies within its window, and one without such a stamp is skipped. -/
def Learn.settle (l : Learn) : Learn :=
  l.wait.foldl (fun (l : Learn) (tA, d, w) =>
    match l.stamps.find? (tA ≤ · + w) with
    | none => { l with wait := l.wait ++ [(tA, d, w)] }
    | some r =>
      if r ≤ tA + w && l.pairs.length < l.need then { l with pairs := l.pairs ++ [(d, (tA : Int) - r - l.ofs)] } else l)
    { l with wait := [] }

/-- An assertion of lane `n` with its partner reaches a walk learning (R315). -/
def Work.learnPair (s : Work s₀) (n tA d w : Nat) : Work s₀ :=
  s.setLearn (s.st.learn.map fun l => if l.lane = n then { l with wait := l.wait ++ [(tA, d, w)] }.settle else l)

/-- A stamp of lane `n` reaches the walk learnings that refer to it. -/
def Work.learnStamp (s : Work s₀) (n t : Nat) : Work s₀ :=
  s.setLearn (s.st.learn.map fun l =>
    if l.ref = n then { l with stamps := (l.stamps.filter fun x => t ≤ x + 2 ^ 21) ++ [t] }.settle else l)

/-- A switching sequence of lane `n` ends the walk learnings that use it (R315). -/
def Work.learnEnd (s : Work s₀) (n : Nat) : Work s₀ :=
  s.setLearn (s.st.learn.map fun l => if l.lane = n || l.ref = n then { l with bad := true } else l)

/-- An assertion meets its partner, or in TOT its deassertion, at `tB` (R60, R67, R69). A coarse-only partner sets
COARSE, and neither RANGE nor CLAMP_CNT, though the walk bank or the DT factor be invalid (log entry 35). -/
def Work.partner (s : Work s₀) (n : Nat) (a : Search) (tB : Nat) (full : Bool) : Work s₀ :=
  let d := tB - a.tA
  let s := s.when (a.pick != 3) fun s => s.learnPair n a.tA d a.win
  if !full then s.edgeX n a a.tA (a.pick + 8) d
  else if a.pick = 3 then s.edgeX n a a.tA 3 d
  else
    let (t, ok, cl) := s.st.pickTime n a d
    s.edgeX n a t (a.pick + b2n cl * 16 + b2n (!ok) * 32) d

/-- A partner event of unit `u` at `tB` is taken by the first assertion of that unit that waits for such an event, by
`kind` of its pick-off mode (R59, R61, R72, R85); answers whether one did. -/
def Work.matchPartner (s : Work s₀) (n u tB : Nat) (full : Bool) (kind : Nat → Bool) : Work s₀ × Bool :=
  let fits := fun (a : Search) => a.unit == u && kind a.pick && a.tA ≤ tB && tB ≤ a.tA + a.win
  match (s.cap n).searches.find? fits with
  | none => (s, false)
  | some a =>
    let s := s.modCap n fun c => { c with searches := c.searches.erase a }
    (s.partner n a tB full, true)

/-- PARTNER_WINDOW_EXPIRY (R61, R67): the window of lane `n`'s first expiring assertion passes with no partner, once
every edge with a stamp within it has reached capture. -/
def execPartnerWindowExpiry (n : Nat) (s : State) : Host.Outcome State Fault Refusal :=
  let s := Work.start s
  .next <| (match (s.cap n).searches with
    | [] => s
    | a :: rest =>
      let a := rest.foldl (fun (m x : Search) => if x.tA + x.win < m.tA + m.win then x else m) a
      let s := s.at (a.tA + a.win + s.st.lag a.unit)
      let s := s.modCap n fun c => { c with searches := c.searches.erase a }
      s.noPartner n a).st

/-! ## Configuration -/

/-- A write to CAP_LANECFG, CAP_PICK or CAP_BASE of lane `n`: it takes effect at the first coarse boundary (R72). -/
def Work.wrCap (s : Work s₀) (n : Nat) (r : Reg) (v : Word) : Work s₀ :=
  let v := match r with
    | .CAP_LANECFG => v &&& 0xFFFF01FF
    | .CAP_PICK => v &&& 0xFFFFFFFF0007FFFF
    | _ => (s.reg .CAP_BASE n &&& 0x3FFF00000000) ||| (v &&& 0x3FFF)
  let s := s.wreg r n v
  let s := s.flag F.CAP_STAT_PEND n
  s.modCap n fun c => { c with pendAt := some (c.pendAt.getD (s.st.coarse s.now)), pendCfg := c.pendCfg || r == .CAP_LANECFG }

/-- The counting engine of lane `n` and the RATIO units that follow it check their conditions again at `t` (R113,
R124). -/
def Work.cntRecheck (s : Work s₀) (n t : Nat) : Work s₀ :=
  let s := s.cntCheck n t
  s.each (s.st.pair.map (·.1)) fun s p =>
    if F.PAIR_CFG_LANE_A.of (s.pair p).cfg = n then s.pairCheck p else s

/-- CAP_CONFIG_APPLY (R72): written CAP_LANECFG, CAP_PICK and CAP_BASE of lane `n` take effect at their boundary. An
edge lies before it where it was received before it (log entry 35). -/
def execCapConfigApply (n : Nat) (s : State) : Host.Outcome State Fault Refusal :=
  let s := Work.start s
  let c := s.cap n
  .next <| (match c.pendAt with
    | none => s
    | some t =>
      let s := s.at t
      let v := s.reg .CAP_LANECFG n
      let restart := F.CAP_LANECFG_PRESCALE.of v != F.CAP_LANECFG_PRESCALE.of c.cfg
      let s := s.modCap n fun c => { c with
        cfg := v, pick := s.reg .CAP_PICK n, base := s.get F.CAP_BASE_BASE n, pendAt := none, pendCfg := false,
        pres := if restart then 0 else c.pres }
      let s := s.when restart fun s => s.modBlk (n / 16) fun k =>
        if s.get F.CAL_BSTAT_POS (n / 16) = n % 16 then { k with ov := k.ov.map fun (o : Overlap) => { o with pres := 0 } }
        else k
      let s := s.put F.CAP_STAT_PEND n 0
      let s := s.put F.CAP_STAT_WALK_ACT n (F.CAP_LANECFG_WALK_BANK.of v)
      let s := s.when (c.pendCfg || restart) fun s => s.put F.CAP_STAT_P_EFF n (F.CAP_LANECFG_PRESCALE.of v + 1)
      let s := s.when (!s.on F.FRE_INCFG_BASE_TRK n) fun s => s.put F.CAP_BASE_BASE_EFF n (s.get F.CAP_BASE_BASE n)
      (s.dtUpdate n).cntRecheck n t).st

end Sys2Proof.Machine
end

