-- ==== Sys2Proof/Machine/Calibration.lean ====
section
/-!
DEFINITION. Relief lanes and background calibration (chapter 04): lane states, the block sequencer, overlaps up to the
matching of edges (which is in Edge.lean), offline measurements, gaps, the temperature model, the baseline, and the end
of a switching sequence (R42, R104). The vault is in Vault.lean.
-/

namespace Sys2Proof.Machine

variable {s₀ : State}

/-! ## States -/

/-- A bit of CAL_BEVT is set, and a CAL_BLOCK notice formed (Table OCI-5). -/
def Work.blkEvt (s : Work s₀) (b : Nat) (f : Fld) : Work s₀ :=
  let s := s.flag f b
  s.notice 2 0x21 (le 1 b ++ le 1 0 ++ le 1 (s.reg .CAL_BEVT b).toNat)

/-- NO_SPARE follows the relief lane's state (R91). -/
def Work.spareCheck (s : Work s₀) (b : Nat) : Work s₀ :=
  let st := s.st.calState (512 + b)
  let no := st = 0 || st = 3 || st = 4
  let was := s.on F.CAL_BSTAT_NO_SPARE b
  let s := s.put F.CAL_BSTAT_NO_SPARE b (b2n no)
  s.when (no && !was) fun s => s.blkEvt b F.CAL_BEVT_NO_SPARE

/-- A vault write of unit `u` is asked for, where none waits (R100). -/
def Work.askVault (s : Work s₀) (u : Nat) : Work s₀ :=
  s.when (!s.st.vaultQ.contains u) fun s => s.setVaultQ (s.st.vaultQ ++ [u])

/-- Unit `u` takes state `st` for cause `cause` (R90, R91, Table OCI-5). A change to or from RETIRED or FAILED asks for
a vault write (R100). A lane that becomes FAILED marks its gate (R114). -/
def Work.setState (s : Work s₀) (u st cause : Nat) : Work s₀ :=
  let old := s.st.calState u
  let b := blockOf u
  let s := s.put F.CAL_LSTAT_STATE u st
  let s := if old = st then s
    else
      let s := s.flag F.CAL_LEVT_STATE_CHG u
      s.notice 2 0x20 (le 2 u ++ le 1 old ++ le 1 st ++ le 1 cause ++ le 3 0 ++ le 4 (s.get F.CAL_LSTAT_TABLE_VER u))
  let s := s.when (old != st && (old = 3 || old = 4 || st = 3 || st = 4)) fun s => s.askVault u
  let s := s.when (st = 4 && old != 4) fun s =>
    (s.flag F.CAL_LEVT_FAILED u).blkEvt b (if u < 512 then F.CAL_BEVT_LANE_FAILED else F.CAL_BEVT_RELIEF_FAILED)
  let s := s.when (st = 3 && old != 3 && u < 512) fun s => s.blkEvt b F.CAL_BEVT_LANE_RETIRED
  let s := s.when (st = 4 && u < 512) fun s =>
    s.modCnt u fun c => { c with gate := c.gate.map fun g => { g with uncal := true } }
  s.spareCheck b

/-- A LANE_STATE EVENT of lane `n` timed at `t` (Table MON-2). -/
def Work.laneStateEv (s : Work s₀) (n t old new cause : Nat) : Work s₀ :=
  s.laneEv n 4 t (old + new * 8 + cause * 256)

/-- The block's temperature as its sensor last read it, in 1/256 °C. -/
def State.blockTemp (s : State) (b : Nat) : Int := sval 16 (s.get F.CAL_BSTAT_TEMP b)

/-- The distance of the block's temperature from unit `u`'s at its last activation. -/
def State.tempDiff (s : State) (u : Nat) : Int := s.blockTemp (blockOf u) - sval 16 (s.get F.CAL_LACT_M_ACT_TEMP u)

/-- Whether that distance exceeds ΔT (R79). -/
def State.tempFar (s : State) (u : Nat) : Bool :=
  let dt := max 5 (min 500 (s.get F.CAL_BCFG_DELTA_T (blockOf u)))
  dt * 256 < 100 * (s.tempDiff u).natAbs

/-- The quality figures of unit `u` show its own, or a RETIRED lane's those of its relief lane; PREC_FS with the growth
of the temperature model and the relief lane's share (R92, R103). -/
def Work.showPrec (s : Work s₀) (u : Nat) : Work s₀ :=
  let src := if u < 512 && s.st.calState u = 3 then 512 + blockOf u else u
  let p := (s.cal src).prec
  let p := if s.on F.CAL_LSTAT_MODELLED u then p + 40 * (s.st.tempDiff src).natAbs / 256 else p
  let p := if u < 512 && s.st.carried (blockOf u) = some u then isqrt (p * p + 160000) else p
  let s := (s.put F.CAL_LQUAL_DNL_RMS u (s.cal src).dnl).put F.CAL_LQUAL_INL_PEAK u (s.cal src).inl
  s.put F.CAL_LQUAL_PREC_FS u (min p (2 ^ 32 - 1))

/-- The temperature model no longer applies in block `b` (R92, R104). -/
def Work.modelOff (s : Work s₀) (b : Nat) : Work s₀ :=
  s.each ((unitsOf b).filter (s.on F.CAL_LSTAT_MODELLED)) fun s u =>
    ((s.put F.CAL_LSTAT_MODELLED u 0).modCal u fun c => { c with model := (0, 0, 0) }).showPrec u

/-- The relief lane of block `b` carries position `p` (31: none). -/
def Work.carry (s : Work s₀) (b p : Nat) : Work s₀ :=
  let s := match s.st.carried b with
    | some n => s.put F.FRE_STAT_CARRIED n 0
    | none => s
  let s := s.put F.CAL_LSTAT_CARRY_POS (512 + b) p
  s.when (p < 16) fun s => s.flag F.FRE_STAT_CARRIED (16 * b + p)

/-- The relief lane of block `b` takes lane `n`'s signal without an overlap, with the lane's retained skew (R73, R83).
-/
def Work.carryFor (s : Work s₀) (b n : Nat) : Work s₀ :=
  (s.carry b (n % 16)).modBlk b fun k => { k with skew := sval 32 (s.get F.CAL_LACT_M_SKEW n) }

/-! ## Figures -/

/-- The width of bin `c` of interpolator `i`, in 2^-10 tick, recovered from the centres (R48). -/
def widthsOf (hits : List Nat) (i : Nat) : List Nat := (hits.drop (512 * i)).take 512

/-- The sum of squares of a list. -/
def sumSq (xs : List Int) : Int := xs.foldl (fun a x => a + x * x) 0

/-- Bin centres of one interpolator from the summed hits of two runs of 2^20: a hit is 1/2048 tick (R48, R88). -/
def centres (h : List Nat) : List Nat :=
  (h.foldl (fun (a : List Nat × Nat) x => ((rnd ((2 * a.2 + x : Nat) : Int) 8).toNat :: a.1, a.2 + x)) ([], 0)).1.reverse

/-- DNL_RMS, INL_PEAK and PREC_FS from summed hits and each interpolator's jitter in 2^-10 tick (R103). -/
def figures (h : List Nat) (jit : List Nat) : Nat × Nat × Nat :=
  let w := h.take 2048
  let dnl := isqrt ((sumSq (w.map fun (x : Nat) => (x : Int) - 4096)).toNat * 64 / 2048) / 32
  let inl := fun (i : Nat) =>
    let f := (centres (widthsOf h i)).zipIdx.map fun ((x : Nat), c) => (x : Int) - 1024 * (c : Nat) - 512
    let m := rnd (f.foldl (· + ·) 0) 512
    f.foldl (fun a x => max a (x - m).natAbs) 0
  -- q_i = sum of (x / 4096)^3 / 6144 tick^2; scaled by 2^52: 2^16 * sum / 6144
  let q := fun (i : Nat) =>
    (widthsOf h i).foldl (fun a x => a + x * x * x) 0 * 65536 / 6144 + jit.getD i 0 ^ 2 * 2 ^ 32
  let var := max (max (q 0) (q 1)) (max (q 2) (q 3))
  let prec := isqrt (var * 2 ^ 40) * 6103515625 / 10 ^ 7 / 2 ^ 46
  (min dnl 65535, min (max (max (inl 0) (inl 1)) (max (inl 2) (inl 3))) 65535, prec)

/-! ## Activation -/

/-- The unit in hand of block `b`. -/
def State.unitInHand (s : State) (b : Nat) : Nat := unitAt b (s.get F.CAL_BSTAT_POS b)

/-- The reinstatement of the unit in hand of block `b`, with the unit's former state (R318). -/
def State.reinstNow (s : State) (b : Nat) : Option (Nat × Nat) :=
  (s.calBlkAt b).reinst.filter fun p => p.1 == s.unitInHand b

/-- New tables of unit `u` come into force at `t` (R87, R103, Tables CAL-5 to CAL-9): a request for a vault write
follows where R100 asks for one. -/
def Work.activate (s : Work s₀) (u t : Nat) (hits : List Nat) : Work s₀ :=
  let b := blockOf u
  let k := s.calBlk b
  match k.new with
  | none => s
  | some tab =>
    let old := s.cal u
    let (dnl, inl, prec) := figures hits k.jitter
    let s := s.modCal u fun c => { c with
      tab := tab, model := (0, 0, 0), prec := prec, dnl := dnl, inl := inl, skewOk := c.skewOk || k.laps }
    let s := s.wrap F.CAL_LSTAT_TABLE_VER u
    let s := s.put F.CAL_LSTAT_RESTORED_OLDER u 0
    let s := s.put F.CAL_LSTAT_DISAGREE u 0
    let s := s.put F.CAL_LSTAT_MODELLED u 0
    let s := s.count F.CAL_LCNT_CAL_COUNT u
    let s := s.wreg .CAL_LACT_T u (w64 t)
    let run := s.get F.AXI_POS_STATE 0
    let valid := run = 2 || run = 3
    let s := s.put F.CAL_LACT_A_AXIS_VALID u (b2n valid)
    let s := s.when valid fun s =>
      (s.put F.CAL_LACT_A_ACT_TURN u (s.get F.AXI_POS_TURN 0)).put F.CAL_LACT_A_ACT_SLOT u (s.get F.AXI_POS_SLOT 0)
    let s := s.put F.CAL_LACT_M_ACT_TEMP u (s.get F.CAL_BSTAT_TEMP b)
    let s := s.when k.laps fun s => s.put F.CAL_LACT_M_SKEW u (sfield 32 k.skew)
    let s := s.showPrec u
    let age := match old.lastWr with | some w => t - w | none => us 3600000000
    let change := ((List.range 3072).map fun i =>
      ((tab.bin (i / 512) (i % 512) : Int) - (old.stored.bin (i / 512) (i % 512))).natAbs).foldl max 0
    let ask := us 3600000000 ≤ age || (us 600000000 ≤ age && 336 ≤ change)
    let s := s.when ask fun s => s.askVault u
    -- a RETIRED lane shows the figures of the relief lane that carries it
    match s.st.carried b with
    | some n => s.when (u = 512 + b && s.st.calState n = 3) fun s => s.showPrec n
    | none => s

/-- The positions of block `b` that its sequencer takes in order: RETIRED and FAILED units are not taken, and with the
relief lane UNCAL only the relief lane is (R79, R90, R91, R92). -/
def State.takeable (s : State) (b p : Nat) : Bool :=
  let st := s.calState (unitAt b p)
  let rel := s.calState (512 + b)
  if p = 16 then st != 4 else rel != 0 && st != 3 && st != 4

/-- Whether the sequencer of block `b` may take position `p` in this sweep: takeable, and not skipped (R82). -/
def State.canTake (s : State) (b p : Nat) : Bool := s.takeable b p && !(s.calBlkAt b).skipped.contains p

/-- The cycle of block `b` is over: the sequencer is idle, and the sweep completes after its last unit (R78). -/
def Work.cycleOver (s : Work s₀) (b : Nat) : Work s₀ :=
  let p := s.get F.CAL_BSTAT_POS b
  let s := s.put F.CAL_BSTAT_STEP b 0
  let s := s.put F.CAL_BSTAT_POS b 31
  let k := s.calBlk b
  let due := fun (from' : Nat) => (List.range 17).filter fun i => from' ≤ i && s.st.canTake b i
  let nxt := if (due k.next).all (p ≤ ·) && k.next ≤ p then p + 1 else k.next
  let ps := due nxt
  let s := s.modBlk b fun k => { k with
    ov := none, bound := none, new := none, hits1 := [], runs := 0, statOk := false, disK := 0,
    reinst := if k.reinst.any (fun r => r.1 == unitAt b p) then none else k.reinst,
    fails := 0, next := nxt }
  if ps.isEmpty then
    let s := s.modBlk b fun k => { k with next := 0, skipped := [], pauseT := some (s.now + ms (s.get F.CAL_BCFG_PAUSE b)) }
    (s.wrap F.CAL_BSTAT_SWEEP_CNT b).blkEvt b F.CAL_BEVT_SWEEP_DONE
  else s

/-! ## The cycle -/

/-- The unit that block `b`'s sequencer takes next: the one farthest from its temperature if beyond ΔT, then those
named for the head, then the next in order (R78, R79). -/
def State.nextUnit (s : State) (b : Nat) : Option Nat :=
  let k := s.calBlkAt b
  let can := (List.range 17).filter (s.canTake b)
  let hot := can.filter fun p => s.tempFar (unitAt b p)
  let best := hot.foldl (fun (m : Option Nat) p => match m with
    | none => some p
    | some q => if (s.tempDiff (unitAt b q)).natAbs < (s.tempDiff (unitAt b p)).natAbs then some p else some q) none
  let head := (k.prio.map posOf).find? can.contains
  best.or (head.or ((can.find? (k.next ≤ ·)).or can.head?))

/-- The cycle of the unit in hand begins, or begins again, at `t` (Timeline CAL-1, R78, R92). Under reinstatement an
unpowered RETIRED lane that is carried goes offline and has a handback like a powered one, and an unpowered FAILED one
has a cycle without overlaps (log entry 13). Before the overlap has agreed a
skew, matching corrects the relief stamps by the lane's retained one, or by 0 (log entry 36). -/
def Work.cycleStart (s : Work s₀) (b t : Nat) : Work s₀ :=
  let p := s.get F.CAL_BSTAT_POS b
  let u := unitAt b p
  let cfg := (s.fre u).cfg
  let powered := F.FRE_INCFG_EN.of cfg = 1 || F.FRE_INCFG_CMP_EN.of cfg = 1
  let rel := s.st.calState (512 + b)
  let mine := s.st.carried b = some u
  let k := s.calBlk b
  let clear := fun (k : CalBlk) => { k with
    t0 := t, ov := none, bound := none, new := none, hits1 := [], runs := 0, statOk := false }
  let reinst := match k.reinst with | some (v, _) => v == u | none => false
  if u < 512 && mine then
    -- a RETIRED lane under reinstatement is already carried: it goes offline at once
    let s := s.modBlk b fun k => { clear k with laps := true }
    s.put F.CAL_BSTAT_STEP b 2
  else if u < 512 && !powered then
    let s := s.modBlk b fun k => { clear k with laps := false }
    s.put F.CAL_BSTAT_STEP b 2
  else if u < 512 && (rel = 1 || reinst) then
    let c := s.cal u
    let skew := if c.skewOk then sval 32 (s.get F.CAL_LACT_M_SKEW u) else 0
    let s := s.modBlk b fun k =>
      { clear k with laps := true, skew := skew, kept := false, ov := some { back := false, t0 := t } }
    s.put F.CAL_BSTAT_STEP b 1
  else if u = 512 + b && (rel = 0 || rel = 1 || reinst) then
    let s := s.modBlk b fun k => { clear k with laps := false }
    s.put F.CAL_BSTAT_STEP b 2
  else
    -- GAPPED: the gap falls on the lane, or on the lane that the relief lane carries
    let s := s.modBlk b fun k => { clear k with laps := false }
    let s := match (if u < 512 then some u else s.st.carried b) with
      | some n =>
        let s := s.modCal n fun c => { c with gapG := some (s.st.coarse t), gapE := none }
        (s.flag F.CAL_LSTAT_OFFLINE n).markDisc n
      | none => s
    s.put F.CAL_BSTAT_STEP b 4

/-- CAL_TAKE_UNIT (R78, R79, R91, R92, R104): the sequencer of block `b` takes its next unit. -/
def execCalTakeUnit (t b : Nat) (s : State) : Host.Outcome State Fault Refusal :=
  let s := (Work.start s).at t
  let k := s.calBlk b
  let rel := s.st.calState (512 + b)
  let frozen := (rel = 3 || rel = 4) && s.get F.CAL_BCFG_POLICY b = 0
  let head := match k.reinst with | some _ => true | none => false
  let paused := match k.pauseT with | some p => decide (t < p) | none => false
  let up := s.st.pwr.fw && s.on F.PWR_ENG_READY 0 && !s.on F.TIM_LOOP_ACTIVE b && s.on F.CAL_BCFG_RUN b &&
    s.st.domOn (pdCapture b) && s.st.domOn (pdFront b) && !s.st.blockAbsent b
  .next <| (if s.get F.CAL_BSTAT_POS b = 31 && up && (!frozen || head) && (!paused || head) then
    let p := match k.reinst with | some (u, _) => some (posOf u) | none => s.st.nextUnit b
    match p with
    | none => s
    | some p =>
      let u := unitAt b p
      let s := s.each (List.range 17) fun s i =>
        s.put F.CAL_LSTAT_PRIO (unitAt b i) (b2n (i != p && s.st.canTake b i && s.st.tempFar (unitAt b i)))
      let s := s.modBlk b fun k => { k with prio := k.prio.erase u, pauseT := none, fails := 0, disK := 0 }
      (s.put F.CAL_BSTAT_POS b p).cycleStart b t
  else s).st

/-- RELIEF_SETTLED (R80, Timeline CAL-1): the side of block `b`'s overlap that was connected has settled, its circuits
power up (R40), its prescaler takes the lane's phase, and matching begins. -/
def execReliefSettled (b : Nat) (va vb vc : Int) (s : State) : Host.Outcome State Fault Refusal :=
  let s := Work.start s
  .next <| (match (s.calBlk b).ov with
    | some o =>
      if o.start.isSome then s
      else
        let u := s.st.unitInHand b
        let cfg := (s.fre u).cfg
        let s := s.at (o.t0 + settleTime cfg)
        let s := s.powerUpFrom (if o.back then u else 512 + b) cfg va vb vc
        let c := s.cap u
        s.modBlk b fun k => { k with ov := some { o with start := some s.now, pres := c.pres, passed := c.passed } }
    | none => s).st

/-- The overlap of block `b` begins again at `t`, before the handover with the relief lane loaded anew (R80, R89). -/
def Work.overlapAgain (s : Work s₀) (b t : Nat) : Work s₀ :=
  let s := s.when ((s.calBlk b).ov.any (!·.back)) fun s => s.frontOff (512 + b)
  s.modBlk b fun k => { k with bound := none, ov := k.ov.map fun o => { back := o.back, t0 := t }, stepD := 0, stepN := 0 }

/-- The lane in hand is skipped for this sweep (R82, R89). A lane under reinstatement is back in its former state, and a
LANE_STATE EVENT says so, whether alignments or skews failed (R318, log entry 13). -/
def Work.skipLane (s : Work s₀) (b : Nat) : Work s₀ :=
  let u := s.st.unitInHand b
  let s := match s.st.reinstNow b with
    | some (_, former) => s.laneStateEv u (s.st.coarse s.now) (s.st.calState u) former 3
    | none => s
  let s := ((s.count F.CAL_LCNT_SKIP_CNT u).blkEvt b F.CAL_BEVT_SKIP).frontOff (512 + b)
  (s.modBlk b fun k => { k with skipped := posOf u :: k.skipped }).cycleOver b

/-- A failed alignment (R80, R82). -/
def Work.failAlign (s : Work s₀) (b : Nat) : Work s₀ :=
  match (s.calBlk b).ov with
  | none => s
  | some o =>
    if o.back then s.overlapAgain b s.now
    else
      let n := (s.calBlk b).fails + 1
      let s := s.modBlk b fun k => { k with fails := n }
      if n = 3 then s.skipLane b else s.overlapAgain b s.now

/-- Whether an edge of block `b`'s overlap has waited in vain for its copy (R80). -/
def State.unmet (s : State) (b : Nat) (o : Overlap) : Bool :=
  let n := s.unitInHand b
  let (d, e) := if o.back then (512 + b, n) else (n, 512 + b)
  (o.qD.any fun x => x.circ != .b && x.t + 256 + s.lag e < s.t64) ||
    o.qN.any fun x => x.circ != .b && x.t + 256 + s.lag d < s.t64

/-- SKEW_AGREED (R81, R82, R89): after 200 µs and 256 matched IN edges the skews of the two halves are compared. A
failed alignment leaves the count of disagreements in a row as it is, and a disagreement that of failed alignments (log
entry 36). -/
def execSkewAgreed (t b : Nat) (s : State) : Host.Outcome State Fault Refusal :=
  let s := (Work.start s).at t
  let k := s.calBlk b
  .next <| (match k.ov with
    | some ⟨false, t0, some st, qD, qN, pres, passed, n, (so, se), (co, ce)⟩ =>
      if t < st + us 200 || n < 256 || k.bound.isSome then s
      else if s.st.unmet b ⟨false, t0, some st, qD, qN, pres, passed, n, (so, se), (co, ce)⟩ then s.failAlign b
      else if (so * ce - se * co).natAbs * 100000 ≤ 33554432 * co * ce then
        let kk := rnd (so * ce + se * co) (2 * co * ce)
        s.modBlk b fun k => { k with skew := kk, kept := false, disK := 0, fails := 0, bound := some (s.st.coarse t) }
      else
        let s := s.count F.CAL_LCNT_DISAGREE_CNT (s.st.unitInHand b)
        let s := s.modBlk b fun k => { k with disK := k.disK + 1 }
        if k.disK + 1 = 3 then s.skipLane b else s.overlapAgain b t
    | _ => s).st

/-- OVERLAP_TIMEOUT (R82): 2 ms of matching pass with fewer than 256 matched IN edges; the retained skew serves, or
the lane is skipped. -/
def execOverlapTimeout (b : Nat) (s : State) : Host.Outcome State Fault Refusal :=
  let s := Work.start s
  let k := s.calBlk b
  .next <| (match k.ov with
    | some o =>
      match o.back, o.start, k.bound with
      | false, some st, none =>
        let s := s.at (st + ms 2)
        let u := s.st.unitInHand b
        if 256 ≤ o.n then s
        else if s.st.unmet b o then s.failAlign b
        else if (s.cal u).skewOk && !s.st.tempFar u then
          let kk := sval 32 (s.get F.CAL_LACT_M_SKEW u)
          s.modBlk b fun k => { k with skew := kk, kept := true, bound := some (s.st.coarse s.now) }
        else s.skipLane b
      | _, _, _ => s
    | none => s).st

/-- HANDOVER (R84, R86): at t_h the relief lane of block `b` takes the lane's edges. -/
def execHandover (b : Nat) (s : State) : Host.Outcome State Fault Refusal :=
  let s := Work.start s
  let k := s.calBlk b
  .next <| (match k.bound with
    | some h =>
      if s.get F.CAL_BSTAT_STEP b = 1 && (s.st.carried b).isNone then
        let s := s.at h
        let n := s.st.unitInHand b
        let s := s.laneEv n (if k.kept then 2 else 1) h
          (s.get F.CAL_LSTAT_TABLE_VER n * 2 ^ 32 + sfield 32 k.skew)
        let s := s.setState n 2 4
        let s := s.setState (512 + b) 2 4
        (s.carry b (n % 16)).showPrec n
      else s
    | none => s).st

/-! ## Offline measurements -/

/-- Unit `u` is declared failed at `t` after its third disagreement (R89, R93, Table CAL-2). -/
def Work.declareFailed (s : Work s₀) (b t : Nat) : Work s₀ :=
  let u := s.st.unitInHand b
  let s := s.put F.CAL_LSTAT_DISAGREE u 0
  match s.st.reinstNow b with
  | some (_, former) =>
    let now := s.st.calState u
    let s := if u < 512 then s.laneStateEv u (s.st.coarse t) now former 3 else s
    let s := s.setState u former 3
    let s := s.when (u < 512 && former = 3) fun s => s.setState (512 + b) 3 3
    let s := s.when (u < 512 && former = 4 && (s.st.carried b) = some u) fun s =>
      (((s.carry b 31).setState (512 + b) 1 3).showPrec u).modCal u fun c => { c with
        gapG := some (s.st.coarse t), gapE := some (s.st.coarseUp (s.st.coarse t + settleTime (s.fre u).cfg)) }
    s.cycleOver b
  | none =>
    let c := s.st.coarse t
    let rel := s.st.calState (512 + b)
    if u < 512 then
      if s.get F.CAL_BSTAT_STEP b = 4 then
        let s := (s.laneStateEv u c (s.st.calState u) 4 0).setState u 4 0
        s.modCal u fun x => { x with gapE := some c }
      else if rel = 1 || rel = 2 then
        -- the relief lane keeps the lane's signal for good
        let s := s.laneStateEv u c (s.st.calState u) 3 0
        let s := (s.setState u 3 0).setState (512 + b) 3 0
        let s := s.when ((s.st.carried b).isNone) fun s => s.carryFor b u
        (s.showPrec u).cycleOver b
      else ((s.laneStateEv u c (s.st.calState u) 4 0).setState u 4 0).cycleOver b
    else
      let s := s.setState u 4 0
      match s.st.carried b with
      | some n =>
        -- R93: the RETIRED lane fails with it and returns to its own front end; the gap of a GAPPED cycle ends there
        let s := match (s.cal n).gapG with
          | some g => s.laneEv n 5 c (s.st.stamp g)
          | none => s
        let e := s.st.coarseUp (c + settleTime (s.fre n).cfg)
        let s := (s.laneStateEv n e 3 4 1).setState n 4 1
        let s := (((s.carry b 31).showPrec n).frontOff u).put F.CAL_LSTAT_OFFLINE n 0
        let s := s.modCal n fun x => { x with gapG := some c, gapE := some e }
        (s.markDisc n).cycleOver b
      | none =>
        -- a lane that waits RETIRED on its own front end stays there, FAILED
        let s := match (lanesOf b).find? fun n => s.st.calState n == 3 with
          | some n => (s.laneStateEv n c 3 4 1).setState n 4 1
          | none => s
        s.cycleOver b

/-- A disagreement of the offline runs at `t` (R89): they restart; the third in a row declares the unit failed. -/
def Work.disagree (s : Work s₀) (b t : Nat) : Work s₀ :=
  let u := s.st.unitInHand b
  let s := s.count F.CAL_LCNT_DISAGREE_CNT u
  let n := s.get F.CAL_LSTAT_DISAGREE u + 1
  let s := s.modBlk b fun k => { k with statOk := false, runs := 0, hits1 := [], new := none }
  if 3 ≤ n then s.declareFailed b t else s.put F.CAL_LSTAT_DISAGREE u n

/-- Two lists of figures agree within `tol`. -/
def agree (tol : Nat) (xs ys : List Int) : Bool := (xs.zip ys).all fun (x, y) => (x - y).natAbs ≤ tol

/-- Whether two static runs agree (Table CAL-1). In digital mode the comparators and the ramp are not measured. -/
def runsAgree (r1 r2 : CalRun) (digital : Bool) : Bool :=
  let (a1, b1, c1) := r1.dly
  let (a2, b2, c2) := r2.dly
  let d := fun (x y : Nat) => ((x : Int) - (y : Int)).natAbs
  d a1 a2 ≤ 335 && d b1 b2 ≤ 335 && d c1 c2 ≤ 335 &&
    (digital || (agree 150 r1.offUv r2.offUv && agree 150 r1.dacUv r2.dacUv && 400 * d r1.gain r2.gain ≤ r1.gain + r2.gain
      && d r1.lat r2.lat ≤ 335))

/-- The mean of two lists of figures. -/
def means (xs ys : List Int) : List Int := (xs.zip ys).map fun (x, y) => rnd (x + y) 2

/-- STATIC_RUNS_DONE (R88, R89): the static measurements of block `b`'s unit have been made twice. Each run brings the
delay coefficients with it, and their means are taken like the rest (log entry 36). -/
def execStaticRunsDone (t b : Nat) (r1 r2 : CalRun) (s : State) : Host.Outcome State Fault Refusal :=
  let s := (Work.start s).at t
  let st := s.get F.CAL_BSTAT_STEP b
  let k := s.calBlk b
  .next <| (if (st = 2 || st = 4) && !k.statOk && k.bound.isNone then
      let u := s.st.unitInHand b
      let digital := F.FRE_INCFG_MODE.of (s.st.feCfg u) = 1
      if runsAgree r1 r2 digital then
        let old := (s.cal u).tab
        let m := fun (x y : Nat) => (rnd ((x + y : Nat) : Int) 2).toNat
        let (a1, b1, c1) := r1.dly
        let (a2, b2, c2) := r2.dly
        let tab : CalTables := { old with dly := some (m a1 a2, m b1 b2, m c1 c2), tc := means r1.tc r2.tc }
        let tab := if digital then tab
          else { tab with offs := means r1.offs r2.offs, dac := means r1.dac r2.dac, gain := m r1.gain r2.gain,
                          lat := m r1.lat r2.lat }
        s.modBlk b fun k => { k with statOk := true, new := some tab, runs := 0 }
      else s.disagree b t
    else s).st

/-- Whether two code-density runs agree (Table CAL-1): 0.12 tick in every bin, 0.03 tick RMS over each interpolator's
512 bins, with 2048 hits to the tick. -/
def hitsAgree (h1 h2 : List Nat) : Bool :=
  h1.length = 3072 && h2.length = 3072 &&
    (List.range 6).all fun i =>
      let d := ((widthsOf h1 i).zip (widthsOf h2 i)).map fun ((x : Nat), (y : Nat)) => (x : Int) - (y : Int)
      d.all (fun x => x.natAbs ≤ 245) && (sumSq d) * 10000 ≤ 512 * 6144 * 6144

/-- CODE_DENSITY_RUN_DONE (R88, R89): a run of 2^20 pulser hits on each interpolator ends with `w` the hits per bin and
`js` each interpolator's jitter in 2^-10 tick; after the second the runs are compared, and a carried lane is
reconnected. -/
def execCodeDensityRunDone (t b : Nat) (w js : List Nat) (s : State) : Host.Outcome State Fault Refusal :=
  let s := (Work.start s).at t
  let st := s.get F.CAL_BSTAT_STEP b
  let k := s.calBlk b
  .next <| (if (st = 2 || st = 4) && k.statOk && k.bound.isNone then
      if k.runs = 0 then s.modBlk b fun k => { k with runs := 1, hits1 := w, jit1 := js }
      else if hitsAgree k.hits1 w then
        let h := (k.hits1.zip w).map fun (x, y) => x + y
        let bins := ((List.range 6).map fun i => centres (widthsOf h i)).flatten
        let s := s.modBlk b fun k => { k with
          hits1 := h, jitter := (k.jit1.zip js).map fun (x, y) => (x + y) / 2, runs := 2,
          new := k.new.map fun n => { n with bins := bins } }
        if k.laps then
          let s := s.put F.CAL_BSTAT_STEP b 3
          s.modBlk b fun k => { k with ov := some { back := true, t0 := t }, stepD := 0, stepN := 0 }
        else
          let s := s.modBlk b fun k => { k with bound := some (s.st.coarse t) }
          let u := s.st.unitInHand b
          match (if st = 4 then (if u < 512 then some u else s.st.carried b) else none) with
          | some n => s.modCal n fun c => { c with gapE := some (s.st.coarse t) }
          | none => s
      else s.disagree b t
    else s).st

/-- CLEAN_OVERLAP (R84): 200 µs have passed with every edge matched; the handback falls at the next coarse boundary. -/
def execCleanOverlap (t b : Nat) (s : State) : Host.Outcome State Fault Refusal :=
  let s := (Work.start s).at t
  let k := s.calBlk b
  .next <| (match k.ov with
    | some o =>
      match o.back, o.start, k.bound with
      | true, some st, none =>
        if t < st + us 200 then s
        else if s.st.unmet b o then s.failAlign b
        else s.modBlk b fun k => { k with bound := some (s.st.coarse t) }
      | _, _, _ => s
    | none => s).st

/-- The lane in hand of block `b` takes its signal back at `t` (R84, R86); `done` when new tables come into force. -/
def Work.handback (s : Work s₀) (b t : Nat) (done : Bool) : Work s₀ :=
  let k := s.calBlk b
  let n := s.st.unitInHand b
  let s := s.when done fun s => s.activate n t k.hits1
  let step := if k.stepN = 0 then 0 else clampI (-32768) 32767 (rnd k.stepD (4 * k.stepN))
  let w1 := s.get F.CAL_LSTAT_TABLE_VER n * 2 ^ 32 + (if done then sfield 16 step else 0) * 65536
    + b2n (!done || k.stepN = 0) * 2 + b2n (!done)
  let reinst := done && (s.st.reinstNow b).isSome
  let cause := if reinst then 2 else 5
  let s := match s.st.reinstNow b with
    | some (_, former) => if done then (s.laneStateEv n t former 1 2).askVault n else s
    | none => s
  let s := s.laneEv n 3 t w1
  let s := s.setState n 1 cause
  let s := s.setState (512 + b) 1 cause
  let s := s.when reinst fun s => (s.modelOff b).modBlk b fun k => { k with agreed := true }
  (s.carry b 31).showPrec n

/-- HANDBACK (R84, R86, R87): at t_k the new tables come into force and the lane takes its edges back. -/
def execHandback (b : Nat) (s : State) : Host.Outcome State Fault Refusal :=
  let s := Work.start s
  let k := s.calBlk b
  .next <| (match k.bound with
    | some h =>
      if s.get F.CAL_BSTAT_STEP b = 3 && (s.st.carried b).isSome then (s.at h).handback b h true else s
    | none => s).st

/-- The relief lane has just become able to carry: a lane that waits RETIRED on its own front end is taken at `t`
without overlap (R102). -/
def Work.takeRetired (s : Work s₀) (b t : Nat) : Work s₀ :=
  match (lanesOf b).find? fun n => s.st.calState n == 3 with
  | some n =>
    if (s.st.carried b).isSome then s
    else
      let s := ((s.setState (512 + b) 3 0).carryFor b n).frontOff n
      let e := s.st.coarseUp (t + settleTime (s.fre n).cfg)
      ((s.markDisc n).modCal n fun c => { c with gapG := some t, gapE := some e }).showPrec n
  | none => s

/-- CYCLE_END (R78, R87, R102): a cycle without overlaps of block `b` ends at its boundary. -/
def execCycleEnd (b : Nat) (s : State) : Host.Outcome State Fault Refusal :=
  let s := Work.start s
  let k := s.calBlk b
  .next <| (match k.bound with
    | some h =>
      let u := s.st.unitInHand b
      if s.get F.CAL_BSTAT_STEP b = 2 && !k.laps && s.get F.CAL_BSTAT_POS b ≤ 16 then
        let s := (s.at h).activate u h k.hits1
        let s := match s.st.reinstNow b with
          | some (_, former) =>
            let s := if u < 512 then s.laneStateEv u h former 1 2 else s
            (s.askVault u).modBlk b fun k => { k with agreed := true }
          | none => s
        let keep := u = 512 + b && (s.st.carried b).isSome
        let s := s.setState u (if keep then 3 else 1) (if (s.st.reinstNow b).isSome then 2 else 7)
        let s := s.when (u = 512 + b && !keep) fun s => (s.modelOff b).takeRetired b h
        s.cycleOver b
      else s
    | none => s).st

/-- GAP_END (R92, R93, R102): lane `u`'s gap ends at t_e; new tables take effect where the gap was a cycle's, the
circuits that carry the lane power up, and a GAP EVENT is written. -/
def execGapEnd (u : Nat) (va vb vc : Int) (s : State) : Host.Outcome State Fault Refusal :=
  let s := Work.start s
  let c := s.cal u
  let b := blockOf u
  .next <| (match c.gapG, c.gapE with
    | some g, some e =>
      let s := s.at e
      let k := s.calBlk b
      let cyc := s.get F.CAL_BSTAT_STEP b = 4 && (s.st.unitInHand b = u || (s.st.unitInHand b = 512 + b))
      let v := s.st.unitInHand b
      let s := if cyc && k.bound.isSome then
          let s := s.activate v e k.hits1
          if v < 512 then s.setState v 1 7 else s
        else s
      let s := s.when cyc fun s => s.cycleOver b
      let s := s.laneEv u 5 e (s.st.stamp g)
      let s := s.put F.CAL_LSTAT_OFFLINE u 0
      let s := s.modCal u fun c => { c with gapG := none, gapE := none }
      s.powerUpFrom (s.st.carrier u) (s.fre u).cfg va vb vc
    | _, _ => s).st

/-- Whether the temperature model of FROZEN applies in block `b` (R91, R92, R104). -/
def State.modelled (s : State) (b : Nat) : Bool :=
  let rel := s.calState (512 + b)
  rel = 0 || ((rel = 3 || rel = 4) && s.get F.CAL_BCFG_POLICY b = 0)

/-- TEMP_MODEL_UPDATE (R92): at the first coarse boundary after a sensor reading the delays of block `b`'s units follow
the temperature. -/
def execTempModelUpdate (b : Nat) (s : State) : Host.Outcome State Fault Refusal :=
  let s := Work.start s
  .next <| (if s.st.modelled b then
      let s := s.at (s.st.coarse s.now)
      s.each (unitsOf b) fun s u =>
        let d := s.st.tempDiff u
        let tc := (s.cal u).tab.tc
        let m := fun (i : Nat) => rnd ((tc.getD i 0) * d) 256
        let s := s.modCal u fun c => { c with model := (m 0, m 1, m 2) }
        (s.flag F.CAL_LSTAT_MODELLED u).showPrec u
    else s).st

/-! ## Baseline (R94 to R96) -/

/-- Whether lane `n`'s baseline is followed: analogue mode with BASE_TRK = 1. -/
def State.tracks (s : State) (n : Nat) : Bool :=
  F.FRE_INCFG_MODE.of (s.freAt n).cfg == 0 && s.on F.FRE_INCFG_BASE_TRK n

/-- BASELINE_APERTURE_END (R95): the aperture of lane `n`'s quiet window ends with the mean input `v`, on the scale of
the threshold codes. -/
def execBaselineApertureEnd (n : Nat) (v : Int) (s : State) : Host.Outcome State Fault Refusal :=
  let s := Work.start s
  .next <| (match (s.cal n).quietAt with
    | some o =>
      if s.st.tracks n then
        let s := s.at (o + ns 1124)
        s.modCal n fun c => { c with sample := some v }
      else s
    | none => s).st

/-- Whether a close of lane `n`'s window, issued but not yet due, will end it before 1.2 µs. -/
def State.shortClose (s : State) (n o : Nat) : Bool :=
  s.axis.issued.any fun (f : Fired) =>
    F.STAKE_ACTION_ACTION.of f.act == 3 && !bit (F.STAKE_ACTION_ARG.of f.act) 0 && f.ts < o + ns 1200 &&
      bit ((f.lg.getD (n / 64) 0).toNat) (n % 64)

/-- BASELINE_UPDATE (R95, R96): at the first coarse boundary after the aperture of lane `n` the sample moves BASE_EFF,
or an assertion of comparator A since the window opened defers it. -/
def execBaselineUpdate (n : Nat) (s : State) : Host.Outcome State Fault Refusal :=
  let s := Work.start s
  let c := s.cal n
  let b := blockOf n
  .next <| (match c.quietAt, c.sample with
    | some o, some v =>
      let s := s.at (s.st.coarse (o + ns 1124))
      let s := s.modCal n fun c => { c with sample := none }
      if s.st.shortClose n o then s
      else if c.hit then
        let s := (s.count F.CAL_LBASE_DEFER_CNT n).count F.CAL_LBASE_DEFER_RUN n
        s.when (s.get F.CAL_LBASE_DEFER_RUN n = 64) fun s => s.blkEvt b F.CAL_BEVT_BASE_STUCK
      else
        let e := sval 14 (s.get F.CAP_BASE_BASE_EFF n)
        let e := e + rndAway (v - e) (2 ^ s.get F.CAL_BCFG_BASE_WT b)
        let s := s.put F.CAP_BASE_BASE_EFF n (sfield 14 e)
        (s.put F.CAL_LBASE_DEFER_RUN n 0).dtUpdate n
    | _, _ => s).st

/-- A quiet window opens on lane `n` at `t`, or closes (R95, R153). SHORT_CNT counts the short windows of lanes whose
baseline is tracked (log entry 36). -/
def Work.quiet (s : Work s₀) (n t : Nat) (open' : Bool) : Work s₀ :=
  match (s.cal n).quietAt, open' with
  | none, true => s.modCal n fun c => { c with quietAt := some t, sample := none, hit := false }
  | some o, false =>
    let s := s.when (s.st.tracks n && t < o + ns 1200) fun s => s.count F.CAL_BCNT_SHORT_CNT (blockOf n)
    s.modCal n fun c => { c with quietAt := none, sample := none, hit := false }
  | _, _ => s

/-! ## Switching sequences and calibration (R42, R45, R104) -/

/-- Whether the cycle in hand of block `b` holds lane `u`: it is the unit in hand, or RETIRED on the relief lane while
that is in its GAPPED gap (R92, R104). -/
def State.cycleHolds (s : State) (b u : Nat) : Bool :=
  s.unitInHand b = u || (s.get F.CAL_BSTAT_STEP b = 4 && s.unitInHand b = 512 + b && s.carried b = some u)

/-- SWITCH_DONE (R42, R43, R104): at t_e the blank of lane `u` lifts, its circuits power up, MODE_CHANGE is written, and
a calibration cycle in hand begins again. -/
def execSwitchDone (u : Nat) (va vb vc : Int) (s : State) : Host.Outcome State Fault Refusal :=
  let s := Work.start s
  let b := blockOf u
  .next <| (match (s.fre u).sw with
    | some q =>
      if q.stage != 2 then s
      else
        let e := s.st.coarseUp (q.tr + 32768 + settleTime q.cfg)
        let s := s.at e
        let inHand := s.st.unitInHand b = u && s.get F.CAL_BSTAT_POS b < 16
        let reinst := (s.st.reinstNow b).isSome
        let back := inHand && s.st.carried b = some u && !(reinst && s.st.calState u = 3)
        let s := s.when back fun s => s.handback b e false
        let s := s.modFre u fun f => { f with sw := none }
        let s := s.put F.FRE_STAT_SWITCHING u 0
        let s := s.showEn u
        let s := s.powerUpFrom (s.st.carrier u) q.cfg va vb vc
        let s := s.flag F.FRE_EVT_SWITCH_DONE u
        let s := s.laneEv u 0 e (s.st.stamp q.tb)
        let s := s.dtUpdate u
        if !s.st.cycleHolds b u then s
        else
          let s := match (s.cal u).gapG with
            | some g =>
              let s := s.laneEv u 5 e (s.st.stamp g)
              (s.put F.CAL_LSTAT_OFFLINE u 0).modCal u fun c => { c with gapG := none, gapE := none }
            | none => s
          s.cycleStart b e
    | none => s).st

end Sys2Proof.Machine
end

