-- ==== Sys2Proof/Machine/Vault.lean ====
section
/-!
DEFINITION. The calibration slots of the vault (R97 to R102): their layout and CHECK, the writes of the engine-wide
queue, and what start-up loads.
-/

namespace Sys2Proof.Machine

variable {s₀ : State}

/-- The vault address of slot `k` (0 F, 1 A, 2 B) of unit `u`. -/
def slotAddr (u k : Nat) : Nat := (3 * u + k) * 0x4000

/-- The bytes of slot `k` of unit `u`. -/
def State.slotBytes (s : State) (u k : Nat) : List Byte := s.vaultBytes (slotAddr u k) 0x3084

/-- Whether a slot's bytes are valid for unit `u` (R98). -/
def slotValid (u : Nat) (bs : List Byte) : Bool :=
  let q := field bs 4 4
  field bs 0 2 = 1 && field bs 2 2 = u && q != 0 && q != 0xFFFFFFFF && field bs 0x3080 4 = crc32c (bs.take 0x3080)

/-- The SEQ of slot `k` of unit `u`, where it is valid. -/
def State.slotSeq (s : State) (u k : Nat) : Option Nat :=
  let bs := s.slotBytes u k
  if slotValid u bs then some (field bs 4 4) else none

/-- The signed number in `w` bytes. -/
def sbytes (w : Nat) (x : Int) : List Byte := le w (sfield (8 * w) x)

/-- The bytes of a slot of unit `u` with sequence number `q` (Table CAL-4), from the tables in force. -/
def State.slotImage (s : State) (u q : Nat) : List Byte :=
  let c := s.calAt u
  let t := c.tab
  let st := s.calState u
  let cfg := s.feCfg u
  let (da, db, dc) := t.dly.getD (typDelay cfg .a, typDelay cfg .b, typDelay cfg .cmp)
  let bins := (List.range 3072).map fun i => le 4 (t.bin (i / 512) (i % 512))
  let body :=
    le 2 1 ++ le 2 u ++ le 4 q ++ le 4 (s.get F.CAL_LSTAT_TABLE_VER u) ++ le 4 (b2n (st == 3) + 2 * b2n (st == 4)) ++
    le 8 (s.reg .CAL_LACT_T u).toNat ++ le 8 (s.reg .CAL_LACT_A u).toNat ++ le 2 (s.get F.CAL_LACT_M_ACT_TEMP u) ++
    le 2 c.dnl ++ le 2 c.inl ++ le 2 0 ++ le 4 c.prec ++
    le 4 (s.get F.CAL_LCNT_CAL_COUNT u) ++ le 4 da ++ le 4 db ++ le 4 dc ++
    le 4 (if u < 512 then s.get F.CAL_LACT_M_SKEW u else 0) ++ sbytes 2 (t.offs.getD 0 0) ++ sbytes 2 (t.offs.getD 1 0) ++
    le 2 t.gain ++ le 2 0 ++ le 4 t.lat ++ sbytes 2 (t.tc.getD 0 0) ++ sbytes 2 (t.tc.getD 1 0) ++
    sbytes 2 (t.tc.getD 2 0) ++ le 2 0 ++ ((List.range 16).map fun i => sbytes 2 (t.dac.getD i 0)).flatten ++ fit 12 [] ++
    bins.flatten
  body ++ le 4 (crc32c body)

/-- The VAULT_ERR event of block `b` (R99, R102), which Table MON-4 gathers. -/
def Work.vaultErr (s : Work s₀) (b : Nat) : Work s₀ :=
  (s.blkEvt b F.CAL_BEVT_VAULT_ERR).monEvt F.MON_EVT_VAULT_ERR

/-- VAULT_SLOT_WRITE (R99, R101): the engine starts the next queued slot write: it chooses the slot that is invalid or
holds the lower SEQ, and slot A where both are or their SEQ are equal (log entry 36), and first writes SEQ = 0. -/
def execVaultSlotWrite (t : Nat) (s : State) : Host.Outcome State Fault Refusal :=
  let s := (Work.start s).at t
  .next <| (match s.st.vaultQ with
    | [] => s
    | u :: rest =>
      if s.st.vaultWr.isSome || !s.st.pwr.ok || !s.st.domOn 95 then s
      else
        let s := s.setVaultQ rest
        let (qa, qb) := (s.st.slotSeq u 1, s.st.slotSeq u 2)
        let k := match qa, qb with
          | none, _ => 1
          | some _, none => 2
          | some a, some b => if b < a then 2 else 1
        let q := max (qa.getD 0) (qb.getD 0) + 1
        if q = 0xFFFFFFFF then s.vaultErr (blockOf u)
        else
          let img := s.st.slotImage u q
          let s := s.setVaultWr (some ⟨u, k, img, s.st.vaultBytes (slotAddr u k + 4) 4⟩)
          let s := s.vaultWrite (slotAddr u k + 4) [0, 0, 0, 0]
          s.modCal u fun c => { c with lastWr := some t, stored := c.tab }).st

/-- VAULT_WRITE_DONE (R99): the slot write in progress completes with its SEQ and CHECK; `ok` is false where its
read-back fails, which leaves the slot invalid (Table MON-4). -/
def execVaultWriteDone (t : Nat) (ok : Bool) (s : State) : Host.Outcome State Fault Refusal :=
  let s := (Work.start s).at t
  .next <| (match s.st.vaultWr with
    | none => s
    | some w =>
      let s := s.setVaultWr none
      if ok then
        (s.vaultWrite (slotAddr w.unit w.slot) w.data).count F.CAL_BCNT_VAULT_WR_CNT (blockOf w.unit)
      else s.monEvt F.MON_EVT_VAULT_WRITE).st

/-- The tables that a valid slot holds. -/
def slotTables (bs : List Byte) : CalTables :=
  let i16 := fun (o : Nat) => sval 16 (field bs o 2)
  { bins := (List.range 3072).map fun i => field bs (0x80 + 4 * i) 4 % 2 ^ 19
    dly := some (field bs 0x30 4 % 2 ^ 26, field bs 0x34 4 % 2 ^ 26, field bs 0x38 4 % 2 ^ 26)
    offs := [i16 0x40, i16 0x42]
    gain := field bs 0x44 2
    lat := field bs 0x48 4
    tc := [i16 0x4C, i16 0x4E, i16 0x50]
    dac := (List.range 16).map fun k => i16 (0x54 + 2 * k) }

/-- Unit `u` starts in the state that its load has decided (R90, R102, Table OCI-5): a transition where it leaves UNCAL,
with a notice where it starts RETIRED, FAILED or UNCAL. -/
def Work.startTell (s : Work s₀) (u : Nat) : Work s₀ :=
  let b := blockOf u
  let st := s.get F.CAL_LSTAT_STATE u
  let s := s.when (st != 0) fun s => s.flag F.CAL_LEVT_STATE_CHG u
  let s := s.when (st = 4) fun s =>
    (s.flag F.CAL_LEVT_FAILED u).blkEvt b (if u < 512 then F.CAL_BEVT_LANE_FAILED else F.CAL_BEVT_RELIEF_FAILED)
  let s := s.when (st = 3 && u < 512) fun s => s.blkEvt b F.CAL_BEVT_LANE_RETIRED
  s.when (st != 1) fun s => s.notice 2 0x20
    (le 2 u ++ le 1 0 ++ le 1 st ++ le 1 6 ++ le 3 0 ++ le 4 (s.get F.CAL_LSTAT_TABLE_VER u))

/-- Unit `u` starts with RESTORED_OLDER, and goes to the head of its block's first sweep (R102). -/
def Work.restoredOlder (s : Work s₀) (u : Nat) : Work s₀ :=
  let s := (s.flag F.CAL_LSTAT_RESTORED_OLDER u).flag F.CAL_LEVT_RESTORED u
  s.modBlk (blockOf u) fun k => { k with prio := k.prio ++ [u] }

/-- Unit `u` at start-up (R102): the valid slot of A and B with the higher SEQ, else F, else the default tables. A
relief lane's slot does not make it RETIRED: the lanes' slots decide whether it carries one. -/
def Work.loadUnit (s : Work s₀) (u : Nat) : Work s₀ :=
  let b := blockOf u
  let (qa, qb, qf) := (s.st.slotSeq u 1, s.st.slotSeq u 2, s.st.slotSeq u 0)
  let k : Option Nat := match qa, qb, qf with
    | some a, some c, _ => some (if a < c then 2 else 1)
    | some _, none, _ => some 1
    | none, some _, _ => some 2
    | none, none, some _ => some 0
    | none, none, none => none
  match k with
  | none => ((s.vaultErr b).put F.CAL_LSTAT_STATE u 0).restoredOlder u
  | some k =>
    let bs := s.st.slotBytes u k
    let older := k = 0 || qa.isNone || qb.isNone
    let tab := slotTables bs
    let flags := field bs 0x0C 4
    let st := if bit flags 1 then 4 else if bit flags 0 && u < 512 then 3 else 1
    let s := s.modCal u fun c => { c with
      tab := tab, stored := tab, skewOk := u < 512, prec := field bs 0x28 4, dnl := field bs 0x22 2, inl := field bs 0x24 2 }
    let s := s.put F.CAL_LSTAT_STATE u st
    let s := s.put F.CAL_LSTAT_TABLE_VER u (field bs 8 4)
    let s := s.put F.CAL_LCNT_CAL_COUNT u (field bs 0x2C 4)
    let s := s.wreg .CAL_LACT_T u (w64 (field bs 0x10 8))
    let s := s.wreg .CAL_LACT_A u (w64 (field bs 0x18 8))
    let s := s.put F.CAL_LACT_M_ACT_TEMP u (field bs 0x20 2)
    let s := s.put F.CAL_LACT_M_SKEW u (if u < 512 then field bs 0x3C 4 else 0)
    let s := s.showPrec u
    s.when older fun s => s.restoredOlder u

/-- Block `b` at start-up, its units loaded: which lane its relief lane carries, and the FAILED ones (R102). A state
that is decided against a loaded slot asks for no vault write (log entry 36). -/
def Work.loadBlock (s : Work s₀) (b : Nat) : Work s₀ :=
  let s := s.each (unitsOf b) fun s u => s.loadUnit u
  let rel := s.st.calState (512 + b)
  let s := match (lanesOf b).filter fun n => s.st.calState n == 3 with
    | [] => s
    | n :: others =>
      let s := s.each others fun s m => s.put F.CAL_LSTAT_STATE m 4
      if rel = 4 then s.put F.CAL_LSTAT_STATE n 4
      else if rel = 0 then s
      else ((s.put F.CAL_LSTAT_STATE (512 + b) 3).carryFor b n).showPrec n
  (s.each (unitsOf b) fun s u => s.startTell u).spareCheck b

end Sys2Proof.Machine
end

