-- ==== Sys2Proof/Machine/Queues.lean ====
section
/-!
DEFINITION. Queues (chapter 10): placement, splits, EPOCH records and commits, the limits, pops, EN and geometry, and
the assembly pool's grants; and how the consumers in the engine read a queue. The queue area of the store is at store
word BASE to BASE + 2^k - 1.
-/

namespace Sys2Proof.Machine

variable {s₀ : State}

/-! ## The store -/

/-- A single-bit error at store word `a` (R395): corrected and written back, counted, captured. -/
def Work.storeCe (s : Work s₀) (a : Nat) : Work s₀ :=
  let s := s.when (s.st.ce.contains a) fun s => s.setCe (s.st.ce.filter (· != a))
  let s := s.count F.MON_ECC_CNT_CE_CNT 0
  let s := s.when (!s.on F.MON_CE_ADDR_VALID 0) fun s => (s.put F.MON_CE_ADDR_ADDR 0 a).flag F.MON_CE_ADDR_VALID 0
  s.when (s.get F.MON_ECC_CNT_CE_CNT 0 == max 1 (s.get F.MON_ECC_CFG_CE_LIMIT 0)) fun s => s.monEvt F.MON_EVT_STORE_CE

/-- A double-bit error at store word `a` is read (R395). -/
def Work.storeUe (s : Work s₀) (a : Nat) : Work s₀ :=
  let s := s.count F.MON_ECC_CNT_UE_CNT 0
  let s := s.when (!s.on F.MON_UE_ADDR_VALID 0) fun s => (s.put F.MON_UE_ADDR_ADDR 0 a).flag F.MON_UE_ADDR_VALID 0
  s.monEvt F.MON_EVT_STORE_UE

/-- The error, if there is one, that a read of store word `a` meets (R395). -/
def Work.storeMeet (s : Work s₀) (a : Nat) : Work s₀ :=
  if s.st.ue.contains a then s.storeUe a else if s.st.ce.contains a then s.storeCe a else s

/-- The word of the store that an access reads: a single-bit error is corrected, a double-bit error leaves it as it is
stored (R395). -/
def Work.storeRead (s : Work s₀) (a : Nat) : Work s₀ × Word := (s.storeMeet a, s.store a)

/-- Store word `a` takes a double-bit error: one or two bits of its data come to be wrong, which they are is free (R396,
log entry 55). -/
def Work.spoil (s : Work s₀) (a : Nat) : Work s₀ :=
  let (s, w) := s.fresh
  let i := bits w.toNat 0 6
  let j := (i + 1 + bits w.toNat 6 6 % 63) % 64
  let mask := 2 ^ i + b2n (bit w.toNat 12) * 2 ^ j
  let s := s.setStore a (s.store a ^^^ w64 mask)
  s.setUe (s.st.ue ++ [a])

/-! ## Indices -/

/-- SIZE_LOG2 of queue `q`. -/
def State.qk (s : State) (q : Nat) : Nat := s.get F.QD_CFG_SIZE_LOG2 q

/-- The difference of two indices of queue `q`, modulo 2^(k+1). -/
def State.qdiff (s : State) (q a b : Nat) : Nat :=
  let m := 2 ^ (s.qk q + 1)
  (a + m - b % m) % m

/-- The committed depth of queue `q` (R250). -/
def State.depth (s : State) (q : Nat) : Nat := s.qdiff q (s.get F.QD_WR_CWR q) (s.get F.QD_RD_RD q)

/-- The store word that index `i` of queue `q` names. -/
def State.qAddr (s : State) (q i : Nat) : Nat := (s.get F.QD_CFG_BASE q + i % 2 ^ s.qk q) % 2 ^ 30

/-- The committed depth of queue `q` at the start of the present cycle, and the words popped in it so far (R270). -/
def State.cycleStart (s : State) (q : Nat) : Nat × Nat :=
  match (s.queAt q).start with
  | some (c, d, p, _) => if c = s.cycle then (d, p) else (s.depth q, 0)
  | none => (s.depth q, 0)

/-- Whether a commit of the present cycle has set THRESH of queue `q` (R270). -/
def State.threshNow (s : State) (q : Nat) : Bool :=
  match (s.queAt q).start with
  | some (c, _, _, b) => c == s.cycle && b
  | none => false

/-- A commit or a pop of `n` words takes place in the present cycle; `set` says that it sets THRESH (R270). -/
def Work.inCycle (s : Work s₀) (q n : Nat) (set : Bool := false) : Work s₀ :=
  let (d, p) := s.st.cycleStart q
  let b := s.st.threshNow q
  s.modQue q fun x => { x with start := some (s.st.cycle, d, p + n, b || set) }

/-- FULL and EMPTY follow the indices (R250); what a read shows of them is QD_FLAGS as `State.qdFlags` gives it. -/
def Work.showQueue (s : Work s₀) (q : Nat) : Work s₀ :=
  let full := s.st.qdiff q (s.get F.QD_WR_IWR q) (s.get F.QD_RD_RD q) == 2 ^ s.st.qk q
  (s.put F.QD_FLAGS_FULL q (b2n full)).put F.QD_FLAGS_EMPTY q (b2n (s.st.depth q == 0))

/-- QD_FLAGS as a read shows it: within a cycle of commits and pops FULL and EMPTY are those of its start (R270; log
entry 49). -/
def State.qdFlags (s : State) (q : Nat) : Word :=
  let d := (s.cycleStart q).1
  let within := match (s.queAt q).start with
    | some (c, _) => c == s.cycle
    | none => false
  let v := s.reg .QD_FLAGS q
  if within then F.QD_FLAGS_FULL.put (F.QD_FLAGS_EMPTY.put v (b2n (d == 0))) (b2n (d == 2 ^ s.qk q)) else v

/-! ## Placement -/

/-- The flags of a trailer (Table QUE-2). -/
def trailerFlags (lost late hold forced straddle : Bool) : Nat :=
  b2n lost + 2 * b2n late + 4 * b2n hold + 8 * b2n forced + 16 * b2n straddle

/-- The words of a bundle as queue `q` takes it with sequence number `seq` (R252, R253). -/
def Bundle.words (b : Bundle) (hor seq flags : Nat) : List Word :=
  let body := [w64 (0xF * 2 ^ 60 + b.len * 2 ^ 44 + b.producer * 2 ^ 32 + seq % 2 ^ 32), w64 hor] ++
    b.recs.flatMap (·.ws)
  body ++ [w64 (0xF1 * 2 ^ 56 + flags * 2 ^ 32 + crc32c (wordBytes body))]

/-- Words go into queue `q` from its rewind mark on. -/
def Work.queWrite (s : Work s₀) (q : Nat) (ws : List Word) : Work s₀ :=
  let i := s.get F.QD_WR_CWR q
  s.each ws.zipIdx fun s (w, j) => s.storeWrite (s.st.qAddr q (i + j)) w

/-- The horizon that a bundle's header carries (R266): a partner's is kept in the scale in which it was sent (R341). -/
def State.wordHor (s : State) (b : Bundle) : Nat :=
  if 0x160 ≤ b.producer then s.stampAt b.openT b.horizon else s.stampHor b.floor b.horizon

/-- A bundle is written into queue `q` and committed, or meets a limit (R263, R267, R268, R269). THRESH compares the
depth with that at the start of the cycle (R270). -/
def Work.putBundle (s : Work s₀) (q : Nat) (b : Bundle) (hold : Bool) : Work s₀ :=
  let size := 2 ^ s.st.qk q
  let len := b.len
  if size < len then (s.count F.QD_CNT1_OVERSIZE_CNT q).flag F.QD_FLAGS_OVERSIZE q
  else
    let d := s.st.depth q
    let d0 := (s.st.cycleStart q).1
    let late := match (s.que q).hor with | some h => decide (b.floor < h) | none => false
    let ws := b.words (s.st.wordHor b) (s.get F.QD_THR_NEXT_SEQ q)
      (trailerFlags (s.que q).lost late hold b.forced b.straddle)
    let s := s.wrap F.QD_THR_NEXT_SEQ q
    let s := s.queWrite q (ws.take (size - d))
    if size < d + len || len == size then
      let s := s.modQue q fun x => { x with lost := true }
      if d = 0 then (s.count F.QD_CNT1_OVERSIZE_CNT q).flag F.QD_FLAGS_OVERSIZE q
      else (s.count F.QD_CNT0_OVERRUN_CNT q).flag F.QD_FLAGS_OVERRUN q
    else
      let i := (s.get F.QD_WR_CWR q + len) % 2 ^ (s.st.qk q + 1)
      let lev := s.get F.QD_THR_LEVEL q
      let cross := lev != 0 && d0 < lev && lev ≤ d + len
      let s := s.inCycle q 0 (cross && !s.on F.QD_FLAGS_THRESH q)
      let s := ((s.put F.QD_WR_CWR q i).put F.QD_WR_IWR q i).put F.QD_MARK_RWM q i
      let s := s.modQue q fun x => { x with lost := false, hor := some (max b.horizon (x.hor.getD 0)) }
      let s := s.when (0x160 ≤ b.producer && b.producer < 0x180 && s.st.attached (b.producer - 0x160)) fun s =>
        s.wrap F.PT_CNT_RX_BUNDLES (b.producer - 0x160)
      let s := s.when late fun s => (s.count F.QD_CNT1_LATE_CNT q).flag F.QD_FLAGS_LATE q
      let s := s.when hold fun s => (s.count F.QD_CNT1_HOLD_CNT q).flag F.QD_FLAGS_HOLD q
      let s := s.when cross fun s => s.flag F.QD_FLAGS_THRESH q
      let s := s.showQueue q
      let lat : Int := (s.now : Int) - b.horizon
      let s := (s.mu 0 q (d + len)).mu 1 q (lat / 1024).toNat
      (s.heQueueKey q 2 (d + len : Nat)).heQueueKey q 3 lat

/-- Whether a bundle is one of the system EVENTs of R265, and its time. -/
def Bundle.splitter (b : Bundle) : Option Nat :=
  match b.recs with
  | [r] => if (b.producer = 0x140 || b.producer = 0x142) && r.ev &&
      (match r.ws with | w :: _ => bits w.toNat 60 4 == 9 | [] => false) then some r.t else none
  | _ => none

/-- Whether a producer's bundles are never split: weavers and link partners (R265). -/
def unsplit (prod : Nat) : Bool := (0x20 ≤ prod && prod < 0x48) || (0x160 ≤ prod && prod < 0x180)

/-- A bundle that holds times on both sides of `te` is split there, or its horizon lowered (R265). -/
def Bundle.split (b : Bundle) (te : Nat) : List Bundle :=
  if b.floor < te && te < b.horizon then
    if unsplit b.producer then [{ b with horizon := te, straddle := true }]
    else
      let r1 := b.recs.filter fun r => r.t < te
      let r2 := b.recs.filter fun r => !(r.t < te)
      let p1 := { b with recs := r1, horizon := te, buf := b.buf && r2.isEmpty }
      let p2 := { b with recs := r2, floor := te }
      (if r1.isEmpty then [] else [p1]) ++ (if r2.isEmpty then [] else [p2])
  else [b]

/-- Every bundle that awaits placement in queue `q` is split at the system EVENTs there (R265). -/
def Work.splitAll (s : Work s₀) (q : Nat) : Work s₀ :=
  let ts := (s.que q).evts ++ (s.st.wait.filter (·.q == q)).filterMap (·.splitter)
  s.each ts fun s te =>
    s.setWait (s.st.wait.flatMap fun b => if b.q == q then b.split te else [b])

/-- The floor of a writer of queue `q` (R259). -/
def State.writerFloor (s : State) (q prod : Nat) : Nat :=
  match s.openOf prod q with
  | some b => b.floor
  | none => s.progress prod

/-- The floors of the other writers of queue `q` as producer `prod` sees them (R260, R261). -/
def State.otherFloors (s : State) (q prod : Nat) : List Nat :=
  (((s.queAt q).writers.filter (· != prod)).map (s.writerFloor q)) ++
    (if prod != 0x140 && s.get F.AXI_POS_STATE 0 != 0 then [s.axisFloor] else []) ++
    (if prod != 0x142 then [s.progress 0x142] else [])

/-- Whether waiting bundle `i` of queue `q` is placeable (R261). -/
def State.placeable (s : State) (q i : Nat) (b : Bundle) : Bool :=
  (s.otherFloors q b.producer).all (b.horizon ≤ ·) &&
    s.wait.zipIdx.all fun (x, j) => j == i || x.q != q || b.horizon ≤ x.floor

/-- Whether a bundle is that of a TIMEBASE_STEP EVENT, which comes directly after its EPOCH bundle (R237). -/
def Bundle.isStep (b : Bundle) : Bool :=
  b.producer == 0x142 && b.recs.any fun r => r.ev && bits (r.ws.headD 0).toNat 59 1 == 0 && bits (r.ws.headD 0).toNat 53 6 == 12

/-- The order among placeable bundles (R237, R261): horizon, floor, the system's producers with a TIMEBASE_STEP first,
producer. -/
def Bundle.before (a b : Bundle) : Bool :=
  let sys := fun (x : Bundle) => if x.isStep then 0 else if 0x140 ≤ x.producer && x.producer ≤ 0x142 then 1 else 2
  if a.horizon != b.horizon then a.horizon < b.horizon
  else if a.floor != b.floor then a.floor < b.floor
  else if sys a != sys b then sys a < sys b
  else a.producer < b.producer

/-- The first of a list of bundles in the order of R261, the earlier close on a tie. -/
def firstBundle : List (Bundle × Nat) → Option (Bundle × Nat)
  | [] => none
  | x :: xs => match firstBundle xs with
    | none => some x
    | some y => if y.1.before x.1 then some y else some x

/-- The EPOCH bundle that must come before bundle `b` in queue `q`, if one must (R272). -/
def State.epochFor (s : State) (q : Nat) (b : Bundle) : Option Bundle :=
  let x := s.queAt q
  let g := match (x.after.filter (· ≤ b.floor)).getLast?, x.epoch with
    | some g, _ => some g
    | none, some g => if b.horizon ≥ g + 2 ^ 45 then some (x.hor.getD b.floor) else none
    | none, none => some b.floor
  g.map fun g => { q := q, producer := 0x141, floor := g, horizon := g, openT := s.t64, openH := g, buf := false,
                   recs := [{ t := g, ws := [w64 (8 * 2 ^ 60 + (s.stamp g + 2 ^ 46 - 1) / 2 ^ 46 % 2 ^ 18)] }] }

/-- Waiting bundle `i` is placed, an EPOCH bundle before it where one is due (R263, R272). -/
def Work.placeAt (s : Work s₀) (q i : Nat) (b : Bundle) (hold : Bool) : Work s₀ :=
  let s := match s.st.epochFor q b with
    | none => s
    | some e =>
      let before := s.get F.QD_WR_CWR q
      let s := s.putBundle q e false
      s.when (s.get F.QD_WR_CWR q != before) fun s => s.modQue q fun x =>
        { x with epoch := some e.floor, after := x.after.filter (e.floor < ·) }
  let s := s.putBundle q b hold
  let s := match b.splitter with
    | some te => s.modQue q fun x => { x with evts := x.evts ++ [te] }
    | none => s
  (s.setWait (s.st.wait.eraseIdx i)).showPool

/-- The queue manager places the next placeable bundle of queue `q`, if there is one. -/
def Work.placeNext (s : Work s₀) (q : Nat) : Work s₀ :=
  let s := s.splitAll q
  let can := s.st.wait.zipIdx.filter fun (b, i) => b.q == q && s.st.placeable q i b
  match firstBundle can with
  | none => s
  | some (b, i) => s.placeAt q i b false

/-- BUNDLE_PLACE (R261 to R268, R272): the queue manager places the next placeable bundle of queue `q`. -/
def execBundlePlace (t q : Nat) (s : State) : Host.Outcome State Fault Refusal :=
  .next (((Work.start s).at t).placeNext q).st

/-- HOLD_EXP in force (Table QUE-7). -/
def State.holdExp (s : State) : Nat := max 20 (min 44 (s.get F.QUE_CTRL_HOLD_EXP 0))

/-- A bundle of queue `q` has awaited placement for 2^HOLD_EXP ticks and is placed whatever blocks it (R262). -/
def Work.placeHeld (s : Work s₀) (q : Nat) : Work s₀ :=
  let s := s.splitAll q
  let lim := 2 ^ s.st.holdExp
  match s.st.wait.filter (·.q == q) with
  | [] => s
  | b :: bs =>
    let s := s.at (leastOf b.closedT (bs.map (·.closedT)) + lim)
    let due := s.st.wait.zipIdx.filter fun (x, _) => x.q == q && x.closedT + lim ≤ s.now
    match firstBundle due with
    | none => s
    | some (x, i) => s.placeAt q i x true

/-- HOLD_EXPIRY (R262): a bundle of queue `q` has awaited placement too long. -/
def execHoldExpiry (q : Nat) (s : State) : Host.Outcome State Fault Refusal :=
  .next ((Work.start s).placeHeld q).st

/-- The bundle open longest has been open for 2^44 ticks and the queue manager closes it (R257). -/
def Work.forceOld (s : Work s₀) : Work s₀ :=
  match s.st.open_.filter (·.buf) with
  | [] => s
  | b :: bs =>
    let t := leastOf b.openT (bs.map (·.openT))
    match s.st.open_.find? fun x => x.buf && x.openT == t with
    | none => s
    | some x =>
      let s := (s.at (t + 2 ^ 44)).monEvt F.MON_EVT_POOL_FORCE
      s.closeThis x (s.st.progress x.producer) true

/-- BUNDLE_AGE_FORCE (R257): a bundle has been open for 2^44 ticks. -/
def execBundleAgeForce (s : State) : Host.Outcome State Fault Refusal :=
  .next (Work.start s).forceOld.st

/-- A free buffer goes to the producer that has waited longest (R257). -/
def Work.grant (s : Work s₀) : Work s₀ :=
  match s.st.waiters with
  | [] => s
  | p :: rest =>
    if s.st.poolUsed + s.st.granted.length < s.st.poolBufs then
      ((s.setWaiters rest).setGranted (s.st.granted ++ [p])).backFlush p
    else s

/-- BUFFER_GRANT (R257): a freed assembly buffer goes to a waiting producer, whose request stands until then. -/
def execBufferGrant (t : Nat) (s : State) : Host.Outcome State Fault Refusal :=
  .next ((Work.start s).at t).grant.st

/-! ## Pops and reads -/

/-- Release `n` words of queue `q` (R271). A crossing of LEVEL that the cycle began with and ends without does not count
(R270). -/
def Work.popWords (s : Work s₀) (q n : Nat) : Work s₀ :=
  let s := s.inCycle q n
  let s := s.put F.QD_RD_RD q ((s.get F.QD_RD_RD q + n) % 2 ^ (s.st.qk q + 1))
  let s := s.showQueue q
  let d := s.st.depth q
  let s := s.when (s.st.threshNow q && d < s.get F.QD_THR_LEVEL q) fun s => s.put F.QD_FLAGS_THRESH q 0
  (s.mu 0 q d).heQueueKey q 2 d

/-- The length of a record from its first two words; none where it cannot be known (R254 to R256). -/
def recLen (w0 w1 : Word) : Option Nat :=
  match bits w0.toNat 60 4 with
  | 0 | 1 | 8 => some 1
  | 2 | 6 | 7 | 9 => some 2
  | 3 | 4 | 5 => some 4
  | 10 => some (8 + 3 * (bits w1.toNat 12 13 / 4))
  | 11 => let n := bits w0.toNat 58 2
          some (if n = 0 then 4 else n)
  | _ => none

/-- The records of a bundle's body up to the first that cannot be read. -/
def recordsOf : Nat → List Word → List (List Word)
  | 0, _ => []
  | _, [] => []
  | fuel + 1, w :: ws =>
    match recLen w (ws.headD 0) with
    | none => []
    | some n => if ws.length + 1 < n then [] else (w :: ws).take n :: recordsOf fuel ((w :: ws).drop n)

/-- A bundle as a consumer in the engine reads it: its length, horizon, header and trailer, its words, those between
header and trailer up to a double-bit error, the records of these, and the store words that hold errors, in order, each
with whether the error is a double-bit one. -/
structure QBundle where
  len   : Nat
  hor   : Nat
  head  : Word
  trail : Word
  words : List Word
  body  : List Word
  recs  : List (List Word)
  errs  : List (Nat × Bool)
  deriving DecidableEq, Repr

/-- The word of queue `q` at index `i`. -/
def State.qWord (s : State) (q i : Nat) : Word := s.storeAt (s.qAddr q i)

/-- Whether a word is a bundle header that fits in `d` committed words (R271). -/
def headerLen (w : Word) (d : Nat) : Option Nat :=
  let n := bits w.toNat 44 12
  if bits w.toNat 56 8 = 0xF0 && 3 ≤ n && n ≤ d then some n else none

/-- The bundle of queue `q` that begins `ahead` words past RD: none where there is no committed word, `some none` where
the word there is no header (R271). Its records end at the first word with a double-bit error (R396). -/
def State.peek (s : State) (q ahead : Nat) : Option (Option QBundle) :=
  let d := s.depth q - ahead
  if d = 0 then none
  else
    let i := s.get F.QD_RD_RD q + ahead
    match headerLen (s.qWord q i) d with
    | none => some none
    | some n =>
      let ws := (List.range n).map fun j => s.qWord q (i + j)
      let bad := if s.ue.isEmpty then [] else (List.range n).filter fun j => s.ue.contains (s.qAddr q (i + j))
      let errs := if s.ue.isEmpty && s.ce.isEmpty then [] else ((List.range n).map fun j => s.qAddr q (i + j)).filterMap
        fun a => if s.ue.contains a then some (a, true) else if s.ce.contains a then some (a, false) else none
      let body := (ws.drop 2).take (n - 3)
      let good := match bad with | [] => body | j :: _ => body.take (j - 2)
      some (some { len := n, hor := (ws.getD 1 0).toNat, head := ws.getD 0 0, trail := ws.getD (n - 1) 0, words := ws,
                   body := good, recs := recordsOf n good, errs := errs })

/-- A consumer that meets a word that is no header takes nothing, and CFG_ERR is set (R271). -/
def Work.noHeader (s : Work s₀) (q : Nat) : Work s₀ := s.flag F.QD_CFG_CFG_ERR q

/-- Whether the word at RD of queue `q` is a bundle header (R271). -/
def State.headerAt (s : State) (q : Nat) : Bool :=
  (headerLen (s.qWord q (s.get F.QD_RD_RD q)) (s.depth q)).isSome

/-- A write to QD_RD by master `m` (R271): a software pop where the binding allows it, of any master or of K3 alone; K3
takes nothing where no header stands at RD. A pop is judged against the depth at the start of the cycle (R270). -/
def Work.wrQdRd (s : Work s₀) (m q rd : Nat) : Work s₀ :=
  let kind := s.get F.QD_MARK_CONS_KIND q
  if kind != 0 && !(kind == 6 && m == 19) then s.flag F.QD_CFG_CFG_ERR q
  else
    let n := s.st.qdiff q rd (s.get F.QD_RD_RD q)
    let (d0, p) := s.st.cycleStart q
    let d := d0 - p
    if d = 0 then s.put F.QD_FLAGS_POP_RESP q 1
    else if d < n then s.put F.QD_FLAGS_POP_RESP q 2
    else if kind = 6 && !s.st.headerAt q then s.noHeader q
    else (s.put F.QD_FLAGS_POP_RESP q 0).popWords q n

/-- POP (R271): a write to QD_RD of queue `q`. -/
def execPop (t m q rd : Nat) (s : State) : Host.Outcome State Fault Refusal :=
  .next (((Work.start s).at t).access m 8 (64 * q + 8) 85 true fun s => s.wrQdRd m q rd).st

/-- Whether queue `q` is bound to consumer `id` of a kind (Table QUE-4). -/
def State.boundTo (s : State) (q kind id : Nat) : Bool :=
  s.get F.QD_MARK_CONS_KIND q == kind && s.get F.QD_MARK_CONS_ID q == id

/-- The errors that reading a bundle meets (R395). -/
def Work.readErrors (s : Work s₀) (b : QBundle) : Work s₀ := s.each b.errs fun s (a, _) => s.storeMeet a

/-- The errors of a bundle that an engine discards the rest of (R396): those up to the first double-bit one are met, and
UE_DISC counts the bundle. -/
def Work.discardRest (s : Work s₀) (b : QBundle) : Work s₀ :=
  let s := s.each (b.errs.takeWhile fun e => !e.2) fun s (a, _) => s.storeMeet a
  match b.errs.find? (·.2) with
  | none => s
  | some (a, _) => (s.storeMeet a).count F.MON_ECC_CNT_UE_DISC 0

/-- T64 from a T47 field by the epoch point (R273). -/
def restore (p f : Nat) : Nat :=
  let lo := (p + 2 ^ 64 - 2 ^ 46) % 2 ^ 64
  (lo + (f + 2 ^ 47 - lo % 2 ^ 47) % 2 ^ 47) % 2 ^ 64

/-- The epoch point of a queue for a consumer that has met no EPOCH record: that of the last one committed. -/
def State.epochOf (s : State) (q : Nat) (ep : Option Nat) : Nat :=
  match ep with
  | some p => p
  | none => (s.stamp ((s.queAt q).epoch.getD 0) + 2 ^ 46 - 1) / 2 ^ 46 * 2 ^ 46

/-- The time that a record carries, restored (R172, Table FLT-1): START for MEAS, T_STEP for AXIS, T47 for the others
that carry one. -/
def carriedTime (p : Nat) (r : List Word) : Option Nat :=
  let w0 := (r.getD 0 0).toNat
  match bits w0 60 4 with
  | 3 | 7 => some (r.getD 1 0).toNat
  | 1 | 2 | 4 | 5 | 6 | 9 | 10 => some (restore p (bits w0 0 47))
  | _ => none

/-! ## EN, geometry and the pool -/

/-- Every bundle open in queue `q` or awaiting placement there is rewound (R251, R258). -/
def Work.rewindQueue (s : Work s₀) (q : Nat) : Work s₀ :=
  let n := ((s.st.open_ ++ s.st.wait).filter fun b => b.q == q && !b.dead).length
  let s := s.each ((s.st.open_.filter (·.q == q)).map (·.producer)) fun s p => s.notAwaited p q
  let s := s.setOpen_ (s.st.open_.filter fun b => b.q != q || b.dead)
  let s := s.setWait (s.st.wait.filter (·.q != q))
  (s.each (List.range n) fun s _ => s.abort q).showPool

/-- Whether the geometry in a QD_CFG word is allowed (R251). -/
def geometryOk (v : Word) : Bool :=
  let k := F.QD_CFG_SIZE_LOG2.of v
  let b := F.QD_CFG_BASE.of v
  6 ≤ k && k ≤ 26 && b % 2 ^ k == 0 && b + 2 ^ k ≤ 2 ^ 30

/-- Queue `q` becomes active: indices, events, NEXT_SEQ and the writer set start again (R251). -/
def Work.startQueue (s : Work s₀) (q : Nat) : Work s₀ :=
  let s := ((s.put F.QD_RD_RD q 0).put F.QD_WR_CWR q 0).put F.QD_WR_IWR q 0
  let s := (s.put F.QD_MARK_RWM q 0).put F.QD_MARK_WRITERS q 0
  let s := (s.put ⟨.QD_FLAGS, 4, 7⟩ q 0).put F.QD_THR_NEXT_SEQ q 0
  (s.setQue q {}).showQueue q

/-- A write of QD_CFG (R251). -/
def Work.wrQdCfg (s : Work s₀) (q : Nat) (v : Word) : Work s₀ :=
  let was := s.on F.QD_CFG_EN q
  let will := F.QD_CFG_EN.of v = 1
  let geo := fun (s : Work s₀) =>
    let s := s.modQue q fun x => { x with start := none }
    (s.put F.QD_CFG_BASE q (F.QD_CFG_BASE.of v)).put F.QD_CFG_SIZE_LOG2 q (F.QD_CFG_SIZE_LOG2.of v)
  let s := s.put F.QD_CFG_CFG_ERR q 0
  if was && will then
    let same := F.QD_CFG_BASE.of v == s.get F.QD_CFG_BASE q && F.QD_CFG_SIZE_LOG2.of v == s.get F.QD_CFG_SIZE_LOG2 q
    s.when (!same) fun s => s.flag F.QD_CFG_CFG_ERR q
  else if was then (geo ((s.rewindQueue q).put F.QD_CFG_EN q 0)).showQueue q
  else
    let s := (geo s).showQueue q
    if !will then s
    else if geometryOk v then (s.flag F.QD_CFG_EN q).startQueue q
    else s.flag F.QD_CFG_CFG_ERR q

/-- QUEUE_EN_SET (R251): a write of QD_CFG that takes EN from 0 to 1. -/
def execQueueEnSet (t m q : Nat) (v : Word) (s : State) : Host.Outcome State Fault Refusal :=
  .next (((Work.start s).at t).access m 8 (64 * q) 85 true fun s =>
    s.when (F.QD_CFG_EN.of v = 1) fun s => s.wrQdCfg q v).st

/-- QUEUE_EN_CLEAR (R251): a write of QD_CFG that takes EN from 1 to 0. -/
def execQueueEnClear (t m q : Nat) (v : Word) (s : State) : Host.Outcome State Fault Refusal :=
  .next (((Work.start s).at t).access m 8 (64 * q) 85 true fun s =>
    s.when (F.QD_CFG_EN.of v = 0) fun s => s.wrQdCfg q v).st

/-- A write of QD_MARK: the binding (Table QUE-4); a reserved kind sets CFG_ERR. -/
def Work.wrQdMark (s : Work s₀) (q : Nat) (v : Word) : Work s₀ :=
  let s := (s.put F.QD_MARK_CONS_KIND q (F.QD_MARK_CONS_KIND.of v)).put F.QD_MARK_CONS_ID q (F.QD_MARK_CONS_ID.of v)
  s.when (8 ≤ F.QD_MARK_CONS_KIND.of v) fun s => s.flag F.QD_CFG_CFG_ERR q

/-- A write of QUE_POOL: only while every queue has EN = 0 (Table QUE-7). -/
def Work.wrQuePool (s : Work s₀) (v : Word) : Work s₀ :=
  if s.st.activeQueues.isEmpty then s.wreg .QUE_POOL 0 (v &&& 0xFFFF3FFFFFFF) else s

end Sys2Proof.Machine
end

