-- ==== Sys2Proof/Machine/Merge.lean ====
section
/-!
DEFINITION. The block merge and the fast path (R159 to R166): which record a block takes next, and
the way of a record into the bundles of the fast path or into the intake of the block's weaver.
-/

namespace Sys2Proof.Machine

variable {s₀ : State}

/-- Change the merge of block `b`. -/
def Work.modMerge (s : Work s₀) (b : Nat) (f : MergeSt → MergeSt) : Work s₀ := s.setMerge b (f (s.merge b))

/-- Change weaver `w`. -/
def Work.modWeav (s : Work s₀) (w : Nat) (f : WeavSt → WeavSt) : Work s₀ := s.setWeav w (f (s.weav w))

/-! ## Weaver status -/

/-- WSTAT shows slots, intake, open bundles and signals of weaver `w` (Table WEA-10). -/
def Work.showWeav (s : Work s₀) (w : Nat) : Work s₀ :=
  let x := s.weav w
  let busy := (x.slots.zipIdx.map fun (o, i) => b2n o.isSome * 2 ^ i).foldl (· + ·) 0
  let s := (s.put F.WEA_WSTAT_BUSY_SLOTS w busy).put F.WEA_WSTAT_INTAKE w (min 80 (x.intake.length + x.feed.length))
  let s := s.put F.WEA_WSTAT_OPEN w ((s.st.open_.filter (·.producer == 0x20 + w)).length)
  s.put F.WEA_WSTAT_SIG_PEND w x.sigs.length

/-- A record in the form in which a weaver takes it (R168, R172). -/
def weavRec (r : Rec) (hor seq : Nat) : WRec :=
  { kind := 0, h := (r.ws ++ [0, 0, 0, 0]).take 4, words := r.ws.length, lane := r.lane, close := r.close, input := 0,
    time := r.t, hor := hor, seq := seq, src := r }

/-- A record enters the intake of block weaver `b` (R166). -/
def Work.intake (s : Work s₀) (b : Nat) (r : Rec) (hor : Nat) : Work s₀ :=
  (s.modWeav b fun x => { x with intake := x.intake ++ [weavRec r hor x.seq], seq := x.seq + 1 }).showWeav b

/-! ## The fast path (R162, R163) -/

/-- The class of a record under a lane map (R162): none for those that go to every queue of the map. -/
def recClass (w : Word) : Option Nat :=
  match bits w.toNat 60 4 with
  | 1 | 2 => some 0
  | 3 => some 1
  | 4 => some 2
  | 5 => some 3
  | _ => none

/-- The lanes of block `b` in a mask of positions. -/
def maskLanes (b mask : Nat) : List Nat := (lanesOf b).filter fun n => bit mask (n % 16)

/-- A list without repeats, first occurrences kept. -/
def distinct : List Nat → List Nat
  | [] => []
  | x :: xs => x :: (distinct xs).filter (· != x)

/-- The queues to which the fast path sends a record of block `b`. -/
def State.recQueues (s : State) (b : Nat) (r : Rec) : List Nat :=
  match r.dest with
  | some qs => qs
  | none =>
    match r.lane with
    | some n => s.mapped n (recClass (r.ws.headD 0))
    | none => distinct ((maskLanes b r.mask).flatMap fun n => s.mapped n none)

/-- The fast path of block `b` writes a record into queues; while no buffer is free for one of them the record waits,
and the merge with it (R257). -/
def Work.deliver (s : Work s₀) (b : Nat) (r : Rec) (hor : Nat) : List Nat → Work s₀
  | [] => s
  | q :: qs =>
    let s := if r.close then s.close b q r.t else s
    let m := s.st.fpMax b
    if s.st.needsNew b q m r.ws.length && !s.st.canOpen b q then
      (s.forceClose b).modMerge b fun x => { x with fb := { r with dest := some (q :: qs) } :: x.fb }
    else (s.fpAppend b q m hor r).deliver b r hor qs

/-! ## Taking a record -/

/-- Whether a ward-sourced AXIS record may enter the merge of block `b` (R161): not while a weaver of one of its lanes
is stopping (R193). -/
def State.axisReady (s : State) (b : Nat) (r : Rec) : Bool :=
  let x := s.weavAt b
  !(x.stop && r.mask &&& F.WEA_WCFG_WMASK.of x.cfg != 0) && (maskLanes b r.mask).all fun n =>
    let c := s.capAt n
    decide (r.t + s.holdTime n ≤ s.t64) && (c.held.all fun h => r.t ≤ h.r.t) && c.buf.all (r.t ≤ ·.t) &&
      c.drop.all (r.t ≤ ·.2.1) && (s.cntAt n).wait.all (r.t ≤ CntIn.at ·) && (s.gateActs n).all (r.t ≤ ·)

/-- Whether lane `n` waits: a weaver that is stopping still has its earlier records (R193), or an AXIS record comes
first, formed or not yet (R149, R161). -/
def State.laneWaits (s : State) (b n : Nat) (r : Rec) : Bool :=
  let x := s.weavAt b
  (x.stop && bit (F.WEA_WCFG_WMASK.of x.cfg) (n % 16)) ||
    (s.mergeAt b).evs.any (fun e => bit e.mask (n % 16) && e.t ≤ r.t) || (s.axisActs n).any (· ≤ r.t)

/-- The DROP EVENT of lane `n`'s lost records, unless the next record of its buffer comes before them (R160). -/
def State.dropDue (s : State) (n : Nat) (next : Option Rec) : Option Rec :=
  match (s.capAt n).drop with
  | none => none
  | some (k, a, z) =>
    if next.any (·.t < a) then none
    else some (laneEvent n 6 a (s.stamp a) (w64 (min k (2 ^ 32 - 1) * 2 ^ 32 + min ((z - a + 1023) / 1024) (2 ^ 32 - 1))))

/-- What lane `n` offers to the merge: its next record, or the DROP EVENT of lost ones once no record timed before the
first of them stands in the buffer (R160, R161), and whether it is that. -/
def State.laneOffer (s : State) (b n : Nat) : Option (Rec × Bool) :=
  let next := (s.capAt n).buf.head?
  match s.dropDue n next, next with
  | some e, _ => if s.laneWaits b n e then none else some (e, true)
  | none, some r => if s.laneWaits b n r then none else some (r, false)
  | none, none => none

/-- A record of lane `n` that the merge has taken goes to the weaver or to the fast path (R164, R166). -/
def Work.laneRoute (s : Work s₀) (b n : Nat) (r : Rec) (hor : Nat) : Work s₀ :=
  if s.st.weaved n then
    if (s.weav b).intake.length < (if r.ev then 80 else 64) then s.intake b r hor
    else s.dropRec n r
  else s.deliver b r hor (s.st.recQueues b r)

/-- The merge takes what lane `n` offers; an EVENT that finds no place in the intake stays (R166). -/
def Work.laneTake (s : Work s₀) (b n : Nat) (r : Rec) (drop : Bool) (hor : Nat) : Work s₀ :=
  if r.ev && s.st.weaved n && 80 ≤ (s.weav b).intake.length then s
  else
    let s := if drop then s.modCap n fun c => { c with drop := none }
      else s.modCap n fun c => { c with buf := c.buf.drop 1 }
    (s.modMerge b fun x => { x with rr := n % 16 }).laneRoute b n r hor

/-- A ward-sourced AXIS record enters the merge: once to the weaver where it weaves a lane of the group, and into the
queues of the group's other lanes (R157, R165). -/
def Work.axisTake (s : Work s₀) (b : Nat) (r : Rec) (hor : Nat) : Work s₀ :=
  let ls := maskLanes b r.mask
  let weav := ls.any s.st.weaved
  if weav && 80 ≤ (s.weav b).intake.length then s
  else
    let s := s.modMerge b fun x => { x with evs := x.evs.erase r }
    let s := s.when weav fun s => s.intake b r (if r.close then r.t else hor)
    s.deliver b r hor (distinct ((ls.filter fun n => !s.st.weaved n).flatMap fun n => s.st.mapped n none))

/-- The merge of block `b` takes one record (R159, R161). -/
def Work.mergeTake (s : Work s₀) (b : Nat) : Work s₀ :=
  let s := s.each ((List.range 16).map (16 * (b / 4) + ·)) fun s p => s.when (s.st.pair.any (·.1 == p)) fun s => s.pairDrain p
  let hor := s.st.mergeHor b
  let s := (s.setProg b hor).cutAt b hor
  match (s.merge b).fb with
  | r :: rest => (s.modMerge b fun x => { x with fb := rest }).deliver b r hor (s.st.recQueues b r)
  | [] =>
    let s := match (s.merge b).shut with
      | some t => (s.modMerge b fun x => { x with shut := none }).closeAll b t
      | none => s
    let order := (List.range 16).map fun i => 16 * b + ((s.merge b).rr + 1 + i) % 16
    let offers := order.filterMap fun n => (s.st.laneOffer b n).map fun o => (n, o)
    let axis := (s.merge b).evs.filter (s.st.axisReady b)
    -- R166: an EVENT or AXIS record that finds the intake full holds up every other word
    let stuck := 80 ≤ (s.weav b).intake.length &&
      (offers.any (fun (n, r, _) => r.ev && s.st.weaved n) || axis.any fun r => (maskLanes b r.mask).any s.st.weaved)
    if stuck then s
    else match axis with
      | r :: _ => s.axisTake b r hor
      | [] =>
        match (offers.find? fun (_, r, _) => r.ev).or offers.head? with
        | some (n, r, d) => s.laneTake b n r d hor
        | none => s

/-- BLOCK_MERGE_TAKE (R159): the merge of block `b` takes the next record and routes it. While it waits for an assembly
buffer that it has not been granted, it takes nothing. -/
def execBlockMergeTake (t b : Nat) (s : State) : Host.Outcome State Fault Refusal :=
  .next (((Work.start s).at t).mergeTake b).st

/-- A FLUSH_EXP field in force: none where it is off (R182). -/
def flushExp (e : Nat) : Option Nat := if e = 0 then none else some (max 13 (min 47 e))

/-- A producer's bundle in a queue closes once `hor` has advanced by more than 2^e since it opened (R163, R182). -/
def Work.flush (s : Work s₀) (prod q hor : Nat) (e : Option Nat) : Work s₀ :=
  let s := s.cutAt prod hor
  match e, s.st.openOf prod q with
  | some e, some b => if b.openH + 2 ^ e < hor then s.closeThis b hor else s
  | _, _ => s

/-- FAST_PATH_FLUSH (R163): the fast path of block `b` closes its bundle in queue `q` once the merge horizon has
advanced past FP_FLUSH_EXP. -/
def execFastPathFlush (t b q : Nat) (s : State) : Host.Outcome State Fault Refusal :=
  let s := (Work.start s).at t
  let hor := s.st.mergeHor b
  .next ((s.setProg b hor).flush b q hor (flushExp (s.get F.WEA_FPCFG_FP_FLUSH_EXP b))).st

end Sys2Proof.Machine
end

