-- ==== Sys2Proof/Machine/Position.lean ====
section
/-!
DEFINITION. The position of the axis at a time (R137): the words of AXI_POS layout that the axis unit keeps for past
steps and changes of state.
-/

namespace Sys2Proof.Machine

/-- pos(t) (R137, R172): TURN, SLOT and STATE of the last step or change of state at or before `t`. -/
def State.posAt (s : State) (t : Nat) : Word :=
  match s.axis.hist.find? fun p => p.1 ≤ t with
  | some (_, w) => w
  | none => 0

end Sys2Proof.Machine
end

