-- ==== Sys2Proof/Machine/WeaverOps.lean ====
section
/-!
DEFINITION. Weavers (R164 to R194), apart from the instructions themselves: registers, which word is legal, faults and
fallback, emissions and retirement, signals, the inputs of plaza weavers, and starting and stopping. Weavers 0 to 31 are
BW0 to BW31, 32 to 39 are PW0 to PW7.
-/

namespace Sys2Proof.Machine

variable {s₀ : State}

/-- The producer ID of weaver `w` (R18). -/
def weavProducer (w : Nat) : Nat := 0x20 + w

/-- The master ID of weaver `w` (R183). -/
def weavMaster (w : Nat) : Nat := 20 + w

/-- The area of weaver `w` in the WEA region (Table WEA-7). -/
def weavArea (w : Nat) : Nat := if w < 32 then w * 0x4000 else 0x80000 + (w - 32) * 0x4000

/-- The power domain of weaver `w`'s registers. -/
def weavPd (w : Nat) : Nat := if w < 32 then pdLogic (w / 4) else 85

/-- Whether weaver `w` is absent (R2). -/
def State.weavAbsent (s : State) (w : Nat) : Bool := s.small && (16 ≤ w && w < 32)

/-! ## Registers of a record in hand (R168) -/

/-- Register `r` of a slot: g0 reads 0; g1 to g7; g8 to g15 shared; h0 to h3. -/
def WSlot.get (x : WSlot) (shared : List Word) (r : Nat) : Word :=
  if r = 0 then 0
  else if r < 8 then x.g.getD (r - 1) 0
  else if r < 16 then shared.getD (r - 8) 0
  else x.h.getD (r - 16) 0

/-- Slot `sl` of weaver `w`. -/
def State.slotOf (s : State) (w sl : Nat) : Option WSlot := ((s.weavAt w).slots[sl]?).join

/-- Change slot `sl` of weaver `w`. -/
def Work.modSlot (s : Work s₀) (w sl : Nat) (f : WSlot → WSlot) : Work s₀ :=
  s.modWeav w fun x => { x with slots := x.slots.modify sl (Option.map f) }

/-- Write register `r` from slot `sl`; writes to g0 are discarded. -/
def Work.wput (s : Work s₀) (w sl r : Nat) (v : Word) : Work s₀ :=
  if r = 0 then s
  else if r < 8 then s.modSlot w sl fun x => { x with g := x.g.set (r - 1) v }
  else if r < 16 then s.modWeav w fun x => { x with shared := x.shared.set (r - 8) v }
  else s.modSlot w sl fun x => { x with h := x.h.set (r - 16) v }

/-- The instruction in slot `sl` has executed: it counts, and the program goes on at `pc`. -/
def Work.wnext (s : Work s₀) (w sl pc : Nat) : Work s₀ :=
  s.modSlot w sl fun x => { x with count := x.count + 1, pc := pc }

/-- The program in slot `sl` ends (R169). -/
def Work.wend (s : Work s₀) (w sl : Nat) (drop : Bool) : Work s₀ :=
  s.modSlot w sl fun x => { x with count := x.count + 1, ended := true, dropd := drop }

/-- The local word `a` of weaver `w`. -/
def State.localWord (s : State) (w a : Nat) : Word := s.reg .WEA_LOCAL (512 * w + a % 512)

/-! ## Which words are legal (R175) -/

/-- The operations of Table WEA-4. -/
inductive WOp where
  | add | sub | and | or | xor | shl | shr | sar | mul | minu | maxu | sltu | slt | seq
  | addi | andi | ori | xori | shli | shri | sari | ldih | ext | exts | ins
  | beq | bne | bltu | bgeu | blt | bge | bbs | bbc | j | beqi | bnei
  | ld | st | lut | rds | rdl | emit | emiti | drop | yield | signal
  deriving DecidableEq, Repr

/-- The operations of op 0x01 by func. -/
def rOps : List WOp :=
  [.add, .sub, .and, .or, .xor, .shl, .shr, .sar, .mul, .minu, .maxu, .sltu, .slt, .seq]

/-- The operation of an instruction word, if its op and func name one. -/
def wop (i : Nat) : Option WOp :=
  match bits i 26 6 with
  | 0x01 => rOps[bits i 0 5]?
  | 0x02 => some .addi
  | 0x03 => some .andi
  | 0x04 => some .ori
  | 0x05 => some .xori
  | 0x06 => some .shli
  | 0x07 => some .shri
  | 0x08 => some .sari
  | 0x09 => some .ldih
  | 0x0A => some .ext
  | 0x0B => some .exts
  | 0x0C => some .ins
  | 0x10 => some .beq
  | 0x11 => some .bne
  | 0x12 => some .bltu
  | 0x13 => some .bgeu
  | 0x14 => some .blt
  | 0x15 => some .bge
  | 0x16 => some .bbs
  | 0x17 => some .bbc
  | 0x18 => some .j
  | 0x19 => some .beqi
  | 0x1A => some .bnei
  | 0x24 => some .ld
  | 0x25 => some .st
  | 0x26 => some .lut
  | 0x28 => some .rds
  | 0x29 => some .rdl
  | 0x30 => some .emit
  | 0x31 => some .emiti
  | 0x3C => some .drop
  | 0x3D => some .yield
  | 0x3E => some .signal
  | _ => none

/-- Fields of an instruction word (Table WEA-3). -/
def fRd (i : Nat) : Nat := bits i 21 5
def fRa (i : Nat) : Nat := bits i 16 5
def fRb (i : Nat) : Nat := bits i 11 5
def fImm (i : Nat) : Nat := bits i 0 16

/-- The registers that an instruction reads or writes. -/
def wregs (o : WOp) (i : Nat) : List Nat :=
  match o with
  | .add | .sub | .and | .or | .xor | .shl | .shr | .sar | .mul | .minu | .maxu | .sltu | .slt | .seq =>
    [fRd i, fRa i, fRb i]
  | .ldih | .bbs | .bbc | .beqi | .bnei | .emit => [fRd i]
  | .j | .emiti | .drop | .yield => []
  | _ => [fRd i, fRa i]

/-- Whether the fields that the formats give as 0 are 0, and the fields in range (R175). -/
def wfields (o : WOp) (i : Nat) : Bool :=
  match o with
  | .add | .sub | .and | .or | .xor | .shl | .shr | .sar | .mul | .minu | .maxu | .sltu | .slt | .seq => bits i 5 6 == 0
  | .shli | .shri | .sari => bits i 6 10 == 0
  | .ldih => bits i 18 3 == 0
  | .ext | .exts | .ins => bits i 12 4 == 0 && bits i 0 6 + bits i 6 6 + 1 ≤ 64
  | .j => bits i 10 16 == 0
  | .lut => bits i 3 13 == 0
  | .rds => bits i 4 12 == 0 && fRa i == 0 && bits i 0 4 ≤ 5
  | .rdl => bits i 4 12 == 0 && bits i 0 4 ≤ 3
  | .emit => bits i 0 15 == 0
  | .emiti => bits i 16 3 == 0
  | .drop | .yield => bits i 0 26 == 0
  | .signal => bits i 4 22 == 0
  | _ => true

/-- The operation of a word that is not ILLEGAL in itself. -/
def wdecode (i : Nat) : Option WOp :=
  match wop i with
  | some o => if (wregs o i).all (· ≤ 19) && wfields o i then some o else none
  | none => none

/-- Whether an instruction touches what records share (R167). -/
def wshares (o : WOp) (i : Nat) : Bool :=
  (wregs o i).any (fun r => 8 ≤ r && r < 16) || o == .ld || o == .st || o == .lut

/-! ## Order of records (R167) -/

/-- Whether every record before that of slot `sl` has retired. -/
def State.oldest (s : State) (w sl : Nat) : Bool :=
  match s.slotOf w sl with
  | none => false
  | some x => (s.weavAt w).slots.all fun o => match o with | some y => x.r.seq ≤ y.r.seq | none => true

/-- Put a record among others in intake order. -/
def seqInsert (r : WRec) : List WRec → List WRec
  | [] => [r]
  | x :: xs => if r.seq < x.seq then r :: x :: xs else x :: seqInsert r xs

/-- The records not yet retired, in intake order. -/
def WeavSt.unretired (x : WeavSt) : List WRec :=
  ((x.slots.filterMap id).map (·.r)).foldr seqInsert [] ++ x.intake ++ x.feed

/-! ## Writes while records are in hand (R194) -/

/-- A write to a word of local data, or of WEA_TD (`td`), of weaver `w`: between two records in intake order, so that
it waits for the end of the first record in hand, if there is one. -/
def Work.weavWord (s : Work s₀) (w : Nat) (td : Bool) (i : Nat) (v : Word) : Work s₀ :=
  if (s.weav w).slots.any (·.isSome) then s.modWeav w fun x => { x with writes := x.writes ++ [(td, i, v)] }
  else s.wreg (if td then .WEA_TD else .WEA_LOCAL) i v

/-- A record of weaver `w` has ended: the writes that waited take effect. -/
def Work.weavWrites (s : Work s₀) (w : Nat) : Work s₀ :=
  let ws := (s.weav w).writes
  (s.modWeav w fun x => { x with writes := [] }).each ws fun s (td, i, v) => s.wreg (if td then .WEA_TD else .WEA_LOCAL) i v

/-! ## Faults (R189 to R191) -/

/-- The queues to which the weave-mask lanes of block weaver `b` are mapped. -/
def State.weaveQueues (s : State) (b : Nat) : List Nat :=
  distinct ((maskLanes b (F.WEA_WCFG_WMASK.of (s.weavAt b).cfg)).flatMap fun n => s.mapped n none)

/-- A record that passes from weaver `b` to the fast path (R189): an AXIS record goes only to the queues of the lanes
that were weaved, since the fast path has written the others. -/
def State.fallRec (s : State) (b : Nat) (r : WRec) : Option Rec :=
  if r.kind != 0 then none
  else match r.lane with
    | some _ => some r.src
    | none =>
      let ls := maskLanes b (r.src.mask &&& F.WEA_WCFG_WMASK.of (s.weavAt b).cfg)
      some { r.src with dest := some (distinct (ls.flatMap fun n => s.mapped n none)) }

/-- Pending signals are discarded (R185). -/
def Work.loseSignals (s : Work s₀) (w : Nat) : Work s₀ :=
  if (s.weav w).sigs.isEmpty then s
  else (s.modWeav w fun x => { x with sigs := [] }).flag F.WEA_WEVT_SIG_LOST w

/-- What a plaza weaver's fault leaves (R191): input bundles not released are to be copied again from RD. -/
def Work.plazaFallback (s : Work s₀) (w : Nat) : Work s₀ :=
  s.modWeav w fun x =>
    { x with feed := [], ends := [], unrel := [], taken := x.rel, ended := x.rel, ahead := List.replicate 8 0 }

/-- Weaver `w` faults in slot `sl` (Timeline WEA-1, R189 to R191): 1 ILLEGAL, 2 BUDGET, 3 ACCESS, 4 BUNDLE_LEN. -/
def Work.weavFault (s : Work s₀) (w sl cause pc q : Nat) : Work s₀ :=
  match s.st.slotOf w sl with
  | none => s
  | some y =>
    let word := (s.reg .WEA_PROG (1024 * w + pc % 1024)).toNat % 2 ^ 32
    let s := s.wreg .WEA_WFAULT w (w64 (cause + pc % 1024 * 8 + sl % 4 * 2 ^ 13 + q % 2 ^ 16 * 2 ^ 16 + word * 2 ^ 32))
    -- a plaza weaver's records carry their times; its bundles' floors are in the present scale
    let tm := if w < 32 then y.r.time else s.st.unstamp y.r.time
    let cause_t := if w < 32 then s.st.stamp tm else y.r.time
    let s := s.wreg .WEA_WFTIME w (w64 cause_t)
    let s := ((s.put F.WEA_WSTAT_FAULTED w 1).put F.WEA_WSTAT_RUNNING w 0).put F.WEA_WCTRL_RUN w 0
    let s := (s.count F.WEA_WCNT1_FAULT_CNT w).flag F.WEA_WEVT_FAULT w
    let prod := weavProducer w
    let mine := s.st.open_.filter (·.producer == prod)
    let from_ := leastOf tm (mine.map (·.floor))
    let lost := (mine.map fun b => b.len - 1).foldl (· + ·) 0
    let back := min ((tm - from_ + 511) / 512) (2 ^ 35 - 1)
    let w1 := w64 (cause * 2 ^ 61 + pc % 1024 * 2 ^ 51 + min lost (2 ^ 16 - 1) * 2 ^ 35 + back)
    let ev := { genEvent 16 w cause_t w1 with t := tm }
    let rest := (s.weav w).unretired
    let s := (s.rewindOpen prod).dropWriter prod
    let s := s.setWaiters (s.st.waiters.filter (· != prod))
    let s := (s.setGranted (s.st.granted.filter (· != prod))).loseSignals w
    let s := (s.modWeav w fun x => { x with intake := [], slots := [none, none, none, none], stop := false }).weavWrites w
    let s :=
      if w < 32 then
        let qs := distinct (s.st.weaveQueues w ++ mine.map (·.q))
        let recs := { ev with dest := some qs } :: rest.filterMap (s.st.fallRec w)
        (s.modMerge w fun x => { x with fb := x.fb ++ recs }).put F.WEA_WSTAT_FALLBACK w 1
      else
        let fb := s.on F.WEA_PCFG_FB_EN w
        let qs := distinct (mine.map (·.q) ++ if fb then [s.get F.WEA_PCFG_FB_Q w] else [])
        -- in FB_Q the EVENT's horizon leaves the copies of the bundles not released theirs
        let copied := leastOf ev.t ((s.st.pins (w - 32)).map fun i => (optAt (s.weav w).rel i).getD 0)
        let s := s.each qs fun s q =>
          s.ownBundle prod q (if fb && q = s.get F.WEA_PCFG_FB_Q w then copied else ev.t) [ev] false
        let s := s.plazaFallback w
        s.when fb fun s => s.put F.WEA_WSTAT_FALLBACK w 1
    s.showWeav w

/-! ## Emissions (R176 to R184) -/

/-- BMAX in force of weaver `w` (R181). -/
def State.weavMax (s : State) (w : Nat) : Nat := max 3 (F.WEA_WCFG_BMAX.of (s.weavAt w).cfg)

/-- Whether AUTO_SPLIT is in force. -/
def State.autoSplit (s : State) (w : Nat) : Bool := F.WEA_WCFG_AUTO_SPLIT.of (s.weavAt w).cfg == 1

/-- The lengths of the open bundles of weaver `w`, least recently appended first, after one more emission; none where
it would be too long for BMAX (R178, R180, R181). -/
def emitLen (bmax : Nat) (ls : List (Nat × Nat)) (e : Emission) : Option (List (Nat × Nat)) :=
  let n := e.ws.length
  let ls := if e.o then ls.filter (·.1 != e.q) else ls
  let res :=
    if n = 0 then some ls
    else match ls.find? (·.1 == e.q) with
      | some (_, l) => if bmax < l + n then none else some (ls.filter (·.1 != e.q) ++ [(e.q, l + n)])
      | none => if bmax < 3 + n then none else some ((if 8 ≤ ls.length then ls.drop 1 else ls) ++ [(e.q, 3 + n)])
  res.map fun ls => if e.c then ls.filter (·.1 != e.q) else ls

/-- Whether an emission of slot `x` is too long (R181). -/
def State.tooLong (s : State) (w : Nat) (x : WSlot) (es : List Emission) : Option Nat :=
  let start := (s.open_.filter (·.producer == weavProducer w)).map fun b => (b.q, b.len)
  let go := fun (acc : Option (List (Nat × Nat)) × Option Nat) (e : Emission) =>
    match acc with
    | (some ls, none) => match emitLen (s.weavMax w) ls e with
      | some ls => (some ls, none)
      | none => (none, some e.q)
    | other => other
  ((x.emits ++ es).foldl go (some start, none)).2

/-- The words that an emission sends, or none where it is ILLEGAL (R176). -/
def emitWords (x : WSlot) (n : Nat) : Option (List Word) :=
  if n = 0 then some []
  else if n = 5 || n = 6 || (n = 7 && x.r.kind != 0) then none
  else
    let k := if n = 7 then x.r.words else n
    let h0 := x.h.getD 0 0
    let ty := bits h0.toNat 60 4
    if ty = 8 || 12 ≤ ty || ty = 10 then none
    else if recLen h0 0 = some k then some (x.h.take k) else none

/-- An EMIT or EMITI of slot `sl` at its place in the program: to queues `qs`, ending the program with `e` (R176 to
R183). Emissions wait for the record's retirement. -/
def Work.emitTo (s : Work s₀) (w sl : Nat) (x : WSlot) (qs : List Nat) (n : Nat) (o c e : Bool) : Work s₀ :=
  let old := s.st.oldest w sl
  match emitWords x n with
  | none => if old then s.weavFault w sl 1 x.pc 0 else s
  | some ws =>
    let deny := qs.find? fun q => !s.st.grants (weavMaster w) (20 + q / 512) (q % 512) true
    match deny with
    | some q =>
      if old then (s.violation (weavMaster w) (20 + q / 512) (q % 512) true).weavFault w sl 3 x.pc q else s
    | none =>
      let es := qs.map fun q => { q := q, ws := ws, o := o, c := c : Emission }
      if !s.st.autoSplit w && !old then s
      else match (if s.st.autoSplit w then none else s.st.tooLong w x es) with
        | some q => s.weavFault w sl 4 x.pc q
        | none =>
          let s := s.modSlot w sl fun x => { x with emits := x.emits ++ es }
          if e then s.wend w sl false else s.wnext w sl (x.pc + 1)

/-- Weaver `w` opens a bundle in queue `q`, first closing its least recently appended one where eight are open (R178,
R180). -/
def Work.weavOpen (s : Work s₀) (w q hor : Nat) : Work s₀ :=
  let prod := weavProducer w
  let mine := s.st.open_.filter (·.producer == prod)
  let s := match mine with
    | b :: _ => if 8 ≤ mine.length then ((s.closeThis b hor).count F.WEA_WCNT1_EVICT_CNT w).flag F.WEA_WEVT_EVICT w else s
    | [] => s
  s.openNew prod q (s.st.progress prod)

/-- An emission enters its queue, with `hor` the merge horizon at the record in hand (R178 to R181). -/
def Work.emission (s : Work s₀) (w hor : Nat) (e : Emission) : Work s₀ :=
  let prod := weavProducer w
  let n := e.ws.length
  let s := s.when e.o fun s => s.close prod e.q hor
  let s :=
    if n = 0 then s
    else
      let long := match s.st.openOf prod e.q with
        | some b => decide (s.st.weavMax w < b.len + n)
        | none => decide (s.st.weavMax w < 3 + n)
      let s := s.when long fun s => (s.close prod e.q (s.st.weavHor w)).flag F.WEA_WEVT_SPLIT w
      let s := if (s.st.openOf prod e.q).isNone then s.weavOpen w e.q hor else s
      let s := s.append prod e.q { t := bits (e.ws.headD 0).toNat 0 47, ws := e.ws }
      let s := s.wrap F.WEA_WCNT1_EMIT_WORDS w n
      if s.st.weavMax w < 3 + n then s.close prod e.q (s.st.weavHor w) else s
  s.when e.c fun s => s.close prod e.q hor

/-- Whether an emission must wait for an assembly buffer (R257). -/
def State.emitWaits (s : State) (w : Nat) (e : Emission) : Bool :=
  let prod := weavProducer w
  let new := match s.openOf prod e.q with
    | some b => e.o || decide (s.weavMax w < b.len + e.ws.length)
    | none => true
  !e.ws.isEmpty && new && !s.canOpen prod e.q

/-- The emissions of the record in slot `sl` enter their queues in program order; one that must wait stays, and those
after it. Answers whether all have entered. -/
def Work.emitAll (s : Work s₀) (w sl hor : Nat) : List Emission → Work s₀ × Bool
  | [] => (s, true)
  | e :: es =>
    if s.st.emitWaits w e then
      let s := s.when e.o fun s => s.close (weavProducer w) e.q hor
      ((s.forceClose (weavProducer w)).modSlot w sl fun x => { x with emits := { e with o := false } :: es }, false)
    else (s.emission w hor e).emitAll w sl hor es

/-- Every open bundle of weaver `w` that is past FLUSH_EXP closes (R182). -/
def Work.weavFlush (s : Work s₀) (w : Nat) : Work s₀ :=
  let prod := weavProducer w
  let e := flushExp (F.WEA_WCFG_FLUSH_EXP.of (s.weav w).cfg)
  s.each ((s.st.open_.filter (·.producer == prod)).map (·.q)) fun s q => s.flush prod q (s.st.weavHor w) e

/-- The oldest record in hand of weaver `w` retires, if its program has ended (R167). -/
def Work.retire (s : Work s₀) (w : Nat) : Work s₀ :=
  match (List.range 4).find? (s.st.oldest w) with
  | none => s
  | some sl =>
    match s.st.slotOf w sl with
    | none => s
    | some x =>
      if !x.ended then s
      else
        let s := if w < 32 then s.cutAt (weavProducer w) x.r.time else s
        let (s, done) := s.emitAll w sl x.r.hor x.emits
        if !done then s.showWeav w
        else
          let s := s.when (x.r.kind == 0) fun s => s.wrap F.WEA_WCNT0_REC_CNT w
          let s := s.when x.dropd fun s => s.count F.WEA_WCNT0_PDROP_CNT w
          let s := (s.modWeav w fun y => { y with slots := y.slots.set sl none }).weavWrites w
          (s.weavFlush w).showWeav w

/-- WEAVER_RETIRE (R167): the next record of weaver `w` in intake order retires. -/
def execWeaverRetire (w : Nat) (s : State) : Host.Outcome State Fault Refusal :=
  .next ((Work.start s).retire w).st

/-- WEAVER_FLUSH (R182): the bundle of weaver `w` in queue `q` closes once the merge horizon has advanced past
FLUSH_EXP. -/
def execWeaverFlush (t w q : Nat) (s : State) : Host.Outcome State Fault Refusal :=
  let s := (Work.start s).at t
  let s := s.when (w < 32) fun s => s.setProg w (s.st.mergeHor w)
  .next ((s.flush (weavProducer w) q (s.st.weavHor w) (flushExp (F.WEA_WCFG_FLUSH_EXP.of (s.weav w).cfg))).showWeav w).st

/-! ## Loading, and signals -/

/-- A plaza weaver's records move into its intake while it has room. -/
def WeavSt.refill (x : WeavSt) : WeavSt :=
  let k := 64 - x.intake.length
  { x with intake := x.intake ++ x.feed.take k, feed := x.feed.drop k }

/-- A record leaves the intake for slot `sl`; its program starts (R167 to R169). -/
def Work.loadSlot (s : Work s₀) (w sl : Nat) (r : WRec) (rest : List WRec) : Work s₀ :=
  let e := (s.weav w).entry
  let pc := match r.kind with
    | 0 => F.WEA_WENTRY_REC_PC.of e
    | 1 => F.WEA_WENTRY_SIG_PC.of e
    | _ => F.WEA_WENTRY_BEND_PC.of e
  let y : WSlot := { r := r, pc := pc, g := List.replicate 7 0, h := r.h, count := 0, emits := [], ended := false }
  (s.modWeav w fun x => ({ x with intake := rest, slots := x.slots.set sl (some y) } : WeavSt).refill).showWeav w

/-- WEAVER_RECORD_LOAD (R167): the first record of the intake of weaver `w` takes a free slot. -/
def execWeaverRecordLoad (w : Nat) (s : State) : Host.Outcome State Fault Refusal :=
  let s := Work.start s
  .next ((match (s.weav w).intake, (List.range 4).find? (fun i => (s.st.slotOf w i).isNone) with
    | r :: rest, some sl => s.loadSlot w sl r rest
    | _, _ => s : Work _)).st

/-- A WEAVER_SIGNAL stake action reaches weaver `w` at `ts` (R148, R185). -/
def Work.weavSignal (s : Work s₀) (w arg ts : Nat) : Work s₀ :=
  let x := s.weav w
  if !s.on F.WEA_WSTAT_RUNNING w || F.WEA_WCFG_SIG_EN.of x.cfg = 0 then s.flag F.WEA_WEVT_SIG_LOST w
  else if 16 ≤ x.sigs.length then (s.count F.AXI_CNT2_OVF_CNT 0).aevt F.AXI_EVT_OVF 0
  else (s.modWeav w fun x => { x with sigs := x.sigs ++ [(ts, arg)] }).showWeav w

/-- A signal enters the intake (R185), in one of its 64 places (R166), after the records that a plaza weaver has read
before it. It carries t_s as it was; a plaza weaver's times are those that records carry. -/
def Work.signalIn (s : Work s₀) (w : Nat) : Work s₀ :=
  let s := s.when (w < 32) fun s => s.setProg w (s.st.mergeHor w)
  let hor := s.st.weavHor w
  let x := s.weav w
  match x.sigs with
  | (ts, arg) :: rest =>
    let time := if w < 32 then ts else s.st.stamp ts
    if ts ≤ hor && x.intake.length < 64 && x.feed.isEmpty then
      let src : Rec := { t := time, ws := [] }
      let r : WRec := { kind := 1, h := [w64 arg, w64 (s.st.stamp ts), 0, 0], words := 0, lane := none, close := false,
                        input := 0, time := time, hor := hor, seq := x.seq, src := src }
      (s.modWeav w fun x => { x with sigs := rest, intake := x.intake ++ [r], seq := x.seq + 1 }).showWeav w
    else s
  | [] => s

/-- SIGNAL_ENTRY (R185): the next pending signal of weaver `w` enters the intake once the merge horizon has reached its
time. -/
def execSignalEntry (t w : Nat) (s : State) : Host.Outcome State Fault Refusal :=
  .next (((Work.start s).at t).signalIn w).st

/-! ## Plaza weavers (R186 to R188, R191) -/

/-- The queue of input `i` of weaver `w`. -/
def State.pinQueue (s : State) (w i : Nat) : Nat := s.get F.WEA_PIN_QUEUE (8 * (w - 32) + i)

/-- The input from which plaza weaver `w` takes its next bundle: the lowest horizon last consumed, then the lowest
number (R186). -/
def State.nextPin (s : State) (w : Nat) : Option Nat :=
  let x := s.weavAt w
  (s.pins (w - 32)).foldl (fun best i => match best with
    | none => some i
    | some j => if (optAt x.taken i).getD 0 < (optAt x.taken j).getD 0 then some i else best) none

/-- The merge horizon of plaza weaver `w` over the bundles that it has taken. -/
def State.takenHor (s : State) (w : Nat) : Nat :=
  match (s.pins (w - 32)).map fun i => (optAt (s.weavAt w).taken i).getD 0 with
  | [] => 0
  | h :: hs => leastOf h hs

/-- One record of an input bundle is presented (R172, R187, R188): EPOCH records move the epoch point, HIST records are
not presented. -/
def Work.present (s : Work s₀) (w i hor prev : Nat) (r : List Word) : Work s₀ :=
  let w0 := (r.getD 0 0).toNat
  let ty := bits w0 60 4
  if ty = 10 then
    if s.on F.WEA_PCFG_HIST_EN w then s else s.count F.WEA_WCNT0_PDROP_CNT w
  else
    let s := s.when (ty == 8) fun s => s.modWeav w fun x => { x with eps := x.eps.set i (some (bits w0 0 18 * 2 ^ 46)) }
    let p := s.st.epochOf (s.st.pinQueue w i) (optAt (s.weav w).eps i)
    let time := if ty = 8 then 0 else (carriedTime p r).getD prev
    let lane := match ty with
      | 1 | 2 | 3 => some (bits w0 51 9)
      | 4 => some (bits (r.getD 1 0).toNat 55 9)
      | 5 => if bit w0 59 then none else some (bits w0 50 9)
      | 9 => if bit w0 59 then some (bits w0 50 9) else none
      | _ => none
    s.modWeav w fun x =>
      let y : WRec := { kind := 0, h := (r ++ [0, 0, 0, 0]).take 4, words := r.length, lane := lane, close := false,
                        input := i, time := time, hor := hor, seq := x.seq, src := { t := time, ws := r } }
      { x with feed := x.feed ++ [y], seq := x.seq + 1 }

/-- The HIST records of a bundle in bundles of their own (R188); those that find no buffer wait (R257). -/
def Work.copyHist (s : Work s₀) (w hor : Nat) (b : QBundle) : Work s₀ :=
  let hs := b.recs.filter fun r => bits (r.getD 0 0).toNat 60 4 == 10
  s.when (s.on F.WEA_PCFG_HIST_EN w) fun s => s.each hs fun s r =>
    s.xpAppend (weavProducer w) (s.get F.WEA_PCFG_HIST_Q w) 0 { t := hor, ws := r }

/-- The records of an input bundle go to the program (R187). Its horizon counts in the present scale (R266). -/
def Work.takeBundle (s : Work s₀) (w i : Nat) (b : QBundle) : Work s₀ :=
  let hor := s.st.takenHor w
  let prev := (optAt (s.weav w).taken i).getD 0
  let bh := s.st.unstamp b.hor
  let s := s.discardRest b
  let s := s.copyHist w hor b
  let s := s.each b.recs fun s r => s.present w i hor prev r
  let s := s.modWeav w fun x => { x with taken := x.taken.set i (some bh), ahead := x.ahead.modify i (· + b.len) }
  let hor := s.st.takenHor w
  let s := s.when (s.on F.WEA_PCFG_BEND_EN w) fun s => s.modWeav w fun x =>
    let y : WRec := { kind := 2, h := [b.head, w64 b.hor, b.trail, 0], words := 0, lane := none, close := false,
                      input := i, time := b.hor, hor := hor, seq := x.seq, src := { t := b.hor, ws := [] } }
    { x with feed := x.feed ++ [y], seq := x.seq + 1 }
  let s := s.modWeav w fun x => ({ x with ends := x.ends ++ [(i, b.len, bh, b.head, b.trail, x.seq)] } : WeavSt).refill
  (s.put F.WEA_WSTAT_WAITING w 0).showWeav w

/-- An input bundle is copied into FB_Q, its words unchanged up to a double-bit error (R396), and released (R191). -/
def Work.fallCopy (s : Work s₀) (w i q : Nat) (b : QBundle) : Work s₀ :=
  let fb := s.get F.WEA_PCFG_FB_Q w
  let s := s.discardRest b
  let bh := s.st.unstamp b.hor
  let s := s.ownBundle (weavProducer w) fb bh [{ t := bh, ws := b.body }] (keep := true)
  let s := s.modWeav w fun x => { x with taken := x.taken.set i (some bh), ended := x.ended.set i (some bh),
                                         rel := x.rel.set i (some bh) }
  s.popWords q b.len

/-- Plaza weaver `w` takes its next input bundle (R186, R191). -/
def Work.plazaTake (s : Work s₀) (w : Nat) : Work s₀ :=
  let run := s.on F.WEA_WSTAT_RUNNING w
  let fall := s.on F.WEA_WSTAT_FALLBACK w && s.on F.WEA_PCFG_FB_EN w
  if (!run && !fall) || s.st.back.any (·.1 == weavProducer w) then s
  else match s.st.nextPin w with
    | none => s
    | some i =>
      let q := s.st.pinQueue w i
      match s.st.peek q ((s.weav w).ahead.getD i 0) with
      | none => s.when run fun s => (s.put F.WEA_WSTAT_WAITING w 1).put F.WEA_WSTAT_WAIT_IN w i
      | some none => s.noHeader q
      | some (some b) =>
        let prod := weavProducer w
        if run then s.takeBundle w i b
        else if !s.st.canOpen prod (s.get F.WEA_PCFG_FB_Q w) then s.forceClose prod
        else s.fallCopy w i q b

/-- PLAZA_BUNDLE_TAKE (R186): plaza weaver `w` takes the next input bundle, or in fallback copies it. -/
def execPlazaBundleTake (t w : Nat) (s : State) : Host.Outcome State Fault Refusal :=
  let s := (Work.start s).at t
  .next (if w < 32 then s else s.plazaTake w).st

/-- The end of an input bundle whose records have all retired (R187). -/
def Work.bundleEnded (s : Work s₀) (w : Nat) : Work s₀ :=
  let x := s.weav w
  match x.ends with
  | (i, n, h, _, _, seq) :: rest =>
    if x.unretired.any (·.seq < seq) then s
    else
      let s := s.modWeav w fun x => { x with ends := rest, ended := x.ended.set i (some h) }
      let prod := weavProducer w
      let s := s.when (s.on F.WEA_PCFG_BEND_CLOSE w) fun s => s.closeAll prod (s.st.weavHor w)
      let outs := (s.st.open_.filter (·.producer == prod)).map (·.q)
      (s.modWeav w fun x => { x with unrel := x.unrel ++ [(i, n, h, outs)] }).showWeav w
  | [] => s

/-- BUNDLE_END (R187): plaza weaver `w` comes to the end of an input bundle. -/
def execBundleEnd (t w : Nat) (s : State) : Host.Outcome State Fault Refusal :=
  .next (((Work.start s).at t).bundleEnded w).st

/-- The first input bundle that waits for no output bundle is released (R187). -/
def Work.inputReleased (s : Work s₀) (w : Nat) : Work s₀ :=
  let x := s.weav w
  match x.unrel.find? fun (i, _, _, qs) => qs.isEmpty && (x.unrel.find? fun e => e.1 == i).any (·.2.2.2.isEmpty) with
  | none => s
  | some (i, n, h, qs) =>
    let s := s.modWeav w fun x => { x with unrel := x.unrel.erase (i, n, h, qs), ahead := x.ahead.modify i (· - n),
                                           rel := x.rel.set i (some h) }
    s.popWords (s.st.pinQueue w i) n

/-- INPUT_RELEASE (R187): an input bundle of plaza weaver `w` is released once its output bundles have closed. -/
def execInputRelease (t w : Nat) (s : State) : Host.Outcome State Fault Refusal :=
  .next (((Work.start s).at t).inputReleased w).st

/-! ## Starting and stopping (R192, R193) -/

/-- RUN goes from 0 to 1 (R192). -/
def Work.weavStart (s : Work s₀) (w : Nat) : Work s₀ :=
  let s := ((s.put F.WEA_WSTAT_FAULTED w 0).put F.WEA_WSTAT_FALLBACK w 0).put F.WEA_WSTAT_RUNNING w 1
  let c := s.reg .WEA_WCFG w
  let e := s.reg .WEA_WENTRY w
  (s.setWeav w { cfg := c, entry := e }).showWeav w

/-- A write of WCTRL (R192, R193). A RUN of 1 written before HALTED starts the weaver once it has halted. -/
def Work.wrWctrl (s : Work s₀) (w : Nat) (v : Word) : Work s₀ :=
  let was := s.on F.WEA_WCTRL_RUN w
  let will := F.WEA_WCTRL_RUN.of v = 1
  let s := s.put F.WEA_WCTRL_RUN w (b2n will)
  if will && !was && !(s.weav w).stop then s.weavStart w
  else if was && !will && s.on F.WEA_WSTAT_RUNNING w then
    let s := (s.put F.WEA_WSTAT_RUNNING w 0).loseSignals w
    let s := s.modWeav w fun x =>
      let last := match x.intake.getLast? with
        | some r => r.seq + 1
        | none => x.seq - x.feed.length
      { x with stop := true, feed := [], ends := x.ends.filter fun (_, _, _, _, _, n) => n ≤ last }
    s.showWeav w
  else s

/-- WEAVER_RUN_START (R192): a write of RUN = 1. -/
def execWeaverRunStart (t m w : Nat) (s : State) : Host.Outcome State Fault Refusal :=
  .next (((Work.start s).at t).access m 5 (weavArea w + 0x118) (weavPd w) true fun s =>
    if s.st.weavAbsent w then s else s.wrWctrl w 1).st

/-- WEAVER_RUN_STOP (R193): a write of RUN = 0. -/
def execWeaverRunStop (t m w : Nat) (s : State) : Host.Outcome State Fault Refusal :=
  .next (((Work.start s).at t).access m 5 (weavArea w + 0x118) (weavPd w) true fun s => s.wrWctrl w 0).st

/-- A stopping weaver whose records have all retired halts (R193): its bundles close, what it read in full is released,
and its lanes return to the fast path. -/
def Work.weavHalt (s : Work s₀) (w : Nat) : Work s₀ :=
  let x := s.weav w
  if !x.stop || !x.unretired.isEmpty then s
  else
    let prod := weavProducer w
    let s := s.each x.ends fun s _ => s.bundleEnded w
    let s := s.when (w < 32) fun s => s.setProg w (s.st.mergeHor w)
    let s := s.closeAll prod (s.st.weavHor w)
    let s := s.each (s.weav w).unrel fun s _ => s.inputReleased w
    let s := (s.modWeav w fun x => { x with stop := false, ahead := List.replicate 8 0 }).dropWriter prod
    let s := (s.put F.WEA_WSTAT_WAITING w 0).flag F.WEA_WEVT_HALTED w
    if s.on F.WEA_WCTRL_RUN w then s.weavStart w else s.showWeav w

/-- HALTED (R193): weaver `w`, stopped, has retired its records. -/
def execHalted (t w : Nat) (s : State) : Host.Outcome State Fault Refusal :=
  .next (((Work.start s).at t).weavHalt w).st

end Sys2Proof.Machine
end

