-- ==== Sys2Proof/Machine/Filter.lean ====
section
/-!
DEFINITION. Filter pipelines (R197 to R219) and what histogram engines take from queues (R220, R224). Registers FLT_SEL 0
to 63 are the pipelines' and 64 + h is HE_SEL of engine h; the bank words of pipeline p are FLT_SCFG, FLT_GAIN and
FLT_OFFSET of index 8 p + 4 (bank B) + stage.
-/

namespace Sys2Proof.Machine

variable {s₀ : State}

/-- Change pipeline `p`. -/
def Work.modFlt (s : Work s₀) (p : Nat) (f : FltSt → FltSt) : Work s₀ := s.setFlt p (f (s.flt p))

/-! ## Input (R197) -/

/-- What a consumer of records finds next: the rest of its input, and the record with the epoch point at it. -/
def InSt.next (x : InSt) : InSt × Option (List Word) :=
  match x.left with
  | [] => (x, none)
  | r :: rest =>
    let w0 := (r.getD 0 0).toNat
    let ep := if bits w0 60 4 = 8 then some (bits w0 0 18 * 2 ^ 46) else x.ep
    ({ x with left := rest, ep := ep }, some r)

/-- A consumer's input with a bundle begun. -/
def InSt.start (x : InSt) (b : QBundle) : InSt := { x with busy := true, left := b.recs, len := b.len, hor := b.hor }

/-- A record that a selection matches (Table FLT-1): its value field, its time, its quality and the number of its gap
check with the width of that number. -/
structure Sample where
  f   : Nat
  t   : Nat
  q   : Nat
  seq : Option (Nat × Nat)
  deriving DecidableEq, Repr

/-- Table FLT-1: whether a record matches a selection word, and what it gives. -/
def selects (sel : Word) (p : Nat) (r : List Word) : Option Sample :=
  let w := fun i => (r.getD i 0).toNat
  let ty := F.FLT_SEL_TYPE.of sel
  let id := F.FLT_SEL_ID.of sel
  let kind := fun k => F.FLT_SEL_KIND_ANY.of sel = 1 || k = F.FLT_SEL_SEL_KIND.of sel
  if bits (w 0) 60 4 != ty then none
  else match ty with
    | 3 => if bits (w 0) 51 9 = id && kind (bits (w 0) 48 3) then
        some { f := w 2, t := w 1, q := bits (w 0) 46 2, seq := some (bits (w 0) 0 46, 46) } else none
    | 4 => if bits (w 0) 50 1 * 128 + bits (w 0) 51 7 = id && kind (bits (w 0) 58 2) then
        some { f := w 2, t := restore p (bits (w 0) 0 47), q := bits (w 0) 48 2, seq := some (bits (w 1) 0 44, 44) }
      else none
    | 5 => if bits (w 0) 50 10 = id then
        some { f := w 1, t := restore p (bits (w 0) 0 47), q := bits (w 0) 48 2, seq := none } else none
    | 6 => if bits (w 0) 54 6 = id && !bit (w 0) 53 then
        some { f := w 1, t := restore p (bits (w 0) 0 47), q := bits (w 0) 47 2, seq := none } else none
    | _ => none

/-! ## Banks (R200 to R204, R210) -/

/-- The index of a bank's stage among the bank words of pipeline `p`. -/
def bankIdx (p : Nat) (b : Bool) (j : Nat) : Nat := 8 * p + (if b then 4 else 0) + j

/-- The number of active stages of a bank (R200). -/
def State.stages (s : State) (p : Nat) (b : Bool) : Nat :=
  ((List.range 4).takeWhile fun j => s.get F.FLT_SCFG_SEN (bankIdx p b j) == 1).length

/-- The product of the decimations of a bank's active stages (R215). -/
def State.decim (s : State) (p : Nat) (b : Bool) : Nat :=
  ((List.range (s.stages p b)).map fun j => s.get F.FLT_SCFG_D_M1 (bankIdx p b j) + 1).foldl (· * ·) 1

/-- Clamp to 64 bits, and whether that changed the value (R202). -/
def sat64 (y : Int) : Int × Bool :=
  let z := clampI (-(2 ^ 63)) (2 ^ 63 - 1) y
  (z, z != y)

/-! ## The store area (R208) -/

/-- The store word of a 128-bit value of bank `b`, stage `j`, in the comb area of the FLT_IO word `io`: each stage has
a ring of 2^16 values of two words. -/
def combAt (io : Word) (b : Bool) (j n : Nat) : Nat :=
  F.FLT_IO_HIST_BLK.of io * 2 ^ 21 + ((4 * b2n b + j) * 2 ^ 16 + n % 2 ^ 16) * 2

/-- The store word of running sum X_i in the ladder area: a ring of 2^20 values of two words. -/
def ladderAt (io : Word) (i : Nat) : Nat := F.FLT_IO_HIST_BLK.of io * 2 ^ 21 + i % 2 ^ 20 * 2

/-- A pipeline reads a 128-bit value at store word `a`, low word first; answers also whether it met a double-bit error
(R396). -/
def Work.areaRead (s : Work s₀) (a : Nat) : Work s₀ × Nat × Bool :=
  let bad := s.st.ue.contains a || s.st.ue.contains (a + 1)
  let (s, lo) := s.storeRead a
  let (s, hi) := s.storeRead (a + 1)
  (s, lo.toNat + hi.toNat * 2 ^ 64, bad)

/-- A pipeline writes a 128-bit value at store word `a`. -/
def Work.areaWrite (s : Work s₀) (a v : Nat) : Work s₀ := (s.storeWrite a (w64 v)).storeWrite (a + 1) (w64 (v / 2 ^ 64))

/-- The `n` store words from `a` on become 0: comb entries that start again (R209, R211). -/
def Work.areaClear (s : Work s₀) (a n : Nat) : Work s₀ :=
  let out := fun k => !(decide (a ≤ k) && decide (k < a + n))
  ((s.keepStore out).setUe (s.st.ue.filter out)).setCe (s.st.ce.filter out)

/-- The combs of a bank, or of both, of a pipeline that runs in filter mode start again. -/
def Work.combsClear (s : Work s₀) (p : Nat) (b : Option Bool) : Work s₀ :=
  let x := s.flt p
  s.when (x.on && F.FLT_CFG_MODE.of x.cfg != 2) fun s =>
    match b with
    | none => s.areaClear (combAt x.io false 0 0) (2 ^ 20)
    | some b => s.areaClear (combAt x.io b 0 0) (2 ^ 19)

/-! ## Stages -/

/-- What a bank gives at a sample: value, quality, FILL, and whether it saturated. -/
abbrev BankOut := Int × Nat × Bool × Bool

/-- What the stages of a bank make of an input: the store after it, whether a double-bit error was read, the stages, an
output (value, quality, FILL), and whether a value saturated. -/
structure StageRun (s₀ : State) where
  s   : Work s₀
  bad : Bool := false
  st  : List FStage
  out : Option (Int × Nat × Bool) := none
  sat : Bool := false

/-- One input of stage `j` of bank `b`, of length `l` and decimation `d`: at an output its window sum, quality and FILL
(R201, R204, R210). -/
def Work.stageInput (s : Work s₀) (io : Word) (b : Bool) (j l d : Nat) (x : FStage) (u : Int) (q : Nat) (fill : Bool) :
    Work s₀ × Bool × FStage × Option (Int × Nat × Bool) :=
  let n := x.n + 1
  let i := (x.i + sfield 128 u) % 2 ^ 128
  let (s, old, bad) := s.areaRead (combAt io b j (n + 2 ^ 16 - l))
  let s := s.areaWrite (combAt io b j n) i
  let win := ((q, fill) :: x.e).take l
  let quality := (win.map (·.1)).foldl max 0
  let fills := win.length < l || win.any (·.2)
  (s, bad, { n := n, i := i, e := win },
    if n % d = 0 then some (sval 128 ((i + 2 ^ 128 - old) % 2 ^ 128), quality, fills) else none)

/-- The stages of a bank from stage `j` on, for an input `u` (R200 to R203). `prod` is the product of the lengths so
far. -/
def Work.runStages (s : Work s₀) (io : Word) (p : Nat) (b scaled : Bool) (n : Nat) :
    Nat → List FStage → Int → Nat → Bool → Nat → StageRun s₀
  | _, [], _, _, _, _ => { s := s, st := [] }
  | j, x :: xs, u, q, fill, prod =>
    if n ≤ j then { s := s, st := x :: xs }
    else
      let k := bankIdx p b j
      let l := s.get F.FLT_SCFG_L_M1 k + 1
      let (s, bad, x, out) := s.stageInput io b j l (s.get F.FLT_SCFG_D_M1 k + 1) x u q fill
      match out with
      | none => { s := s, bad := bad, st := x :: xs }
      | some (w, q, fill) =>
        let g : Int := s.get F.FLT_GAIN_GAIN k
        let o := sval 64 (s.reg .FLT_OFFSET k).toNat
        let prod := prod * l
        let last := j + 1 = n
        let (y, c) :=
          if scaled then sat64 (rnd (w * g) (2 ^ (16 + s.get F.FLT_SCFG_SHIFT k)) + o)
          else if last then sat64 (rnd (w * g) (2 ^ 16 * prod) + o)
          else (w, false)
        if last then { s := s, bad := bad, st := x :: xs, out := some (y, q, fill), sat := c }
        else
          let r := s.runStages io p b scaled n (j + 1) xs y q fill prod
          { r with bad := bad || r.bad, st := x :: r.st, sat := c || r.sat }

/-- What a bank makes of a sample: the store after it, whether a double-bit error was read, the bank, its output, and
whether a value saturated. -/
structure BankRun (s₀ : State) where
  s    : Work s₀
  bad  : Bool := false
  bank : FBank
  out  : Option BankOut := none
  sat  : Bool := false

/-- A sample runs through a bank (R200, R202). An output's SAT shows every saturation since the output before it. -/
def Work.runBank (s : Work s₀) (io : Word) (p : Nat) (b scaled : Bool) (x : FBank) (u : Int) (q : Nat) : BankRun s₀ :=
  let n := s.st.stages p b
  if n = 0 then
    let k := bankIdx p b 0
    let sh := if scaled then s.get F.FLT_SCFG_SHIFT k else 0
    let (y, c) := sat64 (rnd (u * (s.get F.FLT_GAIN_GAIN k : Int)) (2 ^ (16 + sh)) + sval 64 (s.reg .FLT_OFFSET k).toNat)
    { s := s, bank := { x with last := (y, q, false, c) }, out := some (y, q, false, c), sat := c }
  else
    let r := s.runStages io p b scaled n 0 x.st u q false 1
    let sat := x.sat || r.sat
    match r.out with
    | some (y, q, fill) =>
      let o := (y, q, fill, sat)
      { s := r.s, bad := r.bad, bank := { st := r.st, last := o }, out := some o, sat := r.sat }
    | none => { s := r.s, bad := r.bad, bank := { x with st := r.st, sat := sat }, sat := r.sat }

/-- The group delay of a bank in ticks (R205). -/
def State.groupDelay (s : State) (p : Nat) (b : Bool) (tau : Nat) : Int :=
  let g := (List.range (s.stages p b)).foldl (fun (acc : Nat × Nat) j =>
    let k := bankIdx p b j
    (acc.1 + s.get F.FLT_SCFG_L_M1 k * acc.2, acc.2 * (s.get F.FLT_SCFG_D_M1 k + 1))) (0, tau)
  rnd (g.1 : Int) (2 ^ 17)

/-! ## Synchronising reset (R209) -/

/-- The words of FLT_CFG and the other deferred registers come into force (Table FLT-4). -/
def FltSt.config (x : FltSt) (s : State) (p : Nat) : FltSt :=
  { x with cfg := s.reg .FLT_CFG p, sel := s.reg .FLT_SEL p, xref := s.reg .FLT_XREF p, tau := s.reg .FLT_TAU p,
           tofs := s.reg .FLT_TOFS p, io := s.reg .FLT_IO p }

/-- A pipeline after a synchronising reset at `tr` (R199, R209): integrators, combs, counts and the ladder start again;
a cross-fade ends; the FILT_RESET EVENT waits for the first output. -/
def FltSt.reset (x : FltSt) (tr : Nat) : FltSt :=
  { x with good := 0, prev := none, bankA := {}, bankB := {}, xf := none, evt := x.evt ++ [tr], n := 0, sum := 0,
           qs := List.replicate 20 (0, 0, false), disc := false }

/-- CFG_ERR and J of pipeline `p` follow what is in force (R198). -/
def Work.fltCheck (s : Work s₀) (p : Nat) : Work s₀ :=
  let x := s.flt p
  let ty := F.FLT_SEL_TYPE.of x.sel
  let bad := x.on && !(3 ≤ ty && ty ≤ 6)
  let s := s.when (bad && !s.on F.FLT_STAT_CFG_ERR p) fun s => s.flag F.FLT_EVT_CFG_ERR p
  let s := s.put F.FLT_STAT_CFG_ERR p (b2n bad)
  s.put F.FLT_STAT_J p (s.st.stages p (s.on F.FLT_STAT_BANK p))

/-- The producer ID of pipeline `p`. -/
def fltProducer (p : Nat) : Nat := 0x80 + p

/-- The open bundles of pipeline `p` close: it stops, or its output queue changes. -/
def Work.fltShut (s : Work s₀) (p : Nat) : Work s₀ :=
  s.each (s.st.open_.filter (·.producer == fltProducer p)) fun s b => s.closeThis b b.lastT

/-- A synchronising reset of pipeline `p` takes place (R209). A bundle in hand stays with the queue it came from. -/
def Work.fltReset (s : Work s₀) (p tr : Nat) : Work s₀ :=
  let x := s.flt p
  let s := s.when x.xf.isSome fun s => s.flag F.FLT_EVT_XF_DONE p
  let y := (x.config s.st p).reset tr
  let y := if F.FLT_IO_IN_Q.of y.io = F.FLT_IO_IN_Q.of x.io then y else { y with inp := {} }
  let s := s.when (F.FLT_IO_OUT_Q.of y.io != F.FLT_IO_OUT_Q.of x.io) fun s => s.fltShut p
  let s := (s.setFlt p y).combsClear p none
  ((s.put F.FLT_STAT_XFADING p 0).flag F.FLT_EVT_RESET p).fltCheck p

/-- A record timed `t` as a sample of pipeline `p` (R198). -/
def FltSt.time (x : FltSt) (t : Nat) : Int := (t : Int) + sval 48 x.tofs.toNat

/-- Whether the pipeline's samples are MEAS or STAT records: their time is the start of a gate or period, and their
place in a queue its end (R130). -/
def FltSt.endTimed (x : FltSt) : Bool := F.FLT_SEL_TYPE.of x.sel == 3 || F.FLT_SEL_TYPE.of x.sel == 5

/-- Whether no gate, period or record is in hand on the way from what pipeline `p` selects to its input queue. -/
def State.fltIdle (s : State) (p : Nat) : Bool :=
  let x := s.fltAt p
  let id := F.FLT_SEL_ID.of x.sel
  let unit := if 768 ≤ id then id - 640 else id - 512
  let lane := if id < 512 then id else F.PAIR_CFG_LANE_A.of (s.pairAt unit).cfg
  let q := F.FLT_IO_IN_Q.of x.io
  (if id < 512 then (s.cntAt id).gate.isNone && !(s.cntAt id).stat.on else !(s.pairAt unit).stat.on) &&
    (s.capAt lane).held.isEmpty && (s.capAt lane).buf.isEmpty && (s.queAt q).writers.isEmpty && s.wait.all (·.q != q)

/-- Whether no sample of pipeline `p` timed before `tr` can still come: it takes none, or its input queue is empty and
no writer of it has a record that early to write. MEAS and STAT records come after the end of a gate that began earlier,
so that nothing of them may be in hand (log entry 26). -/
def State.fltPast (s : State) (p tr : Nat) : Bool :=
  let x := s.fltAt p
  let q := F.FLT_IO_IN_Q.of x.io
  let ty := F.FLT_SEL_TYPE.of x.sel
  !x.on || s.on F.FLT_STAT_CFG_ERR p || !s.boundTo q 3 p || !(3 ≤ ty && ty ≤ 6) ||
    (!x.inp.busy && s.depth q == 0 && if x.endTimed then s.fltIdle p
      else ((s.queAt q).writers.map (s.writerFloor q) ++ (s.wait.filter (·.q == q)).map (·.floor)).all fun f =>
        decide ((tr : Int) ≤ x.time f))

/-- The resets of pipeline `p` that wait and satisfy `due` take place (R209). -/
def Work.fltResets (s : Work s₀) (p : Nat) (due : Nat → Bool) : Work s₀ :=
  let ts := (s.flt p).rsts.filter due
  let s := s.modFlt p fun x => { x with rsts := x.rsts.filter (!due ·) }
  s.each ts fun s tr => s.fltReset p tr

/-- A synchronising reset is caused at `tr`: samples timed before it come first (R209). -/
def Work.fltCause (s : Work s₀) (p tr : Nat) : Work s₀ :=
  (s.modFlt p fun x => { x with rsts := x.rsts ++ [tr] }).fltResets p (s.st.fltPast p)

/-- A load of T64 through SYNC_IN0: the reset falls between the last sample taken and the next (R209). -/
def Work.fltSync (s : Work s₀) (t : Nat) : Work s₀ :=
  s.each (List.range 64) fun s p =>
    let x := s.flt p
    if x.on && F.FLT_CFG_RST_SYNC.of x.cfg = 1 then s.fltReset p t else s

/-- An applied resynchronisation of the axis at a step's stamp (R209). -/
def Work.fltAxis (s : Work s₀) (t : Nat) : Work s₀ :=
  s.each (List.range 64) fun s p =>
    let x := s.flt p
    if x.on && F.FLT_CFG_RST_AXIS.of x.cfg = 1 then s.fltCause p t else s

/-- A write of FLT_CFG (R209, Table FLT-4): EN acts at once and causes a synchronising reset, the other fields act at
the next one. A pipeline that is disabled closes its bundle and leaves the writer sets (R260). -/
def Work.wrFltCfg (s : Work s₀) (p : Nat) (v : Word) : Work s₀ :=
  let was := (s.flt p).on
  let will := F.FLT_CFG_EN.of v = 1
  let s := s.wreg .FLT_CFG p (v &&& 0x7FFFFF)
  if will && !was then (s.modFlt p fun x => { x with on := true, rsts := [] }).fltCause p s.now
  else if was && !will then
    (((s.fltShut p).dropWriter (fltProducer p)).modFlt p fun x => { x with on := false, rsts := [] }).fltCheck p
  else s

/-! ## Outputs (R205 to R207, R219) -/

/-- BMAX in force of a pipeline (R207). -/
def fltMax (io : Word) : Nat := max 3 (F.FLT_IO_BMAX.of io)

/-- The records of a pipeline's output, with the FILT_RESET EVENTs before the first after a reset (R209). -/
def FltSt.withEvent (x : FltSt) (p t : Nat) (rs : List Rec) : List Rec :=
  if rs.isEmpty then rs else x.evt.map (fun tr => genEvent 17 p t (w64 tr)) ++ rs

/-- A FILT record (Table FLT-2). -/
def filtRec (p t : Nat) (flags : Nat) (v : Word) : Rec :=
  { t := t, ws := [w64 (0x6 * 2 ^ 60 + p * 2 ^ 54 + flags * 2 ^ 47 + t47 t), v] }

/-- An output of pipeline `p` (R205, R206, R219): its record and the pipeline after it. -/
def FltSt.output (x : FltSt) (p : Nat) (tx : Nat) (gd : Int) (bank xfade : Bool) (o : BankOut) : FltSt × List Rec :=
  let (y, q, fill, sat) := o
  let t0 := ((tx : Int) - gd).toNat
  let (t, q) := match x.out with
    | some a => if t0 ≤ a then (a + 1, max q 2) else (t0, q)
    | none => (t0, q)
  let flags := q + 4 * b2n sat + 8 * b2n bank + 16 * b2n xfade + 32 * b2n fill
  let rs := x.withEvent p t [filtRec p t flags (w64 (sfield 64 y))]
  ({ x with out := some t, evt := [] }, rs)

/-- What one sample makes of a pipeline: its state, the bank in force, its records, the event bits of FLT_EVT, the
cross-fade position, whether the last output was FILL, and its saturated outputs. -/
structure FltStep where
  x    : FltSt
  bank : Bool
  recs : List Rec := []
  evt  : Nat := 0
  pos  : Option Nat := none
  fill : Option Bool := none
  sats : Nat := 0

/-- The cross-fade of two banks' outputs at position `k` of `n` (R213). -/
def crossFade (k n : Nat) (a b : BankOut) : BankOut :=
  let (ya, qa, fa, ca) := a
  let (yb, qb, fb, cb) := b
  (rnd (((n : Int) - k) * ya + k * yb) n, max qa qb, fa || fb, ca || cb)

/-- The outputs of both banks at a sample become the pipeline's output (R211 to R215). A swap takes effect before the
first output of either bank from its time on. -/
def State.mix (s : State) (p : Nat) (x : FltSt) (bank : Bool) (tx : Nat) (oA oB : Option BankOut) : FltStep :=
  let tau := x.tau.toNat
  let ofBank := fun b => if b then oB else oA
  let due := match x.req with | some (tq, _) => x.xf.isNone && decide (tq ≤ tx) | none => false
  let n := match x.req with | some (_, n) => n | none => 0
  let skip := due && s.decim p bank != s.decim p !bank
  let now := due && (oA.isSome || oB.isSome)
  let x1 := if now then { x with req := none, xf := if n = 0 || skip then none else some (0, n) } else x
  let bank1 := if now then !bank else bank
  let evt := b2n now + 8 * b2n (now && skip)
  match ofBank bank1 with
  | none => { x := x1, bank := bank1, evt := evt }
  | some o =>
    let (o, k, fade, stop) := match x1.xf with
      | some (k, n) =>
        let old := (if bank1 then x1.bankA else x1.bankB).last
        (crossFade (k + 1) n old o, some (k + 1), true, decide (k + 1 = n))
      | none => (o, none, false, false)
    let x2 := match x1.xf with
      | some (k, n) => { x1 with xf := if k + 1 = n then none else some (k + 1, n) }
      | none => x1
    let (x3, rs) := x2.output p tx (s.groupDelay p bank1 tau) bank1 fade o
    { x := x3, bank := bank1, recs := rs, evt := evt + 2 * b2n stop + 16 * b2n o.2.2.2, pos := k,
      fill := some o.2.2.1, sats := b2n o.2.2.2 }

/-! ## Ladder mode (R216 to R218) -/

/-- round(sqrt(2^31 Q / (m² n))) (R218): the greatest r with (2 r - 1)² ≤ 4 times the quotient. -/
def sigma (q m n : Nat) : Nat := (isqrt (4 * (2 ^ 31 * q) / (m * m * n)) + 1) / 2

/-- A sample is added to the ladder (R216, R217); answers also whether a double-bit error was read (R396). -/
def Work.ladder (s : Work s₀) (x : FltSt) (u : Int) (q : Nat) : Work s₀ × Bool × FltSt :=
  let n := x.n + 1
  let xn := (x.sum + sfield 128 u) % 2 ^ 128
  let s := s.areaWrite (ladderAt x.io (n - 1)) x.sum
  let (s, bad, qs) := x.qs.zipIdx.foldl (fun (acc : Work s₀ × Bool × List (Nat × Nat × Bool)) e =>
    let (s, bad, qs) := acc
    let ((sum, cnt, sat), k) := e
    let m := 2 ^ k
    if n < 2 * m || cnt = 2 ^ 32 - 1 then (s, bad, qs ++ [(sum, cnt, sat)])
    else
      let (s, x1, b1) := s.areaRead (ladderAt x.io (n - m))
      let (s, x2, b2) := s.areaRead (ladderAt x.io (n - 2 * m))
      let d := sval 128 ((xn + 2 ^ 129 - 2 * x1 + x2) % 2 ^ 128)
      let c := clampI (-(2 ^ 63 - 1)) (2 ^ 63 - 1) d
      (s, bad || b1 || b2, qs ++ [(sum + (c * c).toNat, cnt + 1, sat || c != d)])) (s, false, [])
  (s, bad, { x with n := n, sum := xn, qs := qs, disc := x.disc || q = 2 })

/-- The records of a report (R218, R219), and how many of them are saturated. -/
def FltSt.report (x : FltSt) (p t : Nat) : List Rec × Nat :=
  let rows := x.qs.zipIdx.filter fun ((_, cnt, _), _) => 1 ≤ cnt
  let vals := rows.map fun ((sum, cnt, sat), k) =>
    let v := sigma sum (2 ^ k) cnt
    let top := sat || 2 ^ 64 - 1 ≤ v
    let disc := x.disc || cnt = 2 ^ 32 - 1
    (filtRec p t (64 + 2 * k + b2n disc) (w64 (if top then 2 ^ 64 - 1 else v)), top)
  (vals.map (·.1), (vals.filter (·.2)).length)

/-- REPORT_EXP in force. -/
def reportExp (c : Word) : Nat := min 20 (F.FLT_CFG_REPORT_EXP.of c)

/-! ## One record of a pipeline -/

/-- A sample of pipeline `p` in the state `x`, valued `u`, timed `tx`, of quality `q`, runs through the pipeline;
answers also whether a double-bit error was read in its store area. -/
def Work.fltSample (s : Work s₀) (p : Nat) (x : FltSt) (bank : Bool) (u : Int) (tx q : Nat) : Work s₀ × Bool × FltStep :=
  if F.FLT_CFG_MODE.of x.cfg = 2 then
    let (s, bad, x) := s.ladder x u q
    if x.n % 2 ^ reportExp x.cfg = 0 then
      let (rs, sats) := x.report p tx
      (s, bad, { x := { x with evt := if rs.isEmpty then x.evt else [] }, bank := bank, recs := x.withEvent p tx rs,
                 evt := 16 * b2n (sats != 0), sats := sats })
    else (s, bad, { x := x, bank := bank })
  else
    let scaled := F.FLT_CFG_MODE.of x.cfg = 1
    let a := s.runBank x.io p false scaled x.bankA u q
    let b := a.s.runBank x.io p true scaled x.bankB u q
    let r := b.s.st.mix p { x with bankA := a.bank, bankB := b.bank } bank tx a.out b.out
    let sat := (a.sat && !r.bank) || (b.sat && r.bank)
    (b.s, a.bad || b.bad, { r with evt := r.evt ||| 16 * b2n sat })

/-- Records of pipeline `p` go into its bundle in OUT_Q (R207); a ladder report closes it. What finds no assembly buffer
waits there (R257). -/
def Work.fltWrite (s : Work s₀) (p : Nat) (io : Word) (rs : List Rec) (report : Bool) : Work s₀ :=
  let n := rs.length
  s.each rs.zipIdx fun s (r, i) =>
    s.xpAppend (fltProducer p) (F.FLT_IO_OUT_Q.of io) (fltMax io) { r with close := report && i + 1 == n }

/-- What a step of pipeline `p` leaves: state, records, events and counts. -/
def Work.fltCommit (s : Work s₀) (p : Nat) (r : FltStep) : Work s₀ :=
  let ladder := F.FLT_CFG_MODE.of r.x.cfg = 2
  let s := s.fltWrite p r.x.io r.recs ladder
  let s := s.setFlt p r.x
  let outs := (r.recs.filter fun r => !r.ev).length
  let s := s.wreg .FLT_CNT1 p (s.reg .FLT_CNT1 p + w64 outs)
  let s := s.count F.FLT_CNT2_SAT_CNT p r.sats
  let s := s.wreg .FLT_EVT p (s.reg .FLT_EVT p ||| w64 r.evt)
  let s := s.put F.FLT_STAT_BANK p (b2n r.bank)
  let s := (s.put F.FLT_STAT_XFADING p (b2n r.x.xf.isSome)).put F.FLT_STAT_PENDING p (b2n r.x.req.isSome)
  let s := match r.pos with | some k => s.put F.FLT_STAT_XF_POS p k | none => s
  let s := match r.fill with | some f => s.put F.FLT_STAT_FILLING p (b2n f) | none => s
  s.fltCheck p

/-- Whether a stake whose action `act` is for unit `u` at or before `t` has not acted yet: the unit holds its records
for it (R149). -/
def State.stakeFirst (s : State) (act u t : Nat) : Bool :=
  (s.axis.issued ++ s.axis.fired.filter (s.t64 ≤ ·.last)).any fun f =>
    F.STAKE_ACTION_ACTION.of f.act == act && F.STAKE_ACTION_UNIT.of f.act % 64 == u && f.ts ≤ t

/-- Whether record `r` is a sample timed at or after `tr` for a pipeline in state `x` (R198, R209). -/
def State.atOrAfter (s : State) (x : FltSt) (epoch : Nat) (r : List Word) (tr : Nat) : Bool :=
  match selects x.sel epoch r with
  | some smp => tr ≤ s.near (x.time smp.t)
  | none => false

/-- A sample reaches pipeline `p` (R198, R199, R217); answers whether it had to wait. A double-bit error in the
store area resets the pipeline at the sample (R396). -/
def Work.fltTake (s : Work s₀) (p : Nat) (smp : Sample) : Work s₀ × Bool :=
  let tx := s.st.near ((s.flt p).time smp.t)
  if s.st.stakeFirst 4 p tx then (s, true)
  else
    let gap := match smp.seq, (s.flt p).prev with
      | some (n, w), some a => n != (a + 1) % 2 ^ w
      | _, _ => false
    let q := if gap then max smp.q 2 else smp.q
    let lad := F.FLT_CFG_MODE.of (s.flt p).cfg = 2 && (gap || smp.q = 3)
    let run := fun (s : Work s₀) =>
      let x := s.flt p
      let u := if smp.q = 3 then x.good else (smp.f + 2 ^ 64 - x.xref.toNat) % 2 ^ 64
      s.fltSample p { x with prev := smp.seq.map (·.1), good := u } (s.on F.FLT_STAT_BANK p) (sval 64 u) tx q
    let (s, bad, step) := run (s.when lad fun s => s.fltReset p tx)
    let (s, _, step) := if bad then run (s.fltReset p tx) else (s, false, step)
    let s := s.when gap fun s => (s.count F.FLT_CNT2_GAP_CNT p).flag F.FLT_EVT_GAP p
    let s := s.setProg (fltProducer p) (max (s.prog (fltProducer p)) (s.st.unstamp tx))
    let s := s.wreg .FLT_CNT0 p (s.reg .FLT_CNT0 p + 1)
    (s.fltCommit p step, false)

/-- Pipeline `p` takes the next record of its input queue; with the last one it releases the bundle (R197). A reset that
waits comes before a record that is a sample timed at or after it, by the selection in force or by the one that the
reset brings, and after a bundle past whose horizon no earlier sample can come (R209). -/
def Work.fltRecord (s : Work s₀) (p : Nat) : Work s₀ :=
  let s := s.fltResets p (s.st.fltPast p)
  let x := s.flt p
  let q := F.FLT_IO_IN_Q.of x.io
  -- a pipeline that waits for an assembly buffer takes no input (R257)
  if !x.on || s.on F.FLT_STAT_CFG_ERR p || !s.st.boundTo q 3 p || s.st.back.any (·.1 == fltProducer p) then s
  else
    let begin_ := !x.inp.busy
    match (if begin_ then s.st.peek q 0 else none), begin_ with
    | none, true => s
    | some none, _ => s.noHeader q
    | pk, _ =>
      let s := match pk with
        | some (some b) => (s.discardRest b).modFlt p fun x => { x with inp := x.inp.start b }
        | _ => s
      let (i, r) := (s.flt p).inp.next
      let (s, wait) := match r with
        | none => (s, false)
        | some r =>
          let epoch := s.st.epochOf q i.ep
          let x := s.flt p
          let s := s.fltResets p fun tr => s.st.atOrAfter x epoch r tr || s.st.atOrAfter (x.config s.st p) epoch r tr
          if F.FLT_IO_IN_Q.of (s.flt p).io != q then (s, true)
          else match selects (s.flt p).sel epoch r with
            | none => (s, false)
            | some smp => s.fltTake p smp
      if wait then s
      else
        let s := s.modFlt p fun x => { x with inp := { i with busy := !i.left.isEmpty } }
        if i.left.isEmpty then
          let s := s.popWords q i.len
          s.fltResets p fun tr => !(s.flt p).endTimed && decide (tr ≤ s.st.near ((s.flt p).time i.hor))
        else s

/-- FLT_RECORD (R198): pipeline `p` takes an input record and, if it is a sample, runs its stages. -/
def execFltRecord (t p : Nat) (s : State) : Host.Outcome State Fault Refusal :=
  .next (((Work.start s).at t).fltRecord p).st

/-- FLT_BUNDLE_FLUSH (R207): the open bundle of pipeline `p` closes once the latest sample time has advanced past
FLUSH_EXP. -/
def execFltBundleFlush (p : Nat) (s : State) : Host.Outcome State Fault Refusal :=
  let s := Work.start s
  let io := (s.flt p).io
  let q := F.FLT_IO_OUT_Q.of io
  .next ((match flushExp (F.FLT_IO_FLUSH_EXP.of io), s.st.openOf (fltProducer p) q with
    | some e, some b => if b.openH + 2 ^ e < s.prog (fltProducer p) then s.closeThis b b.lastT else s
    | _, _ => s : Work _)).st

/-! ## Control (R209, R212, R214) -/

/-- A swap request (R212, R214): one that finds another waiting replaces it. -/
def Work.fltSwap (s : Work s₀) (p tq n : Nat) : Work s₀ :=
  let s := s.when (s.flt p).req.isSome fun s => (s.count F.FLT_CNT2_REPL_CNT p).flag F.FLT_EVT_REPL p
  (s.modFlt p fun x => { x with req := some (tq, min n 4096) }).flag F.FLT_STAT_PENDING p

/-- A write of FLT_CTRL (R209, R212). -/
def Work.wrFltCtrl (s : Work s₀) (p : Nat) (v : Word) : Work s₀ :=
  let n := v.toNat
  let s := s.when (bit n 14) fun s => s.fltCause p s.now
  s.when (bit n 0) fun s => s.fltSwap p s.now (bits n 1 13)

/-- FLT_CTRL_RESET (R209): a write of FLT_CTRL.RESET. -/
def execFltCtrlReset (t m p : Nat) (s : State) : Host.Outcome State Fault Refusal :=
  .next (((Work.start s).at t).access m 6 (p * 0x200 + 0x30) 87 true fun s => s.wrFltCtrl p 0x4000).st

/-- FLT_CTRL_SWAP (R212): a write of FLT_CTRL.SWAP with XF_N. -/
def execFltCtrlSwap (t m p n : Nat) (s : State) : Host.Outcome State Fault Refusal :=
  .next (((Work.start s).at t).access m 6 (p * 0x200 + 0x30) 87 true fun s =>
    s.wrFltCtrl p (w64 (1 + n % 2 ^ 13 * 2))).st

/-- A write of a bank word (R211): a bank in force, and either bank during a cross-fade, keeps its words; a shadow bank
starts again. -/
def Work.wrBank (s : Work s₀) (r : Reg) (i : Nat) (v : Word) : Work s₀ :=
  let p := i / 8
  let b : Bool := decide (4 ≤ i % 8)
  let x := s.flt p
  if x.xf.isSome || b == s.on F.FLT_STAT_BANK p then s
  else
    let s := s.wreg r i (v &&& w64 r.desc.rw)
    (s.modFlt p fun x => if b then { x with bankB := {} } else { x with bankA := {} }).combsClear p (some b)

/-- The bank word at an offset of the FLT region, if one lies there (R225). -/
def bankWord (a : Nat) : Option (Reg × Nat) :=
  let p := a / 0x200
  let o := a % 0x200
  if 64 ≤ p || o < 0x100 || a % 8 != 0 then none
  else
    let i := 8 * p + (o - 0x100) / 0x20
    match o % 0x20 / 8 with
    | 0 => some (.FLT_SCFG, i)
    | 1 => some (.FLT_GAIN, i)
    | 2 => some (.FLT_OFFSET, i)
    | _ => none

/-! ## Histogram engines (R220 to R224) -/

/-- The key that a record gives engine `h`, with its time (R220). -/
def State.heRecordKey (s : State) (h p : Nat) (r : List Word) : Option (Int × Nat) :=
  let sel := s.reg .FLT_SEL (64 + h)
  let w := fun i => (r.getD i 0).toNat
  let ty := F.FLT_SEL_TYPE.of sel
  let slot := s.get F.HE_CFG_KEY_SRC h = 1
  let any := slot && F.FLT_SEL_ID_ANY.of sel = 1
  let lane := bits (w 0) 60 4 = ty && (any || bits (w 0) 51 9 = F.FLT_SEL_ID.of sel)
  let kind := F.FLT_SEL_KIND_ANY.of sel = 1 || bits (w 0) 48 3 = F.FLT_SEL_SEL_KIND.of sel
  let time : Option Nat := match ty with
    | 1 | 2 => if lane then some (restore p (bits (w 0) 0 47)) else none
    | 3 => if any then (if lane && kind then some (w 1) else none) else (selects sel p r).map (·.t)
    | _ => (selects sel p r).map (·.t)
  match time.map fun t => s.near t with
  | none => none
  | some t =>
    if slot then
      let pos := s.posAt (s.unstamp t)
      some ((F.AXI_POS_SLOT.of pos : Int), t)
    else if ty = 2 then some ((bits (w 1) 32 24 : Int), t)
    else (selects sel p r).map fun x => (sval 64 x.f, t)

/-- Engine `h` takes the next record of its input queue (R197, R220); while a snapshot is being written its input pauses
(R223). -/
def Work.heRecord (s : Work s₀) (h : Nat) : Work s₀ :=
  let x := s.he h
  let q := s.get F.HE_CFG_IN_Q h
  if !s.on F.HE_CFG_EN h || s.on F.HE_STAT_CFG_ERR h || 2 ≤ s.get F.HE_CFG_KEY_SRC h || x.snap.isSome ||
      !s.st.boundTo q 4 h then s
  else
    let begin_ := !x.inp.busy
    match (if begin_ then s.st.peek q 0 else none), begin_ with
    | none, true => s
    | some none, _ => s.noHeader q
    | pk, _ =>
      let s := match pk with
        | some (some b) => (s.discardRest b).modHe h fun x => { x with inp := x.inp.start b }
        | _ => s
      let (i, r) := (s.he h).inp.next
      let (s, wait) := match r with
        | none => (s, false)
        | some r => match s.st.heRecordKey h (s.st.epochOf q i.ep) r with
          | none => (s, false)
          | some (v, t) =>
            if s.st.stakeFirst 7 h t then (s, true)
            else ((s.heKey h v t).setProg (0xC0 + h) (max (s.prog (0xC0 + h)) (s.st.unstamp t)), false)
      if wait then s
      else
        let s := s.modHe h fun x => { x with inp := { i with busy := !i.left.isEmpty } }
        if i.left.isEmpty then
          (s.modHe h fun x => { x with hor := max x.hor (s.st.near i.hor) }).popWords q i.len
        else s

/-- HE_RECORD (R220): histogram engine `h` takes an input record. -/
def execHeRecord (t h : Nat) (s : State) : Host.Outcome State Fault Refusal :=
  .next (((Work.start s).at t).heRecord h).st

/-- A write of HE_CTRL.OP (R222). -/
def Work.wrHeCtrl (s : Work s₀) (h : Nat) (v : Word) : Work s₀ :=
  let op := bits v.toNat 0 2
  if op = 0 then s else s.heOp h op 0 s.now

/-- The offset of HE_CTRL of engine `h` in the FLT region (Table FLT-6). -/
def heCtrlAt (h : Nat) : Nat := 0x10000 + h * 0x100 + 0x20

/-- HE_OP_SNAPSHOT (R222): a write of HE_CTRL.OP = 1. -/
def execHeOpSnapshot (t m h : Nat) (s : State) : Host.Outcome State Fault Refusal :=
  .next (((Work.start s).at t).access m 6 (heCtrlAt h) 87 true fun s => s.wrHeCtrl h 1).st

/-- HE_OP_SNAPSHOT_RESET (R222): a write of HE_CTRL.OP = 2. -/
def execHeOpSnapshotReset (t m h : Nat) (s : State) : Host.Outcome State Fault Refusal :=
  .next (((Work.start s).at t).access m 6 (heCtrlAt h) 87 true fun s => s.wrHeCtrl h 2).st

/-- HE_OP_RESET (R222): a write of HE_CTRL.OP = 3. -/
def execHeOpReset (t m h : Nat) (s : State) : Host.Outcome State Fault Refusal :=
  .next (((Work.start s).at t).access m 6 (heCtrlAt h) 87 true fun s => s.wrHeCtrl h 3).st

/-- The first waiting operation of engine `h` takes effect once nothing timed before it is still to come (R222). -/
def Work.heOpNext (s : Work s₀) (h : Nat) : Work s₀ :=
  let x := s.he h
  match x.ops with
  | [] => s
  | (k, a, t) :: rest =>
    if x.snap.isSome || (s.get F.HE_CFG_KEY_SRC h < 2 && x.hor < t) then s
    else
      let s := (s.modHe h fun x => { x with ops := rest }).put F.HE_STAT_WAIT_OPS h rest.length
      (s.heApply h k a t).heDrain h

/-- HIST_OP_APPLY (R222): a waiting operation of engine `h` takes effect. -/
def execHistOpApply (h : Nat) (s : State) : Host.Outcome State Fault Refusal :=
  .next ((Work.start s).heOpNext h).st

/-- A periodic SNAPSHOT_RESET is taken at a multiple of 2^SNAP_EXP ticks (R222). -/
def Work.hePeriod (s : Work s₀) (h : Nat) : Work s₀ :=
  match s.st.snapExp h with
  | none => s
  | some e =>
    let t := (s.he h).per
    let s := (s.at t).modHe h fun x => { x with per := t + 2 ^ e }
    s.heOp h 2 0 t

/-- PERIODIC_SNAPSHOT (R222): T64 reaches a multiple of 2^SNAP_EXP. -/
def execPeriodicSnapshot (h : Nat) (s : State) : Host.Outcome State Fault Refusal :=
  .next ((Work.start s).hePeriod h).st

/-- The HIST record of engine `h` has been written, in a bundle of its own (R223, R224). -/
def Work.heWritten (s : Work s₀) (h : Nat) : Work s₀ :=
  match (s.he h).snap with
  | none => s
  | some (ws, t) =>
    let prod := 0xC0 + h
    let q := s.get F.HE_SNAP_OUT_Q h
    if !s.st.canOpen prod q then s.forceClose prod
    else
      let s := s.ownBundle prod q t [{ t := t, ws := ws }]
      let s := (s.modHe h fun x => { x with snap := none }).flag F.HE_EVT_SNAP_DONE h
      s.heDrain h

/-- HIST_RECORD_WRITTEN (R223, R224): the record of a snapshot is complete. -/
def execHistRecordWritten (t h : Nat) (s : State) : Host.Outcome State Fault Refusal :=
  .next (((Work.start s).at t).heWritten h).st

/-- SHADOW_BANK_WRITE (R211): a write at offset `a` of the FLT region to a word of a bank. -/
def execShadowBankWrite (t m a : Nat) (v : Word) (s : State) : Host.Outcome State Fault Refusal :=
  .next (((Work.start s).at t).access m 6 a 87 true fun s =>
    match bankWord a with
    | some (r, i) => s.wrBank r i v
    | none => s).st

end Sys2Proof.Machine
end

