-- ==== Sys2Proof/Machine/Axis.lean ====
section
/-!
DEFINITION. The axis unit (R132 to R145): steps, positions, marks and resynchronisation, COAST, and the firing of stakes
at a step. The issue of stakes and their actions are in Stakes.lean.
-/

namespace Sys2Proof.Machine

variable {s₀ : State}

/-! ## Settings -/

/-- Change the axis unit. -/
def Work.modAxis (s : Work s₀) (f : AxisSt → AxisSt) : Work s₀ := s.setAxis (f s.st.axis)

/-- Change the timebase. -/
def Work.modTim (s : Work s₀) (f : TimSt → TimSt) : Work s₀ := s.setTim (f s.st.tim)

/-- The mark source in force. -/
def State.markSrc (s : State) : Nat := srcCode (F.AXI_CFG_MARK_SRC.of s.axis.cfg)

/-- S, the slots per turn. -/
def State.slots (s : State) : Nat := F.AXI_CFG_S_M1.of s.axis.cfg + 1

/-- MARK_OFS, signed. -/
def State.markOfs (s : State) : Int := sval 24 (F.AXI_OFS_MARK_OFS.of s.axis.ofs)

/-- POLICY in force: 3 acts as 0. -/
def State.axisPolicy (s : State) : Nat := F.AXI_CFG_POLICY.of s.axis.cfg % 3

/-- Whether MARK port `p` is an output (R133). -/
def State.markOut (s : State) (p : Nat) : Bool :=
  if p < 64 then bit (s.get F.AXI_MARKDIR0_DIR 0) p else bit (s.get F.AXI_MARKDIR1_DIR 0) (p - 64)

/-- AXI_POS shows a position in a state, and the axis remembers it from `t` on; in OFF and SEEK it has no position
(R136, R172). -/
def Work.axisShow (s : Work s₀) (t : Nat) (st turn slot : Nat) : Work s₀ :=
  let s := ((s.put F.AXI_POS_TURN 0 turn).put F.AXI_POS_SLOT 0 slot).put F.AXI_POS_STATE 0 st
  let w := if st ≤ 1 then F.AXI_POS_STATE.put 0 st else s.reg .AXI_POS 0
  s.modAxis fun x => { x with hist := (t, w) :: x.hist }

/-- An axis EVENT goes into every active queue (Table MON-3). -/
def Work.axisEvent (s : Work s₀) (kind aux t w1 : Nat) : Work s₀ := s.sysEvent 0x140 (genEvent kind aux t (w64 w1))

/-- A position as AXIS_START and AXIS_RESYNC carry it. -/
def posWord (turn slot : Nat) : Nat := slot * 2 ^ 40 + turn

/-- A position as AXIS_COAST and AXIS_RESUME carry it. -/
def posShort (turn slot : Nat) : Nat := slot * 2 ^ 48 + turn % 2 ^ 16 * 2 ^ 32

/-- The position `n` steps after TURN : SLOT with `m` slots per turn. -/
def advance (m turn slot n : Nat) : Nat × Nat := ((turn + (slot + n) / m) % 2 ^ 40, (slot + n) % m)

/-! ## The step period (R142, R143) -/

/-- AXI_PERIOD shows the mean of the last 64 intervals, PVALID once there are 64. -/
def Work.showPeriod (s : Work s₀) : Work s₀ :=
  let xs := s.st.axis.ivals
  let p := if xs.isEmpty then 0 else xs.foldl (· + ·) 0 * 2 ^ 16 / xs.length
  (s.put F.AXI_PERIOD_P 0 p).put F.AXI_PERIOD_PVALID 0 (b2n (xs.length == 64))

/-- COAST_TO in force, at most P/4 (R143). -/
def State.coastTo (s : State) : Nat :=
  let c := max 512 (F.AXI_CFG_COAST_TO.of s.axis.cfg)
  if s.on F.AXI_PERIOD_PVALID 0 then min c (s.get F.AXI_PERIOD_P 0 / 2 ^ 18) else c

/-- A real step: the interval from the step before it is taken where that was real too, and in the same run. -/
def Work.takeInterval (s : Work s₀) (t : Nat) (real : Bool) : Work s₀ :=
  let x := s.st.axis
  let s := match x.real with
    | some r =>
      if real && x.placed && x.last = some r then
        (s.modAxis fun x => { x with ivals := ((t - r) :: x.ivals).take 64 }).showPeriod
      else s
    | none => s
  let s := s.modAxis fun x => { x with last := some t, real := if real then some t else x.real, stall := false }
  s.wreg .AXI_STEPT 0 (w64 t)

/-! ## Stakes at a step (R147, R151) -/

/-- A committed stake word pair takes the place of another: the staging area is copied (R151). -/
def Work.stagingCopy (s : Work s₀) : Work s₀ :=
  let staged := s.st.regs.filter fun (k, _) =>
    k % 256 == Reg.STG_MATCH.ctorIdx || k % 256 == Reg.STG_ACTION.ctorIdx || k % 256 == Reg.STG_LG.ctorIdx
  let s := s.keepRegs fun k =>
    !(k % 256 == Reg.STAKE_MATCH.ctorIdx || k % 256 == Reg.STAKE_ACTION.ctorIdx || k % 256 == Reg.AXI_LG.ctorIdx)
  let s := s.each staged fun s (k, v) =>
    let i := k / 256
    if k % 256 = Reg.STG_MATCH.ctorIdx then s.wreg .STAKE_MATCH i v
    else if k % 256 = Reg.STG_ACTION.ctorIdx then s.wreg .STAKE_ACTION i v
    else s.wreg .AXI_LG i v
  (s.put F.AXI_CTRL_COMMIT 0 0).aevt F.AXI_EVT_COMMIT_DONE 0

/-- A COMMIT is carried out at once while the axis is OFF or in SEEK; otherwise it waits for a turn boundary. -/
def Work.commitReq (s : Work s₀) : Work s₀ :=
  if s.st.axisState ≤ 1 then s.stagingCopy else s.flag F.AXI_CTRL_COMMIT 0

/-- Whether a match word fires at TURN : SLOT (R147). -/
def matches' (w : Word) (turn slot : Nat) : Bool :=
  let m := F.STAKE_MATCH_M_M1.of w + 1
  F.STAKE_MATCH_EN.of w == 1 && (F.STAKE_MATCH_ANY.of w == 1 || F.STAKE_MATCH_SLOT.of w == slot) &&
    turn % m == F.STAKE_MATCH_K.of w % m

/-- Every stake that matches the new position fires, in order of index (R147), but for those `gone` that have acted
there already; issue may run until `last` (R148). The model's time is not reduced modulo 2^64 (log entry 39). -/
def Work.fire (s : Work s₀) (t last turn slot : Nat) (gone : List Nat := []) : Work s₀ :=
  let is := s.st.indices .STAKE_MATCH fun w => matches' w turn slot
  let is := is.filter fun i => s.get F.STAKE_ACTION_ACTION i < 10 && !gone.contains i
  let new : List Fired := is.map fun i =>
    { idx := i, act := s.reg .STAKE_ACTION i, ts := t + actDelay (s.reg .STAKE_ACTION i), step := t,
      pos := w64 (posWord turn slot), last := last }
  s.modAxis fun x => { x with
    fired := x.fired ++ new, acts := is.map (t, ·) ++ x.acts.filter fun (u, _) => t ≤ u + 2 ^ 24 }

/-! ## Marks (R139 to R141) -/

/-- Whether a disagreeing mark at SLOT `j` is applied under POLICY; the HOLD run goes on (R140). -/
def Work.holdRun (s : Work s₀) (j : Nat) : Work s₀ × Bool :=
  match s.st.axisPolicy with
  | 1 => (s, true)
  | 2 =>
    let (k, n) := s.st.axis.hold
    let n := if k = j then n + 1 else 1
    if max 1 (F.AXI_CFG_RESYNC_N.of s.st.axis.cfg) ≤ n then (s.modAxis fun x => { x with hold := (0, 0) }, true)
    else (s.modAxis fun x => { x with hold := (j, n) }, false)
  | _ => (s, false)

/-- A mark is associated with the step at `t`, which would take the position to `turn` : `j`: it agrees or disagrees.
Answers whether it is an applied resynchronisation. -/
def Work.judge (s : Work s₀) (t turn j : Nat) : Work s₀ × Bool :=
  if j = 0 then (s.modAxis fun x => { x with hold := (0, 0) }, false)
  else
    let s := (s.count F.AXI_CNT0_MISMATCH_CNT 0).aevt F.AXI_EVT_MISMATCH 0
    let (s, app) := s.holdRun j
    let s := s.axisEvent 2 (b2n app + 2 * s.st.axisPolicy) t (posWord turn j)
    (s.when app fun s => (s.aevt F.AXI_EVT_RESYNC 0).fltAxis t, app)

/-- Turn boundaries whose marks can no longer come are MISSING (R141). -/
def Work.missed (s : Work s₀) (now : Nat) : Work s₀ :=
  let o := s.st.markOfs
  let (gone, stay) := s.st.axis.due.partition fun (t : Nat) => decide ((t : Int) - o < now)
  let s := s.modAxis fun x => { x with due := stay }
  s.each gone fun s _ => (s.count F.AXI_CNT0_MISSING_CNT 0).aevt F.AXI_EVT_MISSING 0

/-- A turn boundary at `t` with no mark so far: MISSING, unless a negative MARK_OFS can still bring one. -/
def Work.noMark (s : Work s₀) (t : Nat) : Work s₀ :=
  if s.st.markSrc = 127 then s
  else if s.st.markOfs < 0 then s.modAxis fun x => { x with due := x.due ++ [t] }
  else (s.count F.AXI_CNT0_MISSING_CNT 0).aevt F.AXI_EVT_MISSING 0

/-- The step boundary of a timebase step that waits for the axis: the first coarse boundary at or after `t` + 2^15,
where turn boundary `t` does not come before the end of the measurement (R235). -/
def Work.stepBound (s : Work s₀) (t : Nat) : Work s₀ :=
  match s.st.tim.step with
  | some (d, none) =>
    let b := s.st.coarseUp (t + 2 ^ 15)
    if s.st.tim.stepT ≤ t then s.modTim fun x => { x with step := some (d, some b) } else s
  | _ => s

/-- The axis leaves RUN and COAST at `t` while a timebase step waits: `t` takes the turn boundary's place (R235). -/
def Work.stepLeave (s : Work s₀) (t : Nat) : Work s₀ :=
  match s.st.tim.step with
  | some (d, _) =>
    let b := s.st.coarseUp (t + 2 ^ 15)
    s.modTim fun x => { x with step := some (d, some b) }
  | none => s

/-! ## Steps (R136, R137) -/

/-- The step that establishes the position (R136, R138). -/
def Work.establish (s : Work s₀) (t last : Nat) : Work s₀ :=
  let turn := s.get F.AXI_PRESET_TURN_PRESET 0
  let s := (s.modAxis fun x => { x with placed := true, ivals := [], hold := (0, 0) }).showPeriod
  let s := (s.axisShow t 2 turn 0).aevt F.AXI_EVT_STARTED 0
  let s := s.axisEvent 1 (F.AXI_CFG_START_MODE.of s.st.axis.cfg) t (posWord turn 0)
  s.fire t last turn 0

/-- A step of the run at `t` in axis state `st`: the position advances or a mark resynchronises it, and stakes fire. -/
def Work.proceed (s : Work s₀) (t last st : Nat) (mark : Bool) : Work s₀ :=
  let (turn, j) := advance s.st.slots (s.get F.AXI_POS_TURN 0) (s.get F.AXI_POS_SLOT 0) 1
  let (s, app) := if mark then s.judge t turn j else (if j = 0 then s.noMark t else s, false)
  let (turn, slot) := if app then ((turn + 1) % 2 ^ 40, 0) else (turn, j)
  let s := s.axisShow t st turn slot
  let s := s.when (j = 0) fun s =>
    let s := s.when (s.on F.AXI_CTRL_COMMIT 0) fun s => s.stagingCopy
    s.stepBound t
  s.fire t last turn slot

/-- A step with stamp `t`, real or synthesised, in axis state `st` (R136, R137, R139); its stakes may issue until
`last`. -/
def Work.axisStep (s : Work s₀) (t last st : Nat) (real : Bool) : Work s₀ :=
  let s := s.missed t
  let o := s.st.markOfs
  let (due, later) := s.st.axis.marks.partition fun (m : Nat) => decide ((m : Int) + o ≤ t)
  let near := fun (us : List Nat) => us.takeWhile fun u => decide (t ≤ u + 2 ^ 24)
  let s := s.modAxis fun x => { x with
    marks := later, steps := near (t :: x.steps), marked := near (if due.isEmpty then x.marked else t :: x.marked) }
  let s := s.count F.AXI_CNT0_MISMATCH_CNT 0 (due.length - 1)
  let s := s.takeInterval t real
  let s := if st = 1 && due.isEmpty then s.axisShow t 1 (s.get F.AXI_POS_TURN 0) (s.get F.AXI_POS_SLOT 0)
    else if !s.st.axis.placed then s.establish t last
    else s.proceed t last st (!due.isEmpty)
  s.stakesGone

/-- A real step edge with stamp `t` (R134, R136, R143). -/
def Work.realStep (s : Work s₀) (t : Nat) : Work s₀ :=
  let x := s.st.axis
  let st := s.st.axisState
  if st = 0 then s
  else if match x.last with | some l => decide (t < l + 8192) | none => false then
    (s.count F.AXI_CNT3_FAST_CNT 0).aevt F.AXI_EVT_FAST 0
  else if st != 3 then s.axisStep t (t + 2 ^ 16) st true
  else
    let r := x.real.getD 0
    let p := s.get F.AXI_PERIOD_P 0
    let tk := s.st.coastAt r x.coastK
    if tk * 2 ^ 17 < t * 2 ^ 17 + p && t ≤ tk + s.st.coastTo then
      let s := s.aevt F.AXI_EVT_RESUME 0
      let s := s.axisStep t (t + 2 ^ 16) 2 true
      s.axisEvent 4 0 t (posShort (s.get F.AXI_POS_TURN 0) (s.get F.AXI_POS_SLOT 0) + min x.synth (2 ^ 32 - 1))
    else s.count F.AXI_CNT1_STRAY_CNT 0

/-! ## A mark after its step -/

/-- Positions from the step at `ta` on, which the mark moves to `turn` : 0 (R140): the axis remembers and shows them
so. -/
def Work.relabel (s : Work s₀) (ta turn : Nat) : Work s₀ :=
  let x := s.st.axis
  let m := s.st.slots
  let after := fun (u : Nat) => (x.steps.filter fun v => ta < v && v ≤ u).length
  let pos := fun (u : Nat) (w : Word) =>
    let (a, b) := advance m turn 0 (after u)
    F.AXI_POS_STATE.put (w64 (posWord a b)) (max 2 (F.AXI_POS_STATE.of w))
  let s := s.modAxis fun x => { x with hist := x.hist.map fun (u, w) => if ta ≤ u then (u, pos u w) else (u, w) }
  let (a, b) := advance m turn 0 (after s.now)
  let s := (s.put F.AXI_POS_TURN 0 a).put F.AXI_POS_SLOT 0 b
  s.put F.AXI_POS_STATE 0 (max 2 s.st.axisState)

/-- After a late mark the steps from `ta` on have other positions: the stakes of positions not taken do not fire, as
far as they have not acted, and those of the positions taken do, unless they have acted at that step already; the turn
boundaries that lack a mark are those of the positions taken (R141). -/
def Work.refire (s : Work s₀) (ta : Nat) : Work s₀ :=
  let x := s.st.axis
  let wait := ((x.fired ++ x.issued).filter (ta ≤ ·.step)).map fun f => (f.step, f.idx)
  let done := x.acts.filter fun a => ta ≤ a.1 && !wait.contains a
  let keep := fun (fs : List Fired) => fs.filter fun f => f.step < ta
  let us := (x.steps.filter (ta ≤ ·)).reverse
  let turns := us.filter fun u => F.AXI_POS_SLOT.of (s.st.posAt u) == 0 && !x.marked.contains u
  let s := s.modAxis fun x => { x with
    fired := keep x.fired, issued := keep x.issued, acts := done ++ x.acts.filter (·.1 < ta),
    due := if s.st.markOfs < 0 then x.due.filter (· < ta) ++ turns else x.due }
  let s := s.each us fun s u =>
    let w := s.st.posAt u
    s.fire u (u + 2 ^ 16) (F.AXI_POS_TURN.of w) (F.AXI_POS_SLOT.of w) ((done.filter (·.1 == u)).map (·.2))
  s.stakesGone

/-- A mark with stamp `tm` whose step has been taken already, at `ta`: a negative MARK_OFS brings it late (R139). -/
def Work.lateMark (s : Work s₀) (ta : Nat) : Work s₀ :=
  if s.st.axis.marked.contains ta then s.count F.AXI_CNT0_MISMATCH_CNT 0
  else
    let s := s.modAxis fun x => { x with marked := ta :: x.marked, due := x.due.filter (· != ta) }
    if s.st.axisState = 1 then
      let turn := s.get F.AXI_PRESET_TURN_PRESET 0
      let s := (s.modAxis fun x => { x with placed := true, ivals := [], hold := (0, 0) }).showPeriod
      let s := (s.relabel ta turn).aevt F.AXI_EVT_STARTED 0
      let s := s.axisEvent 1 (F.AXI_CFG_START_MODE.of s.st.axis.cfg) ta (posWord turn 0)
      s.refire ta
    else
      let w := s.st.posAt ta
      let turn := F.AXI_POS_TURN.of w
      let (s, app) := s.judge ta turn (F.AXI_POS_SLOT.of w)
      s.when app fun s => (s.relabel ta ((turn + 1) % 2 ^ 40)).refire ta

/-- The oldest of the axis's steps at or after an instant. -/
def firstStep (xs : List Nat) (t : Int) : Option Nat :=
  xs.foldl (fun a (u : Nat) => if t ≤ u then some u else a) none

/-- A mark with stamp `tm` (R139). -/
def Work.axisMark (s : Work s₀) (tm : Nat) : Work s₀ :=
  if s.st.axisState = 0 then s
  else
    let s := s.missed tm
    match firstStep s.st.axis.steps ((tm : Int) + s.st.markOfs) with
    | some ta => s.lateMark ta
    | none => s.modAxis fun x => { x with marks := x.marks ++ [tm] }

/-! ## The step generator -/

/-- The generated step that comes next, for whichever source selects the generator (R132, R135). -/
def Work.genStep (s : Work s₀) : Work s₀ :=
  let x := s.st.axis
  if s.st.axisState = 0 || (s.st.stepSrc != 100 && s.st.markSrc != 100) then s
  else
    let p := max (2 ^ 29) (F.AXI_GEN_GEN_PERIOD.of x.gen)
    let t := (rnd ((x.tg * 2 ^ 16 + x.gk * p : Nat) : Int) (2 ^ 16)).toNat
    let s := (s.at t).modAxis fun x => { x with gk := x.gk + 1 }
    if s.st.stepSrc = 100 then s.axisStep t (t + 2 ^ 16) s.st.axisState true else s.axisMark t

/-- GENERATED_STEP (R135): the internal step generator produces its next step. -/
def execGeneratedStep (s : State) : Host.Outcome State Fault Refusal :=
  .next (Work.start s).genStep.st

/-! ## Enabling and disabling (R136) -/

/-- Whether the sources of the axis are misconfigured (R132). -/
def State.axisBad (s : State) : Bool := s.stepSrc == 127 || s.stepSrc == s.markSrc

/-- The axis takes the configuration written while it was OFF or before this enable. -/
def Work.axisLoad (s : Work s₀) : Work s₀ :=
  s.modAxis fun x => { x with cfg := s.reg .AXI_CFG 0, ofs := s.reg .AXI_OFS 0, gen := s.reg .AXI_GEN 0 }

/-- The axis is enabled at `t`. -/
def Work.axisOn (s : Work s₀) (t : Nat) : Work s₀ :=
  let s := s.axisLoad
  if s.st.axisBad then s.aevt F.AXI_EVT_CFG_ERR 0
  else
    let s := s.modAxis fun x => { x with
      tg := t, gk := 0, placed := false, last := none, real := none, ivals := [], coastK := 0, synth := 0, stall := false,
      marks := [], steps := [], marked := [], due := [], hold := (0, 0), fired := [], issueAt := 0, issued := [],
      acts := [] }
    let st := if F.AXI_CFG_START_MODE.of s.st.axis.cfg = 1 then 2 else 1
    s.showPeriod.axisShow t st (s.get F.AXI_POS_TURN 0) (s.get F.AXI_POS_SLOT 0)

/-- The axis goes OFF at `t`: pending stakes are discarded, open quiet windows close, the position stays; a timebase
step that waits for a turn boundary waits no longer (R136, R235). -/
def Work.axisOff (s : Work s₀) (t : Nat) : Work s₀ :=
  if s.st.axisState = 0 then s
  else
    let s := s.modAxis fun x => { x with
      placed := false, fired := [], issueAt := 0, issued := [], acts := [], marks := [], steps := [], marked := [], due := [],
      last := none, real := none }
    let s := s.stakesGone
    let s := s.each ((s.st.cal.filter fun (n, c) => c.quietAt.isSome && n < 512).map (·.1)) fun s n => s.quiet n t false
    let s := s.when (2 ≤ s.st.axisState) fun s => s.stepLeave t
    let s := s.axisShow t 0 (s.get F.AXI_POS_TURN 0) (s.get F.AXI_POS_SLOT 0)
    -- R151: a COMMIT that waits for a turn boundary is carried out at once
    (s.when (s.on F.AXI_CTRL_COMMIT 0) fun s => s.stagingCopy).axisLoad

/-- A write of AXI_CTRL (R136, R151). -/
def Work.wrAxisCtrl (s : Work s₀) (v : Word) : Work s₀ :=
  let en := F.AXI_CTRL_EN.of v
  let s := s.when (en != s.get F.AXI_CTRL_EN 0) fun s =>
    let b := (s.st.axis.ctlAt.map (·.1)).getD (s.st.coarse s.now)
    (s.put F.AXI_CTRL_EN 0 en).modAxis fun x => { x with ctlAt := some (b, en == 1) }
  s.when (F.AXI_CTRL_COMMIT.of v = 1) fun s => s.commitReq

/-- A write of AXI_CFG, AXI_OFS or AXI_GEN: in force while the axis is OFF, otherwise at the next enable. -/
def Work.wrAxisCfg (s : Work s₀) (r : Reg) (v : Word) : Work s₀ :=
  let s := s.wreg r 0 (v &&& w64 r.desc.rw)
  if s.st.axisState = 0 then s.axisLoad else s

/-- A pending enable (`on`) or disable takes effect at its boundary. -/
def Work.axisCtl (s : Work s₀) (on : Bool) : Work s₀ :=
  match s.st.axis.ctlAt with
  | some (t, e) =>
    if e != on then s
    else
      let s := (s.at t).modAxis fun x => { x with ctlAt := none }
      if on then (if s.st.axisState = 0 then s.axisOn t else s) else s.axisOff t
  | none => s

/-- AXIS_ENABLE_APPLY (R136): EN = 1 takes effect at the coarse boundary. -/
def execAxisEnableApply (s : State) : Host.Outcome State Fault Refusal := .next ((Work.start s).axisCtl true).st

/-- AXIS_DISABLE_APPLY (R136): EN = 0 takes effect at the coarse boundary. -/
def execAxisDisableApply (s : State) : Host.Outcome State Fault Refusal := .next ((Work.start s).axisCtl false).st

/-! ## COAST (R143, R144) -/

/-- The next step of COAST is synthesised at its instant. -/
def Work.synthesise (s : Work s₀) : Work s₀ :=
  let x := s.st.axis
  let tk := s.st.coastAt (x.real.getD 0) x.coastK
  let s := s.modAxis fun x => { x with coastK := x.coastK + 1, synth := x.synth + 1 }
  let s := s.count F.AXI_CNT1_COAST_CNT 0
  (s.at (tk + s.st.coastTo)).axisStep tk (tk + s.st.coastTo + 2 ^ 16) 3 false

/-- No step edge has come by t_e + COAST_TO: the axis enters COAST, or sets STALL (R143). Before the first interval has
been measured P is 0 and no step is expected (log entry 33). -/
def Work.coastEntry (s : Work s₀) : Work s₀ :=
  let x := s.st.axis
  match x.last with
  | none => s
  | some l =>
    if s.st.axisState != 2 || F.AXI_CFG_COAST_EN.of x.cfg = 0 || s.st.stepSrc = 100 || s.get F.AXI_PERIOD_P 0 = 0 then s
    else if !s.on F.AXI_PERIOD_PVALID 0 then
      if x.stall then s
      else ((s.at (s.st.coastAt l 1 + s.st.coastTo)).modAxis fun x => { x with stall := true }).aevt F.AXI_EVT_STALL 0
    else
      let tk := s.st.coastAt l 1
      let p := s.get F.AXI_PERIOD_P 0
      let s := s.modAxis fun x => { x with real := some l, coastK := 1, synth := 0 }
      let s := s.synthesise.aevt F.AXI_EVT_COAST 0
      let pt := min ((p + 2 ^ 15) / 2 ^ 16) (2 ^ 38 - 1)
      s.axisEvent 3 (pt / 2 ^ 32) tk (posShort (s.get F.AXI_POS_TURN 0) (s.get F.AXI_POS_SLOT 0) + pt % 2 ^ 32)

/-- COAST_ENTRY (R143): no step edge arrives by t_e + COAST_TO. -/
def execCoastEntry (s : State) : Host.Outcome State Fault Refusal := .next (Work.start s).coastEntry.st

/-- SYNTHESISED_STEP (R143): no real edge arrives in the interval of the step that COAST expects. -/
def execSynthesisedStep (s : State) : Host.Outcome State Fault Refusal :=
  .next ((Work.start s).when (s.axisState == 3) fun s => s.synthesise).st

end Sys2Proof.Machine
end

