-- ==== Sys2Proof/Machine/Edge.lean ====
section
/-!
DEFINITION. EDGE: what a change of a circuit's output does. It is stamped, matched and owned during an overlap, counted,
paired, picked off and recorded; it may start or stop a ramp, defer a baseline sample, and wake the engine. The events
that end an overlap stand here too, since edges may still wait for their copies then.
-/

namespace Sys2Proof.Machine

variable {s₀ : State}

/-! ## What an edge does on its lane -/

/-- A comparator A assertion defers a baseline sample and counts in a quiet window (R96, R154). -/
def Work.quietHit (s : Work s₀) (n : Nat) : Work s₀ :=
  match (s.cal n).quietAt with
  | some _ => (s.modCal n fun c => { c with hit := true }).wreg .AXI_QHIT n
      (w64 (min ((s.reg .AXI_QHIT n).toNat + 1) (2 ^ 32 - 1)))
  | none => s

/-- What the pairing units see of an edge of lane `n` that unit `u` has taken; `stamped` where it is one of their
events. -/
def State.pairIn (s : State) (n u : Nat) (e : Seen) (stamped : Bool) : PIn :=
  { t := e.t, rx := e.rx, stamped := stamped, full := e.full, uncal := s.laneBad n, rel := 512 ≤ u }

/-! ## Partners ahead of their assertion

Where an input of comparator B or CMP is faster than comparator A, a partner can reach capture before the assertion that
takes it (R61; log entry 46). -/

/-- The pick-off modes whose partner event edge `e` is (R59). -/
def Seen.serves (e : Seen) (pick : Nat) : Bool :=
  match e.circ with
  | .a => pick == 3 && !e.lv
  | .b => (pick == 1 && e.lv) || (pick == 2 && e.fired)
  | .cmp => (pick == 1 || pick == 2) && e.lv

/-- Two stamps of one edge may lie at most 256 ticks apart (R80). -/
def nearBy (x y : Nat) : Bool := x ≤ y + 256 && y ≤ x + 256

/-- A partner event that no assertion has taken yet is an orphan of lane `n`, if `counted`, and is remembered as long as
an assertion of no later stamp can come; `rcd` is its record. -/
def Work.addEarly (s : Work s₀) (n u : Nat) (e : Seen) (counted : Bool) (rcd : Option Held) : Work s₀ :=
  let s := s.when counted fun s => s.count F.CAP_CNT1_ORPHAN_CNT n
  let still := fun (x : Early) => s.now ≤ x.e.t + s.st.lag x.unit
  s.modCap n fun c => { c with early := (c.early ++ [Early.mk u e counted rcd]).filter still }

/-- A remembered partner event is no orphan of lane `n` after all: neither counted nor recorded. -/
def Work.withdraw (s : Work s₀) (n : Nat) (x : Early) : Work s₀ :=
  let s := s.modCap n fun c => { c with
    early := c.early.erase x, held := match x.rcd with | some h => c.held.erase h | none => c.held }
  s.when x.counted fun s => s.put F.CAP_CNT1_ORPHAN_CNT n (s.get F.CAP_CNT1_ORPHAN_CNT n - 1)

/-- An assertion of lane `n` takes the first remembered partner event of its unit (R61); in an overlap the other side's
copy of that event is taken with it. -/
def Work.takeEarly (s : Work s₀) (n : Nat) (a : Search) : Work s₀ :=
  let fits := fun (x : Early) => x.unit == a.unit && x.e.serves a.pick && a.tA ≤ x.e.t && x.e.t ≤ a.tA + a.win
  match (s.cap n).early.find? fits with
  | none => s
  | some x =>
    let copy := fun (e : Seen) => e.circ == x.e.circ && nearBy e.t x.e.t
    let s := s.each ((s.cap n).early.filter fun y => y == x || (y.unit != x.unit && copy y.e)) fun s y => s.withdraw n y
    let s := s.modBlk (n / 16) fun k => { k with ov := k.ov.map fun (o : Overlap) => { o with
      qD := o.qD.map fun e => if copy e then { e with taken := true } else e } }
    (s.modCap n fun c => { c with searches := c.searches.erase a }).partner n a x.e.t x.e.full

/-! ## The three circuits take an edge -/

/-- Comparator A or the IN receiver of unit `u` has taken edge `e` of lane `n` (R52 to R61). An edge that the unit does
not own still ends the pulse of an assertion that it owns (R85). A deassertion that ends no TOT search is no partner
event, and counts as no orphan (log entry 35). -/
def Work.takeIn (s : Work s₀) (n u : Nat) (e : Seen) (own : Bool) : Work s₀ :=
  let pick := F.CAP_LANECFG_PICK.of e.cfg
  let sel := F.CAP_LANECFG_EDGE_SEL.of e.cfg
  let width := fun (s : Work s₀) => s.when (!e.lv && e.stamped) fun s => (s.matchPartner n u e.t e.full (· == 3)).1
  if !own then width s
  else
    let s := s.when e.lv fun s => s.quietHit n
    let s := s.cntIn n ⟨e.rx, e.lv, if e.pass then some (e.t, e.full) else none, 512 ≤ u⟩
    let s := s.pairEdges n 0 (b2n (!e.lv)) (s.st.pairIn n u e e.pass)
    if !e.stamped then s
    else
      let s := s.when (!e.full) fun s => s.count F.CAP_CNT0_COARSE_CNT n
      let s := s.learnStamp n e.t
      let q := s.st.quality n u e.full
      let s := width s
      if !e.pass then s
      else if pick = 0 then s.when (e.chosen && sel != 0) fun s => s.hold n 1 (edgeRec n e.lv 0 q e.t (s.st.stampAt e.rx e.t)) e.t
      else if e.lv then
        let a : Search := { tA := e.t, q := q, pick := pick, win := winOf e.pick, k := e.k, kOk := e.kOk,
                            bank := F.CAP_LANECFG_WALK_BANK.of e.cfg, unit := u, rx := e.rx }
        (s.modCap n fun c => { c with searches := c.searches ++ [a] }).takeEarly n a
      else s.when (pick != 3 && 2 ≤ sel) fun s => s.hold n 1 (edgeRec n false 0 q e.t (s.st.stampAt e.rx e.t)) e.t

/-- Comparator B of unit `u` has taken edge `e` of lane `n` (R59, R61): answers whether an assertion took it as its
partner, then or, by `e.taken`, on the other side of an overlap. One that none takes is an orphan where the mode at its
reception makes it a candidate and the unit owns it. -/
def Work.takeB (s : Work s₀) (n u : Nat) (e : Seen) (own : Bool) : Work s₀ × Bool :=
  let s := s.when (own && !e.full) fun s => s.count F.CAP_CNT0_CMP_COARSE_CNT n
  if e.taken then (s, true)
  else
    let (s, hit) := s.matchPartner n u e.t e.full e.serves
    (s.when (!hit) fun s => s.addEarly n u e (own && e.serves (F.CAP_LANECFG_PICK.of e.cfg)) none, hit)

/-- The CMP receiver of unit `u` has taken edge `e` of lane `n` (R58, R59): answers whether an assertion took it as its
partner, then or, by `e.taken`, on the other side of an overlap. -/
def Work.takeCmp (s : Work s₀) (n u : Nat) (e : Seen) (own : Bool) : Work s₀ × Bool :=
  let cand := F.FRE_INCFG_MODE.of (s.fre n).cfg = 1 && e.lv && e.stamped
  let s := s.when own fun s => s.pairEdges n 1 (b2n (!e.lv)) (s.st.pairIn n u e e.stamped)
  let s := s.when (own && e.stamped && !e.full) fun s => s.count F.CAP_CNT0_CMP_COARSE_CNT n
  let (s, hit) := if cand && !e.taken then s.matchPartner n u e.t e.full e.serves else (s, e.taken)
  let r := edgeRec n e.lv 1 (s.st.quality n u e.full) e.t (s.st.stampAt e.rx e.t)
  let rec' := own && F.CAP_LANECFG_CMP_REC.of e.cfg = 1 && e.chosen && e.stamped && !hit
  let s := s.when rec' fun s => s.hold n 2 r e.t
  (s.when (cand && !hit) fun s => s.addEarly n u e (own && e.serves (F.CAP_LANECFG_PICK.of e.cfg))
    (if rec' then some ⟨2, e.t, r⟩ else none), hit)

/-- Unit `u` has taken edge `e` of lane `n`, which it owns or not: answers whether it was consumed as a partner. -/
def Work.take (s : Work s₀) (n u : Nat) (e : Seen) (own : Bool) : Work s₀ × Bool :=
  match e.circ with
  | .a => (s.takeIn n u e own, false)
  | .b => s.takeB n u e own
  | .cmp => s.takeCmp n u e own

/-! ## Overlaps (R80 to R86) -/

/-- An overlap in which lane `n` and its relief lane both see edges. -/
def State.overlapOf (s : State) (n : Nat) : Option Overlap :=
  match (s.calBlkAt (n / 16)).ov with
  | some o => if o.start.isSome && s.get F.CAL_BSTAT_POS (n / 16) == n % 16 then some o else none
  | none => none

/-- The unit whose stamps decide in lane `n`'s overlap: the lane at the handover, the relief lane at the handback
(R84). -/
def Overlap.first (o : Overlap) (n : Nat) : Nat := if o.back then 512 + n / 16 else n

/-- The unit on the other side. -/
def Overlap.second (o : Overlap) (n : Nat) : Nat := if o.back then n else 512 + n / 16

/-- Whether unit `u` is on a side that the multiplexer has connected but that has not settled yet. -/
def State.unsettled (s : State) (n u : Nat) : Bool :=
  match (s.calBlkAt (n / 16)).ov with
  | some o => o.start.isNone && s.get F.CAL_BSTAT_POS (n / 16) == n % 16 && u == o.second n
  | none => false

/-- Whether the boundary of block `b`'s overlap has passed, so that a late unmatched edge ends nothing. -/
def State.crossed (s : State) (b : Nat) (o : Overlap) : Bool := if o.back then (s.carried b).isNone else (s.carried b).isSome

/-- Change the overlap of block `b`. -/
def Work.modOv (s : Work s₀) (b : Nat) (f : Overlap → Overlap) : Work s₀ :=
  s.modBlk b fun k => { k with ov := k.ov.map f }

/-- A matched IN edge of number `o.n + 1` adds its difference to one half's sum (R81). -/
def Overlap.addSkew (o : Overlap) (d : Int) : Overlap :=
  if o.n % 2 = 0 then { o with n := o.n + 1, sums := (o.sums.1 + d, o.sums.2), cnts := (o.cnts.1 + 1, o.cnts.2) }
  else { o with n := o.n + 1, sums := (o.sums.1, o.sums.2 + d), cnts := (o.cnts.1, o.cnts.2 + 1) }

/-- Edge `e` of the deciding side and edge `h` of the other are one (R80): its difference joins the skew, or in the
handback the step, of IN and CMP alike (R81, R86). -/
def Work.matched (s : Work s₀) (b : Nat) (e h : Seen) : Work s₀ :=
  s.modBlk b fun k => match k.ov with
    | none => k
    | some o =>
      let o := { o with qD := o.qD.erase e }
      if o.back then
        { k with ov := some { o with n := if e.circ == .a then o.n + 1 else o.n },
                 stepD := k.stepD + (h.raw - (e.raw + k.skew)), stepN := k.stepN + 1 }
      else { k with ov := some (if e.circ == .a then o.addSkew (e.raw - h.raw) else o) }

/-- An edge of lane `n` is unmatched before the boundary: a failed alignment (R80). The boundary is no longer fixed, so
the deciding side owns what it had left to the other. -/
def Work.misalign (s : Work s₀) (n : Nat) : Work s₀ :=
  match s.st.overlapOf n with
  | none => s
  | some o =>
    let s := s.each (o.qD.filter (!·.own)) fun s e => (s.take n (o.first n) e true).1
    s.failAlign (n / 16)

/-- The edges of lane `n` that wait in its overlap are matched in order, in at most `fuel` steps. An edge of the other
side is owned as the deciding stamp says; where it is the only copy, its own stamp gives its instant (R80, R84). Past
the boundary two copies that lie farther apart are still one edge, unless one of them has another copy near it (log
entry 7). Comparator B's edges only pair off with their copies. -/
def Work.drain (s : Work s₀) (n : Nat) : Nat → Work s₀
  | 0 => s
  | fuel + 1 =>
    match s.st.overlapOf n with
    | none => s
    | some o =>
      let b := n / 16
      let old := fun (e : Seen) (u : Nat) => e.t + 256 + s.st.lag u < s.now
      let crossed := s.st.crossed b o
      match o.qN with
      | [] =>
        let late := fun (e : Seen) => old e (o.second n) && (crossed || e.circ == .b)
        let s := s.modOv b fun o => { o with qD := o.qD.filter (!late ·) }
        if o.qD.any fun e => old e (o.second n) && !late e then s.misalign n else s
      | h :: rest =>
        let pop := s.modOv b fun o => { o with qN := rest }
        let alone := fun (_ : Unit) =>
          (pop.take n (o.second n) h (((s.calBlk b).bound).any (· ≤ h.t))).1.drain n fuel
        -- `h` and `e` are one edge
        let one := fun (s : Work s₀) (e : Seen) =>
          ((s.take n (o.second n) { h with taken := e.taken } (!e.own)).1).drain n fuel
        let drop := fun (s : Work s₀) (e : Seen) => s.modOv b fun o => { o with qD := o.qD.erase e }
        let copies := o.qD.filter (·.circ == h.circ)
        if h.circ == .b then
          match copies.find? fun e => nearBy e.t h.t with
          | some e => one (drop pop e) e
          | none => if old h (o.first n) then alone () else s
        else match copies with
          | e :: more =>
            if nearBy e.t h.t then one (pop.matched b e h) e
            else if !crossed then s.misalign n
            else if e.t < h.t then
              if more.any fun x => nearBy x.t h.t then (drop s e).drain n fuel
              else if old h (o.first n) then one (drop pop e) e
              else s
            else if rest.any fun x => x.circ == e.circ && nearBy e.t x.t then alone ()
            else if old e (o.second n) then one (drop pop e) e
            else s
          | [] => if !old h (o.first n) then s else if crossed then alone () else s.misalign n

/-- The overlap of lane `n` is over, its boundary passed: what still waits is owned by its own stamp, and the prescaler
goes on in the phase of the side that carries the lane (R84, R85). -/
def Work.overlapOver (s : Work s₀) (n : Nat) : Work s₀ :=
  match s.st.overlapOf n with
  | none => s
  | some o =>
    let s := s.drain n (o.qD.length + o.qN.length + 1)
    let left := match s.st.overlapOf n with | some o => o.qN | none => []
    let bound := (s.calBlk (n / 16)).bound
    let s := s.each left fun s h => (s.take n (o.second n) h (bound.any (· ≤ h.t))).1
    s.modCap n fun c => { c with pres := o.pres, passed := o.passed }

/-- Unit `u` has taken edge `e` of lane `n`: outside an overlap it owns it; in one the deciding side owns it by its
stamp, and the other side's waits for its copy (R80, R84). -/
def Work.offer (s : Work s₀) (n u : Nat) (e : Seen) : Work s₀ :=
  let b := n / 16
  match s.st.overlapOf n with
  | none => (s.take n u e true).1
  | some o =>
    let fuel := o.qD.length + o.qN.length + 2
    if u = o.second n then (s.modOv b fun o => { o with qN := o.qN ++ [e] }).drain n fuel
    else
      let own := (s.calBlk b).bound.all (e.t < ·)
      let (s, taken) := s.take n u e own
      (s.modOv b fun o => { o with qD := o.qD ++ [{ e with own := own, taken := taken }] }).drain n fuel

/-! ## The three circuits -/

/-- The prescaler's phase and verdict that unit `u` goes by for lane `n` (R85). -/
def State.presOf (s : State) (n u : Nat) : Nat × Bool :=
  match s.overlapOf n with
  | some o => if u = o.second n then (o.pres, o.passed) else ((s.capAt n).pres, (s.capAt n).passed)
  | none => ((s.capAt n).pres, (s.capAt n).passed)

/-- The prescaler's phase of unit `u` for lane `n` after an edge. While both sides of an overlap have taken the same
edges, their phases agree (R85). -/
def Work.setPres (s : Work s₀) (n u pres : Nat) (passed : Bool) : Work s₀ :=
  let other := match s.st.overlapOf n with | some o => u == o.second n | none => false
  let s := if other then s.modOv (n / 16) fun o => { o with pres := pres, passed := passed }
    else s.modCap n fun c => { c with pres := pres, passed := passed }
  let c := s.cap n
  s.when (s.st.overlapOf n).isSome fun s => s.modOv (n / 16) fun o =>
    if (o.qD ++ o.qN).any (·.circ == .a) then o else { o with pres := c.pres, passed := c.passed }

/-- Edge `e` of lane `n` with the settings at its reception: an edge received before their change is one before it (R72,
log entry 35). -/
def State.seenBy (s : State) (n : Nat) (e : Seen) : Seen :=
  let c := s.capAt n
  { e with cfg := c.cfg, pick := c.pick, k := s.get F.CAP_STAT_K_EFF n, kOk := s.on F.CAP_STAT_K_VALID n }

/-- An edge of comparator A or the IN receiver of unit `u`, which sees lane `n` (R52 to R57): the prescaler counts it
where EDGE_SEL selects it or, with a partner mode, it is an assertion; a deassertion is stamped with its assertion. -/
def Work.inEdge (s : Work s₀) (n u t : Nat) (lv : Bool) (tn : Option Nat) : Work s₀ :=
  let c := s.cap n
  let pick := F.CAP_LANECFG_PICK.of c.cfg
  let sel := F.CAP_LANECFG_EDGE_SEL.of c.cfg
  let (pres, passed) := s.st.presOf n u
  let chosen := if pick = 0 then (if lv then sel != 2 else 2 ≤ sel) else lv
  let pass := if chosen then pres == 0 else pick != 0 && !lv && passed
  let ends := !lv && passed && c.searches.any fun a => a.pick == 3 && a.unit == u
  let x := s.st.stampOf u .a t tn
  let s := s.when (pass || ends) fun s => s.takeStamp u .a t x
  let s := s.offer n u <| s.st.seenBy n { circ := .a, lv := lv, rx := t, raw := x.raw, t := x.t, full := x.full,
                                          chosen := chosen, pass := pass, stamped := pass || ends }
  s.setPres n u (if !chosen then pres else if pass then s.get F.CAP_STAT_P_EFF n - 1 else pres - 1)
    (if lv then chosen && pass else passed)

/-- An edge of comparator B of unit `u` (R33, R59): `fired` when it is the ramp's firing. -/
def Work.bEdge (s : Work s₀) (n u t : Nat) (lv fired : Bool) (tn : Option Nat) : Work s₀ :=
  let c := s.cap n
  let x := s.st.stampOf u .b t tn
  let e : Seen := { circ := .b, lv := lv, fired := fired, rx := t, raw := x.raw, t := x.t, full := x.full, stamped := true }
  if e.serves (F.CAP_LANECFG_PICK.of c.cfg) || c.searches.any fun a => e.serves a.pick then
    (s.takeStamp u .b t x).offer n u (s.st.seenBy n e)
  else s

/-- An edge of the CMP receiver of unit `u` (R58, R59). -/
def Work.cmpEdge (s : Work s₀) (n u t : Nat) (lv : Bool) (tn : Option Nat) : Work s₀ :=
  let c := s.cap n
  let modes := fun (p : Nat) => p == 1 || p == 2
  let cand := F.FRE_INCFG_MODE.of (s.fre n).cfg = 1 && lv &&
    (modes (F.CAP_LANECFG_PICK.of c.cfg) || c.searches.any fun a => modes a.pick)
  let chosen := bit (F.CAP_LANECFG_CMP_SEL.of c.cfg) (b2n (!lv))
  let x := s.st.stampOf u .cmp t tn
  let s := s.when (cand || chosen) fun s => s.takeStamp u .cmp t x
  s.offer n u <| s.st.seenBy n { circ := .cmp, lv := lv, rx := t, raw := x.raw, t := x.t, full := x.full,
                                 chosen := chosen, stamped := cand || chosen }

/-! ## The waking edge (R374) -/

/-- The first assertion of comparator A of lane `n` in WATCH, at `t`: recorded, and it wakes the engine. -/
def Work.wakingEdge (s : Work s₀) (n t : Nat) : Work s₀ :=
  let p := s.st.pwr
  if p.edges.any (·.1 == n) then s
  else
    let tw := max ((t + 16383) / 16384 * 16384 - 3276800) (p.tq.getD 0)
    let s := s.setPwr { p with edges := p.edges ++ [(n, tw)] }
    if p.wake.isSome then s
    else
      let s := s.setPwr { s.st.pwr with wake := some (1, n, t) }
      (s.put F.PWR_ENG_LAST_WAKE 0 1).put F.PWR_ENG_WAKE_LANE 0 n

/-! ## EDGE -/

/-- Whether a circuit of unit `u` runs in WATCH speed and so delivers nothing to capture (R26); the receiver of a
loopback runs on (R247). -/
def State.watchSpeed (s : State) (u : Nat) (c : Circuit) : Bool :=
  let cfg := s.feCfg u
  match c with
  | .a => F.FRE_INCFG_MODE.of cfg == 0 && F.FRE_INCFG_SPEED_A.of cfg == 3 && !s.looped u
  | .b => F.FRE_INCFG_SPEED_B.of cfg == 3
  | .cmp => false

/-- Whether comparator A of unit `u` runs in engine state WATCH (R26): that of an analogue lane with WAKE_EN, whatever
EN holds. -/
def State.wakes (s : State) (u : Nat) : Bool :=
  decide (u < 512) && F.FRE_INCFG_MODE.of (s.freAt u).cfg == 0 && s.on F.FRE_INCFG_WAKE_EN u && s.domOn (pdFront (blockOf u))

/-- The output of circuit `c` of unit `u` changes to `lv` at `t`; `tn` is the reception of the next edge of that input
that gets a full stamp (R54). In WATCH only the waking comparators run (R26, R374). -/
def Work.edge (s : Work s₀) (t u : Nat) (c : Circuit) (lv : Bool) (tn : Option Nat) : Work s₀ :=
  match s.st.laneOfUnit u with
  | none => s
  | some n =>
    if s.st.eng == .watch then
      s.when (c == .a && s.st.wakes u) fun s =>
        ((s.setUnres u .a false).put F.FRE_STAT_LVL_A u (b2n lv)).when lv fun s => s.wakingEdge n t
    else if !s.st.circuitLive u c || s.st.unsettled n u then s
    else if s.on (unresFld c) u && !lv then s
    else if !s.on (unresFld c) u && s.on (lvlFld c) u == lv then s
    else
      let s := (s.setUnres u c false).put (lvlFld c) u (b2n lv)
      let s := match c with
        | .a => s.when (lv && !s.st.looped u) fun s => s.flag F.FRE_EVT_EDGE_A u
        | .cmp => s.when lv fun s => s.flag F.FRE_EVT_EDGE_CMP u
        | .b => s
      let running := match (s.fre u).ramp with
        | some r => r.recEnd.isNone && decide (r.ts ≤ t)
        | none => false
      let s := s.when (c == .b && running) fun s => s.rampStop u t
      let live := s.st.running && s.st.domOn (pdCapture (blockOf n)) && !s.st.watchSpeed u c
      let s := if !live then s
        else match c with
          | .a => s.inEdge n u t lv tn
          | .b => s.bEdge n u t lv running tn
          | .cmp => s.cmpEdge n u t lv tn
      s.when (c == .a && lv && F.FRE_RAMP_SRC_A.of (s.reg .FRE_RAMP n) = 1) fun s => s.rampStart u t

/-- EDGE (R20, R24, R37, R40, R41): the input of circuit `c` of unit `u` comes to `v` at `t`; where that takes its
output to another level, the edge is reported; in loopback, where the output makes one at `t` (R247). -/
def execEdge (t u : Nat) (c : Circuit) (v : Int) (tn : Option Nat) (s : State) : Host.Outcome State Fault Refusal :=
  let s := (Work.start s).at t
  .next (match s.st.newLevel u t c v with
    | some lv => s.edge t u c lv tn
    | none => s).st

/-! ## The ends of overlaps -/

/-- LANE_OFFLINE (R88): 20 ns after t_h the lane in hand is disconnected and offline calibration begins. -/
def execLaneOffline (b : Nat) (s : State) : Host.Outcome State Fault Refusal :=
  let s := Work.start s
  .next <| (match (s.calBlk b).bound with
    | some h =>
      if s.get F.CAL_BSTAT_STEP b = 1 && (s.st.carried b).isSome then
        let s := s.at (h + 32768)
        let n := s.st.unitInHand b
        let s := ((s.overlapOver n).put F.CAL_BSTAT_STEP b 2).frontOff n
        s.modBlk b fun k => { k with ov := none, bound := none, statOk := false, runs := 0, hits1 := [], new := none }
      else s
    | none => s).st

/-- RELIEF_RELEASED (R78): 20 ns after t_k the relief lane is released and the sequencer is idle. -/
def execReliefReleased (b : Nat) (s : State) : Host.Outcome State Fault Refusal :=
  let s := Work.start s
  .next <| (match (s.calBlk b).bound with
    | some h =>
      if s.get F.CAL_BSTAT_STEP b = 3 && (s.st.carried b).isNone then
        (((s.at (h + 32768)).overlapOver (s.st.unitInHand b)).frontOff (512 + b)).cycleOver b
      else s
    | none => s).st

/-- A ramp of unit `u` that still runs stops at `t` (R42). -/
def Work.rampHalt (s : Work s₀) (u t : Nat) : Work s₀ :=
  s.when ((s.fre u).ramp.any (·.recEnd.isNone)) fun s => s.rampStop u t

/-- The cycle in hand of block `b` ends without its results, as lane `u` is blanked (R45, R104): the relief lane of a
handover's overlap lets the signal go, and a gap that awaits its end does not end here. -/
def Work.dropResults (s : Work s₀) (b u : Nat) : Work s₀ :=
  let s := s.when ((s.calBlk b).ov.any (!·.back)) fun s => s.frontOff (512 + b)
  let s := s.modBlk b fun k => { k with ov := none, bound := none, new := none, hits1 := [], runs := 0, statOk := false }
  s.when (s.get F.CAL_BSTAT_STEP b = 4) fun s => s.modCal u fun c => { c with gapE := none }

/-- SWITCH_BLANK_START (R42, R45): at t_b lane `u` is blanked, its gate marked, a running ramp of every front end that
sees its signal stopped, and the partial results of a calibration in hand discarded. -/
def execSwitchBlankStart (u : Nat) (s : State) : Host.Outcome State Fault Refusal :=
  let s := Work.start s
  let b := blockOf u
  .next <| (match (s.fre u).sw with
    | some q =>
      if q.stage != 0 then s
      else
        let s := s.at q.tb
        let s := s.modFre u fun f => { f with sw := some { q with stage := 1 } }
        let s := (s.markDisc u).learnEnd u
        let s := s.rampHalt u q.tb
        let s := s.when (s.st.reliefLane b == some u) fun s => s.rampHalt (512 + b) q.tb
        let s := s.when (s.st.loopLane b == some u) fun s => (s.put F.TIM_LOOP_ACTIVE b 0).frontOff (512 + b)
        s.when (s.st.cycleHolds b u) fun s => s.dropResults b u
    | none => s).st

end Sys2Proof.Machine
end

