-- ==== Sys2Proof/Machine/Egress.lean ====
section
/-!
DEFINITION. The pool groups' modes, the Ethernet ports and the egress channels (R323, R324, R328 to R332).
-/

namespace Sys2Proof.Machine

variable {s₀ : State}

/-! ## Groups -/

/-- The power domain of group `g` (R323). -/
def pdGroup (g : Nat) : Nat := 90 + g / 4

/-- The mode that group `g` runs (R323, Tables LNK-1 and LNK-10): OFF where its domain is not ON or the value is none of
its modes. -/
def State.grpMode (s : State) (g : Nat) : Nat :=
  let m := s.get F.LNK_GRP_MODE g
  if !s.domOn (pdGroup g) then 0 else if g < 4 then 1 else if m = 1 || 6 ≤ m then 0 else m

/-- Whether Ethernet port `p` can send (R329). -/
def State.portUp (s : State) (p : Nat) : Bool :=
  s.domOn 85 && s.grpMode (p + 4) == 2 && s.on F.LNK_GSTAT_UP (p + 4)

/-- LOCK, ALIGNED and UP of group `g`; a change of UP sets UP_CHG. -/
def Work.groupStat (s : Work s₀) (g lock : Nat) (up : Bool) : Work s₀ :=
  let was := s.on F.LNK_GSTAT_UP g
  let s := (s.put F.LNK_GSTAT_LOCK g lock).put F.LNK_GSTAT_ALIGNED g (b2n up)
  (s.put F.LNK_GSTAT_UP g (b2n up)).when (was != up) fun s => s.flag F.LNK_GEVT_UP_CHG g

/-- UP_CHG (R329): the link of Ethernet port `p` comes up or goes down. -/
def execUpChg (t p : Nat) (up : Bool) (s : State) : Host.Outcome State Fault Refusal :=
  .next (((Work.start s).at t).when (p < 12 && s.grpMode (p + 4) == 2 && s.grpAt (p + 4) == none) fun s =>
    s.groupStat (p + 4) (if up then 15 else 0) up).st

/-! ## Ports -/

/-- A number as `w` bytes, the most significant first. -/
def be (w n : Nat) : List Byte := (le w n).reverse

/-- The sum of bytes as 16-bit numbers, the most significant byte first. -/
def sum16 : List Byte → Nat
  | a :: b :: rest => a.toNat * 256 + b.toNat + sum16 rest
  | [a] => a.toNat * 256
  | [] => 0

/-- The Internet checksum: the complement of the one's complement sum. -/
def inetSum (bs : List Byte) : Nat :=
  let f := fun x => x % 65536 + x / 65536
  65535 - f (f (f (sum16 bs)))

/-- The IPv4 header that a port sends (R328): no options, DF, TTL 64, UDP. -/
def ipHeader (dscp ident len sip dip : Nat) : List Byte :=
  let h := fun sum => be 1 0x45 ++ be 1 (dscp * 4) ++ be 2 len ++ be 2 ident ++ be 2 0x4000 ++ be 1 64 ++ be 1 17 ++
    be 2 sum ++ be 4 sip ++ be 4 dip
  h (inetSum (h 0))

/-- The UDP datagram, with its checksum where `csum` holds (R328). -/
def udpDatagram (csum : Bool) (sip dip sport dport : Nat) (body : List Byte) : List Byte :=
  let len := body.length + 8
  let d := fun sum => be 2 sport ++ be 2 dport ++ be 2 len ++ be 2 sum ++ body
  let sum := inetSum (be 4 sip ++ be 4 dip ++ be 2 17 ++ be 2 len ++ d 0)
  d (if csum then (if sum = 0 then 65535 else sum) else 0)

/-- The frame that carries a UDP payload of channel `c`, from the destination MAC to the end of the datagram. -/
def State.ethFrame (s : State) (c : Nat) (body : List Byte) : List Byte :=
  let p := c / 16
  let sip := s.get F.ETH_CFG_SIP p
  let dip := s.get F.ECH_IP_DIP c
  let tag := if s.on F.ETH_CFG_VLAN_EN p then
      be 2 0x8100 ++ be 2 (s.get F.ETH_CFG_PCP p * 8192 + s.get F.ETH_CFG_VID p) else []
  let udp := udpDatagram (s.on F.ETH_CFG_CSUM p) sip dip (s.get F.ECH_DST_SPORT c) (s.get F.ECH_IP_DPORT c) body
  be 6 (s.get F.ECH_DST_DMAC c) ++ be 6 (s.get F.ETH_MAC_SMAC p) ++ tag ++ be 2 0x0800 ++
    ipHeader (s.get F.ETH_CFG_DSCP p) (s.portAt p).ident (20 + udp.length) sip dip ++ udp

/-- PAUSE (R328): a PAUSE frame with `q` quanta of 512 bit times at 100 Gb/s reaches port `p`. -/
def execPause (t p q : Nat) (s : State) : Host.Outcome State Fault Refusal :=
  .next (((Work.start s).at t).when (s.portUp p) fun s =>
    if !s.on F.ETH_CFG_PAUSE_EN p then s.count F.ETH_CNT_RX_DISC p
    else
      let stop := if q % 65536 = 0 then none else some (s.now + (q % 65536 * 8388608 + 999) / 1000)
      s.setPort p { s.port p with pause := stop }).st

/-- PAUSE_EXPIRY (R328): the pause of port `p` has run out. -/
def execPauseExpiry (p : Nat) (s : State) : Host.Outcome State Fault Refusal :=
  let s := Work.start s
  .next (match (s.port p).pause with
    | none => s
    | some t => let s := s.at t
      (s.setPort p { s.port p with pause := none } : Work _)).st

/-- RX_DISC (R328): any other frame reaches port `p`. -/
def execRxDisc (t p : Nat) (s : State) : Host.Outcome State Fault Refusal :=
  .next (((Work.start s).at t).when (s.portUp p) fun s => s.count F.ETH_CNT_RX_DISC p).st

/-! ## Channels -/

/-- A write of ECH_CFG (R329, R331). -/
def Work.wrEchCfg (s : Work s₀) (c : Nat) (v : Word) : Work s₀ :=
  let was := s.on F.ECH_CFG_EN c
  let will := F.ECH_CFG_EN.of v = 1
  let s := s.wreg .ECH_CFG c (v &&& 0x7FFFFF)
  if was && !will then (s.put F.ECH_STAT_ACTIVE c 0).setChan c { s.chan c with pos := 0 }
  else if !was && will then
    let now := s.now
    let s := s.setChan c { s.chan c with first := true, pos := 0, last := now }
    let ok := s.st.boundTo (F.ECH_CFG_QUEUE.of v) 2 c
    (s.put F.ECH_STAT_ACTIVE c (b2n ok)).put F.ECH_STAT_ERR c (b2n (!ok))
  else s

/-- Whether channel `c` can send now (R329); a binding that no longer fits sets ERR. -/
def Work.chanReady (s : Work s₀) (c : Nat) : Work s₀ × Bool :=
  if !s.on F.ECH_CFG_EN c || s.on F.ECH_STAT_ERR c then (s, false)
  else if !s.st.boundTo (s.get F.ECH_CFG_QUEUE c) 2 c then
    ((s.put F.ECH_STAT_ACTIVE c 0).flag F.ECH_STAT_ERR c, false)
  else (s, s.st.portUp (c / 16) && (s.port (c / 16)).pause == none)

/-- HORIZON of channel `c`'s next datagram (R332): the least floor among its queue's writers, the system writers of an
active queue among them (R260), and the bundles that await placement there, or H_Q where it has no writer; never below
the last. -/
def State.chanHor (s : State) (c : Nat) : Nat :=
  let q := s.get F.ECH_CFG_QUEUE c
  let hq := ((s.queAt q).hor).getD 0
  let h := if !s.active q then hq
    else match s.otherFloors q 0xFFF ++ (s.wait.filter (·.q == q)).map (·.floor) with
      | [] => hq
      | f :: fs => leastOf f fs
  max h (s.chanAt c).hor

/-- Words a datagram can carry (R331); the MTU as Table LNK-11 bounds it. -/
def State.wMax (s : State) (c : Nat) : Nat := (max 1500 (min 9000 (s.get F.ETH_MAC_MTU (c / 16))) - 52) / 8

/-- Channel `c` passes a datagram with `ws` to the MAC (R330). -/
def Work.datagram (s : Work s₀) (c ofs : Nat) (ws : List Word) : Work s₀ :=
  let x := s.chan c
  let p := c / 16
  let hor := s.st.chanHor c
  let flags := b2n x.first + 2 * b2n ws.isEmpty
  let body := le 2 0x5A44 ++ le 1 1 ++ le 1 flags ++ le 2 c ++ le 2 (s.get F.ECH_IP_SOURCE_ID c) ++
    le 4 (s.get F.ECH_STAT_DSEQ c) ++ le 2 ws.length ++ le 2 ofs ++ le 8 hor ++ wordBytes ws
  let bs := s.st.ethFrame c body
  let now := s.now
  let s := s.setPort p { s.port p with sent := bs, ident := ((s.port p).ident + 1) % 65536, rr := c % 16 }
  let s := (s.wrap F.ECH_STAT_DSEQ c).wrap F.ETH_CNT_DGRAMS p
  s.setChan c { s.chan c with first := false, hor := hor, last := now }

/-- The lengths of the committed bundles of queue `q` from `ahead` words past RD that begin before `lim`, and whether a
word that is no header ends them. -/
def State.streamLens (s : State) (q lim : Nat) : Nat → Nat → List Nat × Bool
  | 0, _ => ([], false)
  | fuel + 1, ahead =>
    if lim ≤ ahead || s.depth q ≤ ahead then ([], false)
    else match headerLen (s.qWord q (s.get F.QD_RD_RD q + ahead)) (s.depth q - ahead) with
      | none => ([], true)
      | some n =>
        let r := s.streamLens q lim fuel (ahead + n)
        (n :: r.1, r.2)

/-- The words of the leading bundles that end within `n` words. -/
def wholeWords : Nat → List Nat → Nat
  | _, [] => 0
  | n, l :: ls => if l ≤ n then l + wholeWords (n - l) ls else 0

/-- The lengths of the bundles that channel `c`'s next datagram reaches, whether a word that is no header ends them, and
how many words the datagram carries (R331). -/
def State.chanNext (s : State) (c : Nat) : List Nat × Bool × Nat :=
  let pos := (s.chanAt c).pos
  let (ls, bad) := s.streamLens (s.get F.ECH_CFG_QUEUE c) (pos + s.wMax c) (pos + s.wMax c) 0
  (ls, bad, min (s.wMax c) (ls.foldl (· + ·) 0 - pos))

/-- When channel `c`'s HEARTBEAT datagram is due: 2^HB_EXP ticks after it last sent; HB_EXP 0 turns it off (R332). -/
def State.chanDue (s : State) (c : Nat) : Option Nat :=
  let h := s.get F.ECH_CFG_HB_EXP c
  if h = 0 then none else some ((s.chanAt c).last + 2 ^ max 13 (min 47 h))

/-- Whether channel `c` has a datagram ready, of stream words or a HEARTBEAT (R329, R331, R332). -/
def State.chanHas (s : State) (c : Nat) : Bool :=
  s.on F.ECH_CFG_EN c && !s.on F.ECH_STAT_ERR c && s.boundTo (s.get F.ECH_CFG_QUEUE c) 2 c &&
    ((s.chanNext c).2.2 != 0 || (match s.chanDue c with | some d => decide (d ≤ s.t64) | none => false))

/-- Whether channel `c` has the turn of its port's transmitter (R329): round robin among the port's channels with a
datagram ready, from the one after the channel that sent last. -/
def State.chanTurn (s : State) (c : Nat) : Bool :=
  let rr := (s.portAt (c / 16)).rr
  let place := fun k => (k + 15 - rr) % 16
  (List.range 16).all fun k => !(place k < place (c % 16)) || !s.chanHas (c / 16 * 16 + k)

/-- Channel `c` sends the next words of its stream, where it has the turn of its port, and pops the bundles that end in
them (R329, R331). -/
def Work.chanSend (s : Work s₀) (c : Nat) : Work s₀ :=
  let (s, ok) := s.chanReady c
  if !ok || !s.st.chanTurn c then s
  else
    let q := s.get F.ECH_CFG_QUEUE c
    let pos := (s.chan c).pos
    let (ls, bad, n) := s.st.chanNext c
    if n = 0 then s.when bad fun s => s.noHeader q
    else
      let i := s.get F.QD_RD_RD q + pos
      let ws := (List.range n).map fun j => s.st.qWord q (i + j)
      let s := s.each ((List.range n).map fun j => s.st.qAddr q (i + j)) fun s a => s.storeMeet a
      let rest := ls.headD 0 - pos
      let s := s.datagram c (if pos = 0 then 0 else if rest < n then rest else 0xFFFF) ws
      let gone := wholeWords (pos + n) ls
      let s := s.setChan c { s.chan c with pos := pos + n - gone }
      s.when (gone != 0) fun s => s.popWords q gone

/-- DATAGRAM_SEND (R331): egress channel `e` sends a datagram. -/
def execDatagramSend (t e : Nat) (s : State) : Host.Outcome State Fault Refusal :=
  .next (((Work.start s).at t).chanSend e).st

/-- Channel `c` has sent nothing for 2^HB_EXP ticks and sends a HEARTBEAT datagram, where it has the turn of its port
(R329, R332). -/
def Work.chanBeat (s : Work s₀) (c : Nat) : Work s₀ :=
  match s.on F.ECH_CFG_EN c, s.st.chanDue c with
  | true, some d =>
    let (s, ok) := (s.at d).chanReady c
    if ok && s.st.chanTurn c then s.datagram c 0xFFFF [] else s
  | _, _ => s

/-- HEARTBEAT (R332): egress channel `e` sends a HEARTBEAT datagram. -/
def execHeartbeat (e : Nat) (s : State) : Host.Outcome State Fault Refusal := .next ((Work.start s).chanBeat e).st

end Sys2Proof.Machine
end

