-- ==== Sys2Proof/Machine/Rings.lean ====
section
/-!
DEFINITION. Host rings (R274 to R276): copies of committed bundles into host memory, the writeback of HEAD with the pop
and the notification that follow it, and TAIL.
-/

namespace Sys2Proof.Machine

variable {s₀ : State}

/-- Ring `r` stops with ERR (R276): 1 binding, 2 size, 3 function, 4 tail, 5 header. -/
def Work.ringErr (s : Work s₀) (r cause : Nat) : Work s₀ :=
  let s := (s.put F.RING_STAT_ACTIVE r 0).put F.RING_STAT_WAITING r 0
  (s.flag F.RING_STAT_ERR r).put F.RING_STAT_ERR_CAUSE r cause

/-- What is wrong with ring `r`'s setting, if anything is (R276). -/
def State.ringBad (s : State) (r : Nat) : Option Nat :=
  let m := s.get F.RING_CFG_SIZE_LOG2 r
  if !s.boundTo (s.get F.RING_CFG_QUEUE r) 1 r then some 1
  else if m < 12 || 24 < m then some 2
  else if !(s.fnAt (s.get F.RING_CFG_FUNC r)).bme then some 3
  else none

/-- Whether ring `r` serves its queue. -/
def State.ringLive (s : State) (r : Nat) : Bool := s.on F.RING_CFG_EN r && !s.on F.RING_STAT_ERR r

/-- HEAD - TAIL of ring `r` with `tail` as TAIL, modulo 2^(m+1). -/
def State.ringUsed (s : State) (r tail : Nat) : Nat :=
  let m := 2 ^ (s.get F.RING_CFG_SIZE_LOG2 r + 1)
  (s.get F.RING_HEAD_HEAD r + m - tail % m) % m

/-- The free words of ring `r`. -/
def State.ringFree (s : State) (r : Nat) : Nat :=
  2 ^ s.get F.RING_CFG_SIZE_LOG2 r - s.ringUsed r (s.get F.RING_TAIL_TAIL r)

/-- WAITING follows the free space (R274). -/
def Work.ringWait (s : Work s₀) (r : Nat) : Work s₀ :=
  let short := s.st.ringLive r && match s.st.peek (s.get F.RING_CFG_QUEUE r) 0 with
    | some (some b) => decide (s.st.ringFree r < b.len)
    | _ => false
  s.put F.RING_STAT_WAITING r (b2n short)

/-- The words of a bundle go into ring `r` from HEAD on, and HEAD advances (R274). -/
def Work.ringWords (s : Work s₀) (r : Nat) (b : QBundle) : Work s₀ :=
  let m := s.get F.RING_CFG_SIZE_LOG2 r
  let head := s.get F.RING_HEAD_HEAD r
  let base := s.get F.RING_BASE_BASE r * 4096
  let f := s.get F.RING_CFG_FUNC r
  let q := s.get F.RING_CFG_QUEUE r
  let s := s.readErrors b
  let s := s.each b.words.zipIdx fun s (w, i) => s.hostWrite f (base + 8 * ((head + i) % 2 ^ m)) (le 8 w.toNat)
  let s := s.put F.RING_HEAD_HEAD r ((head + b.len) % 2 ^ (m + 1))
  let s := (s.wrap F.RING_CNT_BUNDLES r).wrap F.RING_CNT_WORDS r b.len
  s.setRingC r (b.len, q)

/-- Whether ring `r` can be given a DMA engine: it serves its queue, its function is awake, and no engine has a copy
for it in hand. -/
def State.ringIdle (s : State) (r : Nat) : Bool :=
  s.ringLive r && !(s.fnAt (s.get F.RING_CFG_FUNC r)).sleep && (s.ringCAt r).1 == 0 && s.domOn 85

/-- Whether ring `r` has a bundle that one of the DMA engines could take now. -/
def State.ringReady (s : State) (r : Nat) : Bool :=
  s.ringIdle r && (s.ringBad r).isNone && match s.peek (s.get F.RING_CFG_QUEUE r) 0 with
    | some (some b) => b.len ≤ s.ringFree r
    | _ => false

/-- Whether it is the turn of ring `r`, which has a bundle ready, for one of the 16 DMA engines: they take the rings in
round-robin order of their numbers (R274, R327). -/
def State.ringTurn (s : State) (r : Nat) : Bool :=
  s.ringC.length < 16 &&
    (s.indices .RING_CFG fun v => F.RING_CFG_EN.of v == 1).all fun j =>
      (r + 1023 - s.dmaRr) % 1024 ≤ (j + 1023 - s.dmaRr) % 1024 || !s.ringReady j

/-- A DMA engine takes the next bundle of ring `r`'s queue (R274, R276, R297). -/
def Work.ringCopy (s : Work s₀) (r : Nat) : Work s₀ :=
  if !s.st.ringIdle r then s
  else
    match s.st.ringBad r with
    | some c => s.ringErr r c
    | none =>
      match s.st.peek (s.get F.RING_CFG_QUEUE r) 0 with
      | none => s.put F.RING_STAT_WAITING r 0
      | some none => (s.noHeader (s.get F.RING_CFG_QUEUE r)).ringErr r 5
      | some (some b) =>
        if s.st.ringFree r < b.len then s.flag F.RING_STAT_WAITING r
        else if !s.st.ringTurn r then s
        else ((s.put F.RING_STAT_WAITING r 0).ringWords r b).setDmaRr r

/-- RING_COPY (R274): a DMA engine copies the next bundle into host ring `r`. -/
def execRingCopy (t r : Nat) (s : State) : Host.Outcome State Fault Refusal :=
  .next (((Work.start s).at t).ringCopy r).st

/-- HEAD is written back, the copied bundle popped and the vector notified (R274, R275). -/
def Work.ringBack (s : Work s₀) (r : Nat) : Work s₀ :=
  let (n, q) := s.ringC r
  if n = 0 then s
  else
    let wb := s.get F.RING_WB_WB r * 8
    let s := s.when (wb != 0) fun s =>
      s.hostWrite (s.get F.RING_CFG_FUNC r) wb (le 8 (s.get F.RING_HEAD_HEAD r + s.get F.RING_CNT_BUNDLES r * 2 ^ 32))
    let s := (s.setRingC r (0, 0)).popWords q n
    let s := s.mu 2 r (s.st.ringUsed r (s.get F.RING_TAIL_TAIL r))
    (s.notify (s.get F.RING_CFG_FUNC r) (s.get F.RING_CFG_VECTOR r)).ringWait r

/-- RING_WRITEBACK (R275): after the data writes, HEAD is written back. -/
def execRingWriteback (t r : Nat) (s : State) : Host.Outcome State Fault Refusal :=
  .next (((Work.start s).at t).ringBack r).st

/-- Whether function `f` may write ring `r`'s descriptor (R403). -/
def State.ringMine (s : State) (f r : Nat) : Bool := r < 1024 && (f = 0 || s.get F.RING_CFG_FUNC r == f)

/-- A write of TAIL: the ring's doorbell (R274, R276). One that stops the ring leaves TAIL as it is; a monitor unit
samples the ring at either (R393). -/
def Work.ringTail (s : Work s₀) (r : Nat) (v : Word) : Work s₀ :=
  let tail := F.RING_TAIL_TAIL.of v
  if s.st.ringLive r && 2 ^ s.get F.RING_CFG_SIZE_LOG2 r < s.st.ringUsed r tail then
    (s.ringErr r 4).mu 2 r (s.st.ringUsed r (s.get F.RING_TAIL_TAIL r))
  else
    let s := s.put F.RING_TAIL_TAIL r tail
    (s.mu 2 r (s.st.ringUsed r tail)).ringWait r

/-- TAIL_WRITE (R274): function `f` writes the TAIL of ring `r`. -/
def execTailWrite (t f r : Nat) (v : Word) (s : State) : Host.Outcome State Fault Refusal :=
  .next (((Work.start s).at t).when (s.ringMine f r) fun s => s.ringTail r v).st

/-- A write of RING_CFG (R276): EN from 0 to 1 clears ERR and starts the ring, EN = 0 stops it. -/
def Work.wrRingCfg (s : Work s₀) (r : Nat) (v : Word) : Work s₀ :=
  let was := s.on F.RING_CFG_EN r
  let s := s.wreg .RING_CFG r (v &&& 0xFFFF001FFFFF)
  if !s.on F.RING_CFG_EN r then (s.put F.RING_STAT_ACTIVE r 0).put F.RING_STAT_WAITING r 0
  else if was then s
  else
    let s := ((s.put F.RING_STAT_ERR r 0).put F.RING_STAT_ERR_CAUSE r 0).flag F.RING_STAT_ACTIVE r
    match s.st.ringBad r with
    | some c => s.ringErr r c
    | none => s.ringWait r

/-- EN of ring `r` goes to 0 at a bundle boundary: the copy in progress ends first (R276, Table PWR-8). -/
def Work.ringStop (s : Work s₀) (r : Nat) : Work s₀ :=
  let s := s.ringBack r
  s.wrRingCfg r (F.RING_CFG_EN.put (s.reg .RING_CFG r) 0)

/-- The rings of function `f`. -/
def State.ringsOf (s : State) (f : Nat) : List Nat :=
  (List.range 1024).filter fun r => s.get F.RING_CFG_FUNC r == f

end Sys2Proof.Machine
end

