-- ==== Sys2Proof/Machine/Eic.lean ====
section
/-!
DEFINITION. The event interrupt controller (chapter 11): its commands. The operations on sources and vectors are in
Sources.lean.
-/

namespace Sys2Proof.Machine

variable {s₀ : State}

/-! ## Sources -/

/-- SOURCE_INPUT (R280): the input of source `k` is `lv`. -/
def execSourceInput (t k : Nat) (lv : Bool) (s : State) : Host.Outcome State Fault Refusal :=
  .next (((Work.start s).at t).srcInput k lv).st

/-- The sources of the 1 bits of word `w` (R281). -/
def srcBits (w : Nat) (v : Word) : List Nat :=
  ((List.range 64).filter fun i => bit v.toNat i).map (64 * (w % 16) + ·)

/-- A write to a word of the INT region's bit vectors, in power domain PD85. -/
def Work.intWrite (s : Work s₀) (m a : Nat) (g : Work s₀ → Work s₀) : Work s₀ := s.access m 9 a 85 true g

/-- A source is enabled. The ENABLE bit of an absent source is stored like any other, and nothing follows from it: R2
calls enabling one legal and without effect, and does not say what the bit then reads (log entry 31). -/
def Work.setEn (s : Work s₀) (k : Nat) : Work s₀ := (s.modSrc k fun x => { x with en := true }).wakeFor k

/-- A source is disabled: PEND and ACTIVE stay. -/
def Work.clrEn (s : Work s₀) (k : Nat) : Work s₀ := s.modSrc k fun x => { x with en := false }

/-- SET_PEND of a source (R280): the latch is set. A level source whose PEND rises has an event. An absent source does
not become pending (R2), nor does one that the source map assigns to nothing (R279, R399). -/
def Work.setPend (s : Work s₀) (k : Nat) : Work s₀ :=
  if s.st.srcMute k then s
  else
    let was := s.st.pendOf k
    let s := s.modSrc k fun x => { x with latch := true }
    if was then s.wakeFor k else s.srcEvent k

/-- CLR_PEND of a source (R280, R284): the latch and HELD are cleared, unless the input of an edge source has risen in
the same cycle. -/
def Work.clrPend (s : Work s₀) (k : Nat) : Work s₀ :=
  if s.st.senseEdge k && (s.src k).last == some s.st.cycle then s
  else (s.modSrc k fun x => { x with latch := false, held := false }).modCloseOf k

/-- INT_SET_EN (R281): a write to word `w`. -/
def execIntSetEn (t m w : Nat) (v : Word) (s : State) : Host.Outcome State Fault Refusal :=
  .next (((Work.start s).at t).intWrite m (0x2000 + 8 * w) fun s => s.each (srcBits w v) fun s k => s.setEn k).st

/-- INT_CLR_EN (R281): a write to word `w`. -/
def execIntClrEn (t m w : Nat) (v : Word) (s : State) : Host.Outcome State Fault Refusal :=
  .next (((Work.start s).at t).intWrite m (0x2080 + 8 * w) fun s => s.each (srcBits w v) fun s k => s.clrEn k).st

/-- INT_SET_PEND (R280, R281): a write to word `w`. -/
def execIntSetPend (t m w : Nat) (v : Word) (s : State) : Host.Outcome State Fault Refusal :=
  .next (((Work.start s).at t).intWrite m (0x2100 + 8 * w) fun s => s.each (srcBits w v) fun s k => s.setPend k).st

/-- INT_CLR_PEND (R280, R281): a write to word `w`. -/
def execIntClrPend (t m w : Nat) (v : Word) (s : State) : Host.Outcome State Fault Refusal :=
  .next (((Work.start s).at t).intWrite m (0x2180 + 8 * w) fun s => s.each (srcBits w v) fun s k => s.clrPend k).st

/-- MODERATION_TIMER (R284): the timer of moderation unit `u` runs out. -/
def execModerationTimer (u : Nat) (s : State) : Host.Outcome State Fault Refusal :=
  .next ((Work.start s).modTimer u).st

/-- A write of INT_SRC of source `k`: a change of MOD or MOD_EN clears HELD (R284). -/
def Work.wrIntSrc (s : Work s₀) (k : Nat) (v : Word) : Work s₀ :=
  let old := s.st.modUnit k
  let s := s.wreg .INT_SRC k (v &&& 0x7FF7FFF3F)
  let s := s.when (s.st.modUnit k != old) fun s =>
    let s := s.modSrc k fun x => { x with held := false }
    match old with
    | some u => s.modClose u
    | none => s
  s.wakeFor k

/-! ## Routing (R282, R283) -/

/-- `n` cycles of the 1.2 GHz core clock in ticks: a cycle is 4096/3 ticks (R4). -/
def coreCycles (n : Nat) : Nat := (n * 4096 + 2) / 3

/-- The end of an entry window that began at `t`: cycle 12, or 6 where it is chained (Timeline INT-1, R290). -/
def windowEnd (t : Nat) (chained : Bool) : Nat := t + coreCycles (if chained then 6 else 12)

/-- Whether core `c` can take a presentation: it is in no entry window, or cycle 12 of it is to come (R286). -/
def State.takesEntry (s : State) (c : Nat) : Bool :=
  match (s.coreAt c).win with
  | some (_, t, ch) => decide (s.t64 < windowEnd t ch)
  | none => true

/-- Change core `c`. -/
def Work.modCore (s : Work s₀) (c : Nat) (f : CoreSt → CoreSt) : Work s₀ := s.setCore c (f (s.core c))

/-- RUN of core `c`: the priority on top of its stack. -/
def State.runOf (s : State) (c : Nat) : Nat :=
  match (s.coreAt c).stack with
  | [] => 0
  | (_, p) :: _ => p

/-- The priority at which core `c` counts as running: in its entry window that of the source presented to it. -/
def State.runNow (s : State) (c : Nat) : Nat :=
  match (s.coreAt c).win with
  | some (k, _, _) => max (s.runOf c) (s.get F.INT_SRC_PRIO k)
  | none => s.runOf c

/-- Whether source `k` is presented to a core. -/
def State.presented (s : State) (k : Nat) : Bool :=
  [0, 1, 2, 3].any fun c => match (s.coreAt c).win with
    | some (j, _, _) => j == k
    | none => false

/-- Whether source `k` is eligible for core `c` (R282). A core between a completion and its `mret` takes no new entry
(R289); a source presented to one core is presented to no other (R283). -/
def State.eligible (s : State) (k c : Nat) : Bool :=
  let p := s.get F.INT_SRC_PRIO k
  s.enabledSrc k && s.pendOf k && !(s.srcAt k).active && !s.heldNow k && bit (s.get F.INT_SRC_TARGET k) c &&
    s.get F.CORE_THR_THR c < p && s.runNow c < p && !s.on F.CORE_RUN_FROZEN c && s.domOn (81 + c) &&
    (s.coreAt c).mie && !(s.coreAt c).eoi && !s.presented k && s.takesEntry c

/-- The sources that could be eligible: the enabled ones. -/
def State.candidates (s : State) : List Nat := (s.src.filter fun (_, x) => x.en).map (·.1)

/-- Put a source among others by descending PRIO, then ascending number. -/
def State.rankIn (s : State) (k : Nat) : List Nat → List Nat
  | [] => [k]
  | j :: js =>
    let pk := s.get F.INT_SRC_PRIO k
    let pj := s.get F.INT_SRC_PRIO j
    if pj < pk || (pj == pk && k < j) then k :: j :: js else j :: s.rankIn k js

/-- Sources in the order of R283. -/
def State.ranked (s : State) (ks : List Nat) : List Nat := ks.foldr s.rankIn []

/-- The core of a set with the lowest RUN, the first at or after the round-robin pointer on a tie (R283). -/
def State.pickCore (s : State) (rr : Nat) (cs : List Nat) : Option Nat :=
  (((List.range 4).map fun i => (rr + i) % 4).filter (cs.contains ·)).foldl (fun best c =>
    match best with
    | none => some c
    | some b => if s.runNow c < s.runNow b then some c else some b) none

/-- The frame restore of core `c` is complete, its 12 cycles after the `mret` over: the interrupted context resumes
(R290). -/
def Work.restored (s : Work s₀) (c : Nat) : Work s₀ :=
  match (s.core c).restore with
  | none => s
  | some t =>
    s.when (decide (t + coreCycles 12 ≤ s.now)) fun s =>
      s.modCore c fun x => { x with restore := none, frames := x.frames - 1 }

/-- Source `k` is presented to core `c` (Timeline INT-1, R286, R288, R290): it replaces the source presented there, or
ends a frame restore by a chained entry, or begins an entry window. -/
def Work.presented (s : Work s₀) (k c : Nat) : Work s₀ :=
  let s := s.restored c
  let x := s.core c
  let s := s.modSrc k fun x => { x with rr := (c + 1) % 4 }
  let s := match x.win with
    | some (_, t, ch) => (s.modCore c fun x => { x with win := some (k, t, ch) }).count F.CORE_CNT_LATE_CNT c
    | none => s.modCore c fun y => { y with win := some (k, s.now, x.restore.isSome), restore := none, wfi := false }
  (s.put F.CORE_PRES_SOURCE c k).flag F.CORE_PRES_VALID c

/-- One routing step of R283 for source `k`; `used` are the cores that have received a source in this cycle. -/
def Work.routeOne (s : Work s₀) (used : List Nat) (k : Nat) : Work s₀ × List Nat :=
  let cs := [0, 1, 2, 3].filter fun c => s.st.eligible k c && !used.contains c
  let awake := cs.filter fun c => !s.st.asleep c
  let cs := if !s.on F.INT_SRC_WAKE_PREF k && !awake.isEmpty then awake else cs
  match s.st.pickCore (s.src k).rr cs with
  | none => (s, used)
  | some c => (s.presented k c, c :: used)

/-- The routing of one core clock cycle (R283). -/
def Work.route (s : Work s₀) : Work s₀ :=
  ((s.st.ranked s.st.candidates).foldl (fun (p : Work s₀ × List Nat) k => p.1.routeOne p.2 k) (s, [])).1

/-- ROUTE (R283): the EIC routes the eligible sources of one core clock cycle. -/
def execRoute (t : Nat) (s : State) : Host.Outcome State Fault Refusal :=
  .next ((Work.start s).at t).route.st

/-! ## Entry and exit -/

/-- The vector of slot `i` of core `c`: 0 the fault slot, `k` + 1 that of source `k` (R285). -/
def State.vector (s : State) (c i : Nat) : Nat := 2 ^ 16 * s.get F.CORE_VBASE_VBASE c + 16 * i

/-- The presented source of core `c` is claimed at the end of the entry window and its vector fetched (Timeline INT-1,
R285, R287); but for a chained entry the core's frame has been saved (R288, R290). -/
def Work.claim (s : Work s₀) (c : Nat) : Work s₀ :=
  match (s.core c).win with
  | none => s
  | some (k, t, ch) =>
    s.when (decide (windowEnd t ch ≤ s.now)) fun s =>
      let p := s.get F.INT_SRC_PRIO k
      let v := s.st.vector c (k + 1)
      let s := s.modSrc k fun x => { x with latch := false, active := true }
      let s := s.modCore c fun x => { x with
        stack := (k, p) :: x.stack, win := none, fetch := v, frames := if ch then x.frames else x.frames + 1 }
      let s := (s.wrap F.CORE_CNT_ENTRIES c).put F.CORE_PRES_VALID c 0
      s.modCloseOf k

/-- CLAIM (R285, R287): the entry window of core `c` ends and the presented source is claimed. -/
def execClaim (t c : Nat) (s : State) : Host.Outcome State Fault Refusal :=
  .next (((Work.start s).at t).claim c).st

/-- A completion that does not name the top of the stack: the stack freezes, and the core saves its frame and enters the
fault slot (R291). -/
def Work.stackFault (s : Work s₀) (c k : Nat) : Work s₀ :=
  let st := (s.core c).stack
  let top := st.headD (0, 0)
  let info := k % 1024 + b2n st.isEmpty * 2 ^ 10 + st.length * 2 ^ 11 + top.2 * 2 ^ 17 + top.1 * 2 ^ 23
  let s := (s.flag F.CORE_RUN_FROZEN c).wreg .CORE_FAULTINFO c (w64 info)
  let v := s.st.vector c 0
  let s := s.modCore c fun x => { x with win := none, restore := none, fetch := v, frames := x.frames + 1 }
  (((s.put F.CORE_PRES_VALID c 0).count F.CORE_CNT_FAULT_CNT c).srcEdge (1000 + c)).faultNotice (1000 + c)

/-- A write of source number `k` to CORE_EOI of core `c` (R289, R291). -/
def Work.complete (s : Work s₀) (c k : Nat) : Work s₀ :=
  if s.on F.CORE_RUN_FROZEN c then s.count F.CORE_CNT_FAULT_CNT c
  else
    match (s.core c).stack with
    | [] => s.stackFault c k
    | (j, _) :: rest =>
      if j != k then s.stackFault c k
      else
        let s := s.modCore c fun x => { x with stack := rest, eoi := true }
        s.modSrc k fun x => { x with active := false }

/-- CORE_EOI (R289, R291): core `c` completes source `k`. -/
def execCoreEoi (t c k : Nat) (s : State) : Host.Outcome State Fault Refusal :=
  .next (((Work.start s).at t).intWrite (16 + c) (0x3000 + 0x400 * c + 0x20) fun s => s.complete c k).st

/-- An `mret` after a completion starts the frame restore (R290). -/
def Work.mret (s : Work s₀) (c : Nat) : Work s₀ :=
  s.when (s.core c).eoi fun s => s.modCore c fun x => { x with eoi := false, restore := some s.now }

/-- The enabled sources that have core `c` in their TARGET are looked at again: core `c` has just gone to sleep (R293).
-/
def Work.wakeCheck (s : Work s₀) (c : Nat) : Work s₀ :=
  s.each (s.st.candidates.filter fun k => bit (s.get F.INT_SRC_TARGET k) c) fun s k => s.wakeFor k

/-- Core `c` executes WFI: it stops there, where it is ON, until a source wakes it (R293). -/
def Work.wfi (s : Work s₀) (c : Nat) : Work s₀ :=
  s.when (s.st.domOn (81 + c) && (s.core c).win.isNone) fun s =>
    (s.modCore c fun x => { x with wfi := true }).wakeCheck c

/-- MRET (R290, R293): core `c` executes `mret`; core number 4 + `c` stands for core `c` executing WFI, which has no
row of its own (log entry 52). -/
def execMret (t c : Nat) (s : State) : Host.Outcome State Fault Refusal :=
  let w := (Work.start s).at t
  .next (if c < 4 then w.mret c else w.wfi (c % 4)).st

/-- FRAME_RESTORE_DONE (R290): the frame restore of core `c` is complete. -/
def execFrameRestoreDone (t c : Nat) (s : State) : Host.Outcome State Fault Refusal :=
  .next (((Work.start s).at t).restored c).st

/-- A STACK_RESET of core `c` (R292). -/
def Work.stackReset (s : Work s₀) (c : Nat) : Work s₀ :=
  let ks := (s.core c).stack.map (·.1)
  let s := s.modCore c fun x => { x with stack := [] }
  let s := s.put F.CORE_RUN_FROZEN c 0
  let s := s.each ks fun s k => s.modSrc k fun x => { x with active := false, latch := x.latch || s.st.senseEdge k }
  s.each ks fun s k => s.wakeFor k

/-- STACK_RESET (R292): a write of 1 to CORE_CTRL.STACK_RESET of core `c`. -/
def execStackReset (t m c : Nat) (s : State) : Host.Outcome State Fault Refusal :=
  .next (((Work.start s).at t).intWrite m (0x3000 + 0x400 * c + 0x28) fun s => s.stackReset c).st

/-! ## The host face -/

/-- PCI Express counts as in L2 once the engine has entered sleep with it, or every function is past its sleep entry
(log entry 32). -/
def State.inL2 (s : State) : Bool :=
  s.pwr.pcie == 2 || (s.pwr.pcie == 1 && (List.range 16).all fun f => (s.fnAt f).sleep)

/-- The timer of vector `v` runs out (R296, R298). During sleep a WAKE_ON_EXPIRY vector asks for the wake: in L2 by
WAKE_N, in D3hot by a PM_PME message where PME_En is set. -/
def Work.vecTimer (s : Work s₀) (v : Nat) : Work s₀ :=
  match (s.vec v).due with
  | none => s
  | some d =>
    let s := s.at d
    if !(s.fn (v / 128)).sleep then s.vecSend v
    else
      let s := (s.modVec v fun x => { x with due := none }).put F.HV_STAT_TIMING v 0
      s.when (s.st.sleepPol v == 2) fun s =>
        if s.st.inL2 then (s.flag F.HV_STAT_WAKE_REQ v).setPwr { s.st.pwr with wakeN := true }
        else s.when (s.fn (v / 128)).pme fun s => s.flag F.HV_STAT_WAKE_REQ v

/-- VECTOR_TIMER (R296, R298): the moderation timer of vector `v` reaches TIME. -/
def execVectorTimer (v : Nat) (s : State) : Host.Outcome State Fault Refusal :=
  .next ((Work.start s).vecTimer v).st

/-- Local vector `l` of function `f` is unmasked: a pending message goes out (R296). -/
def Work.unmask (s : Work s₀) (f l : Nat) : Work s₀ :=
  let v := 128 * f + l % 128
  let s := s.modVec v fun x => { x with mask := false }
  s.when ((s.vec v).pend && !s.st.masked v) fun s => s.vecFire v

/-- VECTOR_UNMASK (R296): the host unmasks local vector `v` of function `f`. -/
def execVectorUnmask (t f v : Nat) (s : State) : Host.Outcome State Fault Refusal :=
  .next (((Work.start s).at t).unmask f v).st

/-- The vectors of function `f` that hold events. -/
def State.heldVecs (s : State) (f : Nat) : List Nat :=
  (s.indices .HV_STAT fun w => F.HV_STAT_HELD_CNT.of w != 0).filter (· / 128 == f)

/-- Sleep entry of function `f` (Timeline INT-2), where it is not past it: the copies in progress complete, then each
vector that holds events acts on SLEEP_POL. -/
def Work.sleepEntry (s : Work s₀) (f : Nat) : Work s₀ :=
  if (s.fn f).sleep then s
  else
  let s := s.setFn f { s.fn f with sleep := true }
  let s := s.each (s.st.ringsOf f) fun s r => s.ringBack r
  let s := s.srcEdge (864 + f)
  s.each (s.st.heldVecs f) fun s v =>
    match s.st.sleepPol v with
    | 0 => s.vecSend v
    | 1 => (s.modVec v fun x => { x with due := none }).put F.HV_STAT_TIMING v 0
    | _ => s

/-- FUNCTION_SLEEP_ENTRY (R297): function `f` enters D3hot or its link is told to turn off. -/
def execFunctionSleepEntry (t f : Nat) (s : State) : Host.Outcome State Fault Refusal :=
  .next (((Work.start s).at t).sleepEntry f).st

/-- Wake of function `f` (R297, Table INT-2): it is in D0 with Bus Master Enable set and the link in L0. -/
def Work.fnWake (s : Work s₀) (f : Nat) : Work s₀ :=
  let old := s.fn f
  let was := old.sleep
  let s := s.setFn f { old with sleep := false, d3 := false, bme := true }
  let s := s.setPwr { s.st.pwr with pcie := 1, wakeN := false }
  let asked := (s.st.indices .HV_STAT fun w => F.HV_STAT_WAKE_REQ.of w == 1).filter (· / 128 == f)
  let s := s.each asked fun s v => s.put F.HV_STAT_WAKE_REQ v 0
  let s := s.when was fun s => s.each (s.st.heldVecs f) fun s v =>
    if s.st.sleepPol v != 0 || s.st.vecCount v ≤ s.get F.HV_STAT_HELD_CNT v then s.vecSend v else s.vecStart v
  s.when (was || old.d3 || !old.bme) fun s => s.srcEdge (864 + f)

/-- FUNCTION_WAKE (R297): function `f` returns to D0. -/
def execFunctionWake (t f : Nat) (s : State) : Host.Outcome State Fault Refusal :=
  .next (((Work.start s).at t).fnWake f).st

/-- A function-level reset or PERST_N clears the moderation of function `f`'s vectors without sending anything (R298).
-/
def Work.vecsReset (s : Work s₀) (f : Nat) : Work s₀ :=
  let mine := fun v => v / 128 == f
  let s := s.keepVec fun v => !mine v
  s.keepRegs fun k =>
    let i := k / 256
    !(((k % 256 == Reg.HV_MOD.ctorIdx || k % 256 == Reg.HV_STAT.ctorIdx) && mine i) ||
      (k % 256 == Reg.HV_FERR.ctorIdx && i == f))

end Sys2Proof.Machine
end

