-- ==== Sys2Proof/Machine/Mailbox.lean ====
section
/-!
DEFINITION. Mailbox slots (R300 to R304), the answers to commands, and what the reset of an endpoint does to them
(Table OCI-7).
-/

namespace Sys2Proof.Machine

variable {s₀ : State}

/-! ## Slots -/

/-- The key of slot `sl` of endpoint `e`. -/
def slotKey (e sl : Nat) : Nat := 4 * e + sl % 4

/-- The 256 bytes of a slot; those that nothing has written are X (Table OCI-15). -/
def State.slotData (s : State) (e sl : Nat) : List Byte :=
  let bs := (s.slotAt (slotKey e sl)).bytes
  if bs.length = 256 then bs else (List.range 256).map fun i => Config.freeByte (256 * slotKey e sl + i)

/-- Change a slot. -/
def Work.modMbx (s : Work s₀) (e sl : Nat) (f : SlotSt → SlotSt) : Work s₀ :=
  s.setSlot (slotKey e sl) (f (s.slot (slotKey e sl)))

/-- The client writes bytes of a slot from offset `o` (R300): in POSTED and BUSY the write is ignored and counted. -/
def Work.slotWrite (s : Work s₀) (e sl o : Nat) (bs : List Byte) : Work s₀ :=
  let x := s.slot (slotKey e sl)
  if x.st = 1 || x.st = 2 then s.count F.MBX_CNT_WR_IGN e
  else
    let old := s.st.slotData e sl
    s.modMbx e sl fun x => { x with bytes := fit 256 (old.take o ++ bs ++ old.drop (o + bs.length)) }

/-- The doorbell of endpoint `e`: 0 for a slot, 1 for its event queue (Table OCI-1). -/
def Work.doorbell (s : Work s₀) (e k : Nat) : Work s₀ :=
  if e < 16 then s.srcEdge (912 + 2 * e + k) else if e = 16 then s.srcEdge 978 else s

/-- POST (R300). -/
def Work.post (s : Work s₀) (e sl : Nat) : Work s₀ :=
  let x := s.slot (slotKey e sl)
  if x.st = 1 || x.st = 2 then s.count F.MBX_CNT_POST_IGN e
  else
    let tag := field (s.st.slotData e sl) 2 2
    (s.modMbx e sl fun x => { x with st := 1, tag := tag }).doorbell e 0

/-- RELEASE (R300). -/
def Work.slotRelease (s : Work s₀) (e sl : Nat) : Work s₀ :=
  if (s.slot (slotKey e sl)).st = 3 then s.modMbx e sl fun x => { x with st := 0 }
  else s.count F.MBX_CNT_POST_IGN e

/-- A write of MBX_DB (Table OCI-16). -/
def Work.wrMbxDb (s : Work s₀) (e : Nat) (v : Word) : Work s₀ :=
  let s := s.each (List.range 4) fun s sl => s.when (bit v.toNat (4 + sl)) fun s => s.slotRelease e sl
  s.each (List.range 4) fun s sl => s.when (bit v.toNat sl) fun s => s.post e sl

/-- POST (R300): a write of MBX_DB.POST. -/
def execPost (t ep slot : Nat) (s : State) : Host.Outcome State Fault Refusal :=
  .next (((Work.start s).at t).post ep slot).st

/-- RELEASE (R300): a write of MBX_DB.RELEASE. -/
def execRelease (t ep slot : Nat) (s : State) : Host.Outcome State Fault Refusal :=
  .next (((Work.start s).at t).slotRelease ep slot).st

/-- The waiting notices of endpoint `e` go into its queue as far as it has room. -/
def Work.noteGo (s : Work s₀) (e : Nat) : Work s₀ := s.noteFlush e ((s.ep e).kept.length)

/-- A write of MBX_NTAIL (R311): entries consumed, or the head of the I2C FIFO removed. -/
def Work.wrNtail (s : Work s₀) (e v : Nat) : Work s₀ :=
  if e = 17 then
    s.when (v % 2 == 1) fun s => (s.modEp e fun x => { x with fifo := x.fifo.drop 1 }).noteGo e
  else ((s.modEp e fun x => { x with ntail := v % 2 ^ 17 }).doorbell e 1).noteGo e

/-- MBX_NTAIL (R311): a write of MBX_NTAIL of endpoint `ep`. -/
def execMbxNtail (t ep v : Nat) (s : State) : Host.Outcome State Fault Refusal :=
  .next (((Work.start s).at t).wrNtail ep v).st

/-- ALERT_N of endpoint 17 (Table OCI-1, R311): low while a slot is DONE or the FIFO holds an entry. -/
def State.alertN (s : State) : Bool :=
  !((List.range 4).any fun sl => (s.slotAt (slotKey 17 sl)).st == 3) && (s.epAt 17).fifo.isEmpty

/-! ## Answers -/

/-- A response goes into a slot, which becomes DONE (R300, R303). The bytes beyond the data are free. -/
def Work.respond (s : Work s₀) (e sl tag op flags status rflags : Nat) (data : List Byte) : Work s₀ :=
  let d := data.take 240
  let k := s.st.freeCnt
  let s := s.setFreeCnt (k + 1)
  let x := (List.range (240 - d.length)).map fun i => Config.freeByte (2 ^ 32 * (k + 1) + i)
  let bs := le 2 status ++ le 2 tag ++ le 2 d.length ++ le 2 rflags ++ le 2 op ++ le 6 0 ++ d ++ x
  let s := s.modMbx e sl fun x => { x with st := 3, bytes := bs }
  if 18 ≤ e then s.mbxSend (e - 18) (w64 (sl % 4 + 4) :: byteWords 32 bs)
  else if flags % 2 = 1 || s.on F.MBX_CFG_NOTIFY_ALL e then
    if e < 16 then s.notify e (128 * e + s.get F.MBX_CFG_VECTOR e) else if e = 16 then s.srcEdge 976 else s
  else s

/-- The data of a response with an error status (R304). -/
def errData (idx ofs : Nat) : List Byte := le 2 idx ++ le 2 ofs

/-- A command ends: its final response where its slot still waits, else a COMPLETE notice (R302); after a reset of its
endpoint nothing (R313). -/
def Work.finish (s : Work s₀) (j : Job) (status rflags : Nat) (data : List Byte) : Work s₀ :=
  let s := s.setJobs (s.st.jobs.erase j)
  if j.gone then s
  else if j.slot then s.respond j.ep j.sl j.tag j.op j.flags status rflags data
  else s.noteTo j.ep 0 1 j.tag status j.op data

/-- The endpoint's side of a reset or a detach (R313, R316, R317): slots FREE, its commands' reports discarded, its
event queue and MBX_CFG cleared, its pairing units and its staging claim given up. -/
def Work.epGone (s : Work s₀) (e : Nat) : Work s₀ :=
  let s := s.each (List.range 4) fun s sl => s.setSlot (slotKey e sl) {}
  let s := s.setJobs (s.st.jobs.map fun j => if j.ep = e then { j with gone := true, slot := false } else j)
  let s := s.setEp e {}
  let s := (s.wreg .MBX_CFG e 0).wreg .MBX_CNT e 0
  let s := s.when (s.st.claimEp == some e) fun s => s.setClaimEp none
  s.each ((s.st.owner.filter (·.2 == some e)).map (·.1)) fun s p => s.setOwner p none

/-- After a restart of firmware every command that it had taken ends with RESTARTED (R313). -/
def Work.restarted (s : Work s₀) : Work s₀ :=
  let s := s.setLearn []
  s.each s.st.jobs fun s j => s.finish j 0x1A 0 (errData 0xFFFF 0xFFFF)

end Sys2Proof.Machine
end

