-- ==== Sys2Proof/Machine/Links.lean ====
section
/-!
DEFINITION. DLP links: discovery, attach and detach of partners, their frames, and what the engine sends them (R324,
R333 to R347); the ward links of chapter 01 (R12, R13).
-/

namespace Sys2Proof.Machine

variable {s₀ : State}

/-! ## Ward links -/

/-- A ward-link frame of one direction is checked: a failed one is replayed and counted; replays last from the first
failure to the next good frame (R13). The ward source's level input falls with the good frame that ends the last of
them, and stays for a ward that has failed (log entry 29). -/
def Work.wardFrame (s : Work s₀) (w : Nat) (up ok : Bool) : Work s₀ :=
  let x := s.wlink w
  let now := s.now
  let x := if up then { x with up := if ok then x.up else x.up + 1, upT := if ok then none else some (x.upT.getD now) }
    else { x with down := if ok then x.down else x.down + 1, downT := if ok then none else some (x.downT.getD now) }
  let s := s.setWlink w x
  s.when (x.upT == none && x.downT == none && !x.failed) fun s => s.srcInput (544 + w) false

/-- WARD_LINK_FRAME (R13): a frame of ward `w`'s link arrives, upwards to the plaza or downwards. -/
def execWardLinkFrame (t w : Nat) (up ok : Bool) (s : State) : Host.Outcome State Fault Refusal :=
  .next (((Work.start s).at t).when (w < 8) fun s => s.wardFrame w up ok).st

/-- REPLAY_PERSIST (R13): replays of ward `w`'s link have gone on for more than 1 ms. -/
def execReplayPersist (t w : Nat) (s : State) : Host.Outcome State Fault Refusal :=
  .next (((Work.start s).at t).when (w < 8) fun s =>
    let x := s.wlink w
    let long := fun (f : Option Nat) => match f with | some a => decide (a + ms 1 < s.now) | none => false
    s.when (long x.upT || long x.downT) fun s => s.srcInput (544 + w) true).st

/-! ## Links -/

/-- Lanes of a link of a group in mode `m`; 0 in the modes that carry none (Table LNK-1). -/
def linkWidth (m : Nat) : Nat := if m = 3 then 4 else if m = 4 then 2 else if m = 5 then 1 else 0

/-- Whether `l` names a DLP link under its group's mode. -/
def State.isLink (s : State) (l : Nat) : Bool :=
  let w := linkWidth (s.grpMode (l / 4))
  16 ≤ l && l < 64 && w != 0 && l % 4 % w == 0

/-- The links of group `g`. -/
def State.linksOf (s : State) (g : Nat) : List Nat := ((List.range 4).map (4 * g + ·)).filter s.isLink

/-- STATE of link `l`: 0 DOWN, 1 TRAIN, 2 HELLO, 3 ATTACHED, 4 BYE. -/
def State.dlp (s : State) (l : Nat) : Nat := s.get F.DLP_STAT_STATE l

/-- The entry of the partner attached on link `l`. -/
def State.entryOf (s : State) (l : Nat) : Nat := s.get F.DLP_STAT_ENTRY l

/-- TX_CRED shows the bundle credits held. -/
def Work.showCred (s : Work s₀) (l : Nat) : Work s₀ := s.put F.DLP_STAT_TX_CRED l (min 65535 (s.lnk l).bTx)

/-- LOCK of link `l`'s lanes goes to `on`, and with it what the group shows. -/
def Work.linkLock (s : Work s₀) (l : Nat) (on : Bool) : Work s₀ :=
  let g := l / 4
  let w := linkWidth (s.st.grpMode g)
  let s := s.modLnk l fun x => { x with locked := on }
  let lock := (s.st.linksOf g).filter fun k => (s.lnk k).locked
  let bits := (lock.map fun k => (2 ^ w - 1) * 2 ^ (k % 4)).foldl (· + ·) 0
  s.groupStat g bits (lock.length == (s.st.linksOf g).length && !lock.isEmpty)

/-- Link `l` gives up what a discovery has gathered: the lanes retrain. -/
def Work.retrain (s : Work s₀) (l st : Nat) : Work s₀ :=
  let s := s.modLnk l fun x => { x with sentA := false, rcvdA := false, desc := [], res := none, seqRx := none }
  (s.put F.DLP_STAT_STATE l st).linkLock l false

/-! ## Detach (R346, R347) -/

/-- Every read and write mask of every window loses the bit of master `m`, 60 to 91 (R347). -/
def Work.revoke (s : Work s₀) (m : Nat) : Work s₀ :=
  let one := fun (s : Work s₀) (r : Reg) (b : Nat) =>
    s.each (s.st.indices r fun v => bit v.toNat b) fun s i => s.put ⟨r, b, 1⟩ i 0
  if m < 64 then one (one s .ACC_RD_LO m) .ACC_WR_LO m else one (one s .ACC_RD_HI (m - 64)) .ACC_WR_HI (m - 64)

/-- A queue is disabled, unbound and freed, as QUEUE_FREE frees it. -/
def Work.queueDrop (s : Work s₀) (q : Nat) : Work s₀ :=
  let s := s.when (s.on F.QD_CFG_EN q) fun s => s.wrQdCfg q (F.QD_CFG_EN.put (s.reg .QD_CFG q) 0)
  ((s.put F.QD_MARK_CONS_KIND q 0).put F.QD_MARK_CONS_ID q 0).setAlloc q 0

/-- The partner on link `l` is detached (R346), with cause `cause` of Table LNK-7. -/
def Work.detach (s : Work s₀) (l cause : Nat) : Work s₀ :=
  let e := s.st.entryOf l
  let prod := 0x160 + e
  let s := s.each (s.st.back.filter (·.1 == prod)) fun s (_, q, _, _) => s.abort q
  let s := s.setBack (s.st.back.filter (·.1 != prod))
  let s := (s.setWaiters (s.st.waiters.erase prod)).setGranted (s.st.granted.erase prod)
  let s := s.dropWriter prod
  let qs := s.st.indices .QD_MARK fun v => F.QD_MARK_CONS_KIND.of v == 7 && F.QD_MARK_CONS_ID.of v == e
  let free := s.on F.DLP_CFG_DETACH_Q l
  let s := s.each qs fun s q =>
    if free then s.queueDrop q else (s.put F.QD_MARK_CONS_KIND q 0).put F.QD_MARK_CONS_ID q 0
  let s := (s.epGone (18 + e)).revoke (60 + e)
  let gen := s.get F.PT_STAT_GEN e
  let s := ((s.wreg .PT_STAT e 0).put F.PT_STAT_GEN e gen).wreg .PT_ID0 e 0
  let s := ((s.wreg .PT_ID1 e 0).wreg .PT_TIME e 0).wreg .PT_CNT e 0
  let s := (s.put F.DLP_STAT_ENTRY l 0).put F.DLP_STAT_ENTRY_VALID l 0
  let s := s.modLnk l fun x => { x with out := [], paid := 0, mbx := [], waitT := none, bTx := 0, cTx := 0, retry := none }
  let s := (s.setProg prod 0).showCred l
  let s := s.notice 1 0x11 (le 1 e ++ le 1 cause ++ le 2 qs.length)
  (s.flag F.LNK_GEVT_DETACH (l / 4)).retrain l 1

/-- The engine sends a BYE, the first of three (R340). -/
def Work.byeSend (s : Work s₀) (l reason : Nat) : Work s₀ :=
  (s.frameSend l 3 [w64 reason]).modLnk l fun x => { x with bye := 2, reason := reason }

/-- The engine sends BYE on link `l` and detaches its partner, if it has one; after the three BYEs the link is idle for
1 ms before it retrains (R324, R340). -/
def Work.byeDetach (s : Work s₀) (l reason : Nat) : Work s₀ :=
  if s.st.dlp l = 3 then
    let s := ((s.byeSend l reason).detach l 0).put F.DLP_STAT_STATE l 4
    let idle := s.now + us 20 + ms 1
    s.modLnk l fun x => { x with retry := some idle }
  else s

/-- Every partner is detached with a BYE (R370, Table PWR-8). -/
def Work.byeAll (s : Work s₀) (reason : Nat) : Work s₀ :=
  s.each ((List.range 48).map (16 + ·)) fun s l => s.byeDetach l reason

/-! ## Discovery (R338, R339) -/

/-- The engine's descriptor (R337): its identity from the vault (Table REG-3). -/
def State.myDescriptor (s : State) : List Word :=
  [w64 (1 + 1 * 2 ^ 8 + 0xF * 2 ^ 16)] ++ byteWords 2 (s.vaultBytes 0x1FF0000 16) ++ [w64 (512 + 4 * 2 ^ 16)]

/-- A HELLO leaves, and the next is due 1 ms later (Timeline LNK-1). -/
def Work.helloSend (s : Work s₀) (l : Nat) : Work s₀ :=
  let next := s.now + ms 1
  (s.frameSend l 1 s.st.myDescriptor).modLnk l fun x => { x with hello := next }

/-- Discovery begins on link `l`: the counts of a link start again. -/
def Work.discover (s : Work s₀) (l : Nat) : Work s₀ :=
  let now := s.now
  let s := s.modLnk l fun x =>
    { x with tu := now, retry := none, sentA := false, rcvdA := false, desc := [], res := none, seqTx := 0,
             seqRx := none, cret := 0, ccret := 0, freeB := 0, freeC := 0, rx := now, bye := 0, crcs := [] }
  (s.put F.DLP_STAT_STATE l 2).helloSend l

/-- Block lock and deskew on every lane of link `l` (R338): HELLO, unless the second after a failed discovery or the
idle time after a BYE runs. -/
def Work.linkLocked (s : Work s₀) (l : Nat) : Work s₀ :=
  if !s.st.isLink l || !s.on F.DLP_CFG_EN l || !s.st.domOn 85 || (s.grp (l / 4)).isSome || (s.lnk l).locked then s
  else
    let s := s.linkLock l true
    match (s.lnk l).retry with
    | some r => if r ≤ s.now then s.discover l else s.put F.DLP_STAT_STATE l 1
    | none => s.discover l

/-- DLP_LINK_UP (R338): every lane of link `l` has locked. -/
def execDlpLinkUp (t l : Nat) (s : State) : Host.Outcome State Fault Refusal :=
  .next (((Work.start s).at t).linkLocked l).st

/-- HELLO_REPEAT (R338): during discovery HELLO is sent again each millisecond. -/
def execHelloRepeat (l : Nat) (s : State) : Host.Outcome State Fault Refusal :=
  let s := Work.start s
  .next (s.when (s.st.dlp l == 2) fun s => (s.at (s.lnk l).hello).helloSend l).st

/-- No attach within 100 ms of t_u (Timeline LNK-1). -/
def Work.discoveryFail (s : Work s₀) (l : Nat) : Work s₀ :=
  if s.st.dlp l != 2 then s
  else
    let s := s.at ((s.lnk l).tu + ms 100)
    let s := (s.count F.DLP_CNT_HS_FAIL_CNT l).flag F.LNK_GEVT_HS_FAIL (l / 4)
    let next := s.now + ms 1000
    (s.retrain l 1).modLnk l fun x => { x with retry := some next }

/-- DISCOVERY_TIMEOUT (R338): a discovery on link `l` has failed. -/
def execDiscoveryTimeout (l : Nat) (s : State) : Host.Outcome State Fault Refusal :=
  .next ((Work.start s).discoveryFail l).st

/-- DISCOVERY_RESTART (R338, R340): 1 s after a failed or refused discovery, or 1 ms after the BYEs of a detach, the
link trains, and HELLO is sent once the lanes are locked. -/
def execDiscoveryRestart (l : Nat) (s : State) : Host.Outcome State Fault Refusal :=
  let s := Work.start s
  .next (match (s.lnk l).retry with
    | none => s
    | some r =>
      let s := (s.at r).modLnk l fun x => { x with retry := none }
      (s.when (s.st.isLink l && s.on F.DLP_CFG_EN l) fun s =>
        if (s.lnk l).locked then s.discover l else s.put F.DLP_STAT_STATE l 1 : Work _)).st

/-- The engine refuses a partner: BYE, and discovery restarts 1 s later (R338). -/
def Work.refuse (s : Work s₀) (l reason : Nat) : Work s₀ :=
  let next := s.now + ms 1000
  let s := (s.byeSend l reason).retrain l 4
  s.modLnk l fun x => { x with retry := some next }

/-- The lowest entry of the partner table that is neither taken nor reserved (R339). -/
def State.freeEntry (s : State) : Option Nat :=
  (List.range 32).find? fun e => !s.attached e && s.lnk.all fun (_, x) => x.res != some e

/-- A partner is attached once ACCEPT has been sent and received (R338, R339). -/
def Work.attach (s : Work s₀) (l : Nat) : Work s₀ :=
  let x := s.lnk l
  match x.sentA && x.rcvdA, x.res with
  | true, some e =>
    let w0 := (x.desc.getD 0 0).toNat
    let w3 := (x.desc.getD 3 0).toNat
    let gen := (s.get F.PT_STAT_GEN e + 1) % 256
    let s := s.wreg .PT_STAT e (w64 (1 + gen * 2 ^ 8 + l * 2 ^ 16 + bits w0 8 8 * 2 ^ 24 + bits w0 16 16 * 2 ^ 32
      + bits w0 32 16 * 2 ^ 48))
    let s := (s.wreg .PT_ID0 e (x.desc.getD 1 0)).wreg .PT_ID1 e (x.desc.getD 2 0)
    let s := ((s.wreg .PT_TIME e 0).wreg .PT_CNT e 0).setProg (0x160 + e) 0
    let s := ((s.put F.DLP_STAT_STATE l 3).put F.DLP_STAT_ENTRY l e).put F.DLP_STAT_ENTRY_VALID l 1
    let now := s.now
    let s := s.modLnk l fun x =>
      { x with res := none, bTx := bits w3 0 16, cTx := bits w3 16 3, timeT := now, keepP := 0, hor := 0, out := [],
               paid := 0, mbx := [], waitT := none }
    let s := s.showCred l
    let id := le 8 (x.desc.getD 1 0).toNat ++ le 8 (x.desc.getD 2 0).toNat
    let s := s.notice 1 0x10 (le 1 e ++ le 1 (bits w0 8 8) ++ le 1 (60 + e) ++ le 1 0 ++ id ++ le 2 (bits w0 32 16))
    s.flag F.LNK_GEVT_ATTACH (l / 4)
  | _, _ => s

/-! ## Frames received (R335 to R345) -/

/-- A frame of a type that needs no attach. -/
def beforeAttach (ftype : Nat) : Bool := ftype < 4

/-- The LEN that Table LNK-5 gives a type; none where it varies. -/
def frameLen (ftype : Nat) : Option Nat :=
  match ftype with
  | 0 | 2 | 3 => some 1
  | 1 | 6 => some 4
  | _ => none

/-- A frame is discarded for its type or length (R335). -/
def Work.badFrame (s : Work s₀) (l : Nat) : Work s₀ := s.count F.DLP_CNT_BAD_FRAME_CNT l

/-- What waits for a control credit goes out as far as credits are there (R344). -/
def Work.mbxFlush (s : Work s₀) (l : Nat) : Nat → Work s₀
  | 0 => s
  | n + 1 =>
    match (s.lnk l).mbx with
    | [] => s
    | (_, ws) :: rest =>
      if (s.lnk l).cTx = 0 then s
      else ((s.modLnk l fun x => { x with mbx := rest, cTx := x.cTx - 1 }).frameSend l 5 ws).mbxFlush l n

/-- The bundles that the returned credit covers are popped, in the order in which they were sent (R343). -/
def Work.popPaid (s : Work s₀) (l : Nat) : Nat → Work s₀
  | 0 => s
  | n + 1 =>
    match (s.lnk l).out with
    | [] => s
    | (q, len, cost) :: rest =>
      if (s.lnk l).paid < cost then s
      else ((s.modLnk l fun x => { x with out := rest, paid := x.paid - cost }).popWords q len).popPaid l n

/-- The credits that a received frame returns (R336). -/
def Work.credits (s : Work s₀) (l : Nat) (f : Frame) : Work s₀ :=
  let x := s.lnk l
  let b := (f.cret + 256 - x.cret % 256) % 256
  let c := (f.ccret + 8 - x.ccret % 8) % 8
  let s := s.modLnk l fun x => { x with cret := f.cret % 256, ccret := f.ccret % 8, bTx := x.bTx + b, cTx := x.cTx + c,
                                        paid := x.paid + b }
  let s := ((s.showCred l).popPaid l x.out.length).mbxFlush l x.mbx.length
  s.noteGo (18 + s.st.entryOf l)

/-- A frame with FSEQ `seq` has passed its CRC: a gap before it is counted (R335). -/
def Work.frameSeq (s : Work s₀) (l seq : Nat) : Work s₀ :=
  let gap := match (s.lnk l).seqRx with | some n => n != seq % 2 ^ 32 | none => false
  let s := s.when gap fun s => s.count F.DLP_CNT_SEQ_GAP_CNT l
  let now := s.now
  s.modLnk l fun x => { x with seqRx := some ((seq + 1) % 2 ^ 32), rx := now }

/-- A frame of type `ftype` that has passed its CRC is taken (R335): `g` acts on it. -/
def Work.frameIn (s : Work s₀) (l ftype : Nat) (f : Frame) (g : Work s₀ → Work s₀) : Work s₀ :=
  let st := s.st.dlp l
  if st != 2 && st != 3 then s
  else
    let s := s.frameSeq l f.seq
    let bad := (match frameLen ftype with | some n => n != f.ws.length | none => false)
    if bad || (!beforeAttach ftype && st != 3) then s.badFrame l
    else g (s.when (st == 3) fun s => s.credits l f)

/-- Payload word `i` of a frame. -/
def payload (f : Frame) (i : Nat) : Nat := (f.ws.getD i 0).toNat

/-- KEEP (R342): credits, and the partner's PROGRESS, a T64; 0 means none. -/
def execKeep (t l : Nat) (f : Frame) (s : State) : Host.Outcome State Fault Refusal :=
  .next (((Work.start s).at t).frameIn l 0 f fun s => s.when (s.st.dlp l == 3) fun s =>
    let keep := if payload f 0 = 0 then 0 else s.st.near (payload f 0)
    let s := s.modLnk l fun x => { x with keepP := keep }
    let prod := 0x160 + s.st.entryOf l
    s.setProg prod (max (s.lnk l).hor keep)).st

/-- HELLO (R337, R338, R340): a partner's descriptor is answered with ACCEPT or BYE; while attached it detaches. -/
def Work.helloIn (s : Work s₀) (l : Nat) (f : Frame) : Work s₀ :=
  if s.st.dlp l = 3 then s.byeDetach l 0
  else if bits (payload f 0) 0 8 != 1 then s.refuse l 2
  else
    match (s.lnk l).res.or s.st.freeEntry with
    | none => (s.flag F.LNK_GEVT_TABLE_FULL (l / 4)).refuse l 1
    | some e =>
      let s := s.modLnk l fun x => { x with res := some e, desc := f.ws, sentA := true }
      (s.frameSend l 2 [w64 e]).attach l

/-- HELLO (R337): a HELLO frame is received. -/
def execHello (t l : Nat) (f : Frame) (s : State) : Host.Outcome State Fault Refusal :=
  .next (((Work.start s).at t).frameIn l 1 f fun s => s.helloIn l f).st

/-- ACCEPT (R338): an ACCEPT frame is received. -/
def execAccept (t l : Nat) (f : Frame) (s : State) : Host.Outcome State Fault Refusal :=
  .next (((Work.start s).at t).frameIn l 2 f fun s => s.when (s.st.dlp l == 2) fun s =>
    (s.modLnk l fun x => { x with rcvdA := true }).attach l).st

/-- A BYE is received: an attached partner is detached, a discovery ends and restarts 1 s later (R338, R340). -/
def Work.byeIn (s : Work s₀) (l : Nat) : Work s₀ :=
  if s.st.dlp l = 3 then s.detach l 0
  else
    let next := s.now + ms 1000
    (s.retrain l 1).modLnk l fun x => { x with retry := some next }

/-- BYE (R340): a BYE frame is received. -/
def execBye (t l : Nat) (f : Frame) (s : State) : Host.Outcome State Fault Refusal :=
  .next (((Work.start s).at t).frameIn l 3 f fun s => s.byeIn l).st

/-- Credits of a received bundle of `n` words that no buffer takes are free again (R336). -/
def Work.freeCredits (s : Work s₀) (l n : Nat) : Work s₀ :=
  s.modLnk l fun x => { x with freeB := x.freeB + bundleCost n }

/-- Whether queue `q` admits a bundle of the partner in entry `e` (R341). -/
def State.admits (s : State) (e q : Nat) : Bool := s.active q && s.grants (60 + e) (20 + q / 512) (q % 512) true

/-- A bundle of the partner in entry `e` is refused before any word enters a buffer (R341). -/
def Work.ptRefuse (s : Work s₀) (e q : Nat) : Work s₀ :=
  (s.violation (60 + e) (20 + q / 512) (q % 512) true).count F.PT_CNT_DENIED_CNT e

/-- A bundle of the partner in entry `e` that had opened is rewound: the partner is a writer of the queue (R258, R260,
R341). -/
def Work.ptRewind (s : Work s₀) (e q : Nat) : Work s₀ :=
  if s.st.admits e q then (s.addWriter (0x160 + e) q).abort q else s.ptRefuse e q

/-- A bundle from a partner (R341): refused, malformed, or received into an assembly buffer. -/
def Work.bundleIn (s : Work s₀) (l : Nat) (f : Frame) : Work s₀ :=
  let e := s.st.entryOf l
  let q := bits (payload f 0) 0 16
  let ws := f.ws.drop 1
  let n := ws.length
  if !s.st.admits e q then (s.ptRefuse e q).freeCredits l n
  else
    let h0 := payload f 1
    let tr := payload f n
    if n < 3 || bits h0 56 8 != 0xF0 || bits h0 44 12 != n || bits tr 56 8 != 0xF1 then (s.ptRewind e q).freeCredits l n
    else s.xpAppend (0x160 + e) q 0 { t := s.st.near (payload f 2), ws := (ws.drop 2).take (n - 3) }

/-- BUNDLE_FRAME (R341): a BUNDLE frame is received. -/
def execBundleFrame (t l : Nat) (f : Frame) (s : State) : Host.Outcome State Fault Refusal :=
  .next (((Work.start s).at t).frameIn l 4 f fun s => s.bundleIn l f).st

/-- An MBX frame from a partner: `kind` and LEN as Table of R344 gives, and only from a MAILBOX client. -/
def Work.mbxIn (s : Work s₀) (l kind len : Nat) (f : Frame) (g : Work s₀ → Nat → Nat → Work s₀) : Work s₀ :=
  let e := s.st.entryOf l
  let w := payload f 0
  if f.ws.length != len || bits w 2 2 != kind || bits w 4 60 != 0 || !bit (s.get F.PT_STAT_CAPS e) 2 then s.badFrame l
  else g s (18 + e) (bits w 0 2)

/-- MBX_COMMAND (R344): a slot is written and posted. The frame's credit is free again once firmware takes the command,
or at once where the slot did not admit it. -/
def execMbxCommand (t l : Nat) (f : Frame) (s : State) : Host.Outcome State Fault Refusal :=
  .next (((Work.start s).at t).frameIn l 5 f fun s => s.mbxIn l 0 33 f fun s ep sl =>
    let st := (s.slot (slotKey ep sl)).st
    let s := (s.slotWrite ep sl 0 (wordBytes (f.ws.drop 1))).post ep sl
    s.when (st == 1 || st == 2) fun s => s.modLnk l fun x => { x with freeC := x.freeC + 1 }).st

/-- MBX_RELEASE (R344): a slot is released. -/
def execMbxRelease (t l : Nat) (f : Frame) (s : State) : Host.Outcome State Fault Refusal :=
  .next (((Work.start s).at t).frameIn l 5 f fun s => s.mbxIn l 3 1 f fun s ep sl =>
    (s.slotRelease ep sl).modLnk l fun x => { x with freeC := x.freeC + 1 }).st

/-- TIME_REQUEST (R345): answered with its arrival and the answer's departure, at most 20 µs later. -/
def execTimeRequest (t l : Nat) (f : Frame) (s : State) : Host.Outcome State Fault Refusal :=
  .next (((Work.start s).at t).frameIn l 6 f fun s =>
    let (s, x) := s.fresh
    let t2 := s.now
    s.frameSend l 6 [w64 1, f.ws.getD 1 0, w64 t2, w64 (t2 + x.toNat % (us 20 + 1))]).st

/-- TIME_RESPONSE (R345): offset and delay go into PT_TIME. -/
def execTimeResponse (t l : Nat) (f : Frame) (s : State) : Host.Outcome State Fault Refusal :=
  .next (((Work.start s).at t).frameIn l 6 f fun s =>
    let t1 : Int := payload f 1
    let t2 : Int := payload f 2
    let t3 : Int := payload f 3
    let t4 : Int := (s.now % 2 ^ 64 : Nat)
    let e := s.st.entryOf l
    let ofs := ((t2 - t1) - (t4 - t3)) / 2
    let dly := ((t4 - t1) - (t3 - t2)) / 2
    (s.put F.PT_TIME_OFFSET e (sfield 40 ofs)).put F.PT_TIME_DELAY e (clampI 0 (2 ^ 24 - 1) dly).toNat).st

/-- A frame fails its CRC: counted, its bundle rewound where its queue admitted it, and the storm that detaches (R335,
R340). -/
def Work.crcFail (s : Work s₀) (l : Nat) (rx : Option (Nat × Nat)) : Work s₀ :=
  let s := s.count F.DLP_CNT_CRC_CNT l
  let s := match rx with
    | some (q, n) =>
      if s.st.dlp l = 3 then (s.ptRewind (s.st.entryOf l) q).modLnk l fun x => { x with freeB := x.freeB + n } else s
    | none => s
  let now := s.now
  let s := s.modLnk l fun x => { x with crcs := (x.crcs.filter fun t => now < t + ms 1) ++ [now] }
  let s := s.when (max 1 (s.get F.DLP_CFG_CRC_LIM l) ≤ (s.lnk l).crcs.length) fun s =>
    let s := s.flag F.LNK_GEVT_CRC_STORM (l / 4)
    s.when (s.st.dlp l == 3) fun s => s.detach l 2
  s

/-- FRAME_DISCARD (R335): a frame on link `l` fails its CRC (`crc`; `rx` is then the queue and the bundle credits of a
BUNDLE frame), or is of a wrong type or length (`rx` then gives its FSEQ). -/
def execFrameDiscard (t l : Nat) (crc : Bool) (rx : Option (Nat × Nat)) (s : State) : Host.Outcome State Fault Refusal :=
  .next (((Work.start s).at t).when (s.dlp l == 2 || s.dlp l == 3) fun s =>
    if crc then s.crcFail l rx
    else
      match rx with
      | some (seq, _) => (s.frameSeq l seq).badFrame l
      | none => s.badFrame l).st

/-- LOSS_OF_SIGNAL (R340): block lock has been lost for 10 µs on a lane of link `l`. -/
def execLossOfSignal (t l : Nat) (s : State) : Host.Outcome State Fault Refusal :=
  .next (((Work.start s).at t).when (s.isLink l && (s.lnkAt l).locked) fun s =>
    let s := s.flag F.LNK_GEVT_LOS (l / 4)
    if s.st.dlp l = 3 then s.detach l 1 else s.retrain l 1).st

/-- RX_TIMEOUT (R340): no frame has been received for 10 ms. -/
def execRxTimeout (t l : Nat) (s : State) : Host.Outcome State Fault Refusal :=
  .next (((Work.start s).at t).when (s.dlp l == 3) fun s =>
    s.when ((s.lnk l).rx + ms 10 ≤ s.now) fun s => s.detach l 3).st

/-- CREDIT_TIMEOUT (R340): a frame has waited for credits for CREDIT_TO ms. -/
def execCreditTimeout (t l : Nat) (s : State) : Host.Outcome State Fault Refusal :=
  .next (((Work.start s).at t).when (s.dlp l == 3) fun s =>
    let lim := ms (max 1 (s.get F.DLP_CFG_CREDIT_TO l))
    let late := fun (w : Nat) => decide (w + lim ≤ s.now)
    s.when (((s.lnk l).waitT.toList ++ (s.lnk l).mbx.map (·.1)).any late) fun s =>
      (s.flag F.LNK_GEVT_CREDIT_STALL (l / 4)).detach l 3).st

/-! ## Frames sent -/

/-- KEEP_SEND (R340): a KEEP frame, or the next of the three BYEs, 10 µs after the one before. -/
def execKeepSend (t l : Nat) (s : State) : Host.Outcome State Fault Refusal :=
  .next (((Work.start s).at t).when true fun s =>
    if s.st.dlp l = 2 || s.st.dlp l = 3 then s.frameSend l 0 [0]
    else if (s.lnk l).bye != 0 then
      ((s.at ((s.lnk l).tx + us 10)).frameSend l 3 [w64 (s.lnk l).reason]).modLnk l fun x => { x with bye := x.bye - 1 }
    else s).st

/-- The words of queue `q` that have been sent to the partner and not yet popped. -/
def LnkSt.ahead (x : LnkSt) (q : Nat) : Nat := ((x.out.filter (·.1 == q)).map (·.2.1)).foldl (· + ·) 0

/-- The next committed bundle of one of the partner's queues goes out, if its credits are there (R336, R343). -/
def Work.partnerSend (s : Work s₀) (e : Nat) : Work s₀ :=
  if !s.st.attached e then s
  else
    let l := s.st.linkOf e
    let x := s.lnk l
    let qs := s.st.indices .QD_MARK fun v => F.QD_MARK_CONS_KIND.of v == 7 && F.QD_MARK_CONS_ID.of v == e
    let order := qs.filter (x.rr < ·) ++ qs.filter (fun q => !(x.rr < q))
    match order.find? fun q => (s.st.peek q (x.ahead q)).isSome with
    | none => s
    | some q =>
      match s.st.peek q (x.ahead q) with
      | some (some b) =>
        let cost := bundleCost b.len
        if x.bTx < cost then
          let now := s.now
          s.modLnk l fun x => { x with waitT := some (x.waitT.getD now) }
        else
          let s := s.modLnk l fun x =>
            { x with bTx := x.bTx - cost, out := x.out ++ [(q, b.len, cost)], rr := q,
                     waitT := none }
          ((s.readErrors b).showCred l).frameSend l 4 (w64 q :: b.words)
      | _ => (s.noHeader q).modLnk l fun x => { x with rr := q }

/-- PARTNER_BUNDLE_SEND (R343): a committed bundle goes to the partner in entry `e`. -/
def execPartnerBundleSend (t e : Nat) (s : State) : Host.Outcome State Fault Refusal :=
  .next (((Work.start s).at t).partnerSend e).st

/-- TIME_REQUEST_SEND (R345): with TIME_EN and a TIME partner, a request each 100 ms. -/
def execTimeRequestSend (t l : Nat) (s : State) : Host.Outcome State Fault Refusal :=
  .next (((Work.start s).at t).when (s.dlp l == 3 && s.on F.DLP_CFG_TIME_EN l &&
      bit (s.get F.PT_STAT_CAPS (s.entryOf l)) 3) fun s =>
    s.when ((s.lnk l).timeT ≤ s.now) fun s =>
      let now := s.now
      (s.modLnk l fun x => { x with timeT := now + ms 100 }).frameSend l 6 [0, w64 now, 0, 0]).st

/-! ## Configuration -/

/-- A write of DLP_CFG: EN going to 0 detaches with a BYE and takes the link down; EN going to 1 lets it train, after
the idle time that a BYE began (R340). -/
def Work.wrDlpCfg (s : Work s₀) (l : Nat) (v : Word) : Work s₀ :=
  let was := s.on F.DLP_CFG_EN l
  let s := s.wreg .DLP_CFG l (v &&& 0x1FFFFFF)
  if was && F.DLP_CFG_EN.of v = 0 then
    let s := if s.st.dlp l = 3 then s.byeDetach l 0 else s.modLnk l fun x => { x with retry := none }
    s.retrain l 0
  else s.when (!was && F.DLP_CFG_EN.of v == 1 && s.st.isLink l && (s.grp (l / 4)).isNone) fun s =>
    s.put F.DLP_STAT_STATE l (if (s.lnk l).bye = 0 then 1 else 4)

/-- The lanes of group `g` fall idle: no lock, every link down; BYEs already begun still go out (R340). -/
def Work.groupDown (s : Work s₀) (g : Nat) : Work s₀ :=
  let s := s.each ((List.range 4).map (4 * g + ·)) fun s l =>
    let s := s.modLnk l fun x => { x with locked := false, sentA := false, rcvdA := false, desc := [], res := none,
                                          retry := none }
    s.put F.DLP_STAT_STATE l 0
  s.groupStat g 0 false

/-- A write of LNK_GRP (R324); the MODE of groups 0 to 3 is fixed. -/
def Work.wrGrp (s : Work s₀) (g : Nat) (v : Word) : Work s₀ :=
  let old := s.st.grpMode g
  let mode := if g < 4 then 1 else F.LNK_GRP_MODE.of v
  let w := F.LNK_GRP_MODE.put (v &&& 0xFFF) mode
  let m := if !s.st.domOn (pdGroup g) then 0 else if g < 4 then 1 else if mode = 1 || 6 ≤ mode then 0 else mode
  if m = old then s.wreg .LNK_GRP g w
  else
    let s := s.each (s.st.linksOf g) fun s l => s.byeDetach l 0
    let at_ := s.now + ms 1
    ((s.groupDown g).wreg .LNK_GRP g w).setGrp g (some at_)

/-- GROUP_MODE_WRITE (R324): a write of LNK_GRP of group `g`. -/
def execGroupModeWrite (t m g : Nat) (v : Word) (s : State) : Host.Outcome State Fault Refusal :=
  .next (((Work.start s).at t).when (g < 16) fun s => s.access m 10 (8 * g) 85 true fun s => s.wrGrp g v).st

/-- The enabled links of group `g` train. -/
def Work.groupTrain (s : Work s₀) (g : Nat) : Work s₀ :=
  s.each (s.st.linksOf g) fun s l => s.when (s.on F.DLP_CFG_EN l) fun s => s.put F.DLP_STAT_STATE l 1

/-- GROUP_TRAIN (R324): the idle millisecond of group `g` is over. -/
def execGroupTrain (g : Nat) (s : State) : Host.Outcome State Fault Refusal :=
  let s := Work.start s
  .next (match s.grp g with
    | none => s
    | some t => (((s.at t).setGrp g none).groupTrain g : Work _)).st

end Sys2Proof.Machine
end

