-- ==== Sys2Proof/Machine/Monitor.lean ====
section
/-!
DEFINITION. The monitoring of the engine's health (chapter 16): temperature sensors and their limits, the patrol
scrubber, and the RESTART of a monitor unit.
-/

namespace Sys2Proof.Machine

variable {s₀ : State}

/-! ## Sensors (R397) -/

/-- Whether sensor `k` is absent (chapter 16's note on the DZ9256). -/
def State.sensorAbsent (s : State) (k : Nat) : Bool := 40 ≤ k || (s.small && 16 ≤ k && k < 32)

/-- The domain of sensor `k` (Table PWR-1): a block's capture domain, the plaza for 32 to 39. -/
def pdSensor (k : Nat) : Nat := if k < 32 then pdCapture k else 85

/-- Whether sensor `k` is in SENSOR_FAULT. -/
def State.sensorBad (s : State) (k : Nat) : Bool := bit (s.get F.MON_THERM_STAT_FAULT 0) k

/-- WARN and CRIT show whether any sensor is in them. -/
def Work.showLimits (s : Work s₀) : Work s₀ :=
  let any := fun (f : SensSt → Bool) => s.st.sens.any fun (k, x) => f x && !s.st.sensorBad k
  (s.put F.MON_THERM_STAT_WARN 0 (b2n (any (·.warn)))).put F.MON_THERM_STAT_CRIT 0 (b2n (any (·.crit)))

/-- Sensor `k` gives no valid reading any more: it is left out of every limit (R397). -/
def Work.sensorFault (s : Work s₀) (k : Nat) : Work s₀ :=
  let s := (s.put ⟨.MON_THERM_STAT, k, 1⟩ 0 1).monEvt F.MON_EVT_SENSOR_FAULT
  (s.setSens k { s.sens k with warn := false, crit := false }).showLimits

/-- A limit of `lim` for a reading of `v`, in 1/256 °C: entered at the limit, left below it by 2 °C (R397). -/
def inLimit (was : Bool) (lim v : Int) : Bool := if was then lim - 512 ≤ v else lim ≤ v

/-- The THERMAL notice of an entry into a limit: 0 WARN, 1 CRIT. -/
def Work.thermalNotice (s : Work s₀) (k lim : Nat) (v : Int) : Work s₀ :=
  s.notice 6 0x60 (le 1 k ++ le 1 lim ++ le 2 (sfield 16 v))

/-- A reading of `v` 1/256 °C of the store's sensor doubles the refresh rate above 85 °C and restores it below 83 °C
(R435). -/
def Work.refreshRate (s : Work s₀) (k : Nat) (v : Int) : Work s₀ :=
  if 32 ≤ k && Config.storeSensor k then
    s.setRefresh (decide (85 * 256 < v) || (s.st.refresh && decide (83 * 256 ≤ v)))
  else s

/-- Sensor `k` is read as `v` 1/256 °C (R397); a block's sensor gives the block's temperature (R79). -/
def Work.sensorRead (s : Work s₀) (k : Nat) (v : Int) : Work s₀ :=
  let s := s.put F.MON_TEMP_TEMP k (sfield 16 v)
  let s := s.when (k < 32) fun s => s.put F.CAL_BSTAT_TEMP k (sfield 16 v)
  let x := s.sens k
  let now := s.now
  let x := { x with hot := if 115 * 256 ≤ v then some (x.hot.getD now) else none }
  if s.st.sensorBad k then s.setSens k { x with seen := true, val := v, at_ := now }
  else if v < -55 * 256 || 150 * 256 < v then (s.setSens k { x with seen := true, val := v, at_ := now }).sensorFault k
  else
    let warn := inLimit x.warn (sval 16 (s.get F.MON_THERM_CFG_WARN_T 0)) v
    let crit := inLimit x.crit (sval 16 (s.get F.MON_THERM_CFG_CRIT_T 0)) v
    let s := s.setSens k { x with seen := true, val := v, at_ := now, warn := warn, crit := crit }
    let s := s.showLimits.refreshRate k v
    let s := s.when (warn && !x.warn) fun s => (s.flag F.MON_EVT_THERM_WARN 0).thermalNotice k 0 v
    s.when (crit && !x.crit) fun s => (s.flag F.MON_EVT_THERM_CRIT 0).thermalNotice k 1 v

/-- SENSOR_READ (R397): sensor `k` is read. After a thermal trip the sensors are read all the same, since start-up waits
for them (R398). -/
def execSensorRead (t k : Nat) (v : Int) (s : State) : Host.Outcome State Fault Refusal :=
  .next (((Work.start s).at t).when (!s.sensorAbsent k && (s.domOn (pdSensor k) || s.on F.MON_THERM_STAT_TRIPPED 0))
    fun s => s.sensorRead k v).st

/-- SENSOR_FAULT (R397): sensor `k` has given no reading for 10 ms. -/
def execSensorFault (t k : Nat) (s : State) : Host.Outcome State Fault Refusal :=
  .next (((Work.start s).at t).when (!s.sensorAbsent k && s.domOn (pdSensor k)) fun s =>
    s.when ((s.sens k).at_ + ms 10 ≤ s.now) fun s => s.sensorFault k).st

/-- THERM_N (R397): low while any sensor is in CRIT. -/
def State.thermN (s : State) : Bool := !s.on F.MON_THERM_STAT_CRIT 0

/-! ## Scrubbing (R395) -/

/-- The patrol scrubber reads store word `a` and finds `e` bits in error: 1 is corrected, 2 is reported; with 0 it meets
the error that the word holds, if it holds one (log entry 55). -/
def Work.scrub (s : Work s₀) (a e : Nat) : Work s₀ :=
  if s.get F.MON_ECC_CFG_SCRUB_EXP 0 = 0 || !s.st.domOn 86 then s
  else if s.st.ue.contains a || e = 0 then s.storeMeet a
  else if e = 1 then s.storeCe a
  else (s.spoil a).storeUe a

/-- SCRUB (R395): the patrol scrubber reads store word `a`. -/
def execScrub (t a e : Nat) (s : State) : Host.Outcome State Fault Refusal :=
  .next (((Work.start s).at t).scrub (a % 2 ^ 30) e).st

/-! ## Monitor units -/

/-- MU_RESTART (R393): a write of MU_CTRL.RESTART of unit `h`. -/
def execMuRestart (t m h : Nat) (s : State) : Host.Outcome State Fault Refusal :=
  .next (((Work.start s).at t).access m 12 (0x40 * h + 0x10) 85 true fun s => s.muRestart h).st

end Sys2Proof.Machine
end

