-- ==== Sys2Proof/Machine/Stakes.lean ====
section
/-!
DEFINITION. The issue of stakes and their actions (R146 to R157), the MARK ports, and the stake table's writes.
-/

namespace Sys2Proof.Machine

variable {s₀ : State}

/-! ## Issue (R148, R149) -/

/-- ACTION of a stake. -/
def Fired.kind (f : Fired) : Nat := F.STAKE_ACTION_ACTION.of f.act

/-- UNIT of a stake. -/
def Fired.unit (f : Fired) : Nat := F.STAKE_ACTION_UNIT.of f.act

/-- ARG of a stake. -/
def Fired.arg (f : Fired) : Nat := F.STAKE_ACTION_ARG.of f.act

/-- Whether an action is real-time (Table AXI-3). -/
def realTime (k : Nat) : Bool := k == 3 || k == 5 || k == 9

/-- Whether UNIT lies outside the range that the action names (R147). -/
def Fired.badUnit (f : Fired) : Bool :=
  (f.kind == 5 && 96 ≤ f.unit) || (f.kind == 8 && 40 ≤ f.unit)

/-- A stake with the instant at which it will act once issued: a real-time one with too small a DELAY acts late (R149).
-/
def Fired.timed (f : Fired) : Fired :=
  if realTime f.kind && actDelay f.act < 2 ^ 17 then { f with ts := f.step + 2 ^ 17 } else f

/-- A stake is skipped (R148). -/
def Work.stakeSkip (s : Work s₀) : Work s₀ := ((s.count F.AXI_CNT2_OVF_CNT 0).aevt F.AXI_EVT_OVF 0).stakesGone

/-- The first fired stake is issued at `t`, or skipped (R148); a real-time one with too small a DELAY acts late (R149);
one whose UNIT is out of range has no effect (R147). -/
def Work.issue (s : Work s₀) (t : Nat) : Work s₀ :=
  match s.st.axis.fired with
  | [] => s
  | f :: rest =>
    let s := s.modAxis fun x => { x with fired := rest }
    if f.last < t || 1024 ≤ s.st.axis.issued.length then s.stakeSkip
    else
      let late := realTime f.kind && actDelay f.act < 2 ^ 17
      let s := s.when late fun s => (s.count F.AXI_CNT2_LATE_CNT 0).aevt F.AXI_EVT_LATE 0
      if f.badUnit then s.aevt F.AXI_EVT_CFG_ERR 0
      else
        s.modAxis fun x => { x with issued := x.issued ++ [{ f.timed with lg := s.st.groupOf f.act }] }

/-- STAKE_ISSUE (R148): the axis unit issues the next fired stake, one per 1.25 ns. -/
def execStakeIssue (t : Nat) (s : State) : Host.Outcome State Fault Refusal :=
  let s := (Work.start s).at t
  let t := s.now
  .next (if s.st.axis.fired.isEmpty || t < s.st.axis.issueAt then s
    else (s.modAxis fun x => { x with issueAt := t + 2048 }).issue t).st

/-! ## Taking an issued stake -/

/-- The place of a stake's action among those of one instant (Table AXI-4). -/
def Fired.order (f : Fired) : Nat :=
  match f.kind with
  | 0 => 4
  | 1 => 2
  | 2 => 3
  | 3 => if f.arg % 2 = 0 then 1 else 5
  | 4 => 7
  | 5 => 10
  | 6 => 6
  | 7 => 8
  | 8 => 9
  | _ => 11

/-- Whether stake `a` acts before stake `b` (R150): by instant, by the order of Table AXI-4, by index. -/
def Fired.before (a b : Fired) : Bool :=
  if a.ts != b.ts then a.ts < b.ts
  else if a.order != b.order then a.order < b.order
  else a.idx < b.idx

/-- Whether a stake that has fired and is not yet issued acts before stake `f`: `f` waits for it. -/
def State.unissued (s : State) (f : Fired) : Bool :=
  s.axis.fired.any fun g => s.t64 ≤ g.last && !g.badUnit && g.kind != 5 && g.timed.before f

/-- The stake that acts first among those of a list. -/
def firstFired : List Fired → Option Fired
  | [] => none
  | f :: fs =>
    match firstFired fs with
    | none => some f
    | some g => if g.before f then some g else some f

/-- The issued stake that acts first takes effect at its instant by `g`, where it satisfies `p` and no stake that still
has to be issued comes before it (R150). A MARK_OUT acts at a coarse boundary after its instant and holds up no other.
-/
def Work.act (s : Work s₀) (p : Fired → Bool) (g : Work s₀ → Fired → Work s₀) : Work s₀ :=
  match firstFired (s.st.axis.issued.filter fun f => p f || f.kind != 5) with
  | none => s
  | some f => if p f && !s.st.unissued f then g ((s.at f.ts).modAxis fun x => { x with issued := x.issued.erase f }) f else s

/-- The issued MARK_OUT of port `p` that acts first takes effect by `g`. -/
def Work.markFirst (s : Work s₀) (p : Nat) (g : Work s₀ → Fired → Work s₀) : Work s₀ :=
  match firstFired (s.st.axis.issued.filter fun f => f.kind == 5 && f.unit == p) with
  | none => s
  | some f => g ((s.at f.ts).modAxis fun x => { x with issued := x.issued.erase f }) f

/-- The lanes of a stake's group. -/
def Fired.lanes (f : Fired) : List Nat := (List.range 512).filter fun n => inGroup f.lg n

/-- The lanes of a stake's group that are present. -/
def State.groupLanes (s : State) (f : Fired) : List Nat := f.lanes.filter fun n => !s.laneAbsent n

/-! ## Lane actions -/

/-- A boundary request at t_s for the engines with CL_STAKE = 1 of the group (R107). -/
def Work.stakeRequest (s : Work s₀) (f : Fired) (idle : Option Bool) : Work s₀ :=
  s.each (s.st.groupLanes f) fun s n =>
    (s.when (F.CNT_CFG_CL_STAKE.of (s.cnt n).cfg = 1) fun s => s.request n { tb := f.ts, idle := idle }).laneGo n

/-- GATE_OPEN (R149): a boundary request that opens an active gate. -/
def execGateOpen (s : State) : Host.Outcome State Fault Refusal :=
  .next ((Work.start s).act (·.kind == 0) fun s f => s.stakeRequest f (some false)).st

/-- GATE_CLOSE (R149): a boundary request that opens an idle gate. -/
def execGateClose (s : State) : Host.Outcome State Fault Refusal :=
  .next ((Work.start s).act (·.kind == 1) fun s f => s.stakeRequest f (some true)).st

/-- ENGINE_CLOSE (R149): a boundary request that opens a gate of the same kind. -/
def execEngineClose (s : State) : Host.Outcome State Fault Refusal :=
  .next ((Work.start s).act (·.kind == 2) fun s f => s.stakeRequest f none).st

/-- CAL_QUIET (R153): quiet windows open or close on the lanes of the group. -/
def execCalQuiet (s : State) : Host.Outcome State Fault Refusal :=
  .next ((Work.start s).act (·.kind == 3) fun s f =>
    s.each (s.st.groupLanes f) fun s n => s.quiet n f.ts (f.arg % 2 == 1)).st

/-- The units whose front ends see lane `n`: the lane's own and, where it is connected, the relief lane's. -/
def State.frontsOf (s : State) (n : Nat) : List Nat :=
  if s.reliefLane (n / 16) = some n && !s.looped (512 + n / 16) then [n, 512 + n / 16] else [n]

/-- RAMP_START (R32): a ramp start for the lanes of the group with SRC_STAKE = 1. -/
def execRampStart (s : State) : Host.Outcome State Fault Refusal :=
  .next ((Work.start s).act (·.kind == 9) fun s f =>
    s.each (s.st.groupLanes f) fun s n =>
      s.when (s.on F.FRE_RAMP_SRC_STAKE n) fun s => s.each (s.st.frontsOf n) fun s u => s.rampStart u f.ts).st

/-! ## Unit actions -/

/-- BANK_SWAP (R212): a swap request to a filter pipeline with XF_DEF in force. -/
def execBankSwap (s : State) : Host.Outcome State Fault Refusal :=
  .next ((Work.start s).act (·.kind == 4) fun s f =>
    let p := f.unit % 64
    s.fltSwap p f.ts (F.FLT_CFG_XF_DEF.of (s.flt p).cfg)).st

/-- HIST_KEY (R222): an operation reaches a histogram engine. -/
def execHistKey (s : State) : Host.Outcome State Fault Refusal :=
  .next ((Work.start s).act (·.kind == 7) fun s f =>
    s.when (f.arg / 4096 ≤ 3) fun s => s.heOp (f.unit % 64) (f.arg / 4096) (f.arg % 4096) f.ts).st

/-- WEAVER_SIGNAL (R148): a signal reaches a weaver. -/
def execWeaverSignal (s : State) : Host.Outcome State Fault Refusal :=
  .next ((Work.start s).act (·.kind == 8) fun s f => s.weavSignal f.unit f.arg f.ts).st

/-- The words of an AXIS record (Table AXI-5). -/
def State.axisWords (s : State) (src : Nat) (f : Fired) : List Word :=
  [w64 (0x7 * 2 ^ 60 + src * 2 ^ 56 + f.pos.toNat), w64 (s.stamp f.step)]

/-- An AXIS_RECORD stake takes effect (R157): the axis unit's record, or one of each block that holds lanes of the
group, which the block's merge takes in its order. -/
def Work.axisRecord (s : Work s₀) (f : Fired) : Work s₀ :=
  if !bit f.unit 0 then s.sysBundle 0x140 f.arg { t := f.ts, ws := s.st.axisWords 15 f, ev := true }
  else
    s.each (List.range 32) fun s b =>
      let mask := bits (f.lg.getD (b / 4) 0).toNat (16 * (b % 4)) 16
      s.when (mask != 0 && !s.st.blockAbsent b) fun s =>
        let r : Rec := { t := f.ts, ws := s.st.axisWords (b / 4) f, close := bit f.unit 1, ev := true, mask := mask }
        s.setMerge b { s.merge b with evs := (s.merge b).evs ++ [r] }

/-- AXIS_RECORD (R157). -/
def execAxisRecord (s : State) : Host.Outcome State Fault Refusal :=
  .next ((Work.start s).act (·.kind == 6) fun s f => s.axisRecord f).st

/-! ## MARK ports (R133, R155) -/

/-- A MARK_OUT action on port `p`, at the coarse boundary at or after t_s (R155). -/
def Work.markAct (s : Work s₀) (p : Nat) (f : Fired) : Work s₀ :=
  let b := s.st.coarseUp f.ts
  let s := s.at b
  if !s.st.markOut p then s.aevt F.AXI_EVT_CFG_ERR 0
  else
    let x := s.mark p
    s.setMark p (match f.arg / 2 ^ 14 with
      | 0 => { x with level := true, pulse := some (b + (f.arg % 2 ^ 14 + 1) * 512) }
      | 1 => { x with level := true, pulse := none }
      | 2 => { x with level := false, pulse := none }
      | _ => { x with level := !x.level, pulse := none })

/-- MARK_OUT (R155): an action on MARK port `p`. -/
def execMarkOut (p : Nat) (s : State) : Host.Outcome State Fault Refusal :=
  .next ((Work.start s).markFirst p fun s f => s.markAct p f).st

/-- MARK_PULSE_END (R155): a pulse on port `p` reaches its width. -/
def execMarkPulseEnd (p : Nat) (s : State) : Host.Outcome State Fault Refusal :=
  .next (match (s.markAt p).pulse with
    | some e => ((Work.start s).at e).setMark p { s.markAt p with level := false, pulse := none }
    | none => Work.start s : Work s).st

/-- A write of an AXI_MARKDIR word: a port that becomes an output drives low until its first action (R133). -/
def Work.wrMarkDir (s : Work s₀) (r : Reg) (v : Word) : Work s₀ :=
  let base := if r == .AXI_MARKDIR0 then 0 else 64
  let new := (List.range 64).filter fun i => bit v.toNat i && base + i < 96 && !s.st.markOut (base + i)
  let s := s.wreg r 0 (v &&& w64 r.desc.rw)
  s.each new fun s i => s.setMark (base + i) { s.mark (base + i) with level := false, pulse := none }

/-- What an edge of a MARK input starts beside the axis: boundary requests of the engines that select the port (R107),
and ramps (R32). -/
def Work.markUsers (s : Work s₀) (t k : Nat) : Work s₀ :=
  let s := s.each (s.st.cnt.map (·.1)) fun s n =>
    let c := (s.cnt n).cfg
    s.when (F.CNT_CFG_CL_MARK.of c = 1 && min 95 (F.CNT_CFG_MARK_SEL.of c) = k) fun s => s.request n { tb := t }
  let ramps := s.st.indices .FRE_RAMP fun w => F.FRE_RAMP_SRC_MARK.of w == 1 && F.FRE_RAMP_MARK_SEL.of w == k
  s.each ramps fun s n => s.each (s.st.frontsOf n) fun s u => s.rampStart u t

/-- Whether an edge that takes a source to level `lv` is one of its mark edges (R132). -/
def State.isMark (s : State) (code : Nat) (lv : Bool) : Bool :=
  s.markSrc == code && lv == (F.AXI_CFG_MARK_POL.of s.axis.cfg == 0)

/-- The stamp of an edge at `t` of plaza input `p`, MARK port `p` or REFIN `p` - 96 (R133): a full one where it comes
at least 5 ns after the input's last edge, else the centre of its coarse period, after the input's last stamp. -/
def State.plazaStamp (s : State) (p t : Nat) : Nat :=
  let x := s.markAt p
  let mid := max (t - s.fine t + 256) ((x.stamp.getD 0) + 1)
  match x.full with
  | some l => if l + 8192 ≤ t then t else mid
  | none => t

/-- Plaza input `p` has given an edge at `t` its stamp. -/
def Work.plazaEdge (s : Work s₀) (p t : Nat) : Work s₀ :=
  s.setMark p { s.mark p with full := some t, stamp := some (s.st.plazaStamp p t) }

/-- Whether an edge that takes source `code` to level `lv` is a step edge (R132). -/
def State.isStep (s : State) (code : Nat) (lv : Bool) : Bool :=
  s.stepSrc == code && lv == (F.AXI_CFG_STEP_POL.of s.axis.cfg == 0)

/-- A stamped edge of plaza input `code` reaches the axis, as a step or as a mark. -/
def Work.axisEdge (s : Work s₀) (x code : Nat) (lv : Bool) : Work s₀ :=
  let s := s.when (s.st.isMark code lv) fun s => s.axisMark x
  s.when (s.st.isStep code lv) fun s => s.realStep x

/-- An edge of MARK port `k` at `t` (R133): every edge of an input is stamped, for all that take it. Those count from
the port's stamp, a ramp that SRC_MARK starts too (log entry 38). -/
def Work.markEdge (s : Work s₀) (t k : Nat) (lv : Bool) : Work s₀ :=
  if s.st.markOut k || 96 ≤ k || !s.st.running then s
  else
    let x := s.st.plazaStamp k t
    ((s.plazaEdge k t).axisEdge x k lv).markUsers x k

/-- MARK_EDGE (R133): an edge at MARK port `k`. -/
def execMarkEdge (t k : Nat) (lv : Bool) (s : State) : Host.Outcome State Fault Refusal :=
  .next (((Work.start s).at t).markEdge t k lv).st

/-! ## The stake table (R151) -/

/-- A write of a stake's action word goes to its shadow. -/
def Work.wrStakeAction (s : Work s₀) (i : Nat) (v : Word) : Work s₀ :=
  s.modAxis fun x => { x with shadow := (x.shadow.filter (·.1 != i)) ++ [(i, v &&& w64 (Reg.desc .STAKE_ACTION).rw)] }

/-- A write of a stake's match word commits both words. -/
def Work.wrStakeMatch (s : Work s₀) (i : Nat) (v : Word) : Work s₀ :=
  let s := s.wreg .STAKE_MATCH i (v &&& w64 (Reg.desc .STAKE_MATCH).rw)
  match s.st.axis.shadow.find? (·.1 == i) with
  | some (_, a) => (s.wreg .STAKE_ACTION i a).modAxis fun x => { x with shadow := x.shadow.filter (·.1 != i) }
  | none => s

/-- STAKE_MATCH_WRITE (R151): master `m` writes the match word of stake `i`. -/
def execStakeMatchWrite (t m i : Nat) (v : Word) (s : State) : Host.Outcome State Fault Refusal :=
  .next (((Work.start s).at t).access m 4 (0x10000 + 16 * i) 85 true fun s => s.wrStakeMatch i v).st

/-- COMMIT (R151): a write of 1 to AXI_CTRL.COMMIT. -/
def execCommit (t m : Nat) (s : State) : Host.Outcome State Fault Refusal :=
  .next (((Work.start s).at t).access m 4 0x20 85 true fun s => s.commitReq).st

end Sys2Proof.Machine
end

