-- ==== Sys2Proof/Machine/Timebase.lean ====
section
/-!
DEFINITION. The timebase loop (chapter 09): the REFIN inputs and their qualification, the TPLL's states and transitions,
the return of a reference, and the inputs SYNC_IN0 and its load. The application of a step is in TimeStep.lean.
-/

namespace Sys2Proof.Machine

variable {s₀ : State}

/-! ## Inputs (R227 to R229) -/

/-- Whether the TIM_REF frequency of input `k` lies in 5 to 800 MHz. -/
def State.refUsed (s : State) (k : Nat) : Bool :=
  5000000 * 2 ^ 16 ≤ s.get F.TIM_REF_FREQ k && s.get F.TIM_REF_FREQ k ≤ 800000000 * 2 ^ 16

/-- The field of TIM_TSTAT that holds input `k`'s bit, from the place of input 0. -/
def refBit (lo k : Nat) : Fld := ⟨.TIM_TSTAT, lo + k % 4, 1⟩

/-- QUAL of input `k`. -/
def State.refQual (s : State) (k : Nat) : Bool := s.on (refBit 8 k) 0

/-- LOS of input `k`. -/
def State.refLos (s : State) (k : Nat) : Bool := s.on (refBit 12 k) 0

/-- FREQ_BAD of input `k`. -/
def State.refBad (s : State) (k : Nat) : Bool := s.on (refBit 16 k) 0

/-- The input of the local oscillator. -/
def State.localIn (s : State) : Nat := s.get F.TIM_TCFG_LOCAL_SEL 0

/-- STATE of the TPLL (Table TIM-1). -/
def State.tpll (s : State) : Nat := s.get F.TIM_TSTAT_STATE 0

/-- Whether a reference is in use, and which. -/
def State.refInUse (s : State) : Option Nat :=
  if s.on F.TIM_TSTAT_REF_VALID 0 then some (s.get F.TIM_TSTAT_REF_ACT 0) else none

/-- The reference that R229 selects: none where no input that may be chosen is qualified. -/
def State.refSelect (s : State) : Option Nat :=
  let m := s.get F.TIM_TCFG_REF_MODE 0
  let ok := fun k => s.refQual k && k != s.localIn
  if m < 4 then (if ok m then some m else none)
  else if m = 4 then
    match s.refInUse.filter ok with
    | some k => some k
    | none =>
      let order := (List.range 4).map fun i => bits (s.get F.TIM_TREFP_PRIO 0) (2 * i) 2
      order.find? fun k => ok k && bit (s.get F.TIM_TREFP_AUTO_EN 0) k
  else none

/-- Whether LOCAL_SEL is invalid (R227): its frequency out of range, or the reference itself. -/
def State.localBad (s : State) : Bool :=
  !s.refUsed s.localIn || s.get F.TIM_TCFG_REF_MODE 0 == s.localIn || s.refInUse == some s.localIn

/-! ## Transitions (Table TIM-2) -/

/-- An EVENT of the timebase goes into every active queue (R248). -/
def Work.timEvent (s : Work s₀) (kind aux t : Nat) (w1 : Word) : Work s₀ := s.sysEvent 0x142 (genEvent kind aux t w1)

/-- The term that SLEWING adds to the DCO word to remove an offset, at the full SLEW_RATE, in 2^-40 (R234): a timebase
that has counted ahead is slowed. -/
def State.slewTerm (s : State) : Int :=
  let r := s.get F.TIM_TCFG_SLEW_RATE 0
  let r := if r = 0 || 256 < r then 256 else r
  let x := rnd ((r * 2 ^ 32 : Nat) : Int) 1000000
  if s.tpll = 4 then (if 0 < s.tim.slew.2 then -x else x) else 0

/-- The values of a second before `t`: those that hold within it, the latest first. -/
def lastSecond (t : Nat) : List (Nat × Int) → List (Nat × Int)
  | [] => []
  | (a, c) :: rest => if a + ms 1000 ≤ t then [(a, c)] else (a, c) :: lastSecond t rest

/-- The mean of a tracking component over the second before `hi`, or over all of it (R232). -/
def trackMean (hi : Nat) (xs : List (Nat × Int)) : Int :=
  let lo := hi - ms 1000
  let (sum, _, first) := xs.foldl (fun (acc : Int × Nat × Nat) p =>
    let a := max lo p.1
    (acc.1 + p.2 * ((acc.2.1 - a : Nat) : Int), a, a)) (0, hi, hi)
  if first < hi then rnd sum (hi - first) else ((xs.head?).map (·.2)).getD 0

/-- The frequency of the timebase while it follows a reference: the spec does not state what the loop makes of it. The
tracking component is kept for a holdover (R232). -/
def Work.timDrift (s : Work s₀) (t : Nat) : Work s₀ :=
  let (s, v) := s.fresh
  let c := sval 32 (v.toNat % 2 ^ 32)
  let s := s.put F.TIM_FOFS_FOFS 0 (sfield 32 (c + s.st.slewTerm))
  s.when (s.st.tpll != 1) fun s => s.modTim fun x => { x with track := lastSecond t ((t, c) :: x.track) }

/-- The TPLL takes state `st` with reference `r` in use; a slew, a pending step and a measurement end (R235), and out of
LOCKED, SLEWING and STEP_WAIT tracking does (R232). -/
def Work.timState (s : Work s₀) (st : Nat) (r : Option Nat) : Work s₀ :=
  let s := s.when (st < 2 || st = 3) fun s => s.modTim fun x => { x with track := [] }
  let s := (s.put F.TIM_TSTAT_STATE 0 st).put F.TIM_TSTAT_REF_VALID 0 (b2n (r.isSome && st != 3))
  let s := match r with | some k => s.put F.TIM_TSTAT_REF_ACT 0 k | none => s
  (s.wreg .TIM_SREM 0 0).modTim fun x => { x with step := none, meas := none }

/-- The TPLL returns to FREE at `t` (R227, R230). -/
def Work.timFree (s : Work s₀) (t : Nat) (event : Bool) : Work s₀ :=
  let s := (s.timState 0 none).put F.TIM_FOFS_FOFS 0 0
  s.when event fun s => (s.timEvent 13 s.st.localIn t 0).tevt F.TIM_TEVT_LOCAL_FAIL 0

/-- The TPLL enters LOCKED on reference `k` with a new anchor, the stamp of a reference edge (R231). -/
def Work.timLock (s : Work s₀) (t k : Nat) (switch : Bool) : Work s₀ :=
  let a := (optAt s.st.tim.last k).getD t
  let s := ((s.timState 2 (some k)).modTim fun x => { x with anchor := a }).timDrift t
  let s := (s.timEvent 8 (k + 4 * b2n switch) a 0).tevt F.TIM_TEVT_LOCK 0
  s.when switch fun s => (s.count F.TIM_TCNT_SWITCH_CNT 0).tevt F.TIM_TEVT_REF_SWITCH 0

/-- The TPLL begins to acquire reference `k` at `t` (Table TIM-2). -/
def Work.timAcquire (s : Work s₀) (t k : Nat) : Work s₀ :=
  (s.timState 1 (some k)).modTim fun x => { x with acq := t }

/-- The reference is lost at `t` (R232): the DCO word freezes at the mean of its tracking component, and the EVENT names
why. -/
def Work.timHold (s : Work s₀) (t k : Nat) : Work s₀ :=
  let cause := if s.st.refLos k then 0 else if s.st.refBad k then 1 else 2
  let mean := trackMean t s.st.tim.track
  let s := (s.timState 3 (some k)).put F.TIM_FOFS_FOFS 0 (sfield 32 mean)
  let s := (s.timEvent 9 (k + 4 * cause) t 0).tevt F.TIM_TEVT_HOLDOVER 0
  s.count F.TIM_TCNT_HOLDOVER_CNT 0

/-- LOCAL_OK and CFG_ERR follow the inputs; outside FREE an invalid LOCAL_SEL, or one in LOS, takes
the TPLL back to it (R227, Table TIM-2). -/
def Work.localCheck (s : Work s₀) (t : Nat) : Work s₀ :=
  let l := s.st.localIn
  let s := s.put F.TIM_TSTAT_LOCAL_OK 0 (b2n (s.st.refUsed l && !s.st.refLos l && (optAt s.st.tim.last l).isSome))
  let s := if (s.st.localBad || s.st.refLos l) && s.st.tpll != 0 then s.timFree t true else s
  s.put F.TIM_TSTAT_CFG_ERR 0 (b2n s.st.localBad)

/-- The TPLL follows its inputs and its configuration at `t` (Table TIM-2). -/
def Work.timMove (s : Work s₀) (t : Nat) : Work s₀ :=
  let s := s.localCheck t
  if s.on F.TIM_TSTAT_CFG_ERR 0 || !s.on F.TIM_TSTAT_LOCAL_OK 0 then s
  else
    let r := s.get F.TIM_TSTAT_REF_ACT 0
    match s.st.tpll, s.st.refSelect with
    | 0, some k => (s.timAcquire t k).localCheck t
    | 0, none => s
    | 1, some k => if k = r then s else s.timAcquire t k
    | 1, none => s.timFree t false
    | 3, some k =>
      if k != r then (s.timLock t k true).localCheck t
      else if s.st.tim.meas.isSome then s
      else s.modTim fun x => { x with meas := some (0, 0), measT := t }
    | 3, none => s.modTim fun x => { x with meas := none }
    | _, some k => if k = r then s else (s.timLock t k true).localCheck t
    | _, none => s.timHold t r

/-! ## Edges (R231, R233, R234) -/

/-- The stamp predicted for the reference edge nearest to `t`: the anchor and a whole number of periods, in 2^-16 tick
the difference of `t` from it. P_ref = 1.6384 * 10^12 * 2^32 / FREQ in 2^-16 tick. -/
def State.refOffset (s : State) (t k : Nat) : Int :=
  let f := max 1 (s.get F.TIM_REF_FREQ k)
  let n := 1638400000000 * 2 ^ 32
  let d : Int := (t : Int) - s.tim.anchor
  let j := rnd (d * (2 ^ 16 * f : Nat)) n
  (d - rnd (j * (n : Nat)) (2 ^ 16 * f)) * 65536

/-- What is left at `t` of a slew of which `θ` was left at `t0`, at the full SLEW_RATE since then (R234). -/
def State.slewLeft (s : State) (t : Nat) : Int :=
  let (t0, θ) := s.tim.slew
  let r := s.get F.TIM_TCFG_SLEW_RATE 0
  let r := if r = 0 || 256 < r then 256 else r
  let gone : Int := ((t - t0) * r * 65536 / 256000000 : Nat)
  if θ < 0 then min 0 (θ + gone) else max 0 (θ - gone)

/-- Since `t` neither LOS nor FREQ_BAD of input `k` is set, where both are clear (R228). -/
def Work.refClean (s : Work s₀) (t k : Nat) : Work s₀ :=
  if s.st.refLos k || s.st.refBad k then s else s.modTim fun x => { x with clean := x.clean.set k t }

/-- An edge of REFIN input `k`: LOS ends; a rising edge of the reference is compared with its predicted time, and the
loop follows it. -/
def Work.refinEdge (s : Work s₀) (t k : Nat) (lv : Bool) : Work s₀ :=
  let was := s.st.refLos k
  let s := s.put (refBit 12 k) 0 0
  let s := s.modTim fun x => { x with seen := x.seen.set k t }
  let s := s.when was fun s => s.refClean t k
  let s := if lv then
      let s := s.modTim fun x => { x with last := x.last.set k (some t) }
      let s := match s.st.tim.meas with
        | some (sum, n) =>
          if s.st.tpll = 3 && s.get F.TIM_TSTAT_REF_ACT 0 = k && t < s.st.tim.measT + ms 1 then
            let d := s.st.refOffset t k
            s.modTim fun x => { x with meas := some (sum + d, n + 1) }
          else s
        | none => s
      let follows := s.on F.TIM_TSTAT_REF_VALID 0 && s.get F.TIM_TSTAT_REF_ACT 0 = k
      let s := s.when follows fun s => s.timDrift t
      if s.st.tpll = 4 && follows then s.wreg .TIM_SREM 0 (w64 (sfield 64 (s.st.slewLeft t))) else s
    else s
  let s := s.when (k = s.st.localIn && (was || !s.on F.TIM_TSTAT_LOCAL_OK 0)) fun s => s.timMove t
  let s := s.when (k == 3) fun s => s.setPool { s.st.pool with held := false }
  let x := s.st.plazaStamp (96 + k) t
  (s.plazaEdge (96 + k) t).axisEdge x (96 + k) lv

/-- REFIN_EDGE (R133, R228, R231, R234): an edge at REFIN input `k`. -/
def execRefinEdge (t k : Nat) (lv : Bool) (s : State) : Host.Outcome State Fault Refusal :=
  let s := (Work.start s).at t
  .next (if k < 4 && s.st.running then s.refinEdge t k lv else s).st

/-- STEP_EDGE (R132 to R134, R136, R137, R143): an edge of the step source, of the polarity chosen, at the port or the
REFIN input that it is. -/
def execStepEdge (t : Nat) (s : State) : Host.Outcome State Fault Refusal :=
  let w := (Work.start s).at t
  let lv := F.AXI_CFG_STEP_POL.of s.axis.cfg == 0
  .next (if s.stepSrc < 96 then w.markEdge t s.stepSrc lv
    else if s.stepSrc < 100 && s.running then w.refinEdge t (s.stepSrc - 96) lv
    else w).st

/-- Whether no edge of input `k` has come up to `t` for the longer of 4 nominal periods and 2 µs (R228). -/
def State.refSilent (s : State) (t k : Nat) : Bool :=
  let d := t - s.tim.seen.getD k 0
  us 2 ≤ d && 4 * 1638400000000 * 2 ^ 16 ≤ d * s.get F.TIM_REF_FREQ k

/-- REF_LOS (R228): no edge of input `k` has come for the LOS time; the input is no longer qualified. In WATCH the loss
of the local oscillator holds the keep-alive oscillator at its last frequency (R372). -/
def Work.refLose (s : Work s₀) (t k : Nat) : Work s₀ :=
  if 4 ≤ k || !s.st.refUsed k || !s.st.refSilent t k then s
  else if s.st.eng == .watch then
    s.when (k == s.st.localIn) fun s =>
      (s.setPwr { s.st.pwr with hold := true }).flag F.PWR_ENG_LOCAL_HOLD 0
  else
    let s := (s.put (refBit 12 k) 0 1).put (refBit 8 k) 0 0
    if k = s.st.localIn then (s.timFree t true).localCheck t else s.timMove t

/-- REF_LOS (R228, R230, R232); on one of REFIN3 the pool PLL holds its frequency (R325). -/
def execRefLos (t k : Nat) (s : State) : Host.Outcome State Fault Refusal :=
  .next (((((Work.start s).at t).when (k == 3 && s.refSilent t 3) fun s => s.setPool { s.st.pool with held := true }).refLose
    t k)).st

/-- A frequency measurement of `f` (in 2^-16 Hz) against FTOL. -/
def Work.freqCheck (s : Work s₀) (t k f : Nat) : Work s₀ :=
  if 4 ≤ k || !s.st.refUsed k then s
  else
    let n := s.get F.TIM_REF_FREQ k
    let bad := max 1 (s.get F.TIM_TCFG_FTOL 0) * n < ((f : Int) - n).natAbs * 1000000
    let was := s.st.refBad k
    let s := s.put (refBit 16 k) 0 (b2n bad)
    let s := s.when was fun s => s.refClean t k
    s.when bad fun s => (s.put (refBit 8 k) 0 0).timMove t

/-- FREQ_CHECK (R228): the frequency of input `k`, measured over 1 ms, is `f` in 2^-16 Hz. -/
def execFreqCheck (t k f : Nat) (s : State) : Host.Outcome State Fault Refusal :=
  .next (((Work.start s).at t).freqCheck t k f).st

/-- Whether input `k` has been free of LOS and FREQ_BAD for QUAL_TIME at `t` (R228). -/
def State.refReady (s : State) (t k : Nat) : Bool :=
  s.refUsed k && !s.refLos k && !s.refBad k &&
    s.tim.clean.getD k 0 + ms (max 1 (s.get F.TIM_TREFP_QUAL_TIME 0)) ≤ t

/-- QUALIFIED (R228, R229): input `k` has been free of LOS and FREQ_BAD for QUAL_TIME. -/
def execQualified (t k : Nat) (s : State) : Host.Outcome State Fault Refusal :=
  let s := (Work.start s).at t
  .next (if k < 4 && s.st.refReady t k then (s.put (refBit 8 k) 0 1).timMove t else s).st

/-- TIMEBASE_LOCK (R230, R231): in ACQUIRE the frequency error has been below 0.01 ppm over 100 ms. -/
def execTimebaseLock (t : Nat) (s : State) : Host.Outcome State Fault Refusal :=
  let s := (Work.start s).at t
  .next (if s.st.tpll = 1 && s.st.tim.acq + ms 100 ≤ t then s.timLock t (s.get F.TIM_TSTAT_REF_ACT 0) false else s).st

/-! ## The return of a reference (R233 to R235) -/

/-- Whether an offset lies within WINDOW. -/
def State.inWindow (s : State) (θ : Int) : Bool :=
  θ.natAbs * 10000 ≤ s.get F.TIM_TCFG_WINDOW 0 * 16384 * 65536

/-- The measurement of a returned reference ends at `t` with offset `θ` (R233). -/
def Work.returned (s : Work s₀) (t : Nat) (θ : Int) : Work s₀ :=
  let k := s.get F.TIM_TSTAT_REF_ACT 0
  let win := s.st.inWindow θ
  let step := !win && s.on F.TIM_TCFG_RET_POLICY 0
  let s := (s.wreg .TIM_THETA 0 (w64 (sfield 64 θ))).tevt F.TIM_TEVT_RETURN 0
  let s := s.timEvent 10 (if win then 1 else if step then 2 else 0) t
    (w64 (sfield 64 (clampI (-(2 ^ 47 : Nat)) (2 ^ 47 - 1) θ)))
  let s := s.timState (if θ = 0 then 2 else if step then 5 else 4) (some k)
  let s :=
    if θ = 0 then s
    else if step then
      let s := s.modTim fun x => { x with step := some (-(rnd θ 65536), none), stepT := t }
      s.when (s.st.axisState < 2) fun s => s.stepBound t
    else (s.modTim fun x => { x with slew := (t, θ), slewT := t }).wreg .TIM_SREM 0 (w64 (sfield 64 θ))
  s.timDrift t

/-- RETURN_MEASUREMENT_END (R233): 1 ms of the returned reference's edges has been measured. -/
def execReturnMeasurementEnd (t : Nat) (s : State) : Host.Outcome State Fault Refusal :=
  let s := (Work.start s).at t
  .next (match s.st.tim.meas with
    | some (sum, n) => if s.st.tpll = 3 && 0 < n && s.st.tim.measT + ms 1 ≤ t then s.returned t (rnd sum n) else s
    | none => s : Work _).st

/-- Whether what the full SLEW_RATE leaves of a slew at `t` is within 0.1 ps, which is 10,737.4 units of 2^-16 tick
(R234). -/
def State.slewOver (s : State) (t : Nat) : Bool := (s.slewLeft t).natAbs ≤ 10737

/-- SLEW_END (R234): the remaining offset is within 0.1 ps. -/
def execSlewEnd (t : Nat) (s : State) : Host.Outcome State Fault Refusal :=
  let s := (Work.start s).at t
  .next (if s.st.tpll = 4 && s.st.slewOver t then
      let d := (rnd ((t - s.st.tim.slewT : Nat) : Int) 1638400).toNat
      let s := s.timState 2 (some (s.get F.TIM_TSTAT_REF_ACT 0))
      (s.timEvent 11 0 t (w64 (min d (2 ^ 32 - 1)))).tevt F.TIM_TEVT_SLEW_DONE 0
    else s).st

/-! ## SYNC_IN0 (R239) and the registers -/

/-- An edge of SYNC_IN0 of polarity POL0: stamped, and where armed it schedules the load of T64. -/
def Work.sync0 (s : Work s₀) (t : Nat) : Work s₀ :=
  let s := s.wreg .TIM_SYNCT0 0 (w64 t)
  if s.on F.TIM_SYNC_ARM0 0 then
    let d : Int := ((s.reg .TIM_PRESET 0).toNat : Int) - t
    let b := s.st.coarseUp (t + 2 ^ 15)
    ((s.put F.TIM_SYNC_ARM0 0 0).put F.TIM_SYNC_LOAD0_PEND 0 1).modTim fun x => { x with load := some (d, b) }
  else s

/-- SYNC_IN0_EDGE (R239). -/
def execSyncIn0Edge (t : Nat) (lv : Bool) (s : State) : Host.Outcome State Fault Refusal :=
  let s := (Work.start s).at t
  .next (if s.st.running && lv == !s.on F.TIM_SYNC_POL0 0 then s.sync0 t else s).st

/-- ARM0 (R239): no effect while a load is pending. -/
def Work.arm0 (s : Work s₀) : Work s₀ := if s.on F.TIM_SYNC_LOAD0_PEND 0 then s else s.flag F.TIM_SYNC_ARM0 0

/-- ARM0 (R239): a write of 1 to TIM_SYNC.ARM0. -/
def execArm0 (t m : Nat) (s : State) : Host.Outcome State Fault Refusal :=
  .next (((Work.start s).at t).access m 7 0x60 85 true (·.arm0)).st

/-- A write of TIM_TCFG, TIM_TREFP or TIM_REF `k` (R227 to R229). An input whose frequency is out of range is unused;
the monitoring of one that was begins. A slew goes on from what the old SLEW_RATE has left of it (R234). -/
def Work.wrTimCfg (s : Work s₀) (r : Reg) (k : Nat) (v : Word) : Work s₀ :=
  let was := s.st.refUsed k
  let left := s.st.slewLeft s.now
  let s := s.when (r == .TIM_TCFG && s.st.tpll == 4) fun s => s.modTim fun x => { x with slew := (s.now, left) }
  let s := s.wreg r k (v &&& w64 r.desc.rw)
  let s := s.when (r == .TIM_REF && !was) fun s =>
    s.modTim fun x => { x with seen := x.seen.set k s.now, clean := x.clean.set k s.now }
  let s := s.when (r == .TIM_REF && !s.st.refUsed k) fun s =>
    ((s.put (refBit 8 k) 0 0).put (refBit 12 k) 0 0).put (refBit 16 k) 0 0
  s.timMove s.now

end Sys2Proof.Machine
end

