-- ==== Sys2Proof/Machine/TimeStep.lean ====
section
/-!
DEFINITION. The application of a timebase step (R236, R237, R239): the boundary requests and the bundles it ends, and
the change of scale. The state holds every stamp and instant in the present scale, so at a step Δ is added to all of
them (differences across the step are then physical times), and `State.stamp` takes it off again where a record carries
one. Grids of T64 values (the fixed grids of the counting engines, periodic snapshots) stay where they are (R107), and
so do the times that the records of plaza weavers carry and those of filter outputs (R238).
-/

namespace Sys2Proof.Machine

variable {s₀ : State}

/-- An instant in the new scale. -/
def moved (d : Int) (t : Nat) : Nat := ((t : Int) + d).toNat

/-- An instant that may be absent. -/
def movedO (d : Int) (t : Option Nat) : Option Nat := t.map (moved d)

/-! ## The stamps of each unit -/

/-- A record in flight. -/
def Rec.moved (d : Int) (r : Rec) : Rec := { r with t := Machine.moved d r.t }

/-- A front end. -/
def FreUnit.moved (d : Int) (x : FreUnit) : FreUnit :=
  { x with
    sw := x.sw.map fun q => { q with tb := Machine.moved d q.tb, tr := Machine.moved d q.tr }
    thrAt := movedO d x.thrAt
    ramp := x.ramp.map fun r => { r with ts := Machine.moved d r.ts, recEnd := movedO d r.recEnd } }

/-- Stamping circuits. -/
def CapHw.moved (d : Int) (x : CapHw) : CapHw :=
  { x with fullA := movedO d x.fullA, fullB := movedO d x.fullB, fullC := movedO d x.fullC,
           lastA := movedO d x.lastA, lastB := movedO d x.lastB, lastC := movedO d x.lastC }

/-- An edge that waits in an overlap. -/
def Seen.moved (d : Int) (x : Seen) : Seen :=
  { x with rx := Machine.moved d x.rx, raw := x.raw + d * 1024, t := Machine.moved d x.t }

/-- A record in an output stage. -/
def Held.moved (d : Int) (h : Held) : Held := { h with ord := Machine.moved d h.ord, r := h.r.moved d }

/-- A lane's capture. -/
def LaneCap.moved (d : Int) (x : LaneCap) : LaneCap :=
  { x with
    pendAt := movedO d x.pendAt
    searches := x.searches.map fun a => { a with tA := Machine.moved d a.tA, rx := Machine.moved d a.rx }
    early := x.early.map fun y => { y with e := y.e.moved d, rcd := y.rcd.map (·.moved d) }
    held := x.held.map (·.moved d)
    buf := x.buf.map (·.moved d)
    drop := x.drop.map fun (k, a, z) => (k, Machine.moved d a, Machine.moved d z) }

/-- A unit's calibration. -/
def CalUnit.moved (d : Int) (x : CalUnit) : CalUnit :=
  { x with lastWr := movedO d x.lastWr, gapG := movedO d x.gapG, gapE := movedO d x.gapE, quietAt := movedO d x.quietAt }

/-- An overlap. -/
def Overlap.moved (d : Int) (x : Overlap) : Overlap :=
  { x with t0 := Machine.moved d x.t0, start := movedO d x.start, qD := x.qD.map (·.moved d), qN := x.qN.map (·.moved d) }

/-- A block's sequencer. A boundary chosen for a handover or a handback that falls at the step, `b` in the old scale,
moves one coarse period on (R104). -/
def CalBlk.moved (d : Int) (b : Nat) (x : CalBlk) : CalBlk :=
  { x with
    t0 := Machine.moved d x.t0
    ov := x.ov.map (·.moved d)
    bound := x.bound.map fun t => Machine.moved d (if t = b then t + 512 else t)
    pauseT := movedO d x.pauseT }

/-- A boundary request. -/
def Req.moved (d : Int) (r : Req) : Req := { r with tb := Machine.moved d r.tb }

/-- A statistics unit: the close that waits; START of the period stays as it was stamped. -/
def Stat.moved (d : Int) (x : Stat) : Stat := { x with due := x.due.map fun (b, c) => (Machine.moved d b, c) }

/-- An edge that a counting engine holds. -/
def CntIn.moved (d : Int) (x : CntIn) : CntIn :=
  { x with rx := Machine.moved d x.rx, st := x.st.map fun (t, f) => (Machine.moved d t, f) }

/-- The first instant t_c + j × LEN, j from 1, of a fixed grid at or after `e`, all of them values of T64 (R107). -/
def fixedUp (l tc e : Nat) : Nat :=
  let m := 2 ^ 64
  let (x, c) := (e % m, tc % m)
  e - x + (if x ≤ c then c + l else c + (x - c + l - 1) / l * l)

/-- A counting engine whose step instant in the new scale is `e`. Its grids are values of T64: the next instant is the
first at or after `e` (R107). -/
def CntUnit.moved (d : Int) (e : Nat) (x : CntUnit) : CntUnit :=
  let l := lenOf x.len
  let next := if estOf x.cfg = 5 then gridUp l e else fixedUp l x.tc e
  { x with
    pendAt := movedO d x.pendAt
    nextFix := next
    -- gate 0 of a CONTINUOUS engine that has not come yet opens on the grid of T64
    opens := if estOf x.cfg = 5 && e < Machine.moved d x.opens then next else Machine.moved d x.opens
    gate := x.gate.map fun g => { g with
      topen := Machine.moved d g.topen, t0 := Machine.moved d g.t0, rx0 := Machine.moved d g.rx0, rise := movedO d g.rise }
    reqs := x.reqs.map (·.moved d)
    openAt := x.openAt.map fun _ => next
    change := movedO d x.change
    recfg := movedO d x.recfg
    wait := x.wait.map (·.moved d)
    stat := x.stat.moved d }

/-- An event that a pairing unit holds. -/
def PEvt.moved (d : Int) (e : PEvt) : PEvt := { e with t := Machine.moved d e.t, rx := Machine.moved d e.rx }

/-- A gate of one side of a RATIO unit. -/
def RGate.moved (d : Int) (g : RGate) : RGate := { g with t0 := Machine.moved d g.t0, rx0 := Machine.moved d g.rx0 }

/-- One side of a RATIO unit. -/
def RSide.moved (d : Int) (x : RSide) : RSide :=
  { x with gate := x.gate.map (·.moved d), reqs := x.reqs.map (·.moved d), done := x.done.map (·.moved d) }

/-- A pairing unit, the step at `e` in the new scale: a result with events on both sides of it carries quality 10
(R126). -/
def PairSt.moved (d : Int) (e : Nat) (x : PairSt) : PairSt :=
  { x with
    pend := x.pend.map fun c => { c with at_ := Machine.moved d c.at_, next := c.next.map (·.moved d) }
    since := Machine.moved d x.since
    q := pinInsert { t := e, disc := true } (x.q.map fun p => { p with t := Machine.moved d p.t, rx := Machine.moved d p.rx })
    armed := x.armed.map (·.moved d)
    firstB := x.firstB.map (·.moved d)
    sideA := x.sideA.moved d
    sideB := x.sideB.moved d
    edges := x.edges.map fun (w, t) => (w, Machine.moved d t)
    stat := x.stat.moved d }

/-- A stake on its way. -/
def Fired.moved (d : Int) (f : Fired) : Fired :=
  { f with ts := Machine.moved d f.ts, step := Machine.moved d f.step, last := Machine.moved d f.last }

/-- The axis unit (R142, R145). -/
def AxisSt.moved (d : Int) (x : AxisSt) : AxisSt :=
  { x with
    ctlAt := x.ctlAt.map fun (t, e) => (Machine.moved d t, e)
    tg := Machine.moved d x.tg
    last := movedO d x.last
    real := movedO d x.real
    marks := x.marks.map (Machine.moved d)
    steps := x.steps.map (Machine.moved d)
    marked := x.marked.map (Machine.moved d)
    due := x.due.map (Machine.moved d)
    hist := x.hist.map fun (t, w) => (Machine.moved d t, w)
    fired := x.fired.map (·.moved d)
    issueAt := Machine.moved d x.issueAt
    issued := x.issued.map (·.moved d)
    acts := x.acts.map fun (t, i) => (Machine.moved d t, i) }

/-- The timebase. -/
def TimSt.moved (d : Int) (x : TimSt) : TimSt :=
  { x with
    last := x.last.map (movedO d)
    seen := x.seen.map (Machine.moved d)
    clean := x.clean.map (Machine.moved d)
    acq := Machine.moved d x.acq
    track := x.track.map fun (t, c) => (Machine.moved d t, c)
    measT := Machine.moved d x.measT
    stepT := Machine.moved d x.stepT
    edge1 := movedO d x.edge1
    div := x.div.map (Machine.moved d)
    cyc := x.cyc.map (Machine.moved d)
    fall := x.fall.map (Machine.moved d)
    slew := (Machine.moved d x.slew.1, x.slew.2)
    slewT := Machine.moved d x.slewT
    step := x.step.map fun (v, b) => (v, movedO d b)
    -- the edge's stamp has moved by d, and its time after the load is PRESET all the same
    load := x.load.map fun (v, b) => (v - d, Machine.moved d b)
    op := x.op.map fun (e, k, t) => (e, k, Machine.moved d t)
    low := Machine.moved d x.low
    retry := Machine.moved d x.retry
    drst := x.drst.map fun (t, os, w) => (Machine.moved d t, os, w)
    steps := x.steps.map fun (t, v) => (Machine.moved d t, v) }

/-- A MARK port. -/
def MarkSt.moved (d : Int) (x : MarkSt) : MarkSt := 
  { x with pulse := movedO d x.pulse, full := movedO d x.full, stamp := movedO d x.stamp }

/-- A block's merge. -/
def MergeSt.moved (d : Int) (x : MergeSt) : MergeSt :=
  { x with evs := x.evs.map (·.moved d), fb := x.fb.map (·.moved d), shut := movedO d x.shut }

/-- A record in a weaver. -/
def WRec.moved (d : Int) (r : WRec) : WRec :=
  { r with time := Machine.moved d r.time, hor := Machine.moved d r.hor, src := r.src.moved d }

/-- A block weaver; a plaza weaver keeps the times that its records carry, and its horizons go over (R266). -/
def WeavSt.moved (d : Int) (block : Bool) (x : WeavSt) : WeavSt :=
  let one := fun (r : WRec) => if block then r.moved d else { r with hor := Machine.moved d r.hor }
  { x with
    sigs := x.sigs.map fun (t, a) => (Machine.moved d t, a)
    intake := x.intake.map one
    slots := x.slots.map (·.map fun y => { y with r := one y.r })
    feed := x.feed.map one
    ends := x.ends.map fun (i, n, h, e) => (i, n, Machine.moved d h, e)
    unrel := x.unrel.map fun (i, n, h, qs) => (i, n, Machine.moved d h, qs)
    taken := x.taken.map (movedO d)
    ended := x.ended.map (movedO d)
    rel := x.rel.map (movedO d) }

/-- A bundle. -/
def Bundle.moved (d : Int) (b : Bundle) : Bundle :=
  { b with
    recs := b.recs.map (·.moved d), floor := Machine.moved d b.floor, horizon := Machine.moved d b.horizon
    openT := Machine.moved d b.openT, openH := Machine.moved d b.openH, closedT := Machine.moved d b.closedT
    cut := movedO d b.cut }

/-- A queue (R238, R266). -/
def QueSt.moved (d : Int) (x : QueSt) : QueSt :=
  { x with
    prev := x.prev.map fun (p, h) => (p, Machine.moved d h)
    hor := movedO d x.hor
    epoch := movedO d x.epoch
    start := none
    after := x.after.map (Machine.moved d)
    evts := x.evts.map (Machine.moved d) }

/-- A filter pipeline: the requests and resets that wait, and the resets whose EVENTs wait. The time of its last output
keeps its T64 (R206, R238). -/
def FltSt.moved (d : Int) (x : FltSt) : FltSt :=
  { x with
    out := x.out.map fun t => if (2 ^ 63 : Nat) ≤ d then t + 2 ^ 64 else t
    req := x.req.map fun (t, n) => (Machine.moved d t, n)
    rsts := x.rsts.map (Machine.moved d)
    evt := x.evt.map (Machine.moved d) }

/-- A histogram engine: the operations and keys that wait (R236). -/
def HeSt.moved (d : Int) (x : HeSt) : HeSt :=
  { x with
    at_ := Machine.moved d x.at_
    ops := x.ops.map fun (k, a, t) => (k, a, Machine.moved d t)
    snap := x.snap.map fun (ws, t) => (ws, Machine.moved d t)
    keys := x.keys.map fun (v, t) => (v, Machine.moved d t) }

/-- A core as the EIC sees it. -/
def CoreSt.moved (d : Int) (x : CoreSt) : CoreSt :=
  { x with win := x.win.map fun (k, t, c) => (k, Machine.moved d t, c), restore := movedO d x.restore }

/-- A link's instants in the new scale. -/
def LnkSt.moved (d : Int) (x : LnkSt) : LnkSt :=
  { x with
    tu := Machine.moved d x.tu
    hello := Machine.moved d x.hello
    retry := movedO d x.retry
    rx := Machine.moved d x.rx
    tx := Machine.moved d x.tx
    crcs := x.crcs.map (Machine.moved d)
    waitT := movedO d x.waitT
    timeT := Machine.moved d x.timeT
    keepP := if x.keepP = 0 then 0 else Machine.moved d x.keepP
    hor := if x.hor = 0 then 0 else Machine.moved d x.hor
    mbx := x.mbx.map fun (t, ws) => (Machine.moved d t, ws) }

/-- The power management. -/
def PwrSt.moved (d : Int) (x : PwrSt) : PwrSt :=
  { x with
    armT := Machine.moved d x.armT
    ta := movedO d x.ta
    tq := movedO d x.tq
    wake := x.wake.map fun (c, n, t) => (c, n, Machine.moved d t)
    edges := x.edges.map fun (n, t) => (n, Machine.moved d t)
    tl := movedO d x.tl
    te := movedO d x.te
    beats := x.beats.map (Machine.moved d)
    softT := movedO d x.softT
    lrT := movedO d x.lrT
    ongenT := Machine.moved d x.ongenT
    blk := x.blk.map fun (b, t) => (b, Machine.moved d t) }

/-! ## The step -/

/-- Every listed entry of a table changes. -/
def Work.map {α : Type} (s : Work s₀) (t : Tab α) (set : Work s₀ → Nat → α → Work s₀) (f : Nat → α → α) : Work s₀ :=
  s.each t fun s (k, x) => set s k (f k x)

/-- The units of the lanes, the axis and the timebase go over to the new scale. -/
def Work.moveUnits (s : Work s₀) (d : Int) (b : Nat) : Work s₀ :=
  let s := s.map s.st.fre (·.setFre) fun _ x => x.moved d
  let s := s.map s.st.capHw (·.setCapHw) fun _ x => x.moved d
  let s := s.map s.st.cap (·.setCap) fun _ x => x.moved d
  let s := s.map s.st.cal (·.setCal) fun _ x => x.moved d
  let s := s.map s.st.calBlk (·.setCalBlk) fun _ x => x.moved d b
  let s := s.map s.st.cnt (·.setCnt) fun _ x => x.moved d (moved d b)
  let s := s.map s.st.pair (·.setPair) fun _ x => x.moved d (moved d b)
  let s := s.modAxis (·.moved d)
  let s := s.when s.st.axis.last.isSome fun s => s.wreg .AXI_STEPT 0 (w64 (moved d (s.reg .AXI_STEPT 0).toNat))
  let s := s.modTim (·.moved d)
  let s := s.map s.st.mark (·.setMark) fun _ x => x.moved d
  let s := s.setLearn (s.st.learn.map fun l =>
    { l with stamps := l.stamps.map (moved d), wait := l.wait.map fun (t, x, w) => (moved d t, x, w) })
  s.setPwr (s.st.pwr.moved d)

/-- The units behind the lanes go over to the new scale. -/
def Work.movePlaza (s : Work s₀) (d : Int) : Work s₀ :=
  let s := s.map s.st.merge (·.setMerge) fun _ x => x.moved d
  let s := s.map s.st.prog (·.setProg) fun p x => if 0x160 ≤ p && x == 0 then 0 else moved d x
  let s := s.setBack (s.st.back.map fun (p, q, m, r) => (p, q, m, r.moved d))
  let s := s.map s.st.weav (·.setWeav) fun w x => x.moved d (w < 32)
  let s := s.setOpen_ (s.st.open_.map (·.moved d))
  let s := s.setWait (s.st.wait.map (·.moved d))
  let s := s.map s.st.que (·.setQue) fun _ x => x.moved d
  let s := s.map s.st.flt (·.setFlt) fun _ x => x.moved d
  let s := s.map s.st.he (·.setHe) fun _ x => x.moved d
  let s := s.map s.st.modT (·.setModT) fun _ x => movedO d x
  let s := s.map s.st.core (·.setCore) fun _ x => x.moved d
  let s := s.map s.st.vec (·.setVec) fun _ x => { x with due := movedO d x.due }
  s.map s.st.slot (·.setSlot) fun _ x => { x with taken := moved d x.taken }

/-- The links, ports and the management go over to the new scale. -/
def Work.moveEdge (s : Work s₀) (d : Int) : Work s₀ :=
  let s := s.map s.st.wlink (·.setWlink) fun _ x => { x with upT := movedO d x.upT, downT := movedO d x.downT }
  let s := s.map s.st.grp (·.setGrp) fun _ x => movedO d x
  let s := s.map s.st.port (·.setPort) fun _ x => { x with pause := movedO d x.pause }
  let s := s.map s.st.chan (·.setChan) fun _ x => { x with last := moved d x.last, hor := moved d x.hor }
  let s := s.map s.st.lnk (·.setLnk) fun _ x => x.moved d
  let s := s.map s.st.sens (·.setSens) fun _ x => { x with at_ := moved d x.at_ }
  let s := s.setI2c { s.st.i2c with busy := s.st.i2c.busy.map fun (w, t) => (w, moved d t) }
  s.setJobs (s.st.jobs.map fun j => { j with at_ := moved d j.at_ })

/-- Periodic snapshots stay on their multiples of T64: the next is the first at or after `e`. -/
def Work.moveGrids (s : Work s₀) (e : Nat) : Work s₀ :=
  s.map s.st.he (·.setHe) fun h x => match s.st.snapExp h with
    | some k => { x with per := gridUp (2 ^ k) e }
    | none => x

/-- B is a boundary request of every counting engine (R107): a time-bounded gate ends at once, an edge-bounded one at
its boundary edge. -/
def Work.stepGates (s : Work s₀) (b : Nat) : Work s₀ :=
  s.each (s.st.cnt.map (·.1)) fun s n =>
    let c := s.cnt n
    if !c.on || s.on F.CNT_STAT_CFG_ERR n then s
    else (s.request n { tb := b }).when (timeBounded (estOf c.cfgOf) && c.change.isNone) fun s => s.timeAll n b

/-- Whether a producer's open bundles stay open until its progress passes the step. -/
def lagging (prod : Nat) : Bool := prod < 0x40 || (0x100 ≤ prod && prod < 0x140)

/-- Every open bundle ends at B with horizon B (R237); one whose producer still has records timed before B ends once
its progress reaches B. -/
def Work.stepBundles (s : Work s₀) (b : Nat) : Work s₀ :=
  s.each s.st.open_ fun s x =>
    if lagging x.producer && s.st.progress x.producer < b then
      s.setOpen_ (s.st.open_.map fun y =>
        if y.producer == x.producer && y.q == x.q then { y with cut := y.cut.or (some b) } else y)
    else s.closeThis x b

/-- A step of `d` is applied at boundary `b` (R236, R237). -/
def Work.applyStep (s : Work s₀) (b : Nat) (d : Int) (sync : Bool) : Work s₀ :=
  let e := moved d b
  let s := ((s.at b).stepGates b).stepBundles b
  let s := (((s.moveUnits d b).movePlaza d).moveEdge d).setT64 e
  let s := (s.setPhase ((s.st.phase + (d % 512).toNat) % 512)).moveGrids e
  let s := s.modTim fun x => { x with steps := x.steps ++ [(e, d)] }
  let s := s.each s.st.activeQueues fun s q => s.modQue q fun x => { x with after := x.after ++ [e] }
  let s := ((s.wreg .TIM_STEP 0 (w64 (sfield 64 d))).tevt F.TIM_TEVT_STEPPED 0).count F.TIM_TCNT_STEP_CNT 0
  s.timEvent 12 (b2n sync) e (w64 (sfield 64 d))

/-- A SYNC_IN0 load takes effect (R239). T64 is the model's time modulo 2^64: a load that sets it back adds 2^64 to the
time, so that no held stamp falls below 0 and every difference across the step is a physical time (R236). -/
def Work.syncLoad (s : Work s₀) (d : Int) (b : Nat) : Work s₀ :=
  let d := d % (2 ^ 64 : Nat)
  let s := s.modTim fun x => { x with load := none }
  let s := s.applyStep b d true
  let s := s.modTim fun x => { x with anchor := moved d x.anchor }
  ((s.put F.TIM_SYNC_LOAD0_PEND 0 0).tevt F.TIM_TEVT_SYNC0_LOAD 0).fltSync s.now

/-- The step that STEP_WAIT holds takes effect (R235). -/
def Work.returnStep (s : Work s₀) (d : Int) (b : Nat) : Work s₀ :=
  (s.applyStep b d false).timState 2 (some (s.get F.TIM_TSTAT_REF_ACT 0))

/-- TIMEBASE_STEP (R236, R237, R239): the next step boundary comes. -/
def execTimebaseStep (s : State) : Host.Outcome State Fault Refusal :=
  let w := Work.start s
  .next (match s.tim.step, s.tim.load with
    | some (d, some b), some (e, c) => if b ≤ c then w.returnStep d b else w.syncLoad e c
    | some (d, some b), none => w.returnStep d b
    | _, some (e, c) => w.syncLoad e c
    | _, none => w : Work _).st

end Sys2Proof.Machine
end

