-- ==== Sys2Proof/Machine/Outputs.lean ====
section
/-!
DEFINITION. The output synthesiser (R240 to R247): the OPLL and its band memory, the output clocks and their divider
resets, and the loopback of an output to a relief lane.
-/

namespace Sys2Proof.Machine

variable {s₀ : State}

/-! ## Entries -/

/-- Whether entry `e` is valid for use (R240). -/
def State.entryUsable (s : State) (e : Nat) : Bool :=
  let r := s.get F.TIM_BAND0_R e
  let f := s.srcFreq e
  let (n, d) := s.vcoFreq e
  1 ≤ r && 5000000 * 2 ^ 16 * r ≤ f && f ≤ 400000000 * 2 ^ 16 * r && 8000000000 * d ≤ n && n ≤ 16000000000 * d

/-- The temperature of the plaza: the mean of its sensors, in 1/256 °C. -/
def State.plazaTemp (s : State) : Int :=
  let xs := (List.range 8).map fun i => sval 16 (s.get F.MON_TEMP_TEMP (32 + i))
  rnd (xs.foldl (· + ·) 0) 8

/-! ## The OPLL (R241 to R243) -/

/-- Outputs are asked at `t` to go low: each completes its high phase; none is cut short (R242, R246). -/
def Work.endHigh (s : Work s₀) (os : List Nat) (t : Nat) : Work s₀ :=
  s.each os fun s c =>
    let f := s.st.fallOf c t
    s.modTim fun x => { x with fall := (x.fall ++ List.replicate (32 - x.fall.length) 0).set c f }

/-- The outputs that the OPLL drives (R242). -/
def State.affected (s : State) : List Nat := (List.range 32).filter fun c => F.TIM_OCLK_SRC.of (s.clkAt c) = 0

/-- The affected outputs complete their high phases and are held low: all of them are low at TIM's `low` (Timeline
TIM-1). -/
def Work.clocksLow (s : Work s₀) (t : Nat) : Work s₀ :=
  if s.st.tim.gate then s
  else
    let os := s.st.affected
    let s := s.endHigh os t
    let low := (os.map s.st.clkFall).foldl max t
    s.modTim fun x => { x with gate := true, low := low }

/-- Whether entry `e` must be searched before a hop: invalid, or more than 10 °C away (R241). -/
def State.entryStale (s : State) (e : Nat) : Bool :=
  !s.on F.TIM_BAND1_VALID e || 2560 < (s.plazaTemp - sval 16 (s.get F.TIM_BAND1_TEMP e)).natAbs

/-- A SEARCH or a HOP to entry `e` begins at `t` (R241, R242); `retry` is the engine's own in state LOST (R243). -/
def Work.opllGo (s : Work s₀) (t e : Nat) (search retry : Bool) : Work s₀ :=
  if !s.st.entryUsable e then (s.oevt F.TIM_OEVT_CFG_ERR 0).oevt F.TIM_OEVT_REJECT 0
  else
    let stale := !search && s.st.entryStale e
    let s := s.when stale fun s => s.oevt F.TIM_OEVT_STALE 0
    let s := s.clocksLow t
    let s := s.modTim fun x => { x with op := some (e, search || stale, t) }
    if retry then s
    else (s.put F.TIM_OSTAT_STATE 0 (if search || stale then 1 else 2)).put F.TIM_OSTAT_ENTRY 0 e

/-- A write of OP (R241): 1 SEARCH, 2 HOP, 3 OFF, on entry `e`. -/
def Work.opllOp (s : Work s₀) (t op e : Nat) : Work s₀ :=
  if op = 0 || !s.st.domOn 89 then s
  else if s.st.opll = 1 || s.st.opll = 2 then s.oevt F.TIM_OEVT_REJECT 0
  else if op = 3 then
    ((s.endHigh s.st.affected t).put F.TIM_OSTAT_STATE 0 0).modTim fun x => { x with op := none, gate := false }
  else s.opllGo t e (op == 1) false

/-- OPLL_SEARCH (R241): a write of OP = SEARCH. -/
def execOpllSearch (t m e : Nat) (s : State) : Host.Outcome State Fault Refusal :=
  .next (((Work.start s).at t).access m 7 0x100 85 true fun s => s.opllOp t 1 (e % 16)).st

/-- OPLL_HOP (R241): a write of OP = HOP. -/
def execOpllHop (t m e : Nat) (s : State) : Host.Outcome State Fault Refusal :=
  .next (((Work.start s).at t).access m 7 0x100 85 true fun s => s.opllOp t 2 (e % 16)).st

/-- OPLL_OFF (R241): a write of OP = OFF. -/
def execOpllOff (t m e : Nat) (s : State) : Host.Outcome State Fault Refusal :=
  .next (((Work.start s).at t).access m 7 0x100 85 true fun s => s.opllOp t 3 (e % 16)).st

/-- An OPLL EVENT goes into OEVQ where OEVQ_EN = 1 (R248). -/
def Work.opllEvent (s : Work s₀) (kind aux t : Nat) (w1 : Word) : Work s₀ :=
  s.when (s.on F.TIM_OQ_OEVQ_EN 0) fun s => s.sysBundle 0x142 (s.get F.TIM_OQ_OEVQ 0) (genEvent kind aux t w1)

/-- The divider of output `c` starts at `t`. -/
def Work.divStart (s : Work s₀) (c t : Nat) : Work s₀ :=
  s.modTim fun x => { x with div := (x.div ++ List.replicate (32 - x.div.length) 0).set c t }

/-- The dividers of outputs on one source restart together at `t` (R242, R246). -/
def Work.divRestart (s : Work s₀) (os : List Nat) (src t : Nat) : Work s₀ :=
  s.each (os.filter fun c => F.TIM_OCLK_SRC.of (s.clk c) = src) fun s c => s.divStart c t

/-- A divider reset that waits, asked for at `t1`, is done: the OPLL's dividers restart at `t`, those of the timebase
on its first edge 2^15 ticks after `t1` (R246). -/
def Work.resetDone (s : Work s₀) (t t1 : Nat) (os : List Nat) (w : Bool) : Work s₀ :=
  let s := s.modTim fun x => { x with drst := x.drst.erase (t1, os, w), edge1 := x.edge1.filter (· != t1) }
  let s := (s.divRestart os 0 t).divRestart os 1 (s.st.coarseUp (t1 + 2 ^ 15))
  let s := s.when (os.any fun c => F.TIM_OCLK_SRC.of (s.clk c) = 0) fun s => s.wreg .TIM_ORST 0 (w64 t)
  (s.put F.TIM_SYNC_ARM1 0 0).oevt F.TIM_OEVT_SYNC1_DONE 0

/-- The divider resets that a relock delayed merge with its restart at `t`. -/
def Work.mergeResets (s : Work s₀) (t : Nat) : Work s₀ :=
  s.each (s.st.tim.drst.filter (·.2.2)) fun s (t1, os, w) => s.resetDone t t1 os w

/-- Lock is detected; the dividers of the affected outputs restart together at `t` (R242). -/
def Work.opllLocked (s : Work s₀) (t e : Nat) (search : Bool) (band tune : Nat) : Work s₀ :=
  let low := s.st.stamp s.st.tim.low
  let s := if search then
      let s := ((s.put F.TIM_BAND1_BAND e band).put F.TIM_BAND1_TUNE e tune).put F.TIM_BAND1_VALID e 1
      s.oevt F.TIM_OEVT_SEARCH_DONE 0
    else s
  let s := s.put F.TIM_BAND1_TEMP e (sfield 16 s.st.plazaTemp)
  let s := ((s.put F.TIM_OSTAT_STATE 0 3).put F.TIM_OSTAT_ENTRY 0 e).put F.TIM_OSTAT_BAND 0 (s.get F.TIM_BAND1_BAND e)
  let s := (s.modTim fun x => { x with op := none, gate := false }).wreg .TIM_ORST 0 (w64 t)
  let s := s.divRestart (List.range 32) 0 t
  let s := (s.oevt F.TIM_OEVT_RELOCKED 0).opllEvent 14 (e + 16 * b2n search) t (w64 low)
  s.mergeResets t

/-- OPLL_LOCK (R242, R243): lock is detected, and `t` is the restart edge t_r, which comes with all affected outputs
low. -/
def execOpllLock (t band tune : Nat) (s : State) : Host.Outcome State Fault Refusal :=
  let t := if s.tim.gate then max t s.tim.low else t
  let s := (Work.start s).at t
  .next (match s.st.tim.op with
    | some (e, search, _) => s.opllLocked t e search band tune
    | none => if s.st.opll = 4 then s.opllLocked t (s.get F.TIM_OSTAT_ENTRY 0) false band tune else s : Work _).st

/-- The OPLL loses lock at `t` (R243). -/
def Work.opllLost (s : Work s₀) (t : Nat) : Work s₀ :=
  let s := s.when (s.on F.TIM_OQ_LOL_GATE 0) fun s => s.clocksLow t
  let s := (s.put F.TIM_OSTAT_STATE 0 4).modTim fun x => { x with retry := t + ms 1 }
  let s := (s.oevt F.TIM_OEVT_LOST 0).count F.TIM_TCNT_OLOST_CNT 0
  s.opllEvent 15 (s.get F.TIM_OSTAT_ENTRY 0) t 0

/-- OPLL_LOSS_OF_LOCK (R243). -/
def execOpllLossOfLock (t : Nat) (s : State) : Host.Outcome State Fault Refusal :=
  let s := (Work.start s).at t
  .next (if s.st.opll = 3 then s.opllLost t else s).st

/-- LOST_RETRY (R243): in LOST the entry's HOP is repeated every 1 ms. -/
def execLostRetry (s : State) : Host.Outcome State Fault Refusal :=
  let s := Work.start s
  .next (if s.st.opll = 4 then
      let t := s.st.tim.retry
      let s := (s.at t).modTim fun x => { x with retry := t + ms 1 }
      s.opllGo t (s.get F.TIM_OSTAT_ENTRY 0) false true
    else s).st

/-- A write to word 0 of entry `e` (R241). -/
def Work.wrBand (s : Work s₀) (e : Nat) (v : Word) : Work s₀ :=
  if s.st.opll = 3 && s.get F.TIM_OSTAT_ENTRY 0 = e then s.oevt F.TIM_OEVT_REJECT 0
  else (s.wreg .TIM_BAND0 e (v &&& w64 (Reg.desc .TIM_BAND0).rw)).put F.TIM_BAND1_VALID e 0

/-- BAND_ENTRY_WRITE (R241). -/
def execBandEntryWrite (t m e : Nat) (v : Word) (s : State) : Host.Outcome State Fault Refusal :=
  .next (((Work.start s).at t).access m 7 (0x200 + 16 * (e % 16)) 89 true fun s => s.wrBand (e % 16) v).st

/-! ## Outputs (R245, R246) -/

/-- One step of a delay towards its new value. -/
def toward (a b : Nat) : Nat := if a < b then a + 1 else if b < a then a - 1 else a

/-- The divider of output `c` is to count a new DIV_X2 or a new source: the cycle in progress ends as it began, and the
next one starts what later cycles follow (R245). -/
def Work.divNext (s : Work s₀) (c t : Nat) (v : Word) : Work s₀ :=
  let x := s.clk c
  if F.TIM_OCLK_SRC.of v != F.TIM_OCLK_SRC.of x then s.divStart c t
  else if F.TIM_OCLK_DIV_X2.of v != F.TIM_OCLK_DIV_X2.of x then s.divStart c (s.st.nextRise c t)
  else s

/-- Output `c` takes in a low phase at `t` what one cycle brings of the written word (R245): DIV_X2 counts from the next
rising edge, the delays move once a cycle, and a change of SRC is a disable, then an enable from the new source. -/
def Work.clkApply (s : Work s₀) (c t : Nat) : Work s₀ :=
  let w := s.reg .TIM_OCLK c
  let x := s.clk c
  let g := fun (f : Fld) => f.of w
  if g F.TIM_OCLK_SRC != F.TIM_OCLK_SRC.of x then
    if F.TIM_OCLK_EN.of x = 1 then s.setClk c (F.TIM_OCLK_EN.put x 0)
    else
      let y := F.TIM_OCLK_SRC.put x (g F.TIM_OCLK_SRC)
      (s.divNext c t y).setClk c y
  else
    let cyc := s.st.nextRise c t
    let moved := (s.st.tim.cyc[c]?) == some cyc
    let y := F.TIM_OCLK_DIV_X2.put (F.TIM_OCLK_EN.put x (g F.TIM_OCLK_EN)) (g F.TIM_OCLK_DIV_X2)
    let y := F.TIM_OCLK_SYNC_EN.put y (g F.TIM_OCLK_SYNC_EN)
    let s := s.divNext c t y
    if moved then s.setClk c y
    else
      let s := s.modTim fun x => { x with cyc := (x.cyc ++ List.replicate (32 - x.cyc.length) 0).set c cyc }
      let y := F.TIM_OCLK_CDLY.put y (toward (F.TIM_OCLK_CDLY.of y) (g F.TIM_OCLK_CDLY))
      s.setClk c (F.TIM_OCLK_FDLY.put y (toward (F.TIM_OCLK_FDLY.of y) (g F.TIM_OCLK_FDLY)))

/-- OCLK_CHANGE_APPLY (R245): a low phase of output `c` at `t`. -/
def execOclkChangeApply (t c : Nat) (s : State) : Host.Outcome State Fault Refusal :=
  let s := (Work.start s).at t
  .next (if c < 32 && s.st.domOn 89 && !s.st.clkEnds c && !s.st.divHigh c t then s.clkApply c t else s).st

/-- A write of TIM_OCLK `c` (R245): an output that does not toggle takes the word at once, but for an enable while its
source runs, which waits for the divider's next rising point. -/
def Work.wrOclk (s : Work s₀) (c : Nat) (v : Word) : Work s₀ :=
  let v := v &&& w64 (Reg.desc .TIM_OCLK).rw
  let s := s.wreg .TIM_OCLK c v
  if s.st.clkRuns c then s
  else
    let late := s.st.clkDriven c && !s.st.clkHeld c && F.TIM_OCLK_EN.of (s.clk c) = 0
    (s.divNext c s.now v).setClk c (if late then F.TIM_OCLK_EN.put v 0 else v)

/-- The outputs that a divider reset selects. -/
def State.syncOutputs (s : State) : List Nat := (List.range 32).filter fun c => s.on F.TIM_OCLK_SYNC_EN c

/-- A divider reset is asked for at `t` (R246): the selected outputs complete their high phases and are held low. -/
def Work.dividerReset (s : Work s₀) (t : Nat) : Work s₀ :=
  (s.endHigh s.st.syncOutputs t).modTim fun x => { x with drst := x.drst ++ [(t, s.st.syncOutputs, false)] }

/-- An edge of SYNC_IN1 of polarity POL1; where armed, the first one asks for a divider reset. -/
def Work.sync1 (s : Work s₀) (t : Nat) : Work s₀ :=
  let s := s.wreg .TIM_SYNCT1 0 (w64 t)
  s.when (s.on F.TIM_SYNC_ARM1 0 && s.st.tim.edge1.isNone) fun s =>
    (s.dividerReset t).modTim fun x => { x with edge1 := some t }

/-- ARM1 (R246): where it was clear, the next edge of SYNC_IN1 counts. -/
def Work.arm1 (s : Work s₀) : Work s₀ :=
  let s := s.when (!s.on F.TIM_SYNC_ARM1 0) fun s => s.modTim fun x => { x with edge1 := none }
  s.flag F.TIM_SYNC_ARM1 0

/-- SYNC_IN1_EDGE (R246). -/
def execSyncIn1Edge (t : Nat) (lv : Bool) (s : State) : Host.Outcome State Fault Refusal :=
  let s := (Work.start s).at t
  .next (if s.st.running && lv == !s.on F.TIM_SYNC_POL1 0 then s.sync1 t else s).st

/-- ARM1 (R246): a write of 1 to TIM_SYNC.ARM1. -/
def execArm1 (t m : Nat) (s : State) : Host.Outcome State Fault Refusal :=
  .next (((Work.start s).at t).access m 7 0x60 85 true (·.arm1)).st

/-- SW1 (R246): a write of 1 to TIM_SYNC.SW1. -/
def execSw1 (t m : Nat) (s : State) : Host.Outcome State Fault Refusal :=
  .next (((Work.start s).at t).access m 7 0x60 85 true fun s => s.dividerReset t).st

/-- The selected dividers restart on the first edge of their source at or after t_1 + 2^15, which is `t` for the OPLL's;
during a relock those wait for its restart. -/
def Work.dividerRestart (s : Work s₀) (t : Nat) : Work s₀ :=
  match s.st.tim.drst.find? (!·.2.2) with
  | none => s
  | some (t1, os, w) =>
    if t < t1 + 2 ^ 15 then s
    else
      let opll := os.filter fun c => F.TIM_OCLK_SRC.of (s.clk c) = 0
      if s.st.tim.op.isSome && !opll.isEmpty then
        (s.divRestart os 1 (s.st.coarseUp (t1 + 2 ^ 15))).modTim fun x =>
          { x with drst := x.drst.map fun e => if e = (t1, os, w) then (t1, opll, true) else e }
      else s.resetDone t t1 os w

/-- DIVIDER_RESET_RESTART (R246). -/
def execDividerResetRestart (t : Nat) (s : State) : Host.Outcome State Fault Refusal :=
  .next (((Work.start s).at t).dividerRestart t).st

/-- A write of TIM_SYNC (R239, R246). -/
def Work.wrTimSync (s : Work s₀) (v : Word) : Work s₀ :=
  let s := (s.put F.TIM_SYNC_POL0 0 (F.TIM_SYNC_POL0.of v)).put F.TIM_SYNC_POL1 0 (F.TIM_SYNC_POL1.of v)
  let s := s.when (F.TIM_SYNC_ARM0.of v = 1) (·.arm0)
  let s := s.when (F.TIM_SYNC_ARM1.of v = 1) (·.arm1)
  s.when (F.TIM_SYNC_SW1.of v = 1) fun s => s.dividerReset s.now

/-! ## Loopback (R247) -/

/-- A write of TIM_LOOP `b`: ERR clears. -/
def Work.wrLoop (s : Work s₀) (b : Nat) (v : Word) : Work s₀ :=
  let a := s.get F.TIM_LOOP_ACTIVE b
  (s.wreg .TIM_LOOP b (v &&& w64 (Reg.desc .TIM_LOOP).rw)).put F.TIM_LOOP_ACTIVE b a

/-- The next coarse boundary finds block `b`'s sequencer between units: loopback takes effect, or is refused. -/
def Work.loopStart (s : Work s₀) (b : Nat) : Work s₀ :=
  let n := 16 * b + s.get F.TIM_LOOP_LB_POS b
  let idle := s.get F.CAL_BSTAT_POS b = 31 && s.get F.CAL_BSTAT_STEP b = 0
  if !s.on F.TIM_LOOP_EN b || s.on F.TIM_LOOP_ACTIVE b || s.on F.TIM_LOOP_ERR b || !idle then s
  else
    let cfg := s.reg .FRE_INCFG n
    if s.st.calState (512 + b) != 1 || F.FRE_INCFG_EN.of cfg = 1 || F.FRE_INCFG_CMP_EN.of cfg = 1 then
      (s.flag F.TIM_LOOP_ERR b).oevt F.TIM_OEVT_LOOP_ERR 0
    else s.flag F.TIM_LOOP_ACTIVE b

/-- LOOPBACK_START (R247). -/
def execLoopbackStart (t b : Nat) (s : State) : Host.Outcome State Fault Refusal :=
  let s := Work.start s
  let s := s.at (s.st.coarseUp (max s.now t))
  .next (if b < 32 && !s.st.blockAbsent b then s.loopStart b else s).st

/-- Block `b`'s relief lane ends its loopback, and its circuits are dark. -/
def Work.loopEnd (s : Work s₀) (b : Nat) : Work s₀ :=
  (s.put F.TIM_LOOP_ACTIVE b 0).when (s.on F.TIM_LOOP_ACTIVE b) fun s => s.frontOff (512 + b)

/-- LOOPBACK_END (R247): after a write of EN = 0, at the next coarse boundary. -/
def execLoopbackEnd (t b : Nat) (s : State) : Host.Outcome State Fault Refusal :=
  let s := Work.start s
  let s := s.at (s.st.coarseUp (max s.now t))
  .next (if s.on F.TIM_LOOP_EN b then s else s.loopEnd b).st

end Sys2Proof.Machine
end

