-- ==== Sys2Proof/Machine/Security.lean ====
section
/-!
DEFINITION. Secure boot, the debug lock and the challenge that opens it, and the default access profile (R357 to R363).
-/

namespace Sys2Proof.Machine

variable {s₀ : State}

/-! ## Firmware images (R359, R360) -/

/-- The vault offset of image `i` (Table REG-3): 0 A, 1 B. -/
def imageBase (i : Nat) : Nat := if i = 0 then 0x1980000 else 0x1C80000

/-- The image that the vault's preferred pointer names. -/
def State.preferred (s : State) : Nat := (s.vaultAt 0x1FF0010).toNat % 2

/-- A field of the header of image `i` (Table ACC-5). -/
def State.imageField (s : State) (i o w : Nat) : Nat := unle (s.vaultBytes (imageBase i + o) w)

/-- Whether a public key is one that a fuse admits: unrevoked and not all zero (R359). -/
def FuseSt.admits (f : FuseSt) (key : List Byte) : Bool :=
  let h := Config.sha384 key
  let one := fun (i : Nat) (x : List Byte) => !bit f.revoke i && x.any (· != 0) && x == h
  one 0 f.hash0 || one 1 f.hash1

/-- Why the boot ROM rejects image `i`, as FAIL_A and FAIL_B name it (R359, Table ACC-8); 0 where it accepts it. -/
def State.imageFail (s : State) (i : Nat) : Nat :=
  let base := imageBase i
  let len := s.imageField i 8 4
  if s.imageField i 0 4 != 0x49474E4F || s.imageField i 4 2 != 1 || len % 4 != 0 || 0x300000 < 352 + len then 1
  else
    let key := s.vaultBytes (base + 128) 97
    let body := s.vaultBytes (base + 352) len
    let sig := s.vaultBytes (base + 256) 96
    if s.fuse.secure && !s.fuse.admits key then 2
    else if s.fuse.secure && !Config.ecdsaP384 key (Config.sha384 (s.vaultBytes base 256 ++ body)) sig then 3
    else if s.imageField i 6 2 < s.fuse.svn then 4
    else if !s.fuse.secure && crc32c body != s.imageField i 12 4 then 5
    else 0

/-- The first image of a list that the ROM accepts. -/
def State.bootPick (s : State) : List Nat → Option Nat
  | [] => none
  | i :: is => if s.imageFail i = 0 then some i else s.bootPick is

/-- The boot ROM tries the images, `first` first (R360): ACC_BOOT records what it finds, and with neither accepted the
engine is in BOOT_FAIL. -/
def Work.bootRom (s : Work s₀) (first : Nat) : Work s₀ :=
  let s := (s.put F.ACC_BOOT_FAIL_A 0 0).put F.ACC_BOOT_FAIL_B 0 0
  let other := 1 - first % 2
  let fail := fun (s : Work s₀) (i : Nat) =>
    let c := s.st.imageFail i
    if i = 0 then s.put F.ACC_BOOT_FAIL_A 0 c else s.put F.ACC_BOOT_FAIL_B 0 c
  let s := fail s (first % 2)
  let s := s.when (s.st.imageFail (first % 2) != 0) fun s => fail s other
  let s := s.put F.ACC_BOOT_FALLBACK 0 (b2n (s.st.imageFail s.st.preferred != 0))
  match s.st.bootPick [first % 2, other] with
  | some i =>
    let now := s.now
    let s := (s.put F.ACC_BOOT_IMAGE 0 i).setPwr { s.st.pwr with bootT := now }
    let s := s.put F.ACC_BOOT_TRIAL 0 (b2n (i == s.st.preferred && s.st.vaultAt 0x1FF0011 != 0))
    s.put F.REG_GSTAT_BOOT_FAIL 0 0
  | none => s.flag F.REG_GSTAT_BOOT_FAIL 0

/-- Fuses are read into their shadow as the POWER reset is released (Timeline PWR-1). -/
def Work.fuseShadow (s : Work s₀) : Work s₀ :=
  let f := s.st.fuse
  (s.put F.ACC_BOOT_SECURE_EN 0 (b2n f.secure)).put F.ACC_BOOT_SVN_FLOOR 0 f.svn

/-! ## The debug challenge (R363) -/

/-- The device identity, from the vault (Table REG-3). -/
def State.identity (s : State) : List Byte := s.vaultBytes 0x1FF0000 16

/-- The 48-byte challenge. -/
def State.challenge (s : State) : List Byte := fit 32 s.nonce ++ s.identity

/-- An unlock is attempted with a public key and a signature; `nonce` is drawn where it fails. -/
def Work.tryUnlock (s : Work s₀) (key sig nonce : List Byte) : Work s₀ :=
  let f := s.st.fuse
  if !f.secure || s.on F.ACC_BOOT_DEBUG_UNLOCKED 0 || 3 ≤ s.get F.ACC_BOOT_UNLOCK_FAILS 0 then s
  else if f.debugHash.any (· != 0) && Config.sha384 key == f.debugHash &&
      Config.ecdsaP384 key (Config.sha384 s.st.challenge) sig then
    -- the FAULT notice of cause DEBUG_UNLOCK: source and codes are free
    let (s, w) := s.fresh
    (s.flag F.ACC_BOOT_DEBUG_UNLOCKED 0).faultNotice (w.toNat % 65536)
  else (s.count F.ACC_BOOT_UNLOCK_FAILS 0).setNonce (fit 32 nonce)

/-! ## The default access profile (Table ACC-3) -/

/-- The targets of Table ACC-2 that have a table. -/
def accTargets : List Nat := (List.range 148).filter fun t => t != 18 && t != 19

/-- Set bit `m` of the read or write mask of window 0 of target `t`. -/
def Work.accBit (s : Work s₀) (t m : Nat) (wr : Bool) : Work s₀ :=
  let r := if m < 64 then (if wr then Reg.ACC_WR_LO else .ACC_RD_LO) else if wr then .ACC_WR_HI else .ACC_RD_HI
  s.put ⟨r, m % 64, 1⟩ (16 * t) 1

/-- Table ACC-3: PF0 and JTAG read every target and write all but FUSE; the weavers write the queues; K3 reads REG and
has its window of the store; I2C reads the register targets and writes PWR and MON. -/
def Work.defaultProfile (s : Work s₀) : Work s₀ :=
  let s := s.each accTargets fun s t =>
    let s := (s.accBit t 0 false).accBit t 93 false
    let s := s.when (t != 17) fun s => (s.accBit t 0 true).when (t != 14 && t != 16) fun s => s.accBit t 93 true
    let s := s.when (t ≤ 14) fun s => s.accBit t 92 false
    let s := s.when (t == 11 || t == 12) fun s => s.accBit t 92 true
    s.when (20 ≤ t) fun s => s.each (List.range 40) fun s i => s.accBit t (20 + i) true
  let s := s.accBit 13 19 false
  -- window 1 of STORE covers the guest core's words
  let base := s.get F.ACC_K3WIN_K3_BLK 0 * 2 ^ 21
  let s := s.wreg .ACC_WRANGE 241 (w64 (base + (base + 2 ^ 21 - 1) * 2 ^ 32))
  let s := (s.put ⟨.ACC_RD_LO, 19, 1⟩ 241 1).put ⟨.ACC_WR_LO, 19, 1⟩ 241 1
  s.flag F.ACC_WCTRL_EN 241

/-! ## JTAG (R432) -/

/-- Whether the TAP offers instructions beyond IDCODE, CHALLENGE and UNLOCK (R362). -/
def State.tapOpen (s : State) : Bool := !s.jtagLocked

/-- An instruction of the TAP with what it captures. -/
def Work.tap (s : Work s₀) (ir : Nat) (dr : List Byte) : Work s₀ := s.setJtag { s.st.jtag with ir := ir, dr := dr }

/-- DEVICE of REG_ID. -/
def State.device (s : State) : Nat := if s.small then 0x9256 else 0x9512

/-- IDCODE (R432). -/
def execIdcode (t : Nat) (s : State) : Host.Outcome State Fault Refusal :=
  .next (((Work.start s).at t).tap 1 (le 4 (2 ^ 28 + s.device * 2 ^ 12 + 0x3D9 * 2 + 1))).st

/-- CHALLENGE (R363): a challenge with a fresh nonce. -/
def execChallenge (t : Nat) (nonce : List Byte) (s : State) : Host.Outcome State Fault Refusal :=
  let s := ((Work.start s).at t).setNonce (fit 32 nonce)
  .next (s.tap 2 s.st.challenge).st

/-- UNLOCK (R363): a signature over the challenge is presented. -/
def execUnlock (t : Nat) (key sig nonce : List Byte) (s : State) : Host.Outcome State Fault Refusal :=
  .next ((((Work.start s).at t).tap 3 []).tryUnlock key sig nonce).st

/-- SAMPLE/PRELOAD (R432): the boundary register is loaded; refused while the port is locked. -/
def execSamplePreload (t : Nat) (pins : List Nat) (s : State) : Host.Outcome State Fault Refusal :=
  .next (((Work.start s).at t).when s.tapOpen fun s => s.setJtag { s.st.jtag with ir := 4, scan := pins }).st

/-- EXTEST (R432): the balls are driven from the boundary register; refused while the port is locked. -/
def execExtest (t : Nat) (pins : List Nat) (s : State) : Host.Outcome State Fault Refusal :=
  .next (((Work.start s).at t).when s.tapOpen fun s =>
    s.setJtag { s.st.jtag with ir := 5, drive := some s.st.jtag.scan, scan := pins }).st

/-- BYPASS (R432): a bit that captures 0; refused while the port is locked. -/
def execBypass (t : Nat) (s : State) : Host.Outcome State Fault Refusal :=
  .next (((Work.start s).at t).when s.tapOpen fun s => s.tap 15 [0]).st

end Sys2Proof.Machine
end

