-- ==== Sys2Proof/Machine/Resets.lean ====
section
/-!
DEFINITION. The reset levels and what each one initialises (R381, Table PWR-8): POWER and RESET_N, PERST_N and the
function-level reset, SOFT_ENGINE, SOFT_CORE and the reset of one core, and the per-block reset (R384). What asks for
them and what follows is in Power.lean, Recovery.lean and Startup.lean.
-/

namespace Sys2Proof.Machine

variable {s₀ : State}

/-! ## Levels -/

/-- The weakest reset level that initialises a register, as its field map names it. -/
inductive Level where
  | power
  | resetN
  | softEngine
  | perstN
  | softCore
  deriving DecidableEq, Repr

/-- The level of the registers that a master has for itself: the functions', K0's to K2's, the debug port's. -/
def masterLevel (i : Nat) : Level := if i < 16 then .perstN else if i < 20 then .softCore else .resetN

/-- The reset level of register `r` of index `i`. -/
def Reg.level (r : Reg) (i : Nat) : Level :=
  match r with
  | .REG_ID | .REG_CAPS | .REG_FW | .REG_IDENT0 | .REG_IDENT1 | .PWR_ENG | .PWR_REC | .PWR_LRT | .ACC_BOOT
  | .STAKE_MATCH | .STAKE_ACTION | .AXI_LG | .STG_MATCH | .STG_ACTION | .STG_LG | .CAP_WALK | .WEA_PROG | .WEA_LOCAL =>
    .power
  | .TIM_TCFG | .TIM_TREFP | .TIM_REF | .TIM_TSTAT | .TIM_THETA | .TIM_SREM | .TIM_STEP | .TIM_FOFS | .TIM_TEVT
  | .TIM_SYNC | .TIM_PRESET | .TIM_SYNCT0 | .TIM_SYNCT1 | .TIM_ORST | .TIM_TCNT | .TIM_OCTRL | .TIM_OQ | .TIM_OSTAT
  | .TIM_OEVT | .TIM_BAND0 | .TIM_BAND1 | .TIM_OCLK | .TIM_OCSTAT | .TIM_LOOP | .LNK_GRP | .LNK_GSTAT | .LNK_GEVT
  | .ETH_MAC | .ETH_CFG | .ETH_CNT | .ECH_DST | .ECH_IP | .ECH_CFG | .ECH_STAT | .DLP_CFG | .DLP_STAT | .DLP_CNT
  | .PT_STAT | .PT_ID0 | .PT_ID1 | .PT_TIME | .PT_CNT | .ACC_WRANGE | .ACC_WCTRL | .ACC_RD_LO | .ACC_WR_LO | .ACC_RD_HI
  | .ACC_WR_HI | .ACC_VSTAT | .ACC_VCAP0 | .ACC_VCAP1 | .ACC_K3WIN | .PWR_RST | .PWR_BRST | .PWR_WAKE | .PWR_ALARM
  | .PWR_CSTAT | .PWR_HB | .PWR_HBW | .PWR_EVT | .PWR_DSTAT | .PWR_DREQ | .MON_ECC_CFG | .MON_ECC_CNT | .MON_CE_ADDR
  | .MON_UE_ADDR | .MON_THERM_CFG | .MON_THERM_STAT | .MON_EVT | .MON_TEMP | .REG_ACNT | .REG_GSTAT | .REG_T64
  | .REG_WHOAMI | .I2C_IADDR | .I2C_IDATA | .I2C_ISTAT => .resetN
  | .RING_BASE | .RING_CFG | .RING_HEAD | .RING_TAIL | .RING_WB | .RING_STAT | .RING_CNT | .HV_MOD | .HV_STAT
  | .HV_FERR => .perstN
  | .CORE_VBASE | .CORE_THR | .CORE_RUN | .CORE_PRES | .CORE_EOI | .CORE_CTRL | .CORE_FAULTINFO | .CORE_CNT
  | .CORE_STK => .softCore
  | .MBX_STAT | .MBX_DB | .MBX_CFG | .MBX_NTAIL | .MBX_CNT => if i < 16 then .perstN else if i = 16 then .softCore else .resetN
  | .REG_BANK | .REG_SCRATCH => masterLevel i
  | _ => .softEngine

/-- The level of entry `k` of the register table. -/
def levelOf (k : Nat) : Level := (Reg.ofNat (k % 256)).level (k / 256)

/-- Whether entry `k` of the register table is register `r`. -/
def isReg (r : Reg) (k : Nat) : Bool := k % 256 == r.ctorIdx

/-- The tables whose words are X once their power is gone: walk tables, stakes, lane groups, weaver programs and local
data (R366). They then read as after reset (log entry 5). -/
def isTable (k : Nat) : Bool :=
  [Reg.STAKE_MATCH, .STAKE_ACTION, .AXI_LG, .STG_MATCH, .STG_ACTION, .STG_LG, .CAP_WALK, .WEA_PROG, .WEA_LOCAL].any
    fun r => isReg r k

/-! ## POWER and RESET_N -/

/-- Every unit of the lanes returns to its state at reset. -/
def Work.clearLanes (s : Work s₀) : Work s₀ :=
  let none' := fun (_ : Nat) => false
  let s := (((s.keepFre none').keepCapHw none').keepCap none').keepCal none'
  let s := (((s.keepCalBlk none').keepCnt none').keepPair none').keepMerge none'
  let s := ((s.setBack []).keepWeav none').setAxis {}
  (s.keepMark none').setLearn []

/-- Every unit behind the lanes that SOFT_ENGINE initialises returns to its state at reset. The fast paths keep their
progress, which never goes back (R163). -/
def Work.clearPlaza (s : Work s₀) : Work s₀ :=
  let none' := fun (_ : Nat) => false
  let s := ((s.setOpen_ []).setWait []).keepProg (· < 0x20)
  let s := ((s.setGranted []).setWaiters []).keepQue none'
  let s := ((s.keepFlt none').keepHe none').keepMuOn none'
  (s.keepSrc none').keepModT none'

/-- What is left of the engine's units beside the registers: the timebase, outputs, host face, command interface, links,
monitoring and management. -/
def Work.clearRest (s : Work s₀) : Work s₀ :=
  let none' := fun (_ : Nat) => false
  let s := (((s.setTim {}).keepClk none').setRefresh false).setPool {}
  let s := (s.keepRingC none').setDmaRr 1023
  let s := ((s.keepCore none').keepVec none').keepFn none'
  let s := ((s.keepGuest none').keepEp none').keepSlot none'
  let s := ((s.setJobs []).setClaimEp none).keepOwner none'
  let s := ((s.keepAlloc none').setLastEp 49).setErrlog []
  let s := ((s.keepWlink none').keepGrp none').keepPort none'
  let s := ((s.keepChan none').keepLnk none').keepSens none'
  let s := ((s.setNonce []).setJtag { s.st.jtag with drive := none }).keepShad none'
  let s := (s.setI2c {}).keepKeep none'
  ((s.setVaultQ []).setVaultWr none).keepProg none'

/-- A POWER reset, or one of level RESET_N (R381): start-up begins. -/
def Work.engineReset (s : Work s₀) (power : Bool) (cause : Nat) : Work s₀ :=
  let p := s.st.pwr
  let tripped := s.get F.MON_THERM_STAT_TRIPPED 0
  let s := s.keepRegs fun k => !power && levelOf k == .power
  let s := s.when (!power) fun s =>
    let s := s.put F.MON_THERM_STAT_TRIPPED 0 tripped
    let s := (s.put F.ACC_BOOT_DEBUG_UNLOCKED 0 0).put F.ACC_BOOT_UNLOCK_FAILS 0 0
    let s := (s.put F.PWR_ENG_READY 0 0).put F.PWR_ENG_PHASE 0 0
    let s := (s.put F.PWR_ENG_RECOVERING 0 0).put F.PWR_REC_LR_HALT 0 0
    s.put F.REG_FW_FW_VALID 0 0
  let s := (((s.clearLanes).clearPlaza).clearRest).setRefresh false
  let s := ((s.setT64 0).setPhase 0).setEng .starting
  let s := s.setPwr { ok := p.ok, perst := p.perst, reset := p.reset, other := p.other, cool := p.cool || p.trip }
  (s.put F.PWR_ENG_LAST_RESET 0 cause).fuseShadow

/-! ## PERST_N and the function-level reset (R327, Table OCI-7) -/

/-- Function `f` is reset: its configuration words, its vectors, its endpoint, its rings, its own registers (R278, R298,
R313). Its source sees a function-level reset (`flr`), and a change of its power state or enables (R279). -/
def Work.fnReset (s : Work s₀) (f : Nat) (flr : Bool := false) : Work s₀ :=
  let x := s.fn f
  let s := (s.epGone f).vecsReset f
  let rs := s.st.ringsOf f
  let ring := fun (k : Nat) => ((Reg.ofNat (k % 256)) matches
    .RING_BASE | .RING_CFG | .RING_HEAD | .RING_TAIL | .RING_WB | .RING_STAT | .RING_CNT) && rs.contains (k / 256)
  let s := s.keepRegs fun k => !(ring k || ((isReg .REG_BANK k || isReg .REG_SCRATCH k) && k / 256 == f))
  let s := s.keepRingC fun r => !rs.contains r
  ((s.setFn f {}).setShad f {}).when (flr || x.mem || x.bme || x.d3 || x.sleep) fun s => s.srcEdge (864 + f)

/-- PERST_N, a hot reset and a link that goes down reset every function (R327). -/
def Work.perst (s : Work s₀) : Work s₀ :=
  let s := s.each (List.range 16) fun s f => s.fnReset f
  let s := s.setPwr { s.st.pwr with pcie := 0 }
  s.each (List.range 4) fun s g => s.groupStat g 0 false

/-- PERST_N_ASSERT (R327, R381). -/
def execPerstNAssert (t : Nat) (s : State) : Host.Outcome State Fault Refusal :=
  let s := (Work.start s).at t
  .next (s.setPwr { s.st.pwr with perst := true }).perst.st

/-- HOT_RESET (R327). -/
def execHotReset (t : Nat) (s : State) : Host.Outcome State Fault Refusal := .next ((Work.start s).at t).perst.st

/-- LINK_DOWN (R327). -/
def execLinkDown (t : Nat) (s : State) : Host.Outcome State Fault Refusal := .next ((Work.start s).at t).perst.st

/-- FUNCTION_LEVEL_RESET (R313, R327): of one function, or with PF0 of all its virtual functions too. -/
def execFunctionLevelReset (t f : Nat) (s : State) : Host.Outcome State Fault Refusal :=
  let s := (Work.start s).at t
  .next (if f = 0 then s.each (List.range 16) fun s f => s.fnReset f true
    else s.when (f < 16) fun s => s.fnReset f true : Work _).st

/-! ## Configuration words (R276, R279, R294, R297, R327) -/

/-- Configuration word `k` of function `f` (log entry 51): 0 Command, 1 the power management status, 2 the MSI-X
capability, 3 of PF0 the SR-IOV control. -/
def State.configWord (s : State) (f k : Nat) : Word :=
  let x := s.fnAt f
  w64 (match k with
    | 0 => 2 * b2n x.mem + 4 * b2n x.bme
    | 1 => 3 * b2n x.d3 + 2 ^ 8 * b2n x.pme
    | 2 => 127 * 2 ^ 16 + 2 ^ 30 * b2n x.fmask + 2 ^ 31 * b2n x.msix
    | _ => if f = 0 then b2n x.vf else 0)

/-- A sleeping function that is in D0 with Bus Master Enable set and the link in L0 wakes (R297). -/
def Work.fnCheck (s : Work s₀) (f : Nat) : Work s₀ :=
  let x := s.fn f
  s.when (x.sleep && !x.d3 && x.bme && s.st.pwr.pcie == 1) fun s => s.fnWake f

/-- A write of Command of function `f`: a disable stops each of its rings at a bundle boundary and clears their EN
(R276); its source sees the change (R279). -/
def Work.wrCommand (s : Work s₀) (f : Nat) (mem bme : Bool) : Work s₀ :=
  let x := s.fn f
  let on := s.st.indices .RING_CFG fun v => F.RING_CFG_EN.of v == 1 && F.RING_CFG_FUNC.of v == f
  let s := s.when (x.bme && !bme) fun s => s.each on fun s r => s.ringStop r
  let s := s.setFn f { s.fn f with mem := mem, bme := bme }
  let wakes := x.sleep && !x.d3 && bme && s.st.pwr.pcie == 1
  if wakes then s.fnCheck f else s.when (x.mem != mem || x.bme != bme) fun s => s.srcEdge (864 + f)

/-- A write of the power management status of function `f` (R297, R298): 0 is D0, 3 D3hot; no other state is supported
(R326) and a write of one leaves the state as it is. -/
def Work.wrPmcsr (s : Work s₀) (f : Nat) (st : Nat) (pme : Bool) : Work s₀ :=
  let x := s.fn f
  let d3 := if st = 3 then true else if st = 0 then false else x.d3
  let s := s.setFn f { x with d3 := d3, pme := pme }
  if d3 == x.d3 then s
  else if d3 then (if x.sleep then s.srcEdge (864 + f) else s.sleepEntry f)
  else if x.sleep && x.bme && s.st.pwr.pcie == 1 then s.fnCheck f
  else s.srcEdge (864 + f)

/-- A write of Enable and the function mask of function `f`'s MSI-X: the messages that they held back go out (R296). -/
def Work.wrMsixCtl (s : Work s₀) (f : Nat) (en mask : Bool) : Work s₀ :=
  let s := s.setFn f { s.fn f with msix := en, fmask := mask }
  s.each ((s.st.vec.filter fun (v, x) => v / 128 == f && x.pend).map (·.1)) fun s v =>
    s.when (!s.st.masked v) fun s => s.vecFire v

/-- A write of VF Enable: its clearing resets every virtual function (R327). -/
def Work.wrVfEnable (s : Work s₀) (en : Bool) : Work s₀ :=
  let was := (s.fn 0).vf
  let s := s.setFn 0 { s.fn 0 with vf := en }
  s.when (was && !en) fun s => s.each ((List.range 15).map (· + 1)) fun s f => s.fnReset f true

/-- A write of configuration word `k` of function `f`. A virtual function has none while VF Enable is clear. -/
def Work.configWrite (s : Work s₀) (f k : Nat) (v : Word) : Work s₀ :=
  if f != 0 && !(s.fn 0).vf then s
  else
    let n := v.toNat
    match k with
    | 0 => s.wrCommand f (bit n 1) (bit n 2)
    | 1 => s.wrPmcsr f (bits n 0 2) (bit n 8)
    | 2 => s.wrMsixCtl f (bit n 31) (bit n 30)
    | _ => s.when (f == 0) fun s => s.wrVfEnable (bit n 0)

/-- LINK_UP (R379): the link reaches L0; WAKE_N, if it is asserted, is released (Timeline PWR-3). -/
def execLinkUp (t : Nat) (s : State) : Host.Outcome State Fault Refusal :=
  .next (((Work.start s).at t).when (s.domOn 94 && !s.pwr.perst) fun s =>
    let s := s.setPwr { s.st.pwr with pcie := 1, wakeN := false }
    s.each (List.range 4) fun s g => s.groupStat g 0xF true).st

/-! ## A block stops: nothing of it is stamped from `t` on -/

/-- Put a record into a list ordered by time, after those of its time. -/
def recInsert (r : Rec) : List Rec → List Rec
  | [] => [r]
  | x :: xs => if r.t < x.t then r :: x :: xs else x :: recInsert r xs

/-- The lanes of block `b` wait for no more partners, and every record of theirs that is still on its way goes to the
fast path ahead of all others, in order of time, with the queues of its lane's map as they are now; then its bundles
close with horizon `t` (R370, R384). -/
def Work.flushBlock (s : Work s₀) (b t : Nat) (last : List Rec) : Work s₀ :=
  let s := s.each (lanesOf b) fun s n =>
    s.each (s.cap n).searches fun s a =>
      (s.modCap n fun c => { c with searches := c.searches.erase a }).noPartner n a
  let mine := (lanesOf b).flatMap fun n =>
    let c := s.cap n
    (s.st.dropDue n none).toList ++ c.buf ++ c.held.map (·.r)
  let all := ((s.merge b).evs ++ mine).foldl (fun rs r => recInsert r rs) []
  let all := (all ++ last).map fun r => { r with dest := some (s.st.recQueues b r) }
  let s := s.each (lanesOf b) fun s n => s.modCap n fun c => { c with buf := [], held := [], drop := none }
  s.modMerge b fun x => { x with evs := [], fb := x.fb ++ all, shut := some t }

/-! ## The per-block reset (R384) -/

/-- The registers of the lane blocks of block `b` in one of the lane regions, and of its weaver's area. -/
def blockReg (b k : Nat) : Bool :=
  let i := k / 256
  match Reg.ofNat (k % 256) with
  | .FRE_INCFG | .FRE_THR | .FRE_RAMP | .FRE_STAT | .FRE_EVT | .FRE_IE | .FRE_CNT | .CAP_LANECFG | .CAP_PICK | .CAP_BASE
  | .CAP_STAT | .CAP_CNT0 | .CAP_CNT1 | .CAP_CNT2 | .CAL_LSTAT | .CAL_LQUAL | .CAL_LCNT | .CAL_LACT_T
  | .CAL_LACT_A | .CAL_LACT_M | .CAL_LBASE | .CAL_LEVT | .CNT_CFG | .CNT_LEN | .CNT_COUNT | .CNT_STATCFG | .CNT_STAT
  | .CNT_EVT | .CNT_CNT | .CNT_IDX | .WEA_LMAP | .WEA_LDROP => i < 544 && blockOf i == b
  | .WEA_FPCFG | .WEA_WCFG | .WEA_WENTRY | .WEA_WCTRL | .WEA_WSTAT | .WEA_WFAULT | .WEA_WFTIME | .WEA_WEVT | .WEA_WCNT0
  | .WEA_WCNT1 => i == b
  | .WEA_TD => i / 8 == b
  | _ => false

/-- The sequencer of block `b` reloads its units from the vault and starts its sweep again (R102, R384). -/
def Work.reloadBlock (s : Work s₀) (b : Nat) : Work s₀ :=
  let s := s.each (unitsOf b) fun s u => s.setCal u {}
  let s := ((s.setCalBlk b {}).put F.CAL_BSTAT_POS b 31).put F.CAL_BSTAT_STEP b 0
  s.loadBlock b

/-- The per-block reset of block `b` acts at `t`. -/
def Work.resetBlock (s : Work s₀) (b t : Nat) : Work s₀ :=
  let s := s.each (lanesOf b) fun s n => (s.markDisc n).learnEnd n
  let ev := { genEvent 18 b (s.st.stamp t) 0 with t := t, mask := 0xFFFF }
  let s := s.flushBlock b t [ev]
  let s := s.when (s.on F.WEA_WSTAT_RUNNING b) fun s => s.wrWctrl b 0
  let s := s.when (!(s.weav b).stop) fun s => s.setWeav b {}
  let s := s.keepRegs fun k => !blockReg b k
  let s := s.each (unitsOf b) fun s u => (s.setFre u {}).setCapHw u {}
  let s := s.each (lanesOf b) fun s n => (s.setCap n {}).setCnt n {}
  let s := (s.showWeav b).reloadBlock b
  s.each (lanesOf b) fun s n => s.cntRecheck n t

/-- BLOCK_RESET (R384): the per-block reset of block `b` that waits takes effect at its boundary. -/
def execBlockReset (b : Nat) (s : State) : Host.Outcome State Fault Refusal :=
  let w := Work.start s
  .next (match s.pwr.blk.find? (·.1 == b) with
    | some (_, t) =>
      let w := (w.at t).setPwr { s.pwr with blk := s.pwr.blk.filter (·.1 != b) }
      w.resetBlock b t
    | none => w : Work _).st

/-- Whether a SOFT_ENGINE reset is in progress: it awaits its boundary, or the load of R102 runs (R381). -/
def State.softRuns (s : State) : Bool :=
  s.pwr.softT.isSome || (s.eng == .active && !s.on F.PWR_ENG_READY 0 && !bit s.pwr.stage 6)

/-- A per-block reset of block `b` is asked for (R384): at the first coarse boundary after its request. It merges into a
SOFT_ENGINE reset in progress (R382). -/
def Work.askBlock (s : Work s₀) (b : Nat) : Work s₀ :=
  if s.st.softRuns || s.st.pwr.blk.any (·.1 == b) || s.st.blockAbsent b then s
  else s.setPwr { s.st.pwr with blk := s.st.pwr.blk ++ [(b, s.st.coarse s.now)] }

/-- A write of PWR_BRST (R383, R384). -/
def Work.wrBrst (s : Work s₀) (v : Word) : Work s₀ :=
  s.each ((List.range 32).filter fun b => bit v.toNat b) fun s b => s.askBlock b

/-- BLOCK_RESET_REQUEST (R383): a write of PWR_BRST. -/
def execBlockResetRequest (t m : Nat) (v : Word) (s : State) : Host.Outcome State Fault Refusal :=
  .next (((Work.start s).at t).access m 11 0x10 0 true fun s => s.wrBrst v).st

/-! ## SOFT_ENGINE -/

/-- A SOFT_ENGINE reset is asked for (R381, R382): held while READY = 0, else due at the first coarse boundary. -/
def Work.askSoft (s : Work s₀) : Work s₀ :=
  let p := s.st.pwr
  if p.softT.isSome then s
  else if s.on F.PWR_ENG_READY 0 then s.setPwr { p with softT := some (s.st.coarse s.now) }
  else (s.setPwr { p with soft := true }).flag F.PWR_RST_PENDING 0

/-- The SOFT_ENGINE reset takes effect (Table PWR-8): READY is 0 until the load of R102 is complete. -/
def Work.softEngine (s : Work s₀) : Work s₀ :=
  let s := s.each (s.st.indices .RING_CFG fun v => F.RING_CFG_EN.of v == 1) fun s r => s.ringStop r
  let s := s.byeAll 3
  let s := s.each (s.st.indices .ECH_CFG fun v => F.ECH_CFG_EN.of v == 1) fun s c =>
    s.wrEchCfg c (F.ECH_CFG_EN.put (s.reg .ECH_CFG c) 0)
  let s := s.keepChan fun _ => false
  -- R235: the axis leaves RUN and COAST
  let s := s.when (2 ≤ s.st.axisState) fun s => s.stepLeave s.now
  let s := s.each s.st.activeQueues fun s q => s.rewindQueue q
  let s := s.keepRegs fun k => levelOf k != .softEngine
  let ls := s.st.learn.map fun l => { l with bad := true }
  let s := ((s.clearLanes).clearPlaza).setLearn ls
  let p := s.st.pwr
  let s := s.setPwr { p with softT := none, blk := [], stage := p.stage % 64 }
  (s.put F.PWR_ENG_READY 0 0).put F.PWR_ENG_LAST_RESET 0 3

/-- SOFT_ENGINE (R381, R382): a write of PWR_RST.SOFT_ENGINE. -/
def execSoftEngine (t m : Nat) (s : State) : Host.Outcome State Fault Refusal :=
  .next (((Work.start s).at t).access m 11 8 0 true (·.askSoft)).st

/-- SOFT_ENGINE_APPLY (R381): the reset takes effect at its coarse boundary. -/
def execSoftEngineApply (t : Nat) (s : State) : Host.Outcome State Fault Refusal :=
  let w := (Work.start s).at t
  .next (match s.pwr.softT with
    | some b => (w.at b).softEngine
    | none => w : Work _).st

/-! ## SOFT_CORE -/

/-- Core `c` is reset with its EIC core block (Table PWR-8). The sources on its stack keep ACTIVE, which no core block
holds (R381). -/
def Work.coreReset (s : Work s₀) (c : Nat) : Work s₀ :=
  let s := s.keepRegs fun k =>
    !(levelOf k == .softCore &&
      (if isReg .REG_BANK k || isReg .REG_SCRATCH k then k / 256 == 16 + c
       else !(isReg .MBX_CFG k || isReg .MBX_CNT k) && k / 256 == c))
  let s := (s.setCore c {}).setShad (16 + c) {}
  s.when (c == 3) fun s => s.epGone 16

/-- The control complex stops: the cores and their blocks are reset, and firmware runs no more. Vault writes that wait
are abandoned (R104). -/
def Work.complexReset (s : Work s₀) : Work s₀ :=
  let s := s.each (List.range 4) fun s c => s.coreReset c
  let p := s.st.pwr
  let s := s.setPwr { p with fw := false, stage := p.stage - (b2n (bit p.stage 2) * 4 + b2n (bit p.stage 5) * 32) }
  (s.setVaultQ []).put F.REG_FW_FW_VALID 0 0

/-- The last-resort sequencer starts a restart at `t`; `try'` 0 is the first, 1 the repeat, 2 the retry of R382. -/
def Work.lrStart (s : Work s₀) (t try' : Nat) : Work s₀ :=
  let s := s.setPwr { s.st.pwr with lrT := some t, lrTry := try', armed := false, fault := true }
  let s := (s.count F.PWR_REC_LR_CNT 0).flag F.PWR_ENG_RECOVERING 0
  s.put F.PWR_ENG_READY 0 0

/-- A SOFT_CORE reset is asked for (R382): ignored while one is in progress; in LR_HALT it retries the last-resort
restart once. -/
def Work.softCore (s : Work s₀) : Work s₀ :=
  if s.on F.PWR_REC_LR_HALT 0 then (s.put F.PWR_REC_LR_HALT 0 0).lrStart s.now 2
  else if s.on F.PWR_ENG_RECOVERING 0 then s
  else (((s.flag F.PWR_ENG_RECOVERING 0).put F.PWR_ENG_LAST_RESET 0 4)).complexReset

/-- SOFT_CORE (R381, R382): a write of PWR_RST.SOFT_CORE. -/
def execSoftCore (t m : Nat) (s : State) : Host.Outcome State Fault Refusal :=
  .next (((Work.start s).at t).access m 11 8 0 true (·.softCore)).st

/-- A write of PWR_RST. -/
def Work.wrRst (s : Work s₀) (v : Word) : Work s₀ :=
  let s := s.when (F.PWR_RST_SOFT_ENGINE.of v == 1) (·.askSoft)
  s.when (F.PWR_RST_SOFT_CORE.of v == 1) (·.softCore)

end Sys2Proof.Machine
end

