-- ==== Sys2Proof/Machine/Power.lean ====
section
/-!
DEFINITION. Power domains and their changes in ACTIVE (R366, R367), the entries into WATCH and DEEP_SLEEP (R370, R371), the wake
sources (R373) and the wake from WATCH (R372, R374 to R377).
-/

namespace Sys2Proof.Machine

variable {s₀ : State}

/-- Change the power management. -/
def Work.modPwr (s : Work s₀) (f : PwrSt → PwrSt) : Work s₀ := s.setPwr (f s.st.pwr)

/-! ## The domains of Table PWR-1 -/

/-- What a domain of the wards holds. -/
inductive WardPart where
  | front
  | capture
  | logic
  | engines
  deriving DecidableEq, Repr

/-- The part of a ward and the ward that domain `d` is, and for a block's domain the block. -/
def wardPart (d : Nat) : Option (WardPart × Nat × Nat) :=
  if d = 0 || 80 < d then none
  else
    let w := (d - 1) / 10
    let j := (d - 1) % 10
    if j < 4 then some (.front, w, 4 * w + j)
    else if j < 8 then some (.capture, w, 4 * w + j - 4)
    else if j = 8 then some (.logic, w, 0)
    else some (.engines, w, 0)

/-- Whether domain `d` is absent (R2). -/
def State.domAbsent (s : State) (d : Nat) : Bool := s.small && 41 ≤ d && d ≤ 80

/-- The lanes of ward `w`. -/
def lanesOfWard (w : Nat) : List Nat := (List.range 64).map (64 * w + ·)

/-- Whether domain `d` belongs to a ward that is not in service (R12): it stays OFF. -/
def State.domOut (s : State) (d : Nat) : Bool :=
  match wardPart d with
  | some (_, w, _) => s.wardFailed w
  | none => false

/-- The states that Table PWR-2 allows domain `d` in ACTIVE; none for a domain that is not switchable. -/
def domStates (d : Nat) : List Nat :=
  match wardPart d with
  | some (.front, _, _) => [0, 2]
  | some (.capture, _, _) => [0, 1, 2]
  | some (.logic, _, _) => [1, 2]
  | some (.engines, _, _) => [0, 2]
  | none => if d = 84 || d = 87 then [0, 1, 2] else if d = 89 || (91 ≤ d && d ≤ 93) then [0, 2] else []

/-- The condition of Table PWR-2 for domain `d` to leave ON. -/
def State.domFree (s : State) (d : Nat) : Bool :=
  let idle := fun (n : Nat) => s.get F.FRE_INCFG_EN n == 0 && s.get F.FRE_INCFG_CMP_EN n == 0
  match wardPart d with
  | some (.front, _, b) =>
    s.get F.CAL_BCFG_RUN b == 0 && s.get F.CAL_BSTAT_STEP b == 0 && (unitsOf b).all idle && (s.carried b).isNone
  | some (.capture, w, b) =>
    s.dom (pdFront b) == 0 && (lanesOf b).all (fun n => s.get F.CNT_CFG_EN n == 0) &&
      ((List.range 16).map (16 * w + ·)).all (fun p =>
        !(s.on F.PAIR_CFG_REC_EN p && s.get F.PAIR_CFG_LANE_A p / 16 == b)) && !s.on F.WEA_WSTAT_RUNNING b
  | some (.logic, w, _) =>
    ((List.range 4).map (4 * w + ·)).all (fun b => s.dom (pdCapture b) != 2) && s.dom (pdEngines w) == 0
  | some (.engines, _, _) => true
  | none =>
    if d = 87 then (s.indices .FLT_CFG fun v => F.FLT_CFG_EN.of v == 1).isEmpty &&
      (s.indices .HE_CFG fun v => F.HE_CFG_EN.of v == 1).isEmpty
    else if d = 89 then s.opll == 0 && (s.indices .TIM_OCLK fun v => F.TIM_OCLK_EN.of v == 1).isEmpty
    else if 91 ≤ d && d ≤ 93 then ((List.range 4).map (4 * (d - 90) + ·)).all fun g => s.grpMode g == 0
    else true

/-- The state that domain `d` has or is changing to. -/
def State.domGoal (s : State) (d : Nat) : Nat :=
  match s.pwr.pend.find? (·.1 == d) with
  | some (_, x) => x % 4
  | none => s.dom d

/-- Whether domain `d` may take state `st` (R367). -/
def State.domMay (s : State) (d st : Nat) : Bool :=
  (domStates d).contains st && !s.domOut d && (s.dom d != 2 || st == 2 || s.domFree d)

/-- Domain `d` begins to change to state `st`. -/
def Work.domGo (s : Work s₀) (d st : Nat) : Work s₀ :=
  let s := s.put ⟨.PWR_DREQ, 2 * (d % 32), 2⟩ (d / 32) st
  match s.st.pwr.pend.find? (·.1 == d) with
  | some (_, x) => s.modPwr fun p => { p with pend := (p.pend.filter (·.1 != d)) ++ [(d, x / 4 * 4 + st)] }
  | none =>
    let old := s.st.dom d
    if old = st then s
    else (s.setDom d 3).modPwr fun p => { p with pend := p.pend ++ [(d, 4 * old + st)] }

/-- A write of PWR_DREQ word `i` (R367): ignored where a change breaks a condition. A REQ of 3 is stored and acts as 2
(R5). During a thermal trip every domain but PD0 stays OFF (R398). -/
def Work.wrDreq (s : Work s₀) (i : Nat) (v : Word) : Work s₀ :=
  let raw := fun (d : Nat) => bits v.toNat (2 * (d % 32)) 2
  let req := fun (d : Nat) => min 2 (raw d)
  let all := ((List.range 32).map (32 * i + ·)).filter fun d => !(domStates d).isEmpty && !s.st.domAbsent d && !s.st.domOut d
  let ds := all.filter fun d => req d != s.st.domGoal d
  if s.st.eng != .active && s.st.eng != .starting || s.st.pwr.trip then s
  else if ds.all fun d => s.st.domMay d (req d) then
    (s.each ds fun s d => s.domGo d (req d)).each all fun s d => s.put ⟨.PWR_DREQ, 2 * (d % 32), 2⟩ i (raw d)
  else s.flag F.PWR_EVT_DOMAIN_ERR 0

/-- PWR_DREQ_WRITE (R367). -/
def execPwrDreqWrite (t m i : Nat) (v : Word) (s : State) : Host.Outcome State Fault Refusal :=
  .next (((Work.start s).at t).when (i < 3) fun s => s.access m 11 (0x40 + 8 * i) 0 true fun s => s.wrDreq i v).st

/-- The contents of domain `d` are lost (R366): of a capture domain the edges and records that its lanes and its block
merge hold, and the bundles that its fast path has open (log entry 54). -/
def Work.domLose (s : Work s₀) (d : Nat) : Work s₀ :=
  match wardPart d with
  | some (.front, _, b) => s.each (unitsOf b) fun s u => (s.frontOff u).when (u < 512) fun s => s.showEn u
  | some (.capture, _, b) =>
    let s := s.each (unitsOf b) fun s u => s.setCapHw u {}
    let s := s.each (lanesOf b) fun s n => s.modCap n fun c =>
      { c with searches := [], early := [], held := [], buf := [], drop := none }
    let s := (s.setMerge b {}).rewindOpen b
    -- walk tables are X once their domain has been OFF
    s.each (lanesOf b) fun s n => s.each (List.range 128) fun s k =>
      let (s, v) := s.fresh
      s.wreg .CAP_WALK (n * 128 + k) (v &&& 0xFFFFFFFF00FFFFFF)
  | some (.engines, w, _) =>
    let s := s.each ((s.st.cnt.map (·.1)).filter (· / 64 == w)) fun s n =>
      (s.modCnt n fun c => { c with on := false, stat := {} }).dropGate n
    s.each ((List.range 16).map (16 * w + ·)) fun s p => s.when (s.st.pair.any (·.1 == p)) fun s =>
      (s.put F.PAIR_STAT_ARMED p 0).modPair p fun x =>
        { x with q := [], armed := none, firstB := none, sideA := {}, sideB := {}, stat := {} }
  | some (.logic, _, _) => s
  | none =>
    if 81 ≤ d && d ≤ 84 then s.keepGuest fun a => a / 2 ^ 18 != d - 81
    else if d = 87 then
      let plaza := fun (k : Nat) => ((Reg.ofNat (k % 256)) matches .FLT_CFG | .FLT_SEL | .FLT_XREF | .FLT_TAU | .FLT_TOFS
        | .FLT_IO | .FLT_CTRL | .FLT_STAT | .FLT_EVT | .FLT_CNT0 | .FLT_CNT1 | .FLT_CNT2 | .FLT_SCFG | .FLT_GAIN
        | .FLT_OFFSET | .HE_CFG | .HE_KOFS | .HE_SNAP | .HE_CTRL | .HE_STAT | .HE_MIN | .HE_MAX | .HE_UNDER | .HE_OVER
        | .HE_EVT | .HE_CNT | .HE_SINCE | .HE_BIN)
      ((s.keepRegs fun k => !plaza k).keepFlt fun _ => false).keepHe fun _ => false
    else if d = 89 then s.keepRegs fun k => !(isReg .TIM_BAND0 k || isReg .TIM_BAND1 k)
    else s

/-- A free position of an input against its threshold (log entry 43). -/
def Work.freePos (s : Work s₀) : Work s₀ × InPos :=
  let (s, w) := s.fresh
  (s, match w.toNat % 3 with | 0 => .below | 1 => .inside | _ => .above)

/-- The circuits that carry lane `n` power up from inputs whose levels the command does not carry
(R40, log entry 43). -/
def Work.wakeCircuits (s : Work s₀) (n : Nat) : Work s₀ :=
  let (s, pa) := s.freePos
  let (s, pb) := s.freePos
  let (s, pc) := s.freePos
  (s.powerUpAll (s.st.carrier n) (s.fre n).cfg pa pb pc).showEn n

/-- Domain `d` is ON again; `lost` where it returns from OFF (R40, R115, R366, Table PWR-2). The statistics of a pairing
unit begin anew with the next gate of their engine (R127). -/
def Work.domBack (s : Work s₀) (d : Nat) (lost : Bool) : Work s₀ :=
  match wardPart d with
  | some (.front, _, b) => s.each (lanesOf b) fun s n => s.when (s.st.fre.any (·.1 == n)) fun s => s.wakeCircuits n
  | some (.capture, _, b) => s.when lost fun s => s.askBlock b
  | some (.engines, w, _) =>
    let t := s.st.coarseUp s.now
    let s := s.each ((List.range 16).map (16 * w + ·)) fun s p =>
      s.when (F.PAIR_CFG_EN.of (s.pair p).cfg = 1 && F.PAIR_CFG_STAT_EN.of (s.pair p).cfg = 1) fun s =>
        s.modPair p fun x => { x with stat := { on := true, wait := true } }
    s.each ((s.st.indices .CNT_CFG fun v => F.CNT_CFG_EN.of v == 1).filter (· / 64 == w)) fun s n =>
      (s.cntLoad n).cntEnable n t
  | _ => s

/-- K3 is reset as level 1 of the recovery ladder resets it (Table PWR-6). -/
def Work.guestReset (s : Work s₀) : Work s₀ :=
  let (s, w) := ((s.coreReset 3).count F.PWR_REC_CORE_RST_CNT 0).fresh
  (s.flag F.PWR_EVT_CORE_RESTART 0).faultNotice (w.toNat % 65536)

/-- The change of domain `d` is complete. -/
def Work.domDone (s : Work s₀) (d : Nat) : Work s₀ :=
  match s.st.pwr.pend.find? (·.1 == d) with
  | none => s
  | some (_, x) =>
    let (old, st) := (x / 4, x % 4)
    let s := (s.modPwr fun p => { p with pend := p.pend.filter (·.1 != d) }).setDom d st
    if old = st then s
    else if st = 0 then (s.domLose d).when (d == 84) (·.guestReset)
    else if st = 2 then s.domBack d (old == 0)
    else s.when (81 ≤ d && d ≤ 84) fun s => s.wakeCheck (d - 81)

/-- DOMAIN_CHANGE_DONE (R367). -/
def execDomainChangeDone (t d : Nat) (s : State) : Host.Outcome State Fault Refusal :=
  .next ((Work.start s).at t |>.domDone d).st

/-! ## Wake sources (R373, Table PWR-5) -/

/-- Whether a wake source can act: an entry is in progress past t_a, or the engine sleeps (R371). -/
def State.wakeable (s : State) : Bool := s.get F.PWR_ENG_PHASE 0 == 2 || s.eng == .watch || s.eng == .deepSleep

/-- A wake from DEEP_SLEEP: start-up with the effects of RESET_N, PWR_WAKE and PWR_ALARM kept (R375). -/
def Work.deepWake (s : Work s₀) : Work s₀ :=
  let w := s.reg .PWR_WAKE 0
  let a := s.reg .PWR_ALARM 0
  let s := s.engineReset false 2
  (s.wreg .PWR_WAKE 0 w).wreg .PWR_ALARM 0 a

/-- Wake source `cause` acts: the first is latched, and wakes the engine once the entry is complete. -/
def Work.wakeBy (s : Work s₀) (cause lane t : Nat) : Work s₀ :=
  if !s.st.wakeable || s.st.pwr.wake.isSome then s
  else
    let s := s.modPwr fun p => { p with wake := some (cause, lane, t) }
    let s := (s.put F.PWR_ENG_LAST_WAKE 0 cause).put F.PWR_ENG_WAKE_LANE 0 lane
    if s.st.eng == .deepSleep && s.get F.PWR_ENG_PHASE 0 == 0 then s.deepWake else s

/-- ALARM (R373): T64, or in DEEP_SLEEP the count of the PD0 oscillator, reaches ALARM. -/
def execAlarm (t : Nat) (s : State) : Host.Outcome State Fault Refusal :=
  let w := (Work.start s).at t
  let due := s.eng == .deepSleep || decide ((s.reg .PWR_ALARM 0).toNat ≤ w.now % 2 ^ 64)
  .next (w.when (s.on F.PWR_WAKE_ALARM_EN 0 && due) fun w => w.wakeBy 2 0 w.now).st

/-- PERST_N_RISE (R373, R379): PERST_N rises, the link may train. -/
def execPerstNRise (t : Nat) (s : State) : Host.Outcome State Fault Refusal :=
  let w := (Work.start s).at t
  let rises := s.pwr.perst
  let w := w.modPwr fun p => { p with perst := false }
  .next (w.when (rises && s.on F.PWR_WAKE_PERST_EN 0) fun w => w.wakeBy 4 0 w.now).st

/-! ## Entry (R370, R371, Timeline PWR-2) -/

/-- The code of ACTIVE in a POWER notice, which the spec does not state (log entry 3). -/
def powerActive : Byte := Config.freeByte (2 ^ 31)

/-- The code of ABANDONED in a POWER notice, which the spec does not state (log entry 3). -/
def powerAbandoned : Byte := Config.freeByte (2 ^ 31 + 1)

/-- An entry into sleep is armed (R370): target 1 WATCH, 2 DEEP_SLEEP. -/
def Work.armEntry (s : Work s₀) (target : Nat) : Work s₀ :=
  let now := s.now
  (s.put F.PWR_ENG_PHASE 0 1).modPwr fun p => { p with target := target, armT := now }

/-- The armed entry begins at t_a. -/
def Work.entryStart (s : Work s₀) : Work s₀ :=
  let now := s.now
  let l2 := s.st.inL2
  let run := s.st.indices .WEA_WSTAT fun v => F.WEA_WSTAT_RUNNING.of v == 1
  let doms := (List.range 3).map fun i => s.reg .PWR_DSTAT i
  let s := (s.put F.PWR_ENG_PHASE 0 2).modPwr fun p =>
    { p with ta := some now, armed := false, doms := doms, weav := run, pcie := if l2 then 2 else p.pcie }
  (s.byeAll 3).each run fun s w => s.wrWctrl w 0

/-- ENGINE_ENTRY_START (R370): t_a, the PCI Express link in L2 or down, or PERST_N low. -/
def execEngineEntryStart (t : Nat) (s : State) : Host.Outcome State Fault Refusal :=
  .next (((Work.start s).at t).when
    (s.get F.PWR_ENG_PHASE 0 == 1 && (s.inL2 || s.pwr.pcie == 0 || s.pwr.perst)) fun s => s.entryStart).st

/-- A POWER notice (Table OCI-5). -/
def Work.powerNotice (s : Work s₀) (old new cause : Byte) : Work s₀ := s.notice 7 0x70 [old, new, cause]

/-- ENTRY_ABANDON (R370): 1 s has passed without t_a. -/
def execEntryAbandon (s : State) : Host.Outcome State Fault Refusal :=
  .next ((Work.start s).when (s.get F.PWR_ENG_PHASE 0 == 1) fun s =>
    let s := s.at (s.st.pwr.armT + ms 1000)
    let s := (s.put F.PWR_ENG_PHASE 0 0).modPwr fun p => { p with target := 0 }
    (s.flag F.PWR_EVT_SLEEP_ABANDONED 0).powerNotice powerActive powerActive powerAbandoned).st

/-- The calibration cycle that block `b` has in hand is abandoned at `t`: a carried lane's signal returns to the lane.
-/
def Work.abandonCycle (s : Work s₀) (b t : Nat) : Work s₀ :=
  let u := s.st.unitInHand b
  if s.get F.CAL_BSTAT_STEP b = 0 then s
  else
    let s := s.when ((s.calBlk b).bound.isSome && u < 512) fun s => s.overlapOver u
    let s := s.when (u < 512 && s.st.carried b == some u && s.st.calState u != 3) fun s => s.handback b t false
    let s := s.when ((s.st.carried b).isNone) fun s => s.frontOff (512 + b)
    let s := (s.put F.CAL_LSTAT_OFFLINE u 0).modCal u fun c => { c with gapG := none, gapE := none }
    let k := s.calBlk b
    let s := match k.reinst with
      | some (n, former) => s.put F.CAL_LSTAT_STATE n former
      | none => s
    let s := (s.put F.CAL_BSTAT_POS b 31).put F.CAL_BSTAT_STEP b 0
    s.setCalBlk b { next := k.next, prio := k.prio, skipped := k.skipped, pauseT := k.pauseT, skew := k.skew }

/-- A switching sequence that t_q finds in progress ends there, its configuration in force. -/
def Work.switchEnd (s : Work s₀) (u : Nat) : Work s₀ :=
  match (s.fre u).sw with
  | some q =>
    let s := s.modFre u fun f => { f with cfg := q.cfg, sw := none }
    (s.put F.FRE_STAT_SWITCHING u 0).showEn u
  | none => s

/-- The data path stops at t_q (Timeline PWR-2). -/
def Work.pathStop (s : Work s₀) (t : Nat) : Work s₀ :=
  let s := s.at t
  let s := s.each (s.st.cnt.map (·.1)) fun s n => (s.modCnt n fun c => { c with on := false, stat := {} }).dropGate n
  let bs := (List.range 32).filter fun b => !s.st.blockAbsent b
  let s := s.each bs fun s b => s.abandonCycle b t
  let s := s.each (s.st.fre.map (·.1)) fun s u => s.switchEnd u
  let s := (s.axisOff t).modAxis fun x => { x with ctlAt := none }
  let s := s.each bs fun s b => s.flushBlock b t []
  let s := s.each (s.st.open_.filter fun x => !(x.producer < 0x20)) fun s x => s.closeThis x t
  let s := s.setEng (if s.st.pwr.target = 1 then .watch else .deepSleep)
  s.modPwr fun p => { p with tq := some t }

/-- DATA_PATH_STOP (R370): the first multiple of 16,384 ticks after the weavers have halted. -/
def execDataPathStop (s : State) : Host.Outcome State Fault Refusal :=
  let halted := s.weav.all (fun (_, x) => !x.stop) && (s.indices .WEA_WSTAT fun v => F.WEA_WSTAT_RUNNING.of v == 1).isEmpty
  .next ((Work.start s).when (s.get F.PWR_ENG_PHASE 0 == 2 && s.pwr.tq.isNone && halted) fun s =>
    s.pathStop ((s.now / 16384 + 1) * 16384)).st

/-- The first waiting bundle of queue `q` in the order of R261 is placed; nothing will come that it should wait for. -/
def Work.placeOut (s : Work s₀) (q : Nat) : Work s₀ :=
  let s := s.splitAll q
  match firstBundle (s.st.wait.zipIdx.filter fun (b, _) => b.q == q) with
  | none => s
  | some (b, i) => s.placeAt q i b false

/-- What the data path still holds goes into the queues, in `fuel` rounds. -/
def Work.settle (s : Work s₀) (t : Nat) : Nat → Work s₀
  | 0 => s
  | fuel + 1 =>
    let bs := (s.st.merge.filter fun (_, m) => !m.fb.isEmpty || m.shut.isSome).map (·.1)
    let s := s.each bs fun s b => s.mergeTake b
    let s := s.grant
    let s := s.each (s.st.open_.filter fun x => !(x.producer < 0x20)) fun s x => s.closeThis x t
    let s := s.each s.st.activeQueues fun s q => s.placeOut q
    s.settle t fuel

/-- As many rounds as `settle` can need: a few for each record and bundle on its way. -/
def State.settleFuel (s : State) : Nat :=
  let recs := (s.merge.map fun (_, m) => m.fb.length).foldl (· + ·) 0
  4 * (recs + s.open_.length + s.wait.length + s.back.length) + 4

/-- The state that domain `d` has in WATCH (Table PWR-1): a front end with a lane that can wake the engine is ON;
another domain that is OFF stays OFF. -/
def State.watchDom (s : State) (d : Nat) : Nat :=
  let now := s.dom d
  match wardPart d with
  | some (.front, _, b) =>
    if (lanesOf b).any (fun n => s.get F.FRE_INCFG_MODE n == 0 && s.on F.FRE_INCFG_WAKE_EN n) then 2 else 0
  | some (.engines, _, _) => 0
  | some _ => if now = 0 then 0 else 1
  | none => if d = 0 then 2 else if 90 ≤ d then 0 else if now = 0 then 0 else 1

/-- The outputs and ports fall idle (Timeline PWR-2). -/
def Work.portsIdle (s : Work s₀) : Work s₀ :=
  let s := s.each (s.st.mark.map (·.1)) fun s p => s.setMark p { s.mark p with level := false, pulse := none }
  s.each (List.range 16) fun s g =>
    s.each ((List.range 4).map (4 * g + ·)) (fun s l => s.modLnk l fun x => { x with bye := 0 }) |>.groupDown g |>.setGrp g none

/-- The state that domain `d` had at t_a. -/
def PwrSt.domAt (p : PwrSt) (d : Nat) : Nat := bits (p.doms.getD (d / 32) 0).toNat (2 * (d % 32)) 2

/-- The domains take their states; firmware stops. -/
def Work.sleepDoms (s : Work s₀) (f : State → Nat → Nat) : Work s₀ :=
  let st := s.st
  let s := s.each ((List.range 96).filter fun d => !st.domAbsent d && !st.domOut d) fun s d => s.setDom d (f st d)
  s.modPwr fun p => { p with fw := false, pend := [] }

/-- The front ends in WATCH (R26): a comparator A that can wake the engine runs in WATCH speed, powered up where it was
not (R40), and nothing else has power. -/
def Work.watchFront (s : Work s₀) : Work s₀ :=
  let us := s.st.fre.map (·.1)
  let more := s.st.indices .FRE_INCFG fun v => F.FRE_INCFG_WAKE_EN.of v == 1
  s.each (us ++ more.filter (!us.contains ·)) fun s u =>
    if s.st.wakes u then
      let s := (s.powerDown u 1).put F.FRE_STAT_SPEED_A_EFF u 3
      let s := (s.put F.FRE_STAT_RAMP_RUN u 0).modFre u fun f => { f with ramp := none, ovl := false }
      let ran := F.FRE_INCFG_EN.of (s.fre u).cfg = 1 && s.st.pwr.domAt (pdFront (blockOf u)) = 2
      if ran then s
      else
        let (s, p) := s.freePos
        (s.powerUp u .a 1 p).showEn u
    else (s.frontOff u).when (u < 512) fun s => s.showEn u

/-- WATCH_ENTERED (R370): every bundle is placed, then ENGINE_SLEEP; the store enters self-refresh and the domains take
their WATCH states. -/
def execWatchEntered (t : Nat) (s : State) : Host.Outcome State Fault Refusal :=
  .next (((Work.start s).at t).when (s.eng == .watch && s.get F.PWR_ENG_PHASE 0 == 2) fun s =>
    let tq := s.st.pwr.tq.getD t
    let s := s.settle tq s.st.settleFuel
    let s := s.each s.st.activeQueues fun s q => s.sysBundle 0x141 q (genEvent 20 1 tq 0)
    let s := s.each s.st.activeQueues fun s q => s.placeOut q
    let st := s.st
    let s := s.portsIdle.sleepDoms State.watchDom
    let lost := (List.range 96).filter fun d => st.dom d != 0 && s.st.dom d = 0
    let s := (s.each lost fun s d => s.domLose d).watchFront
    s.put F.PWR_ENG_PHASE 0 0).st

/-- Everything but PD0 is lost: tables, core memories, and with them what the units held (Table PWR-1). -/
def Work.allLost (s : Work s₀) : Work s₀ :=
  let s := (s.portsIdle.sleepDoms fun _ d => if d = 0 then 2 else 0).watchFront
  (s.keepRegs fun k => !isTable k).keepGuest fun _ => false

/-- DEEP_SLEEP_ENTERED (R371): past t_q, with the vault write queue empty, every domain but PD0 goes OFF; a wake source
latched meanwhile wakes the engine at once. -/
def execDeepSleepEntered (t : Nat) (s : State) : Host.Outcome State Fault Refusal :=
  .next (((Work.start s).at t).when
    (s.eng == .deepSleep && s.get F.PWR_ENG_PHASE 0 == 2 && s.vaultQ.isEmpty && s.vaultWr.isNone) fun s =>
    let s := s.allLost.put F.PWR_ENG_PHASE 0 0
    if s.st.pwr.wake.isSome then s.deepWake else s).st

/-! ## Wake from WATCH (Timeline PWR-3) -/

/-- The state that domain `d` takes at a wake from WATCH. -/
def State.wakeDom (s : State) (d : Nat) : Nat :=
  if d = 89 || (91 ≤ d && d ≤ 93) then s.pwr.domAt d
  else if d = 84 && s.dom 84 = 0 then 0
  else 2

/-- WAKE_DOMAINS_ON (R373): a wake source has acted; domains return to ON and the cores leave RETAIN. -/
def execWakeDomainsOn (t : Nat) (s : State) : Host.Outcome State Fault Refusal :=
  .next (((Work.start s).at t).when (s.eng == .watch && s.get F.PWR_ENG_PHASE 0 == 0 && s.pwr.wake.isSome) fun s =>
    (s.sleepDoms State.wakeDom).modPwr fun p => { p with fw := true }).st

/-- WAKE_TIMEBASE_RESTORE (R372, R373): KA has counted on to `ka`, its value at keep-alive tick t_l; T64 := 16,384 *
KA, a coarse boundary; TPLL in FREE. A tick before the present acts as the first one at or after it (log entry 43). -/
def execWakeTimebaseRestore (ka : Nat) (s : State) : Host.Outcome State Fault Refusal :=
  .next ((Work.start s).when (s.eng == .watch && s.domOn 88 && s.pwr.tl.isNone) fun s =>
    let s := s.at (16384 * ka)
    let t := 16384 * s.st.ka
    let s := ((s.setT64 t).setPhase 0).timFree t false
    s.modPwr fun p => { p with tl := some t, te := some (t + 163840000) }).st

/-- The EPOCH bundle and ENGINE_WAKE of queue `q` (R376). -/
def Work.wakeQueue (s : Work s₀) (q tk : Nat) (ev : Rec) : Work s₀ :=
  let e : Bundle := { q := q, producer := 0x141, floor := tk, horizon := tk, openT := tk, openH := tk, buf := false,
                      recs := [{ t := tk, ws := [w64 (8 * 2 ^ 60 + (tk + 2 ^ 46 - 1) / 2 ^ 46 % 2 ^ 18)] }] }
  let before := s.get F.QD_WR_CWR q
  let s := s.putBundle q e false
  let s := s.when (s.get F.QD_WR_CWR q != before) fun s => s.modQue q fun x => { x with epoch := some tk, after := [] }
  (s.sysBundle 0x141 q ev).placeOut q

/-- The units resume at t_e (R376, R377). -/
def Work.resume (s : Work s₀) (te : Nat) : Work s₀ :=
  let p := s.st.pwr
  let tq := p.tq.getD te
  let tk := leastOf te (p.edges.map (·.2))
  let (cause, lane, _) := p.wake.getD (0, 0, 0)
  let s := (s.at te).setEng .active
  let w1 := cause * 2 ^ 60 + lane * 2 ^ 51 + b2n p.hold * 2 ^ 50 + tq / 16384 % 2 ^ 50
  let ev := genEvent 21 0 tk (w64 w1)
  let s := s.each s.st.activeQueues fun s q => s.wakeQueue q tk { ev with t := tk }
  let s := s.each p.edges fun s (n, t) => s.pushBuf n (edgeRec n true 0 2 t)
  let s := s.each ((List.range 96).filter fun d => s.st.dom d == 2) fun s d => s.domBack d (p.domAt d == 0)
  let s := s.when (s.on F.AXI_CTRL_EN 0) fun s => s.axisOn te
  let s := s.each p.weav fun s w => s.wrWctrl w 1
  let s := s.each (s.st.indices .FLT_CFG fun v => F.FLT_CFG_EN.of v == 1) fun s f => s.fltReset f te
  let s := (s.put F.TIM_OSTAT_STATE 0 0).modTim fun x =>
    { x with op := none, gate := false, drst := [], edge1 := none, seen := x.seen.map fun _ => te,
             clean := x.clean.map fun _ => te,
             div := List.replicate 32 te }
  let s := s.each (List.range 32) fun s c => s.setClk c (s.reg .TIM_OCLK c)
  s.each ((List.range 16).filter fun g => s.st.grpMode g != 0) fun s g => s.setGrp g (some te)

/-- WAKE_RESUME (R376, R377): t_e. -/
def execWakeResume (s : State) : Host.Outcome State Fault Refusal :=
  let w := Work.start s
  .next (match s.eng, s.pwr.te with
    | .watch, some te =>
      let w := w.resume te
      let w := w.modPwr fun p =>
        { p with target := 0, ta := none, tq := none, wake := none, edges := [], doms := [], weav := [], tl := none,
                 te := none, hold := false, beats := List.replicate 5 te, armed := true,
                 wakeN := p.wakeN || (s.on F.PWR_WAKE_WAKE_N_EN 0 && p.pcie != 1) }
      (w.flag F.PWR_EVT_WOKE 0).powerNotice 1 powerActive (BitVec.ofNat 8 (s.get F.PWR_ENG_LAST_WAKE 0))
    | _, _ => w : Work _).st

end Sys2Proof.Machine
end

