-- ==== Sys2Proof/Machine/Recovery.lean ====
section
/-!
DEFINITION. Supervision and the recovery ladder (R385 to R388), and what takes the engine down: RESET_N, a fall of PWR_OK,
a brown-out and a thermal trip (R380, R398, R421).
-/

namespace Sys2Proof.Machine

variable {s₀ : State}

/-! ## Heartbeats (R385, R399) -/

/-- The instant of the last BEAT of heartbeat `c`: 0 to 3 PWR_HB, 4 PWR_HBW. -/
def State.beatAt (s : State) (c : Nat) : Nat := s.pwr.beats.getD c 0

/-- AGE of heartbeat `c` in ms. -/
def State.beatAge (s : State) (c : Nat) : Nat := min 65535 ((s.t64 - s.beatAt c) / ms 1)

/-- Heartbeat `c` is beaten. -/
def Work.beat (s : Work s₀) (c : Nat) : Work s₀ :=
  let now := s.now
  s.modPwr fun p => { p with beats := p.beats.set c now }

/-- A write of a heartbeat register by master `m`: only the core it names, or K0 and K1 for the warden's. -/
def Work.wrBeat (s : Work s₀) (m c : Nat) (v : Word) : Work s₀ :=
  s.when (F.PWR_HB_BEAT.of v == 1 && (if c = 4 then m == 16 || m == 17 else m == 16 + c)) fun s => s.beat c

/-- The offset of heartbeat register `c` in the PWR region. -/
def beatAddr (c : Nat) : Nat := 0x60 + 8 * c

/-- BEAT (R385): master `m` writes BEAT of heartbeat `c`. -/
def execBeat (t m c : Nat) (s : State) : Host.Outcome State Fault Refusal :=
  .next (((Work.start s).at t).when (c < 5) fun s => s.access m 11 (beatAddr c) 0 true fun s => s.wrBeat m c 0x10000).st

/-- Whether heartbeat `c` is supervised (R385). -/
def State.supervised (s : State) (c : Nat) : Bool := s.pwr.armed && c < 5 && (c != 3 || s.on F.PWR_REC_HB3_EN 0)

/-- Whether heartbeat `c` has not been beaten for its limit: 20 ms for a core, 50 ms for the warden. -/
def State.silent (s : State) (c : Nat) : Bool :=
  s.supervised c && decide (s.beatAt c + ms (if c = 4 then 50 else 20) ≤ s.t64)

/-- WATCHDOG (R399): the AGE of a supervised heartbeat reaches 10 ms. -/
def execWatchdog (t c : Nat) (s : State) : Host.Outcome State Fault Refusal :=
  .next (((Work.start s).at t).when (s.supervised c) fun s =>
    s.when (s.st.beatAt c + ms 10 ≤ s.now) fun s => s.monEvt F.MON_EVT_WATCHDOG).st

/-! ## The ladder (R386, Table PWR-6) -/

/-- The commands that a reset core K2 or the standby held end with RESTARTED; which they were the spec leaves open. -/
def Work.heldRestarted (s : Work s₀) : Work s₀ :=
  s.each s.st.jobs fun s j =>
    let (s, w) := s.fresh
    s.when (w.toNat % 2 == 1) fun s => s.finish j 0x1A 0 (errData 0xFFFF 0xFFFF)

/-- Level 2: K2 or the standby is reset. -/
def Work.standbyReset (s : Work s₀) (c : Nat) : Work s₀ :=
  let s := ((s.coreReset c).setCore c { (s.coreReset c).core c with mie := true }).heldRestarted
  let (s, w) := s.fresh
  let s := ((s.count F.PWR_REC_CORE_RST_CNT 0).flag F.PWR_EVT_CORE_RESTART 0).faultNotice (w.toNat % 65536)
  s.beat c

/-- Level 3: the standby takes the warden role from core `c` (R104: vault writes that wait are abandoned), and every
command that firmware had taken ends with RESTARTED (Table OCI-7). -/
def Work.takeover (s : Work s₀) (c : Nat) : Work s₀ :=
  let s := (s.coreReset c).setCore c { (s.coreReset c).core c with mie := true }
  let s := ((s.put F.PWR_REC_WARDEN 0 (1 - c)).count F.PWR_REC_TAKEOVER_CNT 0).setVaultQ []
  let s := (s.restarted.beat 4).beat c
  let (s, w) := s.fresh
  (s.flag F.PWR_EVT_TAKEOVER 0).faultNotice (w.toNat % 65536)

/-- Core `c` is silent. -/
def Work.coreSilent (s : Work s₀) (c : Nat) : Work s₀ :=
  if 4 ≤ c || !s.st.silent c then s
  else
    let s := s.flag F.PWR_EVT_HB_MISS 0
    if c = 3 then s.guestReset.beat 3
    else if c = 2 then s.standbyReset 2
    else if s.st.silent (1 - c) then s
    else if c = s.get F.PWR_REC_WARDEN 0 then s.takeover c
    else s.standbyReset c

/-- HEARTBEAT_SILENCE (R386): core `c` has not been beaten for 20 ms. -/
def execHeartbeatSilence (t c : Nat) (s : State) : Host.Outcome State Fault Refusal :=
  .next (((Work.start s).at t).coreSilent c).st

/-- The last-resort sequencer is triggered (Timeline PWR-4): the warden silent, or K0 and K1 both. -/
def Work.lrTrigger (s : Work s₀) (t : Nat) : Work s₀ :=
  let warden := s.st.silent 4
  if s.st.pwr.lrT.isSome || !(warden || (s.st.silent 0 && s.st.silent 1)) then s
  else
    let s := (s.put F.PWR_REC_LR_CAUSE 0 (b2n (!warden))).wreg .PWR_LRT 0 (w64 t)
    (s.flag F.PWR_EVT_HB_MISS 0).lrStart t 0

/-- LAST_RESORT_TRIGGER (R386): t_f. -/
def execLastResortTrigger (t : Nat) (s : State) : Host.Outcome State Fault Refusal :=
  let w := (Work.start s).at t
  .next (w.lrTrigger w.now).st

/-- LR_SOFT_CORE (R386): t_f + 1 µs. The data path goes on (R17). -/
def execLrSoftCore (s : State) : Host.Outcome State Fault Refusal :=
  let w := Work.start s
  .next (match s.pwr.lrT with
    | some t => ((w.at (t + us 1)).put F.PWR_ENG_LAST_RESET 0 5).complexReset
    | none => w : Work _).st

/-- LR_BOOT (R386): t_f + 10 µs; the repeat of level 5 tries the other image first. -/
def execLrBoot (s : State) : Host.Outcome State Fault Refusal :=
  let w := Work.start s
  .next (match s.pwr.lrT with
    | some t =>
      let w := w.at (t + us 10)
      let p := w.st.preferred
      let w := w.bootRom (if s.pwr.lrTry = 1 then 1 - p else p)
      let w := w.put F.PWR_REC_LR_IMAGE 0 (w.get F.ACC_BOOT_IMAGE 0)
      w.when (!w.on F.REG_GSTAT_BOOT_FAIL 0) fun w => w.modPwr fun p =>
        { p with stage := p.stage + (if bit p.stage 2 then 0 else 4) }
    | none => w : Work _).st

/-- No READY within 2 s: level 4 is repeated, and after the second failure LR_HALT (R386, R388). -/
def Work.lrFail (s : Work s₀) (t : Nat) : Work s₀ :=
  let s := s.at (t + ms 2000)
  if s.st.pwr.lrTry = 0 then s.lrStart s.now 1
  else
    let s := (s.flag F.PWR_REC_LR_HALT 0).put F.PWR_ENG_RECOVERING 0 0
    (s.modPwr fun p => { p with lrT := none, armed := false }).complexReset

/-- LR_READY_TIMEOUT (R386). -/
def execLrReadyTimeout (s : State) : Host.Outcome State Fault Refusal :=
  let w := Work.start s
  .next (match s.pwr.lrT with
    | some t => if s.on F.PWR_ENG_READY 0 then w else w.lrFail t
    | none => w : Work _).st

/-- TRIAL_TIMEOUT (R360): a trial boot has not reached READY within 2 s of the start of its image; the next start tries
the other image first. -/
def execTrialTimeout (t : Nat) (s : State) : Host.Outcome State Fault Refusal :=
  .next (((Work.start s).at t).when (s.on F.ACC_BOOT_TRIAL 0 && !s.on F.PWR_ENG_READY 0) fun s =>
    s.when (s.st.pwr.bootT + ms 2000 ≤ s.now) fun s => s.modPwr fun p => { p with other := true }).st

/-! ## What takes the engine down -/

/-- RESET_N_ASSERT (R380, R381): a RESET_N reset, in every engine state with power. -/
def execResetNAssert (t : Nat) (s : State) : Host.Outcome State Fault Refusal :=
  let w := ((Work.start s).at t).modPwr fun p => { p with reset := true }
  .next (w.when (s.eng != .off) fun w => w.engineReset false 1).st

/-- RESET_N_RELEASE (R381): start-up can run. -/
def execResetNRelease (s : State) : Host.Outcome State Fault Refusal :=
  .next ((Work.start s).modPwr fun p => { p with reset := false }).st

/-- The vault write in progress completes; those that wait are abandoned (R101). -/
def Work.vaultFinish (s : Work s₀) : Work s₀ :=
  let s := match s.st.vaultWr with
    | some w => (s.vaultWrite (slotAddr w.unit w.slot) w.data).setVaultWr none
    | none => s
  s.setVaultQ []

/-- PWR_OK falls (R380): the engine is OFF at once and its outputs are low. -/
def Work.powerOff (s : Work s₀) : Work s₀ :=
  let s := s.portsIdle.setEng .off
  s.modPwr fun p => { p with ok := false, fw := false, armed := false, pcie := 0 }

/-- PWR_OK_FALL (R101, R380). -/
def execPwrOkFall (t : Nat) (s : State) : Host.Outcome State Fault Refusal :=
  .next ((Work.start s).at t).vaultFinish.powerOff.st

/-- BROWN_OUT (R421): as a fall of PWR_OK, but the slot write in progress may be lost: the slot complete, invalid, or
with its previous content valid. -/
def execBrownOut (t : Nat) (s : State) : Host.Outcome State Fault Refusal :=
  let w := (Work.start s).at t
  let w := match s.vaultWr with
    | none => w
    | some x =>
      let (w, r) := w.fresh
      match r.toNat % 3 with
      | 0 => w
      | 1 => w.setVaultWr none
      | _ => (w.vaultWrite (slotAddr x.unit x.slot + 4) x.old).setVaultWr none
  .next w.vaultFinish.powerOff.st

/-- THERMAL_TRIP (R398): sensor `k` has read 115 °C or more for 1 ms. -/
def execThermalTrip (t k : Nat) (s : State) : Host.Outcome State Fault Refusal :=
  let x := s.sensAt k
  let hot := x.hot.any (fun h => h + ms 1 ≤ max t s.t64) && !s.sensorBad k && !s.sensorAbsent k
  .next (((Work.start s).at t).when (hot && s.eng != .off && !s.pwr.trip) fun s =>
    let s := (s.flag F.MON_THERM_STAT_TRIPPED 0).vaultFinish.allLost.setEng .starting
    let s := (s.put F.PWR_ENG_READY 0 0).put F.PWR_ENG_PHASE 0 0
    s.modPwr fun p => { p with fault := true, trip := true, armed := false, stage := 0 }).st

end Sys2Proof.Machine
end

