-- ==== Sys2Proof/Machine/Spots.lean ====
section
/-!
DEFINITION. The address maps of chapter 17: which word lies at an offset of register space (Table REG-4), of a function's
BAR0 (Table REG-1) and of the internal map (Table REG-2).
-/

namespace Sys2Proof.Machine

/-- A word that an access reaches: a register; the instructions at an even address and the next of a weaver's program;
word `w` of an EIC bit vector (0 set enable, 1 clear enable, 2 set pend, 3 clear pend, 4 active, 5 level, 6 held); a
word of QUE_GPEND; eight bytes of an endpoint's slots; the head of the I2C notice FIFO; half an MSI-X entry; a word of a
PBA; a word of the keep; or nothing (RSV, or absent under R2). -/
inductive Cell where
  | reg (r : Reg) (i : Nat)
  | prog (w a : Nat)
  | intVec (k w : Nat)
  | gpend (k : Nat)
  | slots (e o : Nat)
  | fifo (o : Nat)
  | msix (v half : Nat)
  | pba (f w : Nat)
  | keep (k : Nat)
  | rsv
  deriving DecidableEq, Repr

/-- Where an offset of register space leads: the access target and the address in its unit, the power domain, and the
word. -/
structure Spot where
  tgt  : Nat
  off  : Nat
  pd   : Nat
  cell : Cell
  deriving DecidableEq, Repr

/-- The word of a block of registers at byte `o` of the block. -/
def blockCell (rs : List Reg) (o i : Nat) : Cell :=
  match rs[o / 8]? with
  | some r => .reg r i
  | none => .rsv

/-- The unit whose lane block holds offset `o` of a lane region: lanes from 0, relief lanes from 0x8000. -/
def unitOfBlock (o : Nat) : Option Nat :=
  if o < 0x8000 then some (o / 64) else if o < 0x8800 then some (512 + (o - 0x8000) / 64) else none

def freRegs : List Reg := [.FRE_INCFG, .FRE_THR, .FRE_RAMP, .FRE_STAT, .FRE_EVT, .FRE_IE, .FRE_CNT]
def capRegs : List Reg := [.CAP_LANECFG, .CAP_PICK, .CAP_BASE, .CAP_STAT, .CAP_CNT0, .CAP_CNT1, .CAP_CNT2]
def calRegs : List Reg :=
  [.CAL_LSTAT, .CAL_LQUAL, .CAL_LCNT, .CAL_LACT_T, .CAL_LACT_A, .CAL_LACT_M, .CAL_LBASE, .CAL_LEVT]
def calBlkRegs : List Reg := [.CAL_BCFG, .CAL_BSTAT, .CAL_BEVT, .CAL_BCNT]
def cntRegs : List Reg := [.CNT_CFG, .CNT_LEN, .CNT_COUNT, .CNT_STATCFG, .CNT_STAT, .CNT_EVT, .CNT_CNT, .CNT_IDX]
def pairRegs : List Reg := [.PAIR_CFG, .PAIR_WIN, .PAIR_OFS, .PAIR_STATCFG, .PAIR_STAT, .PAIR_EVT, .PAIR_CNT]
def axisRegs : List Reg :=
  [.AXI_CFG, .AXI_OFS, .AXI_GEN, .AXI_PRESET, .AXI_CTRL, .AXI_POS, .AXI_STEPT, .AXI_PERIOD, .AXI_EVT, .AXI_CNT0,
   .AXI_CNT1, .AXI_CNT2, .AXI_CNT3, .AXI_MARKDIR0, .AXI_MARKDIR1]
def weavRegs : List Reg :=
  [.WEA_WCFG, .WEA_WENTRY, .WEA_WCTRL, .WEA_WSTAT, .WEA_WFAULT, .WEA_WFTIME, .WEA_WEVT, .WEA_WCNT0, .WEA_WCNT1]
def fltRegs : List Reg :=
  [.FLT_CFG, .FLT_SEL, .FLT_XREF, .FLT_TAU, .FLT_TOFS, .FLT_IO, .FLT_CTRL, .FLT_STAT, .FLT_EVT, .FLT_CNT0, .FLT_CNT1,
   .FLT_CNT2]
def heRegs : List Reg :=
  [.HE_CFG, .FLT_SEL, .HE_KOFS, .HE_SNAP, .HE_CTRL, .HE_STAT, .HE_MIN, .HE_MAX, .HE_UNDER, .HE_OVER, .HE_EVT, .HE_CNT,
   .HE_SINCE]
def queRegs : List Reg := [.QD_CFG, .QD_RD, .QD_WR, .QD_MARK, .QD_THR, .QD_FLAGS, .QD_CNT0, .QD_CNT1]
def ringRegs : List Reg := [.RING_BASE, .RING_CFG, .RING_HEAD, .RING_TAIL, .RING_WB, .RING_STAT, .RING_CNT]
def coreRegs : List Reg :=
  [.CORE_VBASE, .CORE_THR, .CORE_RUN, .CORE_PRES, .CORE_EOI, .CORE_CTRL, .CORE_FAULTINFO, .CORE_CNT]
def muRegs : List Reg := [.MU_CFG, .MU_LIM, .MU_CTRL, .MU_STAT, .MU_MINMAX, .MU_EVT]
def monRegs : List Reg :=
  [.MON_ECC_CFG, .MON_ECC_CNT, .MON_CE_ADDR, .MON_UE_ADDR, .MON_THERM_CFG, .MON_THERM_STAT, .MON_EVT]
def accRegs : List Reg := [.ACC_WRANGE, .ACC_WCTRL, .ACC_RD_LO, .ACC_RD_HI, .ACC_WR_LO, .ACC_WR_HI]
def accGlobal : List Reg := [.ACC_VSTAT, .ACC_VCAP0, .ACC_VCAP1, .ACC_K3WIN, .ACC_BOOT]
def dlpRegs : List Reg := [.DLP_CFG, .DLP_STAT, .DLP_CNT]
def ptRegs : List Reg := [.PT_STAT, .PT_ID0, .PT_ID1, .PT_TIME, .PT_CNT]
def chanRegs : List Reg := [.ECH_DST, .ECH_IP, .ECH_CFG, .ECH_STAT]
def portRegs : List Reg := [.ETH_MAC, .ETH_CFG, .ETH_CNT]

/-- The identity and global status block as master `m` sees it (Table REG-5). -/
def idCell (m o : Nat) : Cell :=
  match o / 8 with
  | 0 => .reg .REG_ID 0
  | 1 => .reg .REG_FW 0
  | 2 => .reg .REG_IDENT0 0
  | 3 => .reg .REG_IDENT1 0
  | 4 => .reg .REG_CAPS 0
  | 5 => .reg .REG_GSTAT 0
  | 6 => .reg .REG_T64 0
  | 7 => if m < 19 || m = 93 then .reg .REG_BANK m else .rsv
  | 8 => if m < 16 then .reg .REG_SCRATCH m else .rsv
  | 9 => .reg .REG_WHOAMI m
  | 10 => .reg .REG_ACNT 0
  | _ => .rsv

/-- The mailbox region of endpoint `e` (Table OCI-15). -/
def mbxCell (e o : Nat) : Cell :=
  if o < 0x400 then .slots e (o / 8 * 8)
  else if o < 0x420 then .reg .MBX_STAT (4 * e + (o - 0x400) / 8)
  else if o < 0x440 then blockCell [.MBX_DB, .MBX_CFG, .MBX_NTAIL, .MBX_CNT] (o - 0x420) e
  else if e = 17 && 0x800 ≤ o && o < 0x840 then .fifo (o - 0x800)
  else .rsv

/-- A weaver's area (Table WEA-7): weaver `w` at offset `o`. -/
def weavCell (w o : Nat) : Cell :=
  if o < 0x40 then (if w < 32 then .reg .WEA_LMAP (16 * w + o / 8) else .reg .WEA_PIN (8 * (w - 32) + o / 8))
  else if o < 0x80 then (if w < 32 then .reg .WEA_LMAP (16 * w + o / 8) else .rsv)
  else if o < 0x100 then (if w < 32 then .reg .WEA_LDROP (16 * w + (o - 0x80) / 8) else .rsv)
  else if o < 0x108 then (if w < 32 then .reg .WEA_FPCFG w else .rsv)
  else if o < 0x150 then blockCell weavRegs (o - 0x108) w
  else if o < 0x158 then (if w < 32 then .rsv else .reg .WEA_PCFG w)
  else if o < 0x180 then .rsv
  else if o < 0x1C0 then .reg .WEA_TD (8 * w + (o - 0x180) / 8)
  else if o < 0x1000 then .rsv
  else if o < 0x2000 then .prog w ((o - 0x1000) / 8 * 2)
  else if o < 0x3000 then .reg .WEA_LOCAL (512 * w + (o - 0x2000) / 8)
  else .rsv

/-- The AXI region (Table AXI-6). -/
def axisCell (o : Nat) : Cell :=
  let pair := fun (a b : Reg) (x : Nat) => if x % 16 < 8 then Cell.reg a (x / 16) else .reg b (x / 16)
  if o < 0x10000 then blockCell axisRegs o 0
  else if o < 0x20000 then pair .STAKE_MATCH .STAKE_ACTION (o - 0x10000)
  else if o < 0x30000 then pair .STG_MATCH .STG_ACTION (o - 0x20000)
  else if o < 0x31000 then .reg .AXI_LG ((o - 0x30000) / 8)
  else if o < 0x32000 then .reg .STG_LG ((o - 0x31000) / 8)
  else if 0x40000 ≤ o && o < 0x41000 then .reg .AXI_QHIT ((o - 0x40000) / 8)
  else .rsv

/-- The FLT region (R225, R226). -/
def fltCell (o : Nat) : Cell :=
  if o < 0x8000 then
    match bankWord (o / 8 * 8) with
    | some (r, i) => .reg r i
    | none => if o % 0x200 < 0x100 then blockCell fltRegs (o % 0x200) (o / 0x200) else .rsv
  else if o < 0x10000 then .rsv
  else if o < 0x14000 then
    let h := (o - 0x10000) / 0x100
    let x := o % 0x100
    blockCell heRegs x (if x / 8 = 1 then 64 + h else h)
  else if 0x20000 ≤ o && o < 0x220000 then .reg .HE_BIN ((o - 0x20000) / 8)
  else .rsv

/-- The TIM region (R249). -/
def timCell (o : Nat) : Cell :=
  if o < 0x10 then blockCell [.TIM_TCFG, .TIM_TREFP] o 0
  else if o < 0x30 then .reg .TIM_REF ((o - 0x10) / 8)
  else if o < 0x90 then
    blockCell [.TIM_TSTAT, .TIM_THETA, .TIM_SREM, .TIM_STEP, .TIM_FOFS, .TIM_TEVT, .TIM_SYNC, .TIM_PRESET, .TIM_SYNCT0,
      .TIM_SYNCT1, .TIM_ORST, .TIM_TCNT] (o - 0x30) 0
  else if o < 0x100 then .rsv
  else if o < 0x120 then blockCell [.TIM_OCTRL, .TIM_OQ, .TIM_OSTAT, .TIM_OEVT] (o - 0x100) 0
  else if o < 0x200 then .rsv
  else if o < 0x300 then .reg (if o % 16 < 8 then .TIM_BAND0 else .TIM_BAND1) ((o - 0x200) / 16)
  else if 0x400 ≤ o && o < 0x600 then .reg (if o % 16 < 8 then .TIM_OCLK else .TIM_OCSTAT) ((o - 0x400) / 16)
  else if 0x600 ≤ o && o < 0x700 then .reg .TIM_LOOP ((o - 0x600) / 8)
  else .rsv

/-- The INT region (Table INT-3). -/
def intCell (o : Nat) : Cell :=
  if o < 0x2000 then .reg .INT_SRC (o / 8)
  else if o < 0x2380 then .intVec ((o - 0x2000) / 0x80) (o % 0x80 / 8)
  else if o < 0x2400 then .rsv
  else if o < 0x2C00 then .reg (if o % 16 < 8 then .INT_MOD_CFG else .INT_MOD_STAT) ((o - 0x2400) / 16)
  else if o < 0x3000 then .rsv
  else
    let c := (o - 0x3000) / 0x400
    let x := o % 0x400
    if x < 0x40 then blockCell coreRegs x c
    else if 0x200 ≤ x then .reg .CORE_STK (64 * c + (x - 0x200) / 8)
    else .rsv

/-- The LNK region (Table LNK-9). -/
def lnkCell (o : Nat) : Cell :=
  if o < 0x80 then .reg .LNK_GRP (o / 8)
  else if o < 0x100 then .reg .LNK_GSTAT ((o - 0x80) / 8)
  else if o < 0x180 then .reg .LNK_GEVT ((o - 0x100) / 8)
  else if o < 0x1000 then .rsv
  else if o < 0x1300 then blockCell portRegs (o % 0x40) ((o - 0x1000) / 0x40)
  else if o < 0x2000 then .rsv
  else if o < 0x3800 then blockCell chanRegs (o % 0x20) ((o - 0x2000) / 0x20)
  else if o < 0x4000 then .rsv
  else if o < 0x5000 then
    let l := (o - 0x4000) / 0x40
    if 16 ≤ l then blockCell dlpRegs (o % 0x40) l else .rsv
  else if 0x6000 ≤ o && o < 0x6800 then blockCell ptRegs (o % 0x40) ((o - 0x6000) / 0x40)
  else .rsv

/-- The PWR region (Table PWR-10). -/
def pwrCell (o : Nat) : Cell :=
  if o < 0x28 then blockCell [.PWR_ENG, .PWR_RST, .PWR_BRST, .PWR_WAKE, .PWR_ALARM] o 0
  else if o < 0x40 then .reg .PWR_DSTAT ((o - 0x28) / 8)
  else if o < 0x58 then .reg .PWR_DREQ ((o - 0x40) / 8)
  else if o < 0x60 then .reg .PWR_CSTAT 0
  else if o < 0x80 then .reg .PWR_HB ((o - 0x60) / 8)
  else if o < 0xA0 then blockCell [.PWR_HBW, .PWR_REC, .PWR_LRT, .PWR_EVT] (o - 0x80) 0
  else if 0x1000 ≤ o && o < 0x5000 then .keep ((o - 0x1000) / 8)
  else .rsv

/-- The MON region (Table MON-6). -/
def monCell (o : Nat) : Cell :=
  if o < 0x1000 then blockCell muRegs (o % 0x40) (o / 0x40)
  else if o < 0x1100 then blockCell monRegs (o - 0x1000) 0
  else if o < 0x1240 then .reg .MON_TEMP ((o - 0x1100) / 8)
  else .rsv

/-- The ACC region (R365). -/
def accCell (o : Nat) : Cell :=
  if o < 0x25000 then
    let t := o / 0x400
    if t = 18 || t = 19 then .rsv else blockCell accRegs (o % 0x40) (16 * t + o % 0x400 / 0x40)
  else if 0x30000 ≤ o then blockCell accGlobal (o - 0x30000) 0
  else .rsv

/-- The QUE region (R277). -/
def queCell (o : Nat) : Cell :=
  if o < 0x400000 then blockCell queRegs (o % 64) (o / 64)
  else if o < 0x402000 then .gpend ((o - 0x400000) / 8)
  else if o < 0x402018 then blockCell [.QUE_POOL, .QUE_CTRL, .QUE_STAT] (o - 0x402000) 0
  else .rsv

/-- A word of the ward of block `b`, or nothing where the ward is absent (R2). -/
def State.wardSpot (s : State) (tgt off b pd : Nat) (c : Cell) : Spot :=
  if s.blockAbsent b then ⟨tgt, off, 0, .rsv⟩ else ⟨tgt, off, pd, c⟩

/-- The domain that answers for a word of unit `u`: the ward's logic, and for CAL_LSTAT of a ward that is not in service
the plaza, where it reads FAILED (R12). -/
def State.unitPd (s : State) (c : Cell) (u : Nat) : Nat :=
  match c with
  | .reg .CAL_LSTAT _ => if s.wardFailed (wardOf u) then 85 else pdLogic (wardOf u)
  | _ => pdLogic (wardOf u)

/-- A word of a lane region's blocks. -/
def State.laneSpot (s : State) (tgt off : Nat) (rs : List Reg) : Spot :=
  match unitOfBlock off with
  | some u =>
    let c := blockCell rs (off % 64) u
    s.wardSpot tgt off (blockOf u) (s.unitPd c u) c
  | none => ⟨tgt, off, 85, .rsv⟩

/-- Where offset `a` of register space leads for master `m` (R409, R410); nothing outside every region. -/
def State.spot (s : State) (m a : Nat) : Option Spot :=
  let within := fun (base size : Nat) => decide (base ≤ a ∧ a < base + size)
  if within 0 0x10000 then some ⟨13, a, 85, idCell m a⟩
  else if within 0x10000 0x1000 then some ⟨255, a - 0x10000, 85, mbxCell 16 (a - 0x10000)⟩
  else if within 0x20000 0x1000 then
    let o := a - 0x20000
    let gone := 0x600 ≤ o && o < 0x700 && s.blockAbsent ((o - 0x600) / 8)
    some ⟨7, o, if 0x200 ≤ o && o < 0x300 then 89 else 85, if gone then .rsv else timCell o⟩
  else if within 0x30000 0x4000 then some ⟨9, a - 0x30000, 85, intCell (a - 0x30000)⟩
  else if within 0x40000 0x2000 then some ⟨12, a - 0x40000, 85, monCell (a - 0x40000)⟩
  else if within 0x50000 0x8000 then
    some ⟨10, a - 0x50000, 85, lnkCell (a - 0x50000)⟩
  else if within 0x60000 0x8000 then some ⟨11, a - 0x60000, 0, pwrCell (a - 0x60000)⟩
  else if within 0x100000 0x10000 then some (s.laneSpot 0 (a - 0x100000) freRegs)
  else if within 0x110000 0x10000 then
    let o := a - 0x110000
    let b := (o - 0xA000) / 64
    if 0xA000 ≤ o && o < 0xA800 then
      some (s.wardSpot 2 o b (pdLogic (b / 4)) (blockCell calBlkRegs (o % 64) b))
    else some (s.laneSpot 2 o calRegs)
  else if within 0x120000 0x20000 then
    let o := a - 0x120000
    if o < 0x8000 then some (s.laneSpot 3 o cntRegs)
    else if 0x10000 ≤ o && o < 0x12000 then
      let p := (o - 0x10000) / 64
      some (s.wardSpot 3 o (p / 16 * 4) (pdLogic (p / 16)) (blockCell pairRegs (o % 64) p))
    else if 0x12000 ≤ o && o < 0x13000 then some ⟨3, o, 85, blockCell pairRegs (o % 64) (128 + (o - 0x12000) / 64)⟩
    else some ⟨3, o, 85, .rsv⟩
  else if within 0x140000 0x40000 then some ⟨14, a - 0x140000, 85, accCell (a - 0x140000)⟩
  else if within 0x180000 0x80000 then
    let o := a - 0x180000
    let qhit := 0x40000 ≤ o && o < 0x41000
    some (if qhit && s.laneAbsent ((o - 0x40000) / 8) then ⟨4, o, 85, .rsv⟩ else ⟨4, o, 85, axisCell o⟩)
  else if within 0x200000 0x100000 then
    let o := a - 0x200000
    if 0x10000 ≤ o && o < 0x90000 then
      let n := (o - 0x10000) / 0x400
      some (s.wardSpot 1 o (n / 16) (pdCapture (n / 16)) (.reg .CAP_WALK (128 * n + o % 0x400 / 8)))
    else some (s.laneSpot 1 o capRegs)
  else if within 0x300000 0x100000 then
    let o := a - 0x300000
    if o < 0x80000 then
      let b := o / 0x4000
      some (s.wardSpot 5 o b (pdLogic (b / 4)) (weavCell b (o % 0x4000)))
    else if o < 0xA0000 then some ⟨5, o, 85, weavCell (32 + (o - 0x80000) / 0x4000) (o % 0x4000)⟩
    else some ⟨5, o, 85, .rsv⟩
  else if within 0x400000 0x400000 then some ⟨6, a - 0x400000, 87, fltCell (a - 0x400000)⟩
  else if within 0x800000 0x800000 then some ⟨8, a - 0x800000, 85, queCell (a - 0x800000)⟩
  else none

/-- Function `f`'s part of BAR0 below the windows (R402, R403): the identity block, the mailbox, the host face, the ring
descriptors. -/
def State.barCell (s : State) (f a : Nat) : Cell :=
  if a < 0x10000 then idCell f a
  else if a < 0x20000 then mbxCell f (a - 0x10000)
  else if a < 0x30000 then
    let o := a - 0x20000
    if o < 0x800 then .msix (128 * f + o / 16) (o % 16 / 8)
    else if o < 0x810 then .pba f ((o - 0x800) / 8)
    else if o < 0x1000 then .rsv
    else if o < 0x1400 then .reg .HV_MOD (128 * f + (o - 0x1000) / 8)
    else if o < 0x1800 then .reg .HV_STAT (128 * f + (o - 0x1400) / 8)
    else if o < 0x1808 then .reg .HV_FERR f
    else .rsv
  else if 0x100000 ≤ a && a < 0x110000 then
    let r := (a - 0x100000) / 64
    if s.ringMine f r then blockCell ringRegs (a % 64) r else .rsv
  else .rsv

/-- What an address leads to: a word of register space, with the offset's access target; a word of BAR0, which no
access table checks; a configuration word of a function (log entry 51); a store word; a vault offset; the fuse area; a
core's local memory; the boot ROM; register space outside every region; or nothing. -/
inductive Place where
  | spot (x : Spot)
  | bar (c : Cell) (k : Nat)
  | config (k : Nat)
  | store (a : Nat)
  | vault (o : Nat)
  | fuse (o : Nat)
  | core (c o : Nat)
  | rom
  | outside
  | unmapped
  deriving DecidableEq, Repr

/-- Register space as master `m` meets it. -/
def State.space (s : State) (m a : Nat) : Place :=
  match s.spot m a with
  | some x => .spot x
  | none => .outside

/-- Where address `a` leads for master `m`: a BAR0 offset for a host function (R402 to R404), a register-space offset
for I2C (R417), else an address of the internal map (R405, R406, R358). -/
def State.place (s : State) (m a : Nat) : Place :=
  if m < 16 then
    if a < 0x1000000 then .bar (s.barCell m a) (2 ^ 60 + a / 8)
    else if a < 0x2000000 then s.space m (a - 0x1000000)
    else if a < 0x3000000 then .store ((s.get F.REG_BANK_SWIN_BLK m * 2 ^ 21 + (a - 0x2000000) / 8) % 2 ^ 30)
    else if 2 ^ 32 ≤ a && a < 2 ^ 32 + 32 then .config ((a - 2 ^ 32) / 8)
    else .unmapped
  else if m = 92 then s.space m a
  else if m < 20 || m = 93 then
    let k := m != 19
    if a < 0x10000 then (if k then .rom else .unmapped)
    else if 0x40000 ≤ a && a < 0x80000 then (if m = 93 then .unmapped else .core (m - 16) (a - 0x40000))
    else if 0x100000 ≤ a && a < 0x200000 then
      (if k then .core ((a - 0x100000) / 0x40000) (a % 0x40000) else .unmapped)
    else if 0x10000000 ≤ a && a < 0x11000000 then s.space m (a - 0x10000000)
    else if 0x20000000 ≤ a && a < 0x22000000 then .vault (a - 0x20000000)
    else if 0x22000000 ≤ a && a < 0x22001000 then .fuse (a - 0x22000000)
    else if 0x40000000 ≤ a && a < 0x41000000 then
      (if k then .unmapped else .store (s.get F.ACC_K3WIN_K3_BLK 0 * 2 ^ 21 + (a - 0x40000000) / 8))
    else if 0x80000000 ≤ a && a < 0xC0000000 then
      (if k then .store (s.get F.REG_BANK_CPAGE m * 2 ^ 27 + (a - 0x80000000) / 8) else .unmapped)
    else .unmapped
  else .unmapped

/-- What becomes of an access at a spot of register space (R352, R355, R410, R411): 0 it reaches the word, 1 the domain
is not ON, 2 it is denied, 3 nothing answers. -/
def State.reach (s : State) (m : Nat) (x : Spot) (wr : Bool) : Nat :=
  if !s.domOn x.pd then 1
  else if x.tgt = 255 then (if 16 ≤ m && m < 20 then 0 else 3)
  else if !s.grants m x.tgt x.off wr then 2
  else match x.cell with
    | .keep _ => if 16 ≤ m && m < 19 then 0 else 2
    | _ => 0

end Sys2Proof.Machine
end

