-- ==== Sys2Proof/Machine/Regs.lean ====
section
/-!
DEFINITION. What a read of a word returns and clears, and what a write of a word does: the field maps' access codes
(R5, R7), and for the words whose write starts something the operation of the chapter that owns them.
-/

namespace Sys2Proof.Machine

variable {s₀ : State}

/-! ## Words that are computed -/

/-- A bit vector of sources 64 * w to 64 * w + 63. -/
def vector64 (w : Nat) (p : Nat → Bool) : Word :=
  w64 (((List.range 64).filter fun i => p (64 * w + i)).foldl (fun n i => n + 2 ^ i) 0)

/-- Word `w` of EIC vector `k` (Table INT-3). -/
def State.vecWord (s : State) (k w : Nat) : Word :=
  vector64 w fun i => match k with
    | 0 | 1 => (s.srcAt i).en
    | 2 | 3 => s.pendOf i
    | 4 => (s.srcAt i).active
    | 5 => s.input i
    | _ => s.heldNow i

/-- REG_GSTAT (Table REG-5). -/
def State.gstat (s : State) : Word :=
  let boot := s.on F.REG_GSTAT_BOOT_FAIL 0
  let halt := s.on F.PWR_REC_LR_HALT 0
  w64 (s.get F.PWR_ENG_READY 0 + 2 * s.get F.PWR_ENG_RECOVERING 0 + 4 * b2n boot + 8 * b2n halt +
    16 * b2n (s.pwr.fault || boot || halt) + 32 * s.tpll + 256 * s.opll + 2048 * s.get F.ACC_BOOT_DEBUG_UNLOCKED 0)

/-- Whether clock domain `n` runs (Table PWR-3): its power domain is ON and its source runs. Whether JTAG_TCK toggles is
the environment's (log entry 3). -/
def State.clockRuns (s : State) (n : Nat) : Bool :=
  let w := n / 4
  if n < 32 then
    match n % 4 with
    | 0 => [0, 1, 2, 3].any fun i => s.domOn (pdCapture (4 * w + i))
    | 3 => s.domOn (pdEngines w)
    | _ => s.domOn (pdLogic w)
  else match n with
    | 32 => [81, 82, 83, 84].any s.domOn
    | 33 => s.domOn 85
    | 34 => s.domOn 86
    | 35 => s.domOn 94
    | 36 => [90, 91, 92, 93].any s.domOn
    | 37 | 38 | 39 | 40 => s.domOn (90 + (n - 37))
    | 41 | 45 => true
    | 42 => s.domOn 88 && s.refInUse.isSome
    | 43 => s.domOn 89 && s.opll != 0
    | 44 => s.domOn 85 && s.axisState != 0
    | 46 => s.domOn 95
    | _ => (Config.freeWord s.freeCnt).toNat % 2 == 1

/-- PWR_DSTAT word `i`: the domains of absent wards read OFF (R2). -/
def State.dstat (s : State) (i : Nat) : Word :=
  w64 (((List.range 32).map fun d => if s.domAbsent (32 * i + d) then 0 else s.dom (32 * i + d) * 4 ^ d).foldl (· + ·) 0)

/-- CORE_RUN of core `c` (Table INT-5). -/
def State.coreRun (s : State) (c : Nat) : Word :=
  let x := s.coreAt c
  w64 (s.runOf c + 64 * x.stack.length + 4096 * b2n (s.asleep c) + 8192 * s.get F.CORE_RUN_FROZEN c +
    16384 * b2n x.mie + 32768 * b2n x.win.isSome)

/-- CORE_STK `i` of core `c`: entry 1 is the oldest. -/
def State.coreStk (s : State) (c i : Nat) : Word :=
  match if i = 0 then none else (s.coreAt c).stack.reverse[i - 1]? with
  | some (k, p) => w64 (k + 1024 * p + 65536)
  | none => 0

/-- The configuration words of relief unit `512 + b` show what its front end and its capture run (R46, R76), and EN_EFF
whether its IN path is powered (R47). In loopback the words are those of the loopback lane (log entry 34). -/
def State.reliefWord (s : State) (r : Reg) (u : Nat) : Word :=
  let lane := s.laneOfUnit u
  match r, lane with
  | .FRE_INCFG, some n => (s.freAt n).cfg &&& 0xFFF ||| (s.reg .FRE_INCFG n &&& 0x3000)
  | .FRE_INCFG, none => s.feCfg u
  | .FRE_THR, some n => (s.freAt n).thr
  | .FRE_RAMP, some n => s.reg .FRE_RAMP n
  | .FRE_IE, some n => s.reg .FRE_IE n
  | .FRE_STAT, lane => F.FRE_STAT_EN_EFF.put (s.reg r u) (b2n (F.FRE_INCFG_EN.of (s.feCfg u) == 1 &&
      s.domOn (pdFront (blockOf u)) && lane.all fun n => (s.freAt n).sw.isNone && !s.unsettled n u))
  | .CAP_LANECFG, some n => (s.capAt n).cfg
  | .CAP_PICK, some n => (s.capAt n).pick
  | .CAP_BASE, some n => w64 ((s.capAt n).base % 2 ^ 14 + s.get F.CAP_BASE_BASE_EFF n * 2 ^ 32)
  | .CAP_STAT, some n => s.reg .CAP_STAT n
  | .CAP_CNT0, _ | .CAP_CNT1, _ | .CAP_CNT2, _ => 0
  | r, _ => s.reg r u

/-- What register `r` of index `i` reads as for master `m`. -/
def State.regWord (s : State) (m : Nat) (r : Reg) (i : Nat) : Word :=
  match r with
  | .REG_ID => w64 (s.device + 0xC1 * 2 ^ 16 + 2 ^ 24)
  | .REG_IDENT0 => w64 (unle (s.vaultBytes 0x1FF0000 8))
  | .REG_IDENT1 => w64 (unle (s.vaultBytes 0x1FF0008 8))
  | .REG_CAPS =>
    w64 ((if s.small then 0x0F + 256 * 256 else 0xFF + 512 * 256) + 2 ^ 24 * s.get F.ACC_BOOT_SECURE_EN 0 +
      2 ^ 25 * s.get F.REG_CAPS_WARD_FAIL 0)
  | .REG_GSTAT => s.gstat
  | .REG_T64 => w64 s.t64
  | .REG_WHOAMI => w64 m
  | .CAL_LSTAT => F.CAL_LSTAT_STATE.put (s.reg r i) (s.calState i)
  | .PWR_DSTAT => s.dstat i
  | .PWR_CSTAT => w64 (((List.range 48).filter s.clockRuns).foldl (fun n i => n + 2 ^ i) 0)
  | .PWR_HB => w64 (s.beatAge i)
  | .PWR_HBW => w64 (s.beatAge 4)
  | .MBX_STAT => w64 ((s.slotAt i).st + 65536 * (s.slotAt i).tag)
  | .MBX_NTAIL => w64 (s.epAt i).ntail
  | .TIM_OCSTAT => s.ocstat i
  | .QD_FLAGS => s.qdFlags i
  | .CORE_RUN => s.coreRun i
  | .CORE_STK => s.coreStk (i / 64) (i % 64)
  | .FRE_INCFG | .FRE_THR | .FRE_RAMP | .FRE_STAT | .FRE_IE | .CAP_LANECFG | .CAP_PICK | .CAP_BASE | .CAP_STAT | .CAP_CNT0
  | .CAP_CNT1 | .CAP_CNT2 => if i < 512 then s.reg r i else s.reliefWord r i
  | r => s.reg r i

/-- What a word reads as for master `m`. -/
def State.word (s : State) (m : Nat) : Cell → Word
  | .reg r i => s.regWord m r i
  | .prog w a =>
    w64 ((s.reg .WEA_PROG (1024 * w + a)).toNat % 2 ^ 32 + (s.reg .WEA_PROG (1024 * w + a + 1)).toNat % 2 ^ 32 * 2 ^ 32)
  | .intVec k w => s.vecWord k w
  | .gpend k => vector64 k fun q => s.raised .QD_FLAGS q 4 16 7
  | .slots e o => w64 (field (s.slotData e (o / 256)) (o % 256) 8)
  | .fifo o => w64 (field ((s.epAt 17).fifo.headD []) o 8)
  | .msix v h => let x := s.vecAt v; if h = 0 then w64 x.addr else w64 (x.data % 2 ^ 32 + 2 ^ 32 * b2n x.mask)
  | .pba f w => vector64 w fun l => (s.vecAt (128 * f + l)).pend
  | .keep k => s.keepAt k
  | .rsv => 0

/-- The bits of a word that a read clears. -/
def Cell.rc : Cell → Word
  | .reg r _ => w64 r.desc.rc
  | _ => 0

/-- The bits of a word that a write stores (RW). -/
def Cell.rw : Cell → Word
  | .reg .MBX_NTAIL _ => 0x1FFFF
  | .reg r _ => w64 r.desc.rw
  | .prog .. | .slots .. | .msix .. | .keep _ => BitVec.allOnes 64
  | _ => 0

/-- A read of a word (R7, R412): its RC fields within `clr` are cleared. -/
def Work.readCell (s : Work s₀) (m : Nat) (c : Cell) (clr : Word) : Work s₀ × Word :=
  let v := s.st.word m c
  match c with
  | .reg .PWR_CSTAT _ => (s.setFreeCnt (s.st.freeCnt + 1), v)
  | .reg r i => (if r.desc.rc = 0 then s else s.wreg r i (s.reg r i &&& ~~~(c.rc &&& clr)), v)
  | _ => (s, v)

/-! ## Writes -/

/-- A word after a plain write of `v` (Table SCO-3). -/
def RegDesc.write (d : RegDesc) (old v : Word) : Word :=
  (((old &&& ~~~(w64 d.rw)) ||| (v &&& w64 d.rw)) &&& ~~~(v &&& w64 d.w1c)) ||| (v &&& w64 d.w1s)

/-- A write that does what the field map says and no more. -/
def Work.plain (s : Work s₀) (r : Reg) (i : Nat) (v : Word) : Work s₀ := s.wreg r i (r.desc.write (s.reg r i) v)

/-- A write of CNT_CFG, CNT_LEN or CNT_COUNT of lane `n`: in force from the first coarse boundary (R115). -/
def Work.wrCnt (s : Work s₀) (n : Nat) (r : Reg) (v : Word) : Work s₀ :=
  let s := s.plain r n v
  let b := s.st.coarse s.now
  s.modCnt n fun c => { c with pendAt := some (c.pendAt.getD b) }

/-- A write of PAIR_CFG, PAIR_WIN or PAIR_OFS of unit `p` (R439). -/
def Work.wrPair (s : Work s₀) (p : Nat) (r : Reg) (v : Word) : Work s₀ :=
  let s := s.plain r p v
  let e : PairCfg := ⟨s.st.coarse s.now, s.reg .PAIR_CFG p, s.reg .PAIR_WIN p, s.reg .PAIR_OFS p, []⟩
  s.modPair p fun x => { x with pend := x.pend.filter (·.at_ != e.at_) ++ [e] }

/-- A write of a walk-table word: those of the active bank keep theirs (R66). -/
def Work.wrWalk (s : Work s₀) (i : Nat) (v : Word) : Work s₀ :=
  if F.CAP_LANECFG_WALK_BANK.of (s.cap (i / 128)).cfg = i % 128 / 64 then s else s.plain .CAP_WALK i v

/-- A write of HE_CFG: an engine that is disabled leaves the writer sets (R260). -/
def Work.wrHe (s : Work s₀) (h : Nat) (v : Word) : Work s₀ :=
  let was := s.on F.HE_CFG_EN h
  let s := s.wrHeCfg h v
  s.when (was && !s.on F.HE_CFG_EN h) fun s => s.dropWriter (0xC0 + h)

/-- A write of TIM_OCTRL (R241). -/
def Work.wrOctrl (s : Work s₀) (v : Word) : Work s₀ :=
  let op := F.TIM_OCTRL_OP.of v
  s.when (op != 0) fun s => s.opllOp s.now op (F.TIM_OCTRL_ENTRY.of v)

/-- A write of a mask word of window `i`: bits 16 to 18 stay 1, and the write masks of ACC and VAULT hold no other bit
but bit 0 (R353). -/
def Work.wrMask (s : Work s₀) (r : Reg) (i : Nat) (v : Word) : Work s₀ :=
  let few := i / 16 == 14 || i / 16 == 16
  match r with
  | .ACC_WR_LO => s.wreg r i ((if few then v &&& 1 else v) ||| 0x70000)
  | .ACC_WR_HI => s.wreg r i (if few then 0 else v &&& w64 r.desc.rw)
  | .ACC_RD_LO => s.wreg r i (v ||| 0x70000)
  | _ => s.plain r i v

/-- Master `m` writes `v` to register `r` of index `i`. -/
def Work.wrReg (s : Work s₀) (m : Nat) (r : Reg) (i : Nat) (v : Word) : Work s₀ :=
  match r with
  | .CAL_BCFG => (s.plain r i v).when (s.st.modelled i && !(s.plain r i v).st.modelled i) fun s => s.modelOff i
  | .FRE_INCFG => if i < 512 then s.wrIncfg i v else s
  | .FRE_THR => if i < 512 then s.wrThr i v else s
  | .FRE_RAMP | .FRE_EVT | .FRE_IE => if i < 512 then s.plain r i v else s
  | .CAP_LANECFG | .CAP_PICK | .CAP_BASE => if i < 512 then s.wrCap i r v else s
  | .CAP_WALK => s.wrWalk i v
  | .CNT_CFG | .CNT_LEN | .CNT_COUNT => s.wrCnt i r v
  | .PAIR_CFG | .PAIR_WIN | .PAIR_OFS => s.wrPair i r v
  | .AXI_CFG | .AXI_OFS | .AXI_GEN => s.wrAxisCfg r v
  | .AXI_CTRL => s.wrAxisCtrl v
  | .AXI_MARKDIR0 | .AXI_MARKDIR1 => s.wrMarkDir r v
  | .STAKE_MATCH => s.wrStakeMatch i v
  | .STAKE_ACTION => s.wrStakeAction i v
  | .WEA_WCTRL => s.wrWctrl i v
  | .WEA_TD => s.weavWord (i / 8) true i (v &&& w64 r.desc.rw)
  | .WEA_LOCAL => s.weavWord (i / 512) false i v
  | .WEA_WCFG => s.plain r i (if i < 32 then v else v &&& ~~~0xFFFF)
  | .WEA_WENTRY => s.plain r i (if i < 32 then F.WEA_WENTRY_BEND_PC.put v 0 else v)
  | .FLT_CFG => s.wrFltCfg i v
  | .FLT_CTRL => s.wrFltCtrl i v
  | .FLT_SEL => if i < 64 then s.plain r i v else (s.plain r i v).heCheck (i - 64)
  | .FLT_SCFG | .FLT_GAIN | .FLT_OFFSET => s.wrBank r i v
  | .HE_CFG => s.wrHe i v
  | .HE_CTRL => s.wrHeCtrl i v
  | .HE_BIN => s
  | .TIM_TCFG | .TIM_TREFP | .TIM_REF => s.wrTimCfg r i v
  | .TIM_SYNC => s.wrTimSync v
  | .TIM_OCTRL => s.wrOctrl v
  | .TIM_BAND0 => s.wrBand i v
  | .TIM_OCLK => s.wrOclk i v
  | .TIM_LOOP => s.wrLoop i v
  | .INT_SRC => s.wrIntSrc i v
  | .CORE_EOI => s.complete i (F.CORE_EOI_SOURCE.of v)
  | .CORE_CTRL => s.when (F.CORE_CTRL_STACK_RESET.of v == 1) fun s => s.stackReset i
  | .MU_CFG => s.wrMuCfg i v
  | .MU_CTRL => s.when (F.MU_CTRL_RESTART.of v == 1) fun s => s.muRestart i
  | .LNK_GRP => s.wrGrp i v
  | .DLP_CFG => s.wrDlpCfg i v
  | .ECH_CFG => s.wrEchCfg i v
  | .PWR_RST => s.wrRst v
  | .PWR_BRST => s.wrBrst v
  | .PWR_DREQ => s.wrDreq i v
  | .PWR_HB => s.wrBeat m i v
  | .PWR_HBW => s.wrBeat m 4 v
  | .ACC_RD_LO | .ACC_RD_HI | .ACC_WR_LO | .ACC_WR_HI => s.wrMask r i v
  | .ACC_K3WIN => s.when (16 ≤ m && m < 19) fun s => s.plain r i v
  | .QD_CFG => s.wrQdCfg i v
  | .QD_RD => s.wrQdRd m i (F.QD_RD_RD.of v)
  | .QD_MARK => s.wrQdMark i v
  | .QUE_POOL => s.wrQuePool v
  | .RING_CFG => s.when (m == 0 || F.RING_CFG_FUNC.of v == s.get F.RING_CFG_FUNC i) fun s => s.wrRingCfg i v
  | .RING_TAIL => s.ringTail i v
  | .MBX_DB => s.wrMbxDb i v
  | .MBX_NTAIL => s.wrNtail i v.toNat
  | .REG_BANK => s.plain r i (if i < 16 then v else v &&& 7)
  | _ => s.plain r i v

/-- A write of half an MSI-X entry (R294, R296): the vector unmasked sends what it holds pending. -/
def Work.wrMsix (s : Work s₀) (v half : Nat) (x : Word) : Work s₀ :=
  if half = 0 then s.modVec v fun c => { c with addr := x.toNat }
  else
    let s := s.modVec v fun c => { c with data := x.toNat % 2 ^ 32 }
    if bit x.toNat 32 then s.modVec v fun c => { c with mask := true }
    else s.when (s.vec v).mask fun s => s.unmask (v / 128) (v % 128)

/-- A write of word `w` of EIC vector `k` (R280, R281). -/
def Work.wrVec (s : Work s₀) (k w : Nat) (v : Word) : Work s₀ :=
  s.each (srcBits w v) fun s i => match k with
    | 0 => s.setEn i
    | 1 => s.clrEn i
    | 2 => s.setPend i
    | 3 => s.clrPend i
    | _ => s

/-- Master `m` writes `v` to a word. -/
def Work.writeCell (s : Work s₀) (m : Nat) (c : Cell) (v : Word) : Work s₀ :=
  match c with
  | .reg r i => s.wrReg m r i v
  | .prog w a =>
    if s.on F.WEA_WSTAT_RUNNING w then s
    else (s.wreg .WEA_PROG (1024 * w + a) (v &&& 0xFFFFFFFF)).wreg .WEA_PROG (1024 * w + a + 1) (v >>> 32)
  | .intVec k w => s.wrVec k w v
  | .slots e o => s.slotWrite e (o / 256) (o % 256) (le 8 v.toNat)
  | .msix x h => s.wrMsix x h v
  | .keep k => s.setKeep k v
  | .gpend _ | .fifo _ | .pba .. | .rsv => s

end Sys2Proof.Machine
end

