-- ==== Sys2Proof/Machine/Bus.lean ====
section
/-!
DEFINITION. Accesses by address (chapter 17): reads and writes of words and of halves of words by the host functions, the
cores and the debug port, and the I2C window with its indirect register access.
-/

namespace Sys2Proof.Machine

variable {s₀ : State}

/-! ## Whole words -/

/-- Whether a vault offset takes no direct write: an F slot, the preferred image's slot, the identity area (R408). -/
def State.vaultFixed (s : State) (o : Nat) : Bool :=
  let img := imageBase s.preferred
  (decide (o < 0x1980000) && o / 0x4000 % 3 == 0) || decide (img ≤ o ∧ o < img + 0x300000) || decide (0x1FF0000 ≤ o)

/-- A direct write of the vault word at offset `o` (R408). A slot that firmware is writing keeps the word when its own
write completes, which breaks its CHECK. -/
def Work.vaultWord (s : Work s₀) (o : Nat) (v : Word) : Work s₀ :=
  if s.st.vaultFixed o then s
  else
    let bs := le 8 v.toNat
    let s := s.vaultWrite o bs
    match s.st.vaultWr with
    | some w =>
      let b := slotAddr w.unit w.slot
      if b ≤ o && o < b + w.data.length then
        let d := w.data.take (o - b) ++ bs ++ w.data.drop (o - b + 8)
        s.setVaultWr (some { w with data := d.take w.data.length })
      else s
    | none => s

/-- Eight bytes of a core's local memory. -/
def State.coreWord (s : State) (c o : Nat) : Word :=
  w64 (unle ((List.range 8).map fun i => s.guestAt (coreMem c + (o + i) % 2 ^ 18)))

/-- An access to a target that one access table covers as a whole. -/
def Work.gate (s : Work s₀) (m tgt a pd : Nat) (wr : Bool) : Work s₀ × Bool :=
  if !s.st.domOn pd then (s.count F.REG_ACNT_OFFDOM_CNT 0, false)
  else if s.st.grants m tgt a wr then (s, true)
  else ((s.violation m tgt a wr).trap m, false)

/-- Whether accesses of master `m` reach the engine: the host's through PCI Express. Those of a locked debug port do,
and are denied (R362). -/
def State.onBus (s : State) (m : Nat) : Bool := if m < 16 then s.domOn 94 else s.eng != .off

/-- Whether master `m` is the debug port, locked: it reaches no memory that no access table covers (R362). -/
def State.shutOut (s : State) (m : Nat) : Bool := m == 93 && s.jtagLocked

/-- Whether an access of a host function at `a` that is not naturally aligned to `n` bytes lies in the function's
mailbox slots, where any byte enables are supported (R326). -/
def inSlots (a n : Nat) : Bool := 0x10000 ≤ a && a + n ≤ 0x10400

/-- An access of a host function that is not naturally aligned: bytes of mailbox slots are written, anything else is
discarded (R326). -/
def Work.oddWrite (s : Work s₀) (m a n : Nat) (v : Word) : Work s₀ :=
  if !inSlots a n then s
  else if !s.st.domOn 85 then s.count F.REG_ACNT_OFFDOM_CNT 0
  else
    (s.touch m (2 ^ 60 + a / 8)).each (le n v.toNat).zipIdx fun s (b, i) =>
      let o := a - 0x10000 + i
      s.slotWrite m (o / 256) (o % 256) [b]

/-- What a host function reads where its access is not naturally aligned (R326). -/
def Work.oddRead (s : Work s₀) (m a n : Nat) : Work s₀ × Option Word :=
  if !inSlots a n then (s, none)
  else if !s.st.domOn 85 then (s.count F.REG_ACNT_OFFDOM_CNT 0, none)
  else
    let bs := (List.range n).map fun i =>
      let o := a - 0x10000 + i
      ((s.st.slotData m (o / 256))[o % 256]?).getD 0
    (s.touch m (2 ^ 60 + a / 8), some (w64 (unle bs)))

/-- Master `m` reads the word at address `a`, clearing its RC fields within `clr`; none where the access has no effect
and returns 0 (R355, R411). -/
def Work.readAt (s : Work s₀) (m a : Nat) (clr : Word) : Work s₀ × Option Word :=
  let got := fun (p : Work s₀ × Word) => (p.1, some p.2)
  if !s.st.onBus m then (s, none)
  else if m < 16 && a % 8 != 0 then s.oddRead m a 8
  else match s.st.place m a with
    | .spot x =>
      let s := s.touch m (wordKey x.tgt x.off)
      match s.st.reach m x false with
      | 0 => got (s.readCell m x.cell clr)
      | 1 => (s.count F.REG_ACNT_OFFDOM_CNT 0, none)
      | 2 => ((s.violation m x.tgt x.off false).trap m, none)
      | _ => (s, none)
    | .bar c k =>
      let s := s.touch m k
      if s.st.domOn 85 then got (s.readCell m c clr) else (s.count F.REG_ACNT_OFFDOM_CNT 0, none)
    | .store w =>
      let (s, ok) := s.gate m 15 w 86 false
      let bad := s.st.ue.contains w
      if ok then
        let (s, v) := s.storeRead w
        (s.when bad fun s => s.trap m, some v)
      else (s, none)
    | .vault o =>
      let (s, ok) := s.gate m 16 o 95 false
      (s, if ok then some (w64 (unle (s.st.vaultBytes (o / 8 * 8) 8))) else none)
    | .fuse o =>
      let (s, ok) := s.gate m 17 o 0 false
      if ok then got s.fresh else (s, none)
    | .core c o =>
      if s.st.shutOut m then (s, none)
      else if s.st.domOn (81 + c) then (s, some (s.st.coreWord c (o / 8 * 8)))
      else (s.count F.REG_ACNT_OFFDOM_CNT 0, none)
    | .rom => if s.st.shutOut m then (s, none) else got s.fresh
    | .config k => (s, some (s.st.configWord m k))
    | .outside => (s, none)
    | .unmapped => (s.trap m, none)

/-- Master `m` writes the word at address `a`. -/
def Work.writeAt (s : Work s₀) (m a : Nat) (v : Word) : Work s₀ :=
  if !s.st.onBus m then s
  else if m < 16 && a % 8 != 0 then s.oddWrite m a 8 v
  else match s.st.place m a with
    | .spot x =>
      let s := s.touch m (wordKey x.tgt x.off)
      match s.st.reach m x true with
      | 0 => s.writeCell m x.cell v
      | 1 => s.count F.REG_ACNT_OFFDOM_CNT 0
      | 2 => (s.violation m x.tgt x.off true).trap m
      | _ => s
    | .bar c k =>
      let s := s.touch m k
      if s.st.domOn 85 then s.writeCell m c v else s.count F.REG_ACNT_OFFDOM_CNT 0
    | .store w =>
      let (s, ok) := s.gate m 15 w 86 true
      if ok then s.storeWrite w v else s
    | .vault o =>
      let (s, ok) := s.gate m 16 o 95 true
      if ok then s.vaultWord (o / 8 * 8) v else s
    | .fuse o => (s.gate m 17 o 0 true).1
    | .core c o =>
      if s.st.shutOut m then s
      else if s.st.domOn (81 + c) then s.coreWrite c (o / 8 * 8) (le 8 v.toNat)
      else s.count F.REG_ACNT_OFFDOM_CNT 0
    | .config k => s.configWrite m k v
    | .rom | .outside => s
    | .unmapped => s.trap m

/-- What a master's last read returned. -/
def Work.answer (s : Work s₀) (m : Nat) (v : Word) : Work s₀ := s.setShad m { s.shad m with data := v }

/-- REGISTER_WRITE (R5): master `m` writes the whole word at address `a`. -/
def execRegisterWrite (t m a : Nat) (v : Word) (s : State) : Host.Outcome State Fault Refusal :=
  .next (((Work.start s).at t).writeAt m a v).st

/-- RC_FIELD_READ (R7): master `m` reads the whole word at address `a`. -/
def execRcFieldRead (t m a : Nat) (s : State) : Host.Outcome State Fault Refusal :=
  let (w, v) := ((Work.start s).at t).readAt m a (BitVec.allOnes 64)
  .next (w.answer m (v.getD 0)).st

/-- VAULT_WORD_WRITE (R408): a direct write to the vault. -/
def execVaultWordWrite (t m a : Nat) (v : Word) (s : State) : Host.Outcome State Fault Refusal :=
  .next (((Work.start s).at t).writeAt m a v).st

/-! ## Halves of words (R412 to R414) -/

/-- The number by which a shadow names the word at a place, where the word has one: registers and the vault. -/
def Place.key : Place → Option Nat
  | .spot x => some (wordKey x.tgt x.off)
  | .bar _ k => some k
  | .vault o => some (2 ^ 61 + o / 8)
  | _ => none

/-- The lower 32 bits of a word. -/
def lowHalf (v : Word) : Word := v &&& 0xFFFFFFFF

/-- A read of the lower half: the upper half of the same instant is latched. -/
def Work.lowRead (s : Work s₀) (m a : Nat) : Work s₀ :=
  if m < 16 && a % 4 != 0 then
    let (s, v) := s.oddRead m a 4
    s.answer m (v.getD 0)
  else
  let a := a / 8 * 8
  let p := s.st.place m a
  let (s, v) := s.readAt m a (BitVec.allOnes 64)
  let v := v.getD 0
  let s := s.answer m (lowHalf v)
  match p with
  | .spot _ | .bar .. => s.setShad m { s.shad m with rd := p.key.map fun k => (k, (v >>> 32).toNat) }
  | _ => s

/-- A read of the upper half: the latched one directly after the lower half's, else the present one. -/
def Work.highRead (s : Work s₀) (m a : Nat) : Work s₀ :=
  if m < 16 && a % 4 != 0 then
    let (s, v) := s.oddRead m a 4
    s.answer m (v.getD 0)
  else
  let a := a / 8 * 8
  let k := (s.st.place m a).key
  match k, (s.shad m).rd with
  | some k, some (j, hi) =>
    if k = j then
      let (s, v) := s.readAt m a 0
      s.answer m (if v.isSome then w64 hi else 0)
    else
      let (s, v) := s.readAt m a 0xFFFFFFFF00000000
      s.answer m (v.getD 0 >>> 32)
  | _, _ =>
    let (s, v) := s.readAt m a 0xFFFFFFFF00000000
    s.answer m (v.getD 0 >>> 32)

/-- A write of half `hi` of a word of memory takes effect at once (R414), and so does one of a configuration word. -/
def Work.halfWrite (s : Work s₀) (m a : Nat) (hi : Bool) (v : Word) : Work s₀ :=
  match s.st.place m a with
  | .store w =>
    let (s, ok) := s.gate m 15 w 86 true
    if ok then s.storeWrite w ((⟨.FRE_INCFG, if hi then 32 else 0, 32⟩ : Fld).put (s.store w) v.toNat) else s
  | .core c o =>
    if s.st.shutOut m then s
    else if s.st.domOn (81 + c) then s.coreWrite c (o / 8 * 8 + if hi then 4 else 0) (le 4 v.toNat)
    else s.count F.REG_ACNT_OFFDOM_CNT 0
  | .config k => if hi then s else s.configWrite m k (lowHalf v)
  | .bar (.slots e o) k =>
    if s.st.domOn 85 then (s.touch m k).slotWrite e (o / 256) (o % 256 + if hi then 4 else 0) (le 4 v.toNat)
    else s.count F.REG_ACNT_OFFDOM_CNT 0
  | .spot ⟨_, _, _, .slots e o⟩ =>
    s.when (16 ≤ m && m < 20 && s.st.domOn 85) fun s =>
      s.slotWrite e (o / 256) (o % 256 + if hi then 4 else 0) (le 4 v.toNat)
  | _ => s

/-- Whether the word at a place is memory, whose halves are written at once: the store, local memories, the bytes of
mailbox slots, and configuration words. -/
def Place.plainMem : Place → Bool
  | .store _ | .core .. | .bar (.slots ..) _ | .config _ => true
  | .spot x => match x.cell with | .slots .. => true | _ => false
  | _ => false

/-- A write of the lower half: staged, with no effect yet (R413). -/
def Work.lowWrite (s : Work s₀) (m a : Nat) (v : Word) : Work s₀ :=
  let odd := m < 16 && a % 4 != 0
  let a' := a
  let a := a / 8 * 8
  let p := s.st.place m a
  if !s.st.onBus m then s
  else if odd then s.oddWrite m a' 4 v
  else if p.plainMem then s.halfWrite m a false v
  else match p.key with
    | some k => s.setShad m { s.shad m with rd := none, wr := some (k, v.toNat % 2 ^ 32) }
    | none => s.when (p == .unmapped) fun s => s.trap m

/-- The lower half that a commit without a staged one writes: RW fields keep their present values, all else is 0. -/
def State.lowPresent (s : State) (m : Nat) : Place → Word
  | .spot x => lowHalf (s.word m x.cell &&& x.cell.rw)
  | .bar c _ => lowHalf (s.word m c &&& c.rw)
  | .vault o => lowHalf (w64 (unle (s.vaultBytes (o / 8 * 8) 8)))
  | _ => 0

/-- A write of the upper half commits the whole word (R413). -/
def Work.highWrite (s : Work s₀) (m a : Nat) (v : Word) : Work s₀ :=
  let odd := m < 16 && a % 4 != 0
  let a' := a
  let a := a / 8 * 8
  let p := s.st.place m a
  if !s.st.onBus m then s
  else if odd then s.oddWrite m a' 4 v
  else if p.plainMem then s.halfWrite m a true v
  else
    let lo := match p.key, (s.shad m).wr with
      | some k, some (j, x) => if k = j then w64 x else s.st.lowPresent m p
      | _, _ => s.st.lowPresent m p
    let s := s.setShad m { s.shad m with wr := none }
    s.writeAt m a (lo ||| (v <<< 32))

/-- LOWER_HALF_READ (R412). -/
def execLowerHalfRead (t m a : Nat) (s : State) : Host.Outcome State Fault Refusal :=
  .next (((Work.start s).at t).lowRead m a).st

/-- UPPER_HALF_READ (R412). -/
def execUpperHalfRead (t m a : Nat) (s : State) : Host.Outcome State Fault Refusal :=
  .next (((Work.start s).at t).highRead m a).st

/-- LOWER_HALF_WRITE (R413): `v` holds the half in its low 32 bits. -/
def execLowerHalfWrite (t m a : Nat) (v : Word) (s : State) : Host.Outcome State Fault Refusal :=
  .next (((Work.start s).at t).lowWrite m a v).st

/-- UPPER_HALF_WRITE (R413): `v` holds the half in its low 32 bits. -/
def execUpperHalfWrite (t m a : Nat) (v : Word) (s : State) : Host.Outcome State Fault Refusal :=
  .next (((Work.start s).at t).highWrite m a v).st

/-! ## The debug port -/

/-- DEBUG (R362, R405, R432): an access to the internal map through the TAP, offered while the port is not locked. -/
def execDebug (t : Nat) (wr : Bool) (a : Nat) (v : Word) (s : State) : Host.Outcome State Fault Refusal :=
  .next (((Work.start s).at t).when s.tapOpen fun s =>
    if wr then (s.writeAt 93 a v).tap 8 []
    else
      let (s, x) := s.readAt 93 a (BitVec.allOnes 64)
      (s.answer 93 (x.getD 0)).tap 8 (le 8 (x.getD 0).toNat)).st

/-! ## The I2C window (R417, R430) -/

/-- DENIED of ISTAT (Table REG-6). -/
def F.I2C_ISTAT_DENIED : Fld := ⟨.I2C_ISTAT, 1, 1⟩

/-- A write of ICTRL: one access at IADDR as master 92 (R417). The access is made as it starts; BUSY lasts until
INDIRECT_DONE. -/
def Work.ictrl (s : Work s₀) (wr : Bool) : Work s₀ :=
  if s.st.i2c.busy.isSome || s.st.eng == .off || !s.st.domOn 85 then s
  else
    let a := (s.reg .I2C_IADDR 0).toNat
    let refuse := fun (s : Work s₀) =>
      let s := s.flag F.I2C_ISTAT_DENIED 0
      if wr then s else s.wreg .I2C_IDATA 0 0
    let s := s.put F.I2C_ISTAT_DENIED 0 0
    if a % 8 ≠ 0 then refuse s
    else match s.st.spot 92 a with
      | none => refuse s
      | some x =>
        if s.st.reach 92 x wr = 0 then
          let s := if wr then s.writeAt 92 a (s.reg .I2C_IDATA 0)
            else
              let (s, v) := s.readAt 92 a (BitVec.allOnes 64)
              s.wreg .I2C_IDATA 0 (v.getD 0)
          s.setI2c { s.st.i2c with busy := some (wr, s.now) }
        else refuse (if wr then s.writeAt 92 a 0 else (s.readAt 92 a 0).1)

/-- ICTRL_READ (R417): a write of 0x01 to ICTRL. -/
def execIctrlRead (t : Nat) (s : State) : Host.Outcome State Fault Refusal :=
  .next (((Work.start s).at t).ictrl false).st

/-- ICTRL_WRITE (R417): a write of 0x02 to ICTRL. -/
def execIctrlWrite (t : Nat) (s : State) : Host.Outcome State Fault Refusal :=
  .next (((Work.start s).at t).ictrl true).st

/-- INDIRECT_DONE (R417): BUSY clears, within 10 µs of its start. -/
def execIndirectDone (t : Nat) (s : State) : Host.Outcome State Fault Refusal :=
  let b := match s.i2c.busy with | some (_, t0) => t0 + us 10 | none => t
  .next (((Work.start s).at (min t b)).setI2c { s.i2c with busy := none }).st

/-- Whether the I2C window is that of ACTIVE: the mailbox region and the indirect access. -/
def State.i2cOpen (s : State) : Bool := (s.eng == .active || s.eng == .starting) && s.domOn 85

/-- A byte of the window at offset `o`, in ACTIVE. -/
def State.i2cByte (s : State) (o : Nat) : Byte :=
  let of := fun (v : Word) (i : Nat) => BitVec.ofNat 8 (v.toNat / 256 ^ i)
  if o < 0x440 || (0x800 ≤ o && o < 0x840) then of (s.word 92 (mbxCell 17 o)) (o % 8)
  else if 0x1000 ≤ o && o < 0x1004 then of (s.reg .I2C_IADDR 0) (o - 0x1000)
  else if 0x1008 ≤ o && o < 0x1010 then of (s.reg .I2C_IDATA 0) (o - 0x1008)
  else if o = 0x1011 then BitVec.ofNat 8 (b2n s.i2c.busy.isSome + 2 * s.get F.I2C_ISTAT_DENIED 0)
  else 0

/-- A read of one byte: it joins what the transaction returns, its RC bits clear, and the offset rises. -/
def Work.i2cRead1 (s : Work s₀) : Work s₀ :=
  let o := s.st.i2c.off
  let b : Byte := if s.st.i2cOpen then s.st.i2cByte o
    else if s.st.eng == .watch && o == 0xFFFE then 1
    else if s.st.eng == .deepSleep && o == 0xFFFE then 2
    else 0
  let s := s.when (s.st.i2cOpen && o < 0x440) fun s =>
    (s.readCell 92 (mbxCell 17 o) (w64 (0xFF * 256 ^ (o % 8)))).1
  s.setI2c { s.st.i2c with off := (o + 1) % 2 ^ 16, out := s.st.i2c.out ++ [b] }

/-- A write of one byte of a register word of the mailbox region: the other bytes of RW fields keep their values. -/
def Work.i2cReg (s : Work s₀) (o : Nat) (b : Byte) : Work s₀ :=
  let c := mbxCell 17 o
  let f : Fld := ⟨.FRE_INCFG, 8 * (o % 8), 8⟩
  match c with
  | .reg .. => s.writeCell 92 c (f.put (s.st.word 92 c &&& c.rw) b.toNat)
  | _ => s

/-- A write of one byte at the offset in force (R417, R373). -/
def Work.i2cWrite1 (s : Work s₀) (b : Byte) : Work s₀ :=
  let o := s.st.i2c.off
  let s := s.setI2c { s.st.i2c with off := (o + 1) % 2 ^ 16 }
  if o = 0xFFFF then s.when (s.on F.PWR_WAKE_I2C_EN 0) fun s => s.wakeBy 3 0 s.now
  else if !s.st.i2cOpen then s
  else if o < 0x400 then s.slotWrite 17 (o / 256) (o % 256) [b]
  else if o < 0x440 then s.i2cReg o b
  else if 0x1000 ≤ o && o < 0x1004 then s.put ⟨.I2C_IADDR, 8 * (o - 0x1000), 8⟩ 0 b.toNat
  else if 0x1008 ≤ o && o < 0x1010 then s.put ⟨.I2C_IDATA, 8 * (o - 0x1008), 8⟩ 0 b.toNat
  else if o = 0x1010 then (if b = 1 then s.ictrl false else if b = 2 then s.ictrl true else s)
  else s

/-- I2C_WRITE (R430): a write transaction: the window offset `off`, then bytes from it. -/
def execI2cWrite (t off : Nat) (bs : List Byte) (s : State) : Host.Outcome State Fault Refusal :=
  .next (((Work.start s).at t).when (s.eng != .off) fun s =>
    (s.setI2c { s.st.i2c with off := off % 2 ^ 16 }).each bs fun s b => s.i2cWrite1 b).st

/-- I2C_READ (R430): a read transaction of `n` bytes from the offset in force. -/
def execI2cRead (t n : Nat) (s : State) : Host.Outcome State Fault Refusal :=
  .next (((Work.start s).at t).when (s.eng != .off) fun s =>
    (s.setI2c { s.st.i2c with out := [] }).each (List.range n) fun s _ => s.i2cRead1).st

end Sys2Proof.Machine
end

