-- ==== Sys2Proof/Machine/Startup.lean ====
section
/-!
DEFINITION. Start-up (Timeline PWR-1, R378): from PWR_OK to READY. A command of the timeline acts once those it rests on
have acted; how far start-up has come is in the state.
-/

namespace Sys2Proof.Machine

variable {s₀ : State}

/-! ## Stages -/

/-- Whether stage `n` of start-up is done: 0 domains ON, 1 T64, 2 boot ROM, 3 store, 4 ward links, 5 Ongen, 6 vault. -/
def State.stage (s : State) (n : Nat) : Bool := bit s.pwr.stage n

/-- Stage `n` is done. -/
def Work.stageDone (s : Work s₀) (n : Nat) : Work s₀ :=
  if s.st.stage n then s else s.modPwr fun p => { p with stage := p.stage + 2 ^ n }

/-- Whether start-up may go on: power is good, RESET_N is high, and no trip holds it (R398). -/
def State.mayStart (s : State) : Bool := s.eng == .starting && s.pwr.ok && !s.pwr.reset && !s.pwr.trip

/-- PWR_OK_RISE (R378, R380): a POWER reset, from which start-up begins. -/
def execPwrOkRise (s : State) : Host.Outcome State Fault Refusal :=
  .next ((Work.start s).when (!s.pwr.ok) fun s =>
    let s := s.modPwr fun p => { p with ok := true }
    s.engineReset true 0).st

/-- After a trip every sensor must read below CRIT_T - 2 °C before start-up goes on (R398). -/
def State.cooled (s : State) : Bool :=
  (List.range 40).all fun k =>
    s.sensorAbsent k || s.sensorBad k ||
      ((s.sensAt k).seen && decide ((s.sensAt k).val < sval 16 (s.get F.MON_THERM_CFG_CRIT_T 0) - 512))

/-- START_DOMAINS_ON (R378): the plaza's first domains are ON, and the pool PLL identifies REFIN3 (R325). -/
def execStartDomainsOn (s : State) : Host.Outcome State Fault Refusal :=
  .next ((Work.start s).when (s.mayStart && !s.stage 0 && (!s.pwr.cool || s.cooled)) fun s =>
    let s := s.each [81, 85, 88, 90, 94, 95] fun s d => s.setDom d 2
    let s := s.setPool { khz := if Config.refin3Fast then 156250 else 100000 }
    (s.modPwr fun p => { p with cool := false }).stageDone 0).st

/-- T64_START (R378): T64 counts from 0 at a coarse boundary; the TPLL is in FREE. -/
def execT64Start (s : State) : Host.Outcome State Fault Refusal :=
  .next ((Work.start s).when (s.mayStart && s.stage 0 && !s.stage 1) fun s =>
    ((((s.setT64 0).setPhase 0).modPwr fun p => { p with bootT := 0 }).timFree 0 false).stageDone 1).st

/-- Whether the boot ROM serves PF0's mailbox in firmware's place (R360, R388). -/
def State.romServes (s : State) : Bool := s.on F.REG_GSTAT_BOOT_FAIL 0 || s.on F.PWR_REC_LR_HALT 0

/-- BOOT_ROM_START (R359, R360): the ROM checks the images, the preferred one first, or the other after a trial that has
failed; K0 starts on the accepted one, or the engine is in BOOT_FAIL, which as LR_HALT (R388) only a reset ends. -/
def execBootRomStart (t : Nat) (s : State) : Host.Outcome State Fault Refusal :=
  let may := !s.pwr.fw && s.pwr.lrT.isNone && !s.romServes
  .next (((Work.start s).at t).when (s.domOn 81 && s.stage 0 && !s.stage 2 && may) fun s =>
    let p := s.st.preferred
    let s := s.bootRom (if s.st.pwr.other then 1 - p else p)
    let s := s.modPwr fun p => { p with other := false }
    if s.on F.REG_GSTAT_BOOT_FAIL 0 then s else s.stageDone 2).st

/-- STORE_TRAINED (R378): PD86 is ON and the store cleared with valid ECC. -/
def execStoreTrained (t : Nat) (s : State) : Host.Outcome State Fault Refusal :=
  .next (((Work.start s).at t).when (s.mayStart && s.stage 0 && !s.stage 3) fun s =>
    ((((s.keepStore fun _ => false).setUe []).setCe []).setDom 86 2).stageDone 3).st

/-- The failed wires of ward `w`'s link in one direction, each once, in the order found. -/
def failedWires (failed : List (Nat × Bool × Nat)) (w : Nat) (up : Bool) : List Nat :=
  failed.foldl (fun ks x => if x.1 = w && x.2.1 == up && !ks.contains x.2.2 then ks ++ [x.2.2] else ks) []

/-- The spares of each direction of a ward link (Table ARC-3). -/
def wardSpares : Nat := 8

/-- Whether ward `w`'s link trains: no direction has more failed wires than spares (R12). -/
def wardTrains (failed : List (Nat × Bool × Nat)) (w : Nat) : Bool :=
  (failedWires failed w true).length ≤ wardSpares && (failedWires failed w false).length ≤ wardSpares

/-- Ward `w` is left out (R12): its units read FAILED, its source becomes pending, its domains are OFF. -/
def Work.wardOut (s : Work s₀) (w : Nat) : Work s₀ :=
  let s := s.setWlink w { s.wlink w with failed := true }
  let s := s.each ((List.range 10).map (10 * w + 1 + ·)) fun s d => s.setDom d 0
  (s.srcInput (544 + w) true).flag F.REG_CAPS_WARD_FAIL 0

/-- Ward `w` is brought into service (R12, R378): its failed wires are mapped onto the spares, and its domains are ON.
-/
def Work.wardIn (s : Work s₀) (w : Nat) (up down : List Nat) : Work s₀ :=
  let s := s.setWlink w { s.wlink w with spareUp := up, spareDown := down }
  s.each ((List.range 10).map (10 * w + 1 + ·)) fun s d => s.setDom d 2

/-- WARD_LINKS_TRAINED (R12): a ward with more than 8 failed wires in a direction is not brought into service. -/
def execWardLinksTrained (t : Nat) (failed : List (Nat × Bool × Nat)) (s : State) : Host.Outcome State Fault Refusal :=
  .next (((Work.start s).at t).when (s.mayStart && s.stage 0 && !s.stage 4) fun s =>
    let s := s.each (List.range (if s.st.small then 4 else 8)) fun s w =>
      if wardTrains failed w then s.wardIn w (failedWires failed w true) (failedWires failed w false)
      else s.wardOut w
    s.stageDone 4).st

/-! ## Profiles -/

/-- Whether entry `k` of the register table belongs to a profile: the window words to the access profile (255), the
other stored configuration words to a configuration profile. -/
def profileKey (access : Bool) (k : Nat) : Bool :=
  match Reg.ofNat (k % 256) with
  | .ACC_WRANGE | .ACC_WCTRL | .ACC_RD_LO | .ACC_WR_LO | .ACC_RD_HI | .ACC_WR_HI | .ACC_K3WIN => access
  | .PWR_DREQ | .PWR_REC | .REG_BANK | .REG_SCRATCH | .MBX_CFG | .RING_TAIL | .QD_RD | .I2C_IADDR | .I2C_IDATA
  | .WEA_LOCAL | .HE_BIN | .STG_MATCH | .STG_ACTION | .STG_LG => false
  | r => !access && r.desc.rw != 0

/-- The profiles' area of the vault and its size (Table REG-3). -/
def profileBase : Nat := 0x1F80000
def profileSize : Nat := 0x70000

/-- A profile as it stands at offset `o` of the profiles' area (log entry 14): a byte 1, its number, how many words it
has (4 bytes), 2 bytes; then of each word its key and the word. -/
def State.profileRec (s : State) (o : Nat) : Option (Nat × List (Nat × Word)) :=
  let bs := s.vaultBytes (profileBase + o) 8
  let n := field bs 2 4
  if profileSize < o + 8 || field bs 0 1 != 1 || profileSize < o + 8 + 16 * n then none
  else
    let at_ := fun (i : Nat) => unle (s.vaultBytes (profileBase + o + 8 + i) 8)
    some (field bs 1 1, (List.range n).map fun i => (at_ (16 * i), w64 (at_ (16 * i + 8))))

/-- The profiles from offset `o` of the area on, at most `fuel` of them. -/
def State.profilesFrom (s : State) : Nat → Nat → List (Nat × List (Nat × Word))
  | 0, _ => []
  | fuel + 1, o =>
    match s.profileRec o with
    | none => []
    | some p => p :: s.profilesFrom fuel (o + 8 + 16 * p.2.length)

/-- The profiles that the vault holds, one after the other from the area's first byte. -/
def State.profiles (s : State) : List (Nat × List (Nat × Word)) := s.profilesFrom 256 0

/-- Profile `p`, if the vault holds it; 255 is the access profile. -/
def State.profileAt (s : State) (p : Nat) : Option (List (Nat × Word)) :=
  (s.profiles.find? fun x => x.1 == p).map (·.2)

/-- The bytes of a profile. -/
def profileBytes (p : Nat × List (Nat × Word)) : List Byte :=
  le 1 1 ++ le 1 p.1 ++ le 4 p.2.length ++ le 2 0 ++ p.2.flatMap fun (k, v) => le 8 k ++ le 8 v.toNat

/-- The bytes of the profiles' area once profile `p` is saved in place of the one of its number. -/
def State.profileArea (s : State) (p : Nat × List (Nat × Word)) : List Byte :=
  ((s.profiles.filter fun x => x.1 != p.1) ++ [p]).flatMap profileBytes

/-- The words that a profile saved now holds (log entry 14). -/
def State.profileNow (s : State) (access : Bool) : List (Nat × Word) :=
  s.regs.filterMap fun (k, v) =>
    if profileKey access k then some (k, v &&& w64 (Reg.ofNat (k % 256)).desc.rw) else none

/-- Firmware writes the words of a profile. -/
def Work.applyProfile (s : Work s₀) (ws : List (Nat × Word)) : Work s₀ :=
  s.each ws fun s (k, v) => s.wrReg firmware (Reg.ofNat (k % 256)) (k / 256) v

/-- Whether the default configuration profile names a guest image: it gives K3 a vector base (log entry 14). -/
def State.guestNamed (s : State) : Bool :=
  match s.profileAt 0 with
  | some ws => ws.any fun (k, _) => k == Reg.key .CORE_VBASE 3
  | none => false

/-! ## Ongen -/

/-- The cores K0 to K2 run: their firmware takes interrupts. -/
def Work.coresRun (s : Work s₀) : Work s₀ :=
  s.each [0, 1, 2] fun s c => s.modCore c fun x => { x with mie := true }

/-- ONGEN_RUNNING (R357, R387): Ongen runs on K0 to K2. At start-up the access profile of the vault, or the default
one, is applied; after a restart of the control complex the configuration in force is adopted, and what the commands
held ends with RESTARTED (R313). -/
def execOngenRunning (t : Nat) (s : State) : Host.Outcome State Fault Refusal :=
  .next (((Work.start s).at t).when (s.stage 2 && !s.pwr.fw && s.domOn 81 && s.domOn 85) fun s =>
    let first := s.st.eng == .starting && !s.on F.PWR_ENG_RECOVERING 0
    let now := s.now
    let i := s.get F.ACC_BOOT_IMAGE 0
    let s := s.wreg .REG_FW 0 (w64 (s.st.imageField i 16 4 + 2 ^ 32 + i * 2 ^ 33))
    let s := (s.modPwr fun p => { p with fw := true, ongenT := now }).put F.PWR_REC_WARDEN 0 0
    let s := s.coresRun
    if first then
      let s := match s.st.profileAt 255 with
        | some ws => s.applyProfile ws
        | none => s.defaultProfile
      s.stageDone 5
    else
      let s := (s.restarted.modPwr fun p => { p with beats := List.replicate 5 now, armed := true }).stageDone 5
      if s.st.pwr.lrT.isNone then s.put F.PWR_ENG_RECOVERING 0 0 else s).st

/-- The engine is ready: a trial has succeeded, and the pointer stays (R360); a SOFT_ENGINE that was held is due. -/
def Work.readyNow (s : Work s₀) : Work s₀ :=
  let now := s.now
  let s := (s.flag F.PWR_ENG_READY 0).flag F.PWR_EVT_READY 0
  let p := s.st.pwr
  let s := s.when p.soft fun s =>
    (s.modPwr fun p => { p with soft := false, softT := some (s.st.coarse now) }).put F.PWR_RST_PENDING 0 0
  let s := s.modPwr fun p => { p with other := false }
  s.when (s.on F.ACC_BOOT_TRIAL 0) fun s => (s.setVault 0x1FF0011 0).put F.ACC_BOOT_TRIAL 0 0

/-- Whether no last-resort restart awaits its SOFT_CORE and its boot at `t` (Timeline PWR-4). -/
def State.lrBooted (s : State) (t : Nat) : Bool := s.pwr.lrT.all fun f => f + us 10 ≤ max t s.t64

/-- The end of a last-resort restart (Timeline PWR-4): FAULT_N is released and SUPERVISOR_LOST goes out. -/
def Work.lrOver (s : Work s₀) : Work s₀ :=
  match s.st.pwr.lrT with
  | none => s
  | some _ =>
    let s := s.modPwr fun p => { p with lrT := none, lrTry := 0, fault := p.trip }
    let s := (s.put F.PWR_ENG_RECOVERING 0 0).flag F.PWR_EVT_LR_RESTART 0
    s.notice 3 0x31 (le 1 (s.get F.PWR_REC_LR_CAUSE 0) ++ le 1 (s.get F.PWR_REC_LR_IMAGE 0) ++ le 8 (s.reg .PWR_LRT 0).toNat)

/-- VAULT_LOADED (R102, R378): every unit's slot is loaded. At start-up the default configuration profile is applied;
after a SOFT_ENGINE reset the engine is READY again (R381), and a last-resort restart meanwhile is over with it. -/
def execVaultLoaded (t : Nat) (s : State) : Host.Outcome State Fault Refusal :=
  .next (((Work.start s).at t).when (s.pwr.fw && s.stage 4 && !s.stage 6 && s.domOn 95 && s.lrBooted t) fun s =>
    let ok := fun (b : Nat) => !s.st.blockAbsent b && !(s.wlink (b / 4)).failed
    let s := s.each ((List.range 32).filter ok) fun s b => s.loadBlock b
    let s := s.stageDone 6
    if s.st.eng == .active then s.readyNow.lrOver
    else match s.st.profileAt 0 with
      | some ws => s.applyProfile ws
      | none => s).st

/-- READY (R378, Timeline PWR-4): start-up, or a last-resort restart, is complete. -/
def execReady (t : Nat) (s : State) : Host.Outcome State Fault Refusal :=
  .next (((Work.start s).at t).when
    (s.pwr.fw && s.pwr.stage % 128 == 127 && !s.on F.PWR_ENG_READY 0 && s.lrBooted t) fun s =>
    let now := s.now
    let first := s.st.eng == .starting
    let s := s.when first fun s => s.setEng .active
    let s := s.modPwr fun p => { p with beats := List.replicate 5 now, armed := true }
    let s := s.readyNow.lrOver
    s.when (first && s.st.guestNamed) fun s => s.modCore 3 fun x => { x with mie := true }).st

end Sys2Proof.Machine
end

