-- ==== Sys2Proof/Machine/Oci.lean ====
section
/-!
DEFINITION. Commands of the command interface: what every one of them shares. Firmware takes a posted command (R301),
checks it in the order of R305, writes the registers it stands for as their chapters say, and answers (R302 to R304).
-/

namespace Sys2Proof.Machine

variable {s₀ : State}

/-! ## Where a register lies -/

/-- The byte of word `r` in a block of registers. -/
def wordIn (rs : List Reg) (r : Reg) : Nat := 8 * rs.idxOf r

/-- A unit's block in a lane region. -/
def laneBlock (u : Nat) : Nat := if u < 512 then 64 * u else 0x8000 + 64 * (u - 512)

/-- A weaver's area in the WEA region. -/
def weavBlock (w : Nat) : Nat := 0x300000 + if w < 32 then 0x4000 * w else 0x80000 + 0x4000 * (w - 32)

/-- The offset in register space of a register of index `i` that a command reads or writes. -/
def Reg.addr (r : Reg) (i : Nat) : Nat :=
  if freRegs.contains r then 0x100000 + laneBlock i + wordIn freRegs r
  else if capRegs.contains r then 0x200000 + laneBlock i + wordIn capRegs r
  else if calRegs.contains r then 0x110000 + laneBlock i + wordIn calRegs r
  else if calBlkRegs.contains r then 0x11A000 + 64 * i + wordIn calBlkRegs r
  else if cntRegs.contains r then 0x120000 + laneBlock i + wordIn cntRegs r
  else if pairRegs.contains r then
    (if i < 128 then 0x130000 + 64 * i else 0x132000 + 64 * (i - 128)) + wordIn pairRegs r
  else if axisRegs.contains r then 0x180000 + wordIn axisRegs r
  else if weavRegs.contains r then weavBlock i + 0x108 + wordIn weavRegs r
  else if r == .FLT_SEL && 64 ≤ i then 0x410008 + 0x100 * (i - 64)
  else if fltRegs.contains r then 0x400000 + 0x200 * i + wordIn fltRegs r
  else if heRegs.contains r then 0x410000 + 0x100 * i + wordIn heRegs r
  else if queRegs.contains r then 0x800000 + 64 * i + wordIn queRegs r
  else if muRegs.contains r then 0x40000 + 64 * i + wordIn muRegs r
  else if monRegs.contains r then 0x41000 + wordIn monRegs r
  else if accRegs.contains r then 0x140000 + 0x400 * (i / 16) + 0x40 * (i % 16) + wordIn accRegs r
  else if accGlobal.contains r then 0x170000 + wordIn accGlobal r
  else if dlpRegs.contains r then 0x54000 + 64 * i + wordIn dlpRegs r
  else if ptRegs.contains r then 0x56000 + 64 * i + wordIn ptRegs r
  else if chanRegs.contains r then 0x52000 + 32 * i + wordIn chanRegs r
  else if portRegs.contains r then 0x51000 + 64 * i + wordIn portRegs r
  else match r with
    | .REG_ID => 0
    | .REG_FW => 8
    | .REG_T64 => 0x30
    | .CAP_WALK => 0x210000 + 8 * i
    | .FLT_SCFG | .FLT_GAIN | .FLT_OFFSET =>
      0x400100 + 0x200 * (i / 8) + 0x20 * (i % 8) + wordIn [.FLT_SCFG, .FLT_GAIN, .FLT_OFFSET] r
    | .STAKE_MATCH => 0x190000 + 16 * i
    | .STAKE_ACTION => 0x190008 + 16 * i
    | .STG_MATCH => 0x1A0000 + 16 * i
    | .STG_ACTION => 0x1A0008 + 16 * i
    | .STG_LG => 0x1B1000 + 8 * i
    | .AXI_LG => 0x1B0000 + 8 * i
    | .AXI_QHIT => 0x1C0000 + 8 * i
    | .WEA_LMAP => weavBlock (i / 16) + 8 * (i % 16)
    | .WEA_PIN => weavBlock (32 + i / 8) + 8 * (i % 8)
    | .WEA_FPCFG => weavBlock i + 0x100
    | .WEA_PCFG => weavBlock i + 0x150
    | .WEA_TD => weavBlock (i / 8) + 0x180 + 8 * (i % 8)
    | .WEA_PROG => weavBlock (i / 1024) + 0x1000 + i % 1024 / 2 * 8
    | .WEA_LOCAL => weavBlock (i / 512) + 0x2000 + 8 * (i % 512)
    | .TIM_TCFG | .TIM_TREFP => 0x20000 + wordIn [.TIM_TCFG, .TIM_TREFP] r
    | .TIM_REF => 0x20010 + 8 * i
    | .TIM_TSTAT | .TIM_THETA | .TIM_SREM | .TIM_STEP | .TIM_FOFS | .TIM_TEVT | .TIM_SYNC | .TIM_PRESET | .TIM_SYNCT0
    | .TIM_SYNCT1 | .TIM_ORST | .TIM_TCNT =>
      0x20030 + wordIn [.TIM_TSTAT, .TIM_THETA, .TIM_SREM, .TIM_STEP, .TIM_FOFS, .TIM_TEVT, .TIM_SYNC, .TIM_PRESET,
        .TIM_SYNCT0, .TIM_SYNCT1, .TIM_ORST, .TIM_TCNT] r
    | .TIM_OCTRL | .TIM_OQ | .TIM_OSTAT | .TIM_OEVT =>
      0x20100 + wordIn [.TIM_OCTRL, .TIM_OQ, .TIM_OSTAT, .TIM_OEVT] r
    | .TIM_BAND0 => 0x20200 + 16 * i
    | .TIM_BAND1 => 0x20208 + 16 * i
    | .TIM_OCLK => 0x20400 + 16 * i
    | .TIM_OCSTAT => 0x20408 + 16 * i
    | .TIM_LOOP => 0x20600 + 8 * i
    | .MON_TEMP => 0x41100 + 8 * i
    | .QUE_POOL | .QUE_CTRL | .QUE_STAT => 0xC02000 + wordIn [.QUE_POOL, .QUE_CTRL, .QUE_STAT] r
    | .LNK_GRP => 0x50000 + 8 * i
    | .LNK_GSTAT => 0x50080 + 8 * i
    | .LNK_GEVT => 0x50100 + 8 * i
    | .PWR_ENG | .PWR_RST | .PWR_BRST | .PWR_WAKE | .PWR_ALARM =>
      0x60000 + wordIn [.PWR_ENG, .PWR_RST, .PWR_BRST, .PWR_WAKE, .PWR_ALARM] r
    | .PWR_DSTAT => 0x60028 + 8 * i
    | .PWR_DREQ => 0x60040 + 8 * i
    | .PWR_CSTAT => 0x60058
    | .PWR_HBW | .PWR_REC | .PWR_LRT | .PWR_EVT => 0x60080 + wordIn [.PWR_HBW, .PWR_REC, .PWR_LRT, .PWR_EVT] r
    | _ => 0xFF8

/-- The base of register space in the internal map (Table REG-2). -/
def spaceBase : Nat := 0x10000000

/-- Firmware writes a register. -/
def Work.fw (s : Work s₀) (r : Reg) (i : Nat) (v : Word) : Work s₀ := s.writeAt firmware (spaceBase + r.addr i) v

/-- Firmware writes a field of a register, with the other bits as they read. -/
def Work.fwPut (s : Work s₀) (f : Fld) (i x : Nat) : Work s₀ :=
  s.fw f.reg i (f.put (s.reg f.reg i) x)

/-- Firmware reads a register, clearing its RC fields. -/
def Work.fr (s : Work s₀) (r : Reg) (i : Nat) : Work s₀ × Word :=
  let (s, v) := s.readAt firmware (spaceBase + r.addr i) (BitVec.allOnes 64)
  (s, v.getD 0)

/-- Firmware reads registers one after the other; their words in order. -/
def Work.frs (s : Work s₀) : List (Reg × Nat) → Work s₀ × List Word
  | [] => (s, [])
  | (r, i) :: rest =>
    let (s, v) := s.fr r i
    let (s, vs) := s.frs rest
    (s, v :: vs)

/-! ## Checks (R304, R305, R308) -/

/-- A check that fails: the status, ERR_INDEX and ERR_OFFSET. -/
abbrev Fail := Nat × Nat × Nat

/-- ERR_INDEX or ERR_OFFSET where there is none. -/
def noIdx : Nat := 0xFFFF

/-- A check with status `st` that fails where `c` holds. -/
def failIf (c : Bool) (st : Nat) (ofs : Nat := 0xFFFF) (idx : Nat := 0xFFFF) : List Fail :=
  if c then [(st, idx, ofs)] else []

/-- BAD_ARGUMENT at a payload offset. -/
def badArg (c : Bool) (ofs : Nat) (idx : Nat := 0xFFFF) : List Fail := failIf c 0x12 ofs idx

/-- The order of the checks (R305): a bulk read comes between those of the payload's values and those of its contents.
-/
def failOrder : List Nat := [0x11, 0x12, 0x18, 0x15, 0x14, 0x13, 0x16, 0x17]

/-- The failure that decides the status. -/
def firstFail (fs : List Fail) : Option Fail :=
  failOrder.findSome? fun c => fs.find? fun f => f.1 == c

/-- A field of a command's payload. -/
def Job.arg (j : Job) (o w : Nat) : Nat := field j.load o w

/-- The register word at payload offset `o`. -/
def Job.word (j : Job) (o : Nat) : Word := w64 (j.arg o 8)

/-- LENGTH is not `n`. -/
def Job.lenIs (j : Job) (n : Nat) : List Fail := failIf (j.load.length != n) 0x11

/-- Reserved bytes `o` to `o + n - 1` are not 0. -/
def Job.rsv (j : Job) (o n : Nat) : List Fail := badArg (j.arg o n != 0) o

/-- A number at `o` lies outside `lo` to `hi`. -/
def Job.range (j : Job) (o w lo hi : Nat) : List Fail := badArg (j.arg o w < lo || hi < j.arg o w) o

/-- A run FIRST (at `o`) and COUNT (at `o + w`), each of `w` bytes: COUNT lies in 1 to `most`, and the run below `n`. -/
def Job.run (j : Job) (o w most n : Nat) : List Fail :=
  j.range (o + w) w 1 most ++ badArg (n < j.arg o w + j.arg (o + w) w) o

/-- The numbers that a run names. -/
def Job.items (j : Job) (o w : Nat) : List Nat := (List.range (j.arg (o + w) w)).map (j.arg o w + ·)

/-- NOT_PRESENT for an item of a run; for a resource that a field names alone its command gives the field (R304). -/
def absentIf (xs : List Nat) (p : Nat → Bool) : List Fail := xs.zipIdx.flatMap fun (x, i) => failIf (p x) 0x15 0xFFFF i

/-- The master ID under which firmware acts for endpoint `e` (Table OCI-1). -/
def epMaster (e : Nat) : Nat := if e < 16 then e else if e = 16 then 19 else if e = 17 then 92 else 60 + (e - 18)

/-- Commands marked PF0 only (R308). -/
def Job.pf0 (j : Job) : List Fail := failIf (j.ep != 0) 0x14

/-- DENIED where the access tables deny the endpoint's master a register (R308), which the field at `o` names. -/
def State.deny (s : State) (j : Job) (r : Reg) (i : Nat) (wr : Bool) (o : Nat := 0xFFFF) : List Fail :=
  match s.spot (epMaster j.ep) (r.addr i) with
  | some x => failIf (!s.grants (epMaster j.ep) x.tgt x.off wr) 0x14 o
  | none => failIf true 0x14 o

/-- DENIED over a list of registers, which the field at `o` names. -/
def State.denyAll (s : State) (j : Job) (rs : List (Reg × Nat)) (wr : Bool) (o : Nat := 0xFFFF) : List Fail :=
  rs.flatMap fun (r, i) => s.deny j r i wr o

/-! ## Register words in payloads -/

/-- The reserved fields of a register word. -/
def Reg.rsv : Reg → Nat
  | .FRE_INCFG => 0xffffffffffffc000
  | .FRE_THR => 0xffc0c000ffc0c000
  | .FRE_RAMP => 0xff000000ff800000
  | .CAP_LANECFG => 0xffffffff0000fe00
  | .CAP_PICK => 0xfff80000
  | .CAP_BASE => 0xffffc000ffffc000
  | .CAP_WALK => 0xff000000
  | .FRE_IE => 0xffffffffffffff00
  | .CNT_CFG => 0xffffffffc080f000
  | .CNT_LEN | .CNT_COUNT => 0xffff000000000000
  | .CNT_STATCFG | .PAIR_STATCFG => 0xffffffffffc00000
  | .PAIR_CFG => 0xfffffe00fe00fe00
  | .PAIR_WIN => 0xffffff0000000000
  | .AXI_CFG => 0xff00000000000000
  | .AXI_OFS => 0xffffffffff000000
  | .AXI_GEN => 0xffff000000000000
  | .AXI_PRESET => 0xffffff0000000000
  | .CAL_BCFG => 0xfffffff80000f000
  | .WEA_LMAP => 0xfffffc0000000000
  | .WEA_FPCFG => 0xfffffffffffc0000
  | .WEA_WCFG => 0xffffc00000000000
  | .WEA_WENTRY => 0xfffffc00fc00fc00
  | .WEA_PCFG => 0xffff0000fff00000
  | .WEA_TD => 0xfffffffffff80000
  | .WEA_PIN => 0xfffffffffffe0000
  | .RING_BASE => 0xfff
  | .RING_CFG => 0xffff0000ffe00000
  | .RING_WB => 0x7
  | .QUE_POOL => 0xffff0000c0000000
  | .QUE_CTRL => 0xffffffffffffffc0
  | .TIM_TCFG => 0xff00fe000000f888
  | .TIM_TREFP => 0xffffffff0000f000
  | .TIM_REF => 0xffff000000000000
  | .TIM_BAND0 => 0xff0000000000e000
  | .TIM_OCLK => 0xffffffff80000000
  | .TIM_LOOP => 0xfffffffffffff000
  | .FLT_CFG | .ECH_CFG => 0xffffffffff800000
  | .FLT_SEL => 0xfffffffffff80000
  | .FLT_TOFS => 0xffff000000000000
  | .FLT_IO => 0xf800000000000000
  | .FLT_SCFG => 0xffffff8000000000
  | .FLT_GAIN => 0xffffffff00000000
  | .HE_CFG => 0xfffff0000000fff8
  | .HE_SNAP => 0xffff0000ffc00000
  | .LNK_GRP => 0xfffffffffffff000
  | .ETH_CFG => 0xff00000000000000
  | .DLP_CFG => 0xfffffffffe000000
  | .ACC_WCTRL => 0xfffffffffffffffe
  | .ACC_RD_HI | .ACC_WR_HI => 0xffffffffc0000000
  | .PWR_WAKE => 0xfffffffffffffff0
  | .MU_CFG => 0xffffffff0000ffe0
  | .STAKE_MATCH => 0xff00000000fc0000
  | .STAKE_ACTION => 0xc00e000000
  | _ => 0

/-- An exponent whose 1 to 12 and 48 to 63 act as others. -/
def badExp (x : Nat) : Bool := (1 ≤ x && x ≤ 12) || 48 ≤ x

/-- A step or mark source that is reserved (Table AXI-1). -/
def badSrc (x : Nat) : Bool := 101 ≤ x && x ≤ 126

/-- Whether a word holds a value that its field map calls reserved, or that acts as another. -/
def Reg.odd (r : Reg) (v : Nat) : Bool :=
  match r with
  | .FRE_RAMP => 96 ≤ bits v 16 7
  | .CAL_BCFG => bits v 0 10 < 5 || 500 < bits v 0 10
  | .CNT_CFG =>
    6 ≤ F.CNT_CFG_EST.of (w64 v) || 96 ≤ bits v 16 7 || bits v 24 6 < 13 || 48 < bits v 24 6
  | .PAIR_CFG => bits v 1 2 == 3
  | .STAKE_ACTION => 10 ≤ bits v 28 4 || 2 ^ 24 < bits v 0 25
  | .AXI_CFG =>
    bits v 32 2 == 3 || bits v 34 4 == 0 || bits v 40 16 < 512 ||
      badSrc (F.AXI_CFG_STEP_SRC.of (w64 v)) || badSrc (F.AXI_CFG_MARK_SRC.of (w64 v))
  | .WEA_FPCFG => bits v 0 12 < 3 || badExp (F.WEA_FPCFG_FP_FLUSH_EXP.of (w64 v))
  | .WEA_WCFG => bits v 26 12 < 3 || badExp (F.WEA_WCFG_FLUSH_EXP.of (w64 v))
  | .WEA_TD => 10 ≤ bits v 9 4
  | .FLT_CFG => bits v 1 2 == 3 || 4096 < bits v 5 13 || 21 ≤ bits v 18 5
  | .TIM_TCFG =>
    bits v 32 9 == 0 || 256 < bits v 32 9 || bits v 48 8 == 0 ||
      5 ≤ F.TIM_TCFG_REF_MODE.of (w64 v) && F.TIM_TCFG_REF_MODE.of (w64 v) ≤ 6
  | .TIM_TREFP => bits v 16 16 == 0
  | .TIM_BAND0 => bits v 3 10 == 0
  | .TIM_OCLK => bits v 3 13 < 2
  | .HE_CFG => badExp (bits v 38 6)
  | .FLT_IO => bits v 32 12 < 3 || badExp (bits v 44 6)
  | .QUE_POOL => bits v 0 12 != 0 || bits v 32 16 == 0
  | .QUE_CTRL => bits v 0 6 < 20 || 44 < bits v 0 6
  | .RING_CFG => bits v 1 5 < 12 || 24 < bits v 1 5
  | .ETH_MAC => bits v 48 16 < 1500 || 9000 < bits v 48 16
  | .ECH_CFG => badExp (bits v 17 6)
  | .DLP_CFG => bits v 2 16 == 0 || bits v 18 6 == 0
  | .LNK_GRP => 6 ≤ bits v 0 3
  | _ => false

/-- Whether a register word of a payload is refused: a reserved field is not 0, or a value is reserved or acts as
another. -/
def Reg.refused (r : Reg) (v : Word) : Bool := v.toNat &&& r.rsv != 0 || r.odd v.toNat

/-- The words that a MASK of `w` bytes at `mo` selects of the words `rs` from offset `o`, each with its offset. -/
def Job.picked (j : Job) (mo w : Nat) (rs : List (Reg × Nat)) (o : Nat) : List (Reg × Nat × Nat) :=
  rs.zipIdx.filterMap fun ((r, i), k) => if bit (j.arg mo w) k then some (r, i, o + 8 * k) else none

/-- BAD_ARGUMENT for words of a payload. -/
def Job.badWords (j : Job) (ws : List (Reg × Nat × Nat)) : List Fail :=
  ws.flatMap fun (r, _, o) => badArg (r.refused (j.word o)) o

/-- A MASK of `w` bytes at `mo` has bits from `n` up. -/
def Job.badMask (j : Job) (mo w n : Nat) : List Fail := badArg (2 ^ n ≤ j.arg mo w) mo

/-- DENIED for the words selected. -/
def State.denyWords (s : State) (j : Job) (ws : List (Reg × Nat × Nat)) : List Fail :=
  ws.flatMap fun (r, i, o) => s.deny j r i true o

/-- Firmware writes the words selected. -/
def Work.fwWords (s : Work s₀) (j : Job) (ws : List (Reg × Nat × Nat)) : Work s₀ :=
  s.each ws fun s (r, i, o) => s.fw r i (j.word o)

/-- The value that a register will have: the payload's where it is selected, else the present one. -/
def State.willBe (s : State) (j : Job) (ws : List (Reg × Nat × Nat)) (r : Reg) (i : Nat) : Word :=
  match ws.find? fun (x, k, _) => x == r && k == i with
  | some (_, _, o) => j.word o
  | none => s.reg r i

/-- A state as it would be with another word in a register. -/
def State.withReg (s : State) (r : Reg) (i : Nat) (v : Word) : State :=
  { s with regs := Tab.set Reg.dflt s.regs (Reg.key r i) v }

/-- A state as it would be with the words selected. -/
def State.withWords (s : State) (j : Job) (ws : List (Reg × Nat × Nat)) : State :=
  ws.foldl (fun s (r, i, o) => s.withReg r i (j.word o)) s

/-! ## Bulk descriptors (R307) -/

/-- After how many bytes the transfer of the bulk descriptor at `o` fails, if it does: with Bus Master Enable off or no
link, with a completion error, at the end of the guest core's window. Where a partner's descriptor leads the spec does
not say; its transfer fails (log entry 16). -/
def State.bulkErr (s : State) (j : Job) (o len : Nat) : Option Nat :=
  let a := j.arg o 8
  if j.ep < 16 then
    if !(s.fnAt j.ep).bme || s.pwr.pcie != 1 then some 0
    else
      let k := hostKey j.ep a / 8
      ((s.hostErr.filter fun x => k ≤ x && x < k + len / 8).map fun x => 8 * (x - k)).min?
  else if j.ep = 16 then (if 2 ^ 24 < a + len then some (2 ^ 24 - a) else none)
  else some 0

/-- Where a bulk descriptor at `o` fails: the descriptor's own checks with DIR `dir` and LEN `len`, and for a read the
transfer, which comes before the checks of its contents. A write fails while it is made. -/
def State.bulkFail (s : State) (j : Job) (o dir len : Nat) : List Fail :=
  let a := j.arg o 8
  failIf (j.arg (o + 8) 4 != len || 2 ^ 24 < len || len % 8 != 0) 0x11 (o + 8) ++
  badArg (j.ep == 17) o ++ badArg (a % 8 != 0) o ++ badArg (j.arg (o + 12) 1 != dir) (o + 12) ++ j.rsv (o + 13) 3 ++
  failIf (dir == 0 && (s.bulkErr j o len).isSome) 0x18 o

/-- The bytes that firmware reads by the bulk descriptor at `o`. -/
def State.bulkIn (s : State) (j : Job) (o len : Nat) : List Byte :=
  let a := j.arg o 8
  (List.range len).map fun i =>
    if j.ep < 16 then s.hostAt (hostKey j.ep (a + i))
    else BitVec.ofNat 8 (bits (s.storeAt (s.get F.ACC_K3WIN_K3_BLK 0 * 2 ^ 21 + (a + i) / 8)).toNat (8 * ((a + i) % 8)) 8)

/-- The errors that firmware's read of the guest core's window by the bulk descriptor at `o` meets (R395). -/
def Work.bulkMeet (s : Work s₀) (j : Job) (o len : Nat) : Work s₀ :=
  s.when (j.ep == 16) fun s =>
    let b := s.get F.ACC_K3WIN_K3_BLK 0 * 2 ^ 21 + j.arg o 8 / 8
    s.each ((s.st.ue ++ s.st.ce).filter fun a => b ≤ a && a < b + len / 8) fun s a => s.storeMeet a

/-! ## Allocation of the store (R208, R251) -/

/-- A store area as firmware's allocation records hold it. -/
def areaCode (base k : Nat) : Nat := 1 + k + 64 * base

/-- The first word and the size of an area. -/
def areaOf (v : Nat) : Nat × Nat := ((v - 1) / 64, 2 ^ ((v - 1) % 64))

/-- The areas of the store in use: those allocated but for entry `but`, the assembly pool and the guest core's window.
-/
def State.areas (s : State) (but : Nat) : List (Nat × Nat) :=
  (s.alloc.filterMap fun (k, v) => if k = but then none else some (areaOf v)) ++
    [(s.get F.QUE_POOL_POOL_BASE 0 / 4096 * 4096, 4096 * max 1 (s.get F.QUE_POOL_POOL_BUFS 0)),
     (s.get F.ACC_K3WIN_K3_BLK 0 * 2 ^ 21, 2 ^ 21)]

/-- Whether `n` words from `b` overlap an area of a list. -/
def overlaps (xs : List (Nat × Nat)) (b n : Nat) : Bool := xs.any fun (x, m) => x < b + n && b < x + m

/-- The places of 2^k words, aligned to their size, that are free. -/
def State.freePlaces (s : State) (but k : Nat) : List Nat :=
  let xs := s.areas but
  (List.range (2 ^ (30 - k))).filterMap fun i => if overlaps xs (i * 2 ^ k) (2 ^ k) then none else some (i * 2 ^ k)

/-- One of several numbers, which of them the spec leaves to firmware (log entry 20). -/
def Work.pick (s : Work s₀) (xs : List Nat) : Work s₀ × Nat :=
  let (s, w) := s.fresh
  (s, xs.getD (w.toNat % xs.length) 0)

/-! ## Running a command -/

/-- What comes of a command that has passed its checks: a response, an error, or work that goes on, with the object and
the instant by which its end is known; or work that goes on and is answered ACCEPTED at once. -/
inductive Res where
  | ok (rflags : Nat := 0) (data : List Byte := [])
  | err (status : Nat) (idx : Nat := 0xFFFF) (ofs : Nat := 0xFFFF)
  | wait (obj : Nat := 0) (at_ : Nat := 0)
  | later
  deriving DecidableEq, Repr

/-- Firmware writes bytes by the bulk descriptor at `o`: those before a failure, which ends the command with BULK_FAULT
(R307). -/
def Work.bulkOut (s : Work s₀) (j : Job) (o : Nat) (bs : List Byte) : Work s₀ × Res :=
  let a := if j.ep = 16 then 0x40000000 + j.arg o 8 else j.arg o 8
  match s.st.bulkErr j o bs.length with
  | none => (s.epWrite j.ep a bs, .ok)
  | some n => (s.epWrite j.ep a (bs.take n), .err 0x18 0xFFFF o)

/-- A command: its checks, the resources that it holds while it runs (R309), and its effect. -/
structure Cmd where
  chk : State → Job → List Fail
  res : State → Job → List (Nat × Nat) := fun _ _ => []
  run : {s₀ : State} → Job → Work s₀ → Work s₀ × Res

/-- The COMPLETE notices of endpoint `e` that wait for room in its queue. -/
def State.completes (s : State) (e : Nat) : Nat :=
  ((s.epAt e).kept.filter fun k => k.lost == 0 && field k.bytes 0 2 == 1).length

/-- The commands of an endpoint that firmware took before `j` and has not finished. -/
def State.before (s : State) (j : Job) : List Job :=
  (s.jobs.takeWhile (· != j)).filter fun x => x.ep == j.ep && !x.gone

/-- How many places of its endpoint's sixteen for ACCEPTED commands are taken where `j` goes on: of commands that go on
and may yet be answered ACCEPTED, and of COMPLETE notices that wait, since with R310 at most sixteen wait (R312, log
entry 53). -/
def State.inProgress (s : State) (j : Job) : Nat :=
  (s.jobs.filter fun x => x.ep == j.ep && !x.gone && x != j && (x.ran || !x.slot)).length + s.completes j.ep

/-- Checks that every command has: FLAGS[15:2], the header's reserved bytes (marked by bit 16 at its taking), the TAG of
an outstanding command taken before it, the sixteen ACCEPTED commands of the endpoint (R310), and resources that other
commands hold (R309). -/
def State.commonFail (s : State) (j : Job) (rs : List (Nat × Nat)) : List Fail :=
  let mine := s.before j
  badArg (4 ≤ j.flags) noIdx ++
  badArg (mine.any fun x => x.tag == j.tag) noIdx ++
  failIf (16 ≤ (mine.filter fun x => !x.slot).length + s.completes j.ep) 0x13 ++
  failIf (s.jobs.any fun x => x.ran && x.holds.any rs.contains) 0x13

/-- The command of endpoint `ep` and slot `sl` with opcode `op`, where it is the first of those taken and not begun:
commands run in the order in which firmware takes them (R309). -/
def State.taken (s : State) (ep sl op : Nat) : Option Job :=
  if s.pwr.fw || s.romServes then
    (s.jobs.find? fun j => !j.ran).filter fun j => j.ep == ep && j.sl == sl && j.op == op
  else none

/-- A command stands in the list of those taken with new particulars. -/
def Work.goesOn (s : Work s₀) (j j' : Job) : Work s₀ := s.setJobs (s.st.jobs.map fun x => if x = j then j' else x)

/-- A command of opcode `op` is carried out (R305): with DRY_RUN it is only checked. One that would go on as more than
the sixteenth of its endpoint is refused (R310). -/
def Work.oci (s : Work s₀) (ep sl op : Nat) (c : Cmd) : Work s₀ :=
  match s.st.taken ep sl op with
  | none => s
  | some j =>
    let rs := c.res s.st j
    match firstFail (s.st.commonFail j rs ++ c.chk s.st j) with
    | some (st, i, o) => s.finish j st 0 (errData i o)
    | none =>
      if bit j.flags 1 then s.finish j 0 1 []
      else
        let r := c.run j s
        match r.2 with
        | .ok f d => r.1.finish j 0 f d
        | .err st i o => r.1.finish j st 0 (errData i o)
        | .wait obj at_ =>
          if 16 ≤ s.st.inProgress j then s.finish j 0x13 0 (errData noIdx noIdx)
          else r.1.goesOn j { j with ran := true, holds := rs, obj := obj, at_ := at_ }
        | .later =>
          if 16 ≤ s.st.inProgress j then s.finish j 0x13 0 (errData noIdx noIdx)
          else
            let s := r.1.goesOn j { j with ran := true, holds := rs, slot := false }
            if j.slot && !j.gone then s.respond j.ep j.sl j.tag j.op j.flags 1 0 [] else s

/-! ## Taking (R301) -/

/-- The opcodes that are assigned (Table OCI-8). -/
def assigned (op : Nat) : Bool :=
  op % 256 < [7, 7, 7, 8, 7, 6, 8, 9, 10, 6, 6, 4, 4, 6].getD (op / 256) 0

/-- The slots that hold a posted command, in the order in which firmware takes them: endpoints from the one after the
last, and within an endpoint from the slot after its last. -/
def State.posted (s : State) : List (Nat × Nat) :=
  (List.range 50).flatMap fun i =>
    let e := (s.lastEp + 1 + i) % 50
    ((List.range 4).map fun k => (e, ((s.epAt e).slot + 1 + k) % 4)).filter fun (e, sl) =>
      (s.slotAt (slotKey e sl)).st == 1

/-- A command is taken out of slot `sl` of endpoint `e`: its opcode and its length are checked, and it waits for its
turn to be carried out. The boot ROM takes two commands only, and answers every other opcode STATE. -/
def Work.takeSlot (s : Work s₀) (e sl : Nat) : Work s₀ :=
  let now := s.now
  let bs := s.st.slotData e sl
  let op := field bs 0 2
  let tag := field bs 2 2
  let n := field bs 4 2
  let fl := field bs 6 2
  let s := s.modMbx e sl fun x => { x with st := 2, taken := now }
  let s := (s.modEp e fun x => { x with slot := sl }).setLastEp e
  let s := s.when (18 ≤ e && s.st.attached (e - 18)) fun s =>
    s.modLnk (s.st.linkOf (e - 18)) fun x => { x with freeC := x.freeC + 1 }
  let refuse := fun (s : Work s₀) (st : Nat) => s.respond e sl tag op fl st 0 (errData noIdx noIdx)
  if s.st.romServes && op != 0 && op != 0xD03 then refuse s 0x16
  else if !assigned op then refuse s 0x10
  else if 240 < n then refuse s 0x11
  else
    let j : Job := { ep := e, sl := sl, tag := tag, op := op, load := (bs.drop 16).take n,
                     flags := fl + if field bs 8 8 = 0 then 0 else 2 ^ 16 }
    s.setJobs (s.st.jobs ++ [j])

/-- COMMAND_TAKE (R301): the next posted command is taken. Before READY posted commands wait (R379). -/
def execCommandTake (t : Nat) (s : State) : Host.Outcome State Fault Refusal :=
  .next (((Work.start s).at t).when true fun s =>
    let may := fun (p : Nat × Nat) =>
      if s.st.romServes then p.1 == 0 else s.st.pwr.fw && s.on F.PWR_ENG_READY 0
    match s.st.posted.find? may with
    | some (e, sl) => s.takeSlot e sl
    | none => s).st

end Sys2Proof.Machine
end

