-- ==== Sys2Proof/Machine/OciSys.lean ====
section
/-!
DEFINITION. The SYS, LANE and MEAS families of commands (Tables OCI-17, OCI-9 and OCI-10). Where the spec summarises a
payload or a response and gives no layout, the layout is the model's (log entry 17).
-/

namespace Sys2Proof.Machine

variable {s₀ : State}

/-! ## SYS -/

/-- SYS_IDENTIFY: device (2), stepping (1), running image (1), firmware release and patch (4), endpoint (1), master ID
(1), reserved (2). -/
def cmdSysIdentify : Cmd where
  chk s j := j.lenIs 0 ++ s.denyAll j [(.REG_ID, 0), (.REG_FW, 0), (.ACC_BOOT, 0)] false
  run j s := (s, .ok 0 (le 2 s.st.device ++ le 1 0xC1 ++ le 1 (s.get F.ACC_BOOT_IMAGE 0) ++ le 4 (s.reg .REG_FW 0).toNat ++
    le 1 j.ep ++ le 1 (epMaster j.ep) ++ le 2 0))

/-- SYS_IDENTIFY (R321). -/
def execSysIdentify (t ep sl : Nat) (s : State) : Host.Outcome State Fault Refusal :=
  .next (((Work.start s).at t).oci ep sl 0x0000 cmdSysIdentify).st

/-- SYS_PING: the payload is echoed. -/
def cmdSysPing : Cmd where
  chk _ _ := []
  run j s := (s, .ok 0 j.load)

/-- SYS_PING (R321). -/
def execSysPing (t ep sl : Nat) (s : State) : Host.Outcome State Fault Refusal :=
  .next (((Work.start s).at t).oci ep sl 0x0001 cmdSysPing).st

/-- SYS_NOTICE_SET: BASE, WB, LOG2N, VECTOR and MASK of the endpoint's event queue. A queue whose place or size changes
starts empty (log entry 18). -/
def cmdSysNoticeSet : Cmd where
  chk _ j := j.lenIs 24 ++ badArg (j.arg 16 1 != 0 && (j.arg 16 1 < 4 || 16 < j.arg 16 1)) 16 ++ j.rsv 17 1 ++
    j.range 18 2 0 127 ++ j.badMask 20 4 16
  run j s :=
    let x := s.ep j.ep
    let b := j.arg 0 8
    let w := j.arg 8 8
    let n := j.arg 16 1
    let same := x.base == b && x.wb == w && x.log2n == n
    let s := s.modEp j.ep fun x => { x with
      base := b, wb := w, log2n := n, vector := j.arg 18 2, mask := j.arg 20 4
      nprod := if same then x.nprod else 0, ntail := if same then x.ntail else 0 }
    (s.noteGo j.ep, .ok)

/-- SYS_NOTICE_SET (R311, R321). -/
def execSysNoticeSet (t ep sl : Nat) (s : State) : Host.Outcome State Fault Refusal :=
  .next (((Work.start s).at t).oci ep sl 0x0002 cmdSysNoticeSet).st

/-- Whether SYS_ABORT stops a command of this opcode at once (R310): WALK_LEARN, CAL_EXPORT, QUEUE_FREE, and the bulk
commands of WEAVE and NVM. -/
def abortable (op : Nat) : Bool := [0x106, 0x505, 0x801, 0x400, 0x405, 0xD03].contains op

/-- SYS_ABORT: TAG (2) of an ACCEPTED command of the endpoint; STATE where it has none (log entry 18). -/
def cmdSysAbort : Cmd where
  chk s j := j.lenIs 2 ++ failIf (!(s.jobs.any fun x => x.ep == j.ep && x.tag == j.arg 0 2 && !x.gone && !x.slot)) 0x16
  run j s :=
    match s.st.jobs.find? fun x => x.ep == j.ep && x.tag == j.arg 0 2 && !x.gone && !x.slot with
    | some x =>
      if abortable x.op then
        let s := s.setLearn (s.st.learn.filter fun l => !(l.ep == x.ep && l.tag == x.tag))
        (s.finish x 0x19 0 (errData noIdx noIdx), .ok)
      else (s, .ok)
    | none => (s, .ok)

/-- SYS_ABORT (R310). -/
def execSysAbort (t ep sl : Nat) (s : State) : Host.Outcome State Fault Refusal :=
  .next (((Work.start s).at t).oci ep sl 0x0003 cmdSysAbort).st

/-- SYS_TIME: T64 (8), AXI_POS (8), TPLL STATE (1), reserved (7). -/
def cmdSysTime : Cmd where
  chk s j := j.lenIs 0 ++ s.denyAll j [(.REG_T64, 0), (.AXI_POS, 0), (.TIM_TSTAT, 0)] false
  run _ s := (s, .ok 0 (le 8 s.now ++ le 8 (s.reg .AXI_POS 0).toNat ++ le 8 (s.get F.TIM_TSTAT_STATE 0)))

/-- SYS_TIME (R321). -/
def execSysTime (t ep sl : Nat) (s : State) : Host.Outcome State Fault Refusal :=
  .next (((Work.start s).at t).oci ep sl 0x0004 cmdSysTime).st

/-- SYS_ENGINE_RESET: applies SOFT_ENGINE; answers once READY is 1 again (R381). -/
def cmdSysEngineReset : Cmd where
  chk s j := j.lenIs 0 ++ j.pf0 ++ s.deny j .PWR_RST 0 true
  run _ s := (s.askSoft, .wait)

/-- SYS_ENGINE_RESET (R321, R381). -/
def execSysEngineReset (t ep sl : Nat) (s : State) : Host.Outcome State Fault Refusal :=
  .next (((Work.start s).at t).oci ep sl 0x0005 cmdSysEngineReset).st

/-- SYS_READY: answers once start-up is complete. -/
def cmdSysReady : Cmd where
  chk _ j := j.lenIs 0
  run _ s := (s, if s.on F.PWR_ENG_READY 0 then .ok else .wait)

/-- SYS_READY (R321). -/
def execSysReady (t ep sl : Nat) (s : State) : Host.Outcome State Fault Refusal :=
  .next (((Work.start s).at t).oci ep sl 0x0006 cmdSysReady).st

/-! ## LANE -/

/-- A register of every item of a run. -/
def perItem (xs : List Nat) (rs : List Reg) : List (Reg × Nat) := xs.flatMap fun n => rs.map fun r => (r, n)

/-- Checks of register words that go to every item of a run: the words once, DENIED for each item. -/
def State.denyItems (s : State) (j : Job) (xs : List Nat) (rs : List Reg) (wr : Bool) : List Fail :=
  xs.zipIdx.flatMap fun (n, i) => (rs.flatMap fun r => s.deny j r n wr).map fun (st, _, o) => (st, i, o)

/-- The words of LANE_SET in the order of its payload. -/
def laneWords : List Reg := [.FRE_INCFG, .FRE_THR, .FRE_RAMP, .CAP_LANECFG, .CAP_PICK, .CAP_BASE, .FRE_IE]

/-- The order in which LANE_SET writes a lane's words. -/
def laneOrder : List Reg := [.FRE_THR, .FRE_RAMP, .CAP_PICK, .CAP_BASE, .CAP_LANECFG, .FRE_IE, .FRE_INCFG]

/-- The registers that a command's MASK at `mo` selects of `rs`, each with its payload offset from `o`. -/
def Job.chosen (j : Job) (mo : Nat) (rs : List Reg) (o : Nat) : List (Reg × Nat) :=
  rs.zipIdx.filterMap fun (r, k) => if bit (j.arg mo 4) k then some (r, o + 8 * k) else none

/-- BAD_ARGUMENT for chosen words. -/
def Job.badChosen (j : Job) (ws : List (Reg × Nat)) : List Fail :=
  ws.flatMap fun (r, o) => badArg (r.refused (j.word o)) o

/-- The word chosen for a register, if it is. -/
def Job.chose (j : Job) (ws : List (Reg × Nat)) (r : Reg) : Option Word :=
  (ws.find? fun p => p.1 == r).map fun p => j.word p.2

/-- Whether bank `b` of lane `n`'s walk tables is invalid (R64). -/
def State.walkInvalid (s : State) (n b : Nat) : Bool := (walkUsed ((List.range 64).map (s.walk n b))).length < 2

/-- LANE_SET (Table OCI-9). -/
def cmdLaneSet : Cmd where
  chk s j :=
    let ws := j.chosen 4 laneWords 8
    let xs := j.items 0 2
    j.lenIs 64 ++ j.run 0 2 512 512 ++ j.badMask 4 4 7 ++ j.badChosen ws ++ absentIf xs s.laneAbsent ++
      s.denyItems j xs (ws.map (·.1)) true ++
      (match j.chose ws .FRE_INCFG with
        | some v => failIf (F.FRE_INCFG_WAKE_EN.of v == 1 && F.FRE_INCFG_MODE.of v == 1) 0x16 8
        | none => []) ++
      (match j.chose ws .CAP_LANECFG with
        | some v =>
          if F.CAP_LANECFG_PICK.of v = 2 then
            xs.zipIdx.flatMap fun (n, i) => failIf (s.walkInvalid n (F.CAP_LANECFG_WALK_BANK.of v)) 0x16 32 i
          else []
        | none => [])
  res _ j := (j.items 0 2).map fun n => (0, n)
  run j s :=
    let ws := j.chosen 4 laneWords 8
    (s.each (j.items 0 2) fun s n => s.each laneOrder fun s r =>
      match j.chose ws r with
      | some v => s.fw r n v
      | none => s, .ok)

/-- LANE_SET (R306, R314). -/
def execLaneSet (t ep sl : Nat) (s : State) : Host.Outcome State Fault Refusal :=
  .next (((Work.start s).at t).oci ep sl 0x0100 cmdLaneSet).st

/-- LANE_GET (Table OCI-9). -/
def cmdLaneGet : Cmd where
  chk s j := j.lenIs 2 ++ j.range 0 2 0 511 ++ failIf (s.laneAbsent (j.arg 0 2)) 0x15 0 ++
    s.denyAll j (perItem [j.arg 0 2] (laneWords ++ [.FRE_STAT, .CAP_STAT])) false 0
  res _ j := [(0, j.arg 0 2)]
  run j s :=
    let (s, ws) := s.frs (perItem [j.arg 0 2] (laneWords ++ [.FRE_STAT, .CAP_STAT]))
    (s, .ok 0 (wordBytes ws))

/-- LANE_GET (R314). -/
def execLaneGet (t ep sl : Nat) (s : State) : Host.Outcome State Fault Refusal :=
  .next (((Work.start s).at t).oci ep sl 0x0101 cmdLaneGet).st

/-- A lane's entry in the response of LANE_STATUS. -/
def laneStatusWord (stat lstat lqual : Word) : Nat :=
  bits stat.toNat 0 14 + 2 ^ 16 * F.CAL_LSTAT_STATE.of lstat + 2 ^ 19 * F.CAL_LSTAT_RESTORED_OLDER.of lstat +
    2 ^ 20 * F.CAL_LSTAT_MODELLED.of lstat + 2 ^ 21 * F.CAL_LSTAT_OFFLINE.of lstat + 2 ^ 32 * F.CAL_LQUAL_PREC_FS.of lqual

/-- LANE_STATUS (Table OCI-9). -/
def cmdLaneStatus : Cmd where
  chk s j := j.lenIs 4 ++ j.run 0 2 29 512 ++ absentIf (j.items 0 2) s.laneAbsent ++
    s.denyItems j (j.items 0 2) [.FRE_STAT, .CAL_LSTAT, .CAL_LQUAL] false
  res _ j := (j.items 0 2).map fun n => (0, n)
  run j s :=
    let (s, ws) := s.frs (perItem (j.items 0 2) [.FRE_STAT, .CAL_LSTAT, .CAL_LQUAL])
    let one := fun (i : Nat) => le 8 (laneStatusWord (ws.getD (3 * i) 0) (ws.getD (3 * i + 1) 0) (ws.getD (3 * i + 2) 0))
    (s, .ok 0 ((List.range (j.arg 2 2)).flatMap one))

/-- LANE_STATUS (R314). -/
def execLaneStatus (t ep sl : Nat) (s : State) : Host.Outcome State Fault Refusal :=
  .next (((Work.start s).at t).oci ep sl 0x0102 cmdLaneStatus).st

/-- The counter words of a lane. -/
def laneCounters : List Reg := [.FRE_CNT, .CAP_CNT0, .CAP_CNT1, .CAP_CNT2]

/-- LANE_COUNTERS (Table OCI-9). -/
def cmdLaneCounters : Cmd where
  chk s j := j.lenIs 4 ++ j.run 0 2 7 512 ++ absentIf (j.items 0 2) s.laneAbsent ++
    s.denyItems j (j.items 0 2) laneCounters false
  res _ j := (j.items 0 2).map fun n => (0, n)
  run j s :=
    let (s, ws) := s.frs (perItem (j.items 0 2) laneCounters)
    (s, .ok 0 (wordBytes ws))

/-- LANE_COUNTERS (R314). -/
def execLaneCounters (t ep sl : Nat) (s : State) : Host.Outcome State Fault Refusal :=
  .next (((Work.start s).at t).oci ep sl 0x0103 cmdLaneCounters).st

/-- Whether bank `b` is the active bank of lane `n` (R72). -/
def State.bankActive (s : State) (n b : Nat) : Bool := F.CAP_LANECFG_WALK_BANK.of (s.capAt n).cfg == b

/-- The registers of bank `b` of lane `n`. -/
def bankRegs (n b : Nat) : List (Reg × Nat) := (List.range 64).map fun k => (.CAP_WALK, 128 * n + 64 * b + k)

/-- The points that 64 words of a walk table spell. -/
def wordPoints (ws : List Word) : List (Nat × Int) :=
  ws.map fun v => (F.CAP_WALK_X.of v, sval 32 (F.CAP_WALK_Y.of v))

/-- WALK_LOAD (Table OCI-9). -/
def cmdWalkLoad : Cmd where
  chk s j :=
    let xs := j.items 0 2
    let n := 512 * j.arg 2 2
    let bulk := s.bulkFail j 8 0 n
    let head := j.lenIs 24 ++ j.run 0 2 512 512 ++ j.range 4 1 0 1 ++ j.rsv 5 3 ++ bulk
    head ++
      (if head.isEmpty then
        let ws := byteWords (64 * j.arg 2 2) (s.bulkIn j 8 n)
        (List.range (j.arg 2 2)).flatMap fun i =>
          let tb := (ws.drop (64 * i)).take 64
          badArg ((walkUsed (wordPoints tb)).length < 2 || tb.any Reg.CAP_WALK.refused) noIdx i
      else []) ++
      absentIf xs s.laneAbsent ++
      (xs.zipIdx.flatMap fun (x, i) => (s.deny j .CAP_WALK (128 * x + 64 * j.arg 4 1) true).map fun f => (f.1, i, f.2.2)) ++
      (xs.zipIdx.flatMap fun (x, i) => failIf (s.bankActive x (j.arg 4 1)) 0x16 4 i)
  res _ j := (j.items 0 2).map fun n => (0, n)
  run j s :=
    let s := s.bulkMeet j 8 (512 * j.arg 2 2)
    let ws := byteWords (64 * j.arg 2 2) (s.st.bulkIn j 8 (512 * j.arg 2 2))
    let rs := (j.items 0 2).flatMap fun n => bankRegs n (j.arg 4 1)
    (s.each (rs.zip ws) fun s ((r, i), v) => s.fw r i v, .ok)

/-- WALK_LOAD (R314). -/
def execWalkLoad (t ep sl : Nat) (s : State) : Host.Outcome State Fault Refusal :=
  .next (((Work.start s).at t).oci ep sl 0x0104 cmdWalkLoad).st

/-- WALK_READ (Table OCI-9). -/
def cmdWalkRead : Cmd where
  chk s j := j.lenIs 24 ++ j.range 0 2 0 511 ++ j.range 2 1 0 1 ++ j.rsv 3 5 ++ s.bulkFail j 8 1 512 ++
    failIf (s.laneAbsent (j.arg 0 2)) 0x15 0 ++ s.denyAll j (bankRegs (j.arg 0 2) (j.arg 2 1)) false 0
  res _ j := [(0, j.arg 0 2)]
  run j s :=
    let (s, ws) := s.frs (bankRegs (j.arg 0 2) (j.arg 2 1))
    s.bulkOut j 8 (wordBytes ws)

/-- WALK_READ (R314). -/
def execWalkRead (t ep sl : Nat) (s : State) : Host.Outcome State Fault Refusal :=
  .next (((Work.start s).at t).oci ep sl 0x0105 cmdWalkRead).st

/-- WALK_LEARN (Table OCI-9). -/
def cmdWalkLearn : Cmd where
  chk s j :=
    let n := j.arg 0 2
    j.lenIs 16 ++ j.range 0 2 0 511 ++ j.range 2 2 0 511 ++ j.range 4 1 0 1 ++ j.rsv 5 3 ++
      j.range 8 4 (2 ^ 12) (2 ^ 24) ++ failIf (s.laneAbsent n) 0x15 0 ++ failIf (s.laneAbsent (j.arg 2 2)) 0x15 2 ++
      s.denyAll j (bankRegs n (j.arg 4 1)) true 0 ++ failIf (s.freAt n).sw.isSome 0x13 ++
      failIf (s.freAt (j.arg 2 2)).sw.isSome 0x16 2 ++ failIf (s.get F.CAP_LANECFG_PICK n != 2) 0x16 0 ++
      failIf (s.bankActive n (j.arg 4 1)) 0x16 4
  res _ j := [(0, j.arg 0 2), (0, j.arg 2 2)]
  run j s :=
    let l : Learn := { lane := j.arg 0 2, ref := j.arg 2 2, bank := j.arg 4 1, need := j.arg 8 4,
                       ofs := sval 32 (j.arg 12 4), ep := j.ep, tag := j.tag }
    (s.setLearn (s.st.learn ++ [l]), .wait)

/-- WALK_LEARN (R315). -/
def execWalkLearn (t ep sl : Nat) (s : State) : Host.Outcome State Fault Refusal :=
  .next (((Work.start s).at t).oci ep sl 0x0106 cmdWalkLearn).st

/-- A pair goes into a list that is sorted by Δ, after those with the same Δ. -/
def sortIn (p : Nat × Int) : List (Nat × Int) → List (Nat × Int)
  | [] => [p]
  | q :: rest => if p.1 < q.1 then p :: q :: rest else q :: sortIn p rest

/-- The pairs of a learning sorted by Δ (R315). -/
def sortPairs (ps : List (Nat × Int)) : List (Nat × Int) := ps.foldl (fun acc p => sortIn p acc) []

/-- Bin `k` of 64 of sorted pairs: its median Δ, which of an even number is free between the two in the middle (log
entry 19), and 256 times the mean v, rounded. -/
def learnBin (ps : List (Nat × Int)) (k free : Nat) : Nat × Int :=
  let n := ps.length
  let lo := k * n / 64
  let b := (ps.drop lo).take ((k + 1) * n / 64 - lo)
  let m := b.length
  let x0 := (b.getD ((m - 1) / 2) (0, 0)).1
  let x1 := (b.getD (m / 2) (0, 0)).1
  (x0 + free % (x1 - x0 + 1), rndAway (256 * (b.map (·.2)).foldl (· + ·) 0) (max 1 m))

/-- The first of each run of equal X. -/
def keepFirst : List (Nat × Int) → List (Nat × Int)
  | [] => []
  | p :: rest => p :: (keepFirst rest).dropWhile fun q => q.1 == p.1

/-- WALK_LEARN_DONE (R315): NEDGES pairs have been gathered, and the table goes into the bank; or a switching sequence
has ended the learning with STATE. -/
def execWalkLearnDone (t ep sl : Nat) (s : State) : Host.Outcome State Fault Refusal :=
  let s := (Work.start s).at t
  let mine := fun (l : Learn) => s.st.jobs.find? fun j =>
    j.ep == ep && j.sl == sl && j.op == 0x106 && j.ran && j.tag == l.tag && l.ep == ep
  .next (match s.st.learn.find? fun l => (mine l).isSome && (l.bad || l.pairs.length == l.need) with
    | none => s
    | some l =>
      match mine l with
      | none => s
      | some j =>
        let s := s.setLearn (s.st.learn.filter fun x => !(x.ep == l.ep && x.tag == l.tag))
        if l.bad then s.finish j 0x16 0 (errData noIdx noIdx)
        else
          let ps := sortPairs l.pairs
          let k0 := s.st.freeCnt
          let s := s.setFreeCnt (k0 + 65)
          let pts := keepFirst ((List.range 64).map fun k => learnBin ps k (Config.freeWord (k0 + k)).toNat)
          let m := pts.length
          let last := pts.getLastD (0, 0)
          let ws := (pts ++ List.replicate (64 - m) last).map fun (x, y) => w64 (x + 2 ^ 32 * sfield 32 y)
          let s := s.each ((bankRegs l.lane l.bank).zip ws) fun s ((r, i), v) => s.fw r i v
          s.finish j 0 0 (le 2 m ++ le 2 (Config.freeWord (k0 + 64)).toNat ++ le 4 l.need) : Work _).st

/-! ## MEAS -/

/-- The words of ENGINE_SET. -/
def engineWords : List Reg := [.CNT_CFG, .CNT_LEN, .CNT_COUNT, .CNT_STATCFG]

/-- ENGINE_SET (Table OCI-10). -/
def cmdEngineSet : Cmd where
  chk s j :=
    let ws := j.chosen 4 engineWords 8
    let xs := j.items 0 2
    j.lenIs 40 ++ j.run 0 2 512 512 ++ j.badMask 4 4 4 ++ j.badChosen ws ++
      (match j.chose ws .CNT_LEN with
        | some v => badArg (1 ≤ v.toNat && v.toNat ≤ 8191) 16
        | none => []) ++
      absentIf xs s.laneAbsent ++ s.denyItems j xs (ws.map (·.1)) true ++
      (match j.chose ws .CNT_CFG with
        | some v => if F.CNT_CFG_EN.of v = 1 then
            xs.zipIdx.flatMap fun (n, i) => failIf (s.cntCfgBad n v) 0x16 8 i
          else []
        | none => [])
  res _ j := (j.items 0 2).map fun n => (2, n)
  run j s :=
    let ws := j.chosen 4 engineWords 8
    (s.each (j.items 0 2) fun s n => s.each ws fun s (r, o) => s.fw r n (j.word o), .ok)

/-- ENGINE_SET (R306, R321). -/
def execEngineSet (t ep sl : Nat) (s : State) : Host.Outcome State Fault Refusal :=
  .next (((Work.start s).at t).oci ep sl 0x0200 cmdEngineSet).st

/-- A command that reads registers of one lane's engine. -/
def cmdEngineRead (rs : List Reg) : Cmd where
  chk s j := j.lenIs 2 ++ j.range 0 2 0 511 ++ failIf (s.laneAbsent (j.arg 0 2)) 0x15 0 ++
    s.denyAll j (perItem [j.arg 0 2] rs) false 0
  res _ j := [(2, j.arg 0 2)]
  run j s :=
    let (s, ws) := s.frs (perItem [j.arg 0 2] rs)
    (s, .ok 0 (wordBytes ws))

/-- ENGINE_GET (Table OCI-10). -/
def execEngineGet (t ep sl : Nat) (s : State) : Host.Outcome State Fault Refusal :=
  .next (((Work.start s).at t).oci ep sl 0x0201 (cmdEngineRead (engineWords ++ [.CNT_STAT, .CNT_IDX]))).st

/-- ENGINE_COUNTERS (Table OCI-10). -/
def execEngineCounters (t ep sl : Nat) (s : State) : Host.Outcome State Fault Refusal :=
  .next (((Work.start s).at t).oci ep sl 0x0202 (cmdEngineRead [.CNT_CNT])).st

/-- Whether pairing unit `p` is free to be allocated: of no endpoint, and disabled. -/
def State.pairFree (s : State) (p : Nat) : Bool :=
  (s.ownerAt p).isNone && !s.on F.PAIR_CFG_EN p && !(p < 128 && s.blockAbsent (p / 16 * 4))

/-- The units that PAIR_ALLOC can give: ward units where both lanes lie in one ward and PREFER is 0, else cross-ward
ones. -/
def State.pairPicks (s : State) (a b prefer : Nat) : List Nat :=
  let w := a / 64
  if w = b / 64 && prefer = 0 then ((List.range 16).map (16 * w + ·)).filter s.pairFree
  else ((List.range 64).map (128 + ·)).filter s.pairFree

/-- PAIR_ALLOC (Table OCI-10). -/
def cmdPairAlloc : Cmd where
  chk s j := j.lenIs 8 ++ j.range 0 2 0 511 ++ j.range 2 2 0 511 ++ j.range 4 1 0 1 ++ j.rsv 5 3 ++
    failIf (s.laneAbsent (j.arg 0 2)) 0x15 0 ++ failIf (s.laneAbsent (j.arg 2 2)) 0x15 2 ++
    failIf (s.pairPicks (j.arg 0 2) (j.arg 2 2) (j.arg 4 1)).isEmpty 0x17
  res _ j := [(0, j.arg 0 2), (0, j.arg 2 2)]
  run j s :=
    let (s, p) := s.pick (s.st.pairPicks (j.arg 0 2) (j.arg 2 2) (j.arg 4 1))
    let x := decide (128 ≤ p)
    (s.setOwner p (some j.ep), .ok 0 (le 1 (b2n x) ++ le 1 0 ++ le 2 (if x then p - 128 else p)))

/-- PAIR_ALLOC (R316). -/
def execPairAlloc (t ep sl : Nat) (s : State) : Host.Outcome State Fault Refusal :=
  .next (((Work.start s).at t).oci ep sl 0x0203 cmdPairAlloc).st

/-- The pairing unit that X (1) and UNIT (2) of a payload name. -/
def Job.pairUnit (j : Job) : Nat := if j.arg 0 1 = 0 then j.arg 2 2 else 128 + j.arg 2 2

/-- The checks of a pairing unit's name, and of its owner (R316). -/
def State.pairName (s : State) (j : Job) : List Fail :=
  j.range 0 1 0 1 ++ j.rsv 1 1 ++ badArg ((if j.arg 0 1 = 0 then 128 else 64) ≤ j.arg 2 2) 2 ++
    failIf (j.arg 0 1 == 0 && s.blockAbsent (j.arg 2 2 / 16 * 4)) 0x15 2 ++
    failIf ((s.ownerAt j.pairUnit).any (· != j.ep) && j.ep != 0) 0x14 2

/-- The words of PAIR_SET. -/
def pairWords : List Reg := [.PAIR_CFG, .PAIR_WIN, .PAIR_OFS, .PAIR_STATCFG]

/-- PAIR_SET (Table OCI-10). -/
def cmdPairSet : Cmd where
  chk s j :=
    let p := j.pairUnit
    let ws := j.chosen 4 pairWords 8
    let v := (j.chose ws .PAIR_CFG).getD (s.reg .PAIR_CFG p)
    let a := F.PAIR_CFG_LANE_A.of v
    let b := F.PAIR_CFG_LANE_B.of v
    j.lenIs 40 ++ s.pairName j ++ j.badMask 4 4 4 ++ j.badChosen ws ++
      badArg (p < 128 && (j.chose ws .PAIR_CFG).isSome && (a / 64 != p / 16 || b / 64 != p / 16)) 8 ++
      failIf ((j.chose ws .PAIR_CFG).isSome && (s.laneAbsent a || s.laneAbsent b)) 0x15 8 ++
      (ws.flatMap fun (r, o) => s.deny j r p true o) ++
      failIf (F.PAIR_CFG_KIND.of v == 2 && !s.on F.CNT_CFG_EN a) 0x16 8
  res _ j := [(3, j.pairUnit)]
  run j s := (s.each (j.chosen 4 pairWords 8) fun s (r, o) => s.fw r j.pairUnit (j.word o), .ok)

/-- PAIR_SET (R125, R316). -/
def execPairSet (t ep sl : Nat) (s : State) : Host.Outcome State Fault Refusal :=
  .next (((Work.start s).at t).oci ep sl 0x0204 cmdPairSet).st

/-- PAIR_GET (Table OCI-10). -/
def cmdPairGet : Cmd where
  chk s j := j.lenIs 4 ++ s.pairName j ++ s.denyAll j (perItem [j.pairUnit] (pairWords ++ [.PAIR_STAT, .PAIR_CNT])) false 2
  res _ j := [(3, j.pairUnit)]
  run j s :=
    let (s, ws) := s.frs (perItem [j.pairUnit] (pairWords ++ [.PAIR_STAT, .PAIR_CNT]))
    (s, .ok 0 (wordBytes ws))

/-- PAIR_GET (R316). -/
def execPairGet (t ep sl : Nat) (s : State) : Host.Outcome State Fault Refusal :=
  .next (((Work.start s).at t).oci ep sl 0x0205 cmdPairGet).st

/-- PAIR_FREE (Table OCI-10). -/
def cmdPairFree : Cmd where
  chk s j := j.lenIs 4 ++ s.pairName j ++ s.deny j .PAIR_CFG j.pairUnit true 2
  res _ j := [(3, j.pairUnit)]
  run j s := ((s.fwPut F.PAIR_CFG_EN j.pairUnit 0).setOwner j.pairUnit none, .ok)

/-- PAIR_FREE (R316). -/
def execPairFree (t ep sl : Nat) (s : State) : Host.Outcome State Fault Refusal :=
  .next (((Work.start s).at t).oci ep sl 0x0206 cmdPairFree).st

end Sys2Proof.Machine
end

