-- ==== Sys2Proof/Machine/OciAxis.lean ====
section
/-!
DEFINITION. The AXIS and CAL families of commands (Tables OCI-11 and OCI-12).
-/

namespace Sys2Proof.Machine

variable {s₀ : State}

/-! ## AXIS -/

/-- The words of AXIS_SET. -/
def axisWords : List Reg := [.AXI_CFG, .AXI_OFS, .AXI_GEN, .AXI_PRESET]

/-- AXIS_SET (Table OCI-11). -/
def cmdAxisSet : Cmd where
  chk s j :=
    let ws := j.chosen 0 axisWords 8
    j.lenIs 40 ++ j.badMask 0 4 4 ++ j.rsv 4 4 ++ j.badChosen ws ++
      (match j.chose ws .AXI_CFG with
        | some v =>
          let a := F.AXI_CFG_STEP_SRC.of v
          let m := F.AXI_CFG_MARK_SRC.of v
          badArg (a == 127 || a == m || a < 96 && s.markOut a || m < 96 && s.markOut m) 8
        | none => []) ++
      ws.flatMap fun (r, o) => s.deny j r 0 true o
  run j s :=
    let f := if s.st.axisState = 0 then 0 else 2
    (s.each (j.chosen 0 axisWords 8) fun s (r, o) => s.fw r 0 (j.word o), .ok f)

/-- AXIS_SET (R132). -/
def execAxisSet (t ep sl : Nat) (s : State) : Host.Outcome State Fault Refusal :=
  .next (((Work.start s).at t).oci ep sl 0x0300 cmdAxisSet).st

/-- AXIS_ENABLE (Table OCI-11): it answers once the write has taken effect. -/
def cmdAxisEnable : Cmd where
  chk s j := j.lenIs 4 ++ j.range 0 1 0 1 ++ j.rsv 1 3 ++ s.deny j .AXI_CTRL 0 true
  run j s :=
    let s := s.fw .AXI_CTRL 0 (w64 (j.arg 0 1))
    (s, if s.st.axis.ctlAt.isNone then .ok 0 (le 1 s.st.axisState) else .wait)

/-- AXIS_ENABLE (R136). -/
def execAxisEnable (t ep sl : Nat) (s : State) : Host.Outcome State Fault Refusal :=
  .next (((Work.start s).at t).oci ep sl 0x0301 cmdAxisEnable).st

/-- The words of AXIS_STATUS. -/
def axisStatusWords : List (Reg × Nat) :=
  [(.AXI_POS, 0), (.AXI_STEPT, 0), (.AXI_PERIOD, 0), (.AXI_EVT, 0), (.AXI_CNT0, 0), (.AXI_CNT1, 0), (.AXI_CNT2, 0),
   (.AXI_CNT3, 0)]

/-- A command without payload that answers with register words, of the resources that it names. -/
def cmdReadWords (rs : List (Reg × Nat)) (res : List (Nat × Nat) := []) : Cmd where
  chk s j := j.lenIs 0 ++ s.denyAll j rs false
  res _ _ := res
  run _ s :=
    let (s, ws) := s.frs rs
    (s, .ok 0 (wordBytes ws))

/-- AXIS_STATUS (Table OCI-11). -/
def execAxisStatus (t ep sl : Nat) (s : State) : Host.Outcome State Fault Refusal :=
  .next (((Work.start s).at t).oci ep sl 0x0302 (cmdReadWords axisStatusWords)).st

/-- BUSY while another endpoint holds the staging claim (R317). -/
def State.claimBusy (s : State) (j : Job) : List Fail := failIf (s.claimEp.any (· != j.ep)) 0x13

/-- BUSY while a commit waits for its turn boundary (R317). -/
def State.commitBusy (s : State) : List Fail := failIf (s.on F.AXI_CTRL_COMMIT 0) 0x13

/-- The staging claim goes to the endpoint where it is free (R317). -/
def Work.stageClaim (s : Work s₀) (e : Nat) : Work s₀ := if s.st.claimEp.isNone then s.setClaimEp (some e) else s

/-- A stake that STAKES_LOAD refuses (Table OCI-11): a reserved field or action, a UNIT outside its action's range, a
real-time DELAY below 2^17. -/
def stakeRefused (m a : Word) : Bool :=
  let k := F.STAKE_ACTION_ACTION.of a
  let u := F.STAKE_ACTION_UNIT.of a
  Reg.STAKE_MATCH.refused m || Reg.STAKE_ACTION.refused a || (k == 5 && 96 ≤ u) || (k == 8 && 40 ≤ u) ||
    (realTime k && F.STAKE_ACTION_DELAY.of a < 2 ^ 17)

/-- Whether a stake's action word names an absent block weaver (R2). -/
def State.stakeAbsent (s : State) (a : Word) : Bool :=
  let u := F.STAKE_ACTION_UNIT.of a
  F.STAKE_ACTION_ACTION.of a == 8 && decide (u < 32) && s.blockAbsent u

/-- The staged words of stake `i`. -/
def stagedStake (i : Nat) : List (Reg × Nat) := [(.STG_MATCH, i), (.STG_ACTION, i)]

/-- STAKES_LOAD (Table OCI-11). -/
def cmdStakesLoad : Cmd where
  chk s j :=
    let n := 16 * j.arg 2 2
    let head := j.lenIs 24 ++ j.run 0 2 4096 4096 ++ j.badMask 4 4 1 ++ s.bulkFail j 8 0 n
    head ++
      (if head.isEmpty then
        let ws := byteWords (2 * j.arg 2 2) (s.bulkIn j 8 n)
        (List.range (j.arg 2 2)).flatMap fun i => badArg (stakeRefused (ws.getD (2 * i) 0) (ws.getD (2 * i + 1) 0)) noIdx i ++
          failIf (s.stakeAbsent (ws.getD (2 * i + 1) 0)) 0x15 noIdx i
      else []) ++
      ((j.items 0 2).zipIdx.flatMap fun (x, i) =>
        (s.denyAll j (stagedStake x) true).map fun f => (f.1, i, f.2.2)) ++
      (if bit (j.arg 4 4) 0 then s.denyAll j ((List.range 4096).map fun i => (.STG_MATCH, i)) true ++
        s.denyAll j ((List.range 512).map fun i => (.STG_LG, i)) true else []) ++
      s.claimBusy j ++ s.commitBusy
  res _ _ := [(6, 0)]
  run j s :=
    let s := s.bulkMeet j 8 (16 * j.arg 2 2)
    let ws := byteWords (2 * j.arg 2 2) (s.st.bulkIn j 8 (16 * j.arg 2 2))
    let s := s.stageClaim j.ep
    let s := s.when (bit (j.arg 4 4) 0) fun s =>
      let s := s.each (List.range 4096) fun s i => s.fw .STG_MATCH i 0
      s.each (List.range 512) fun s i => s.fw .STG_LG i 0
    (s.each (((j.items 0 2).flatMap stagedStake).zip ws) fun s ((r, i), v) => s.fw r i v, .ok)

/-- STAKES_LOAD (R317). -/
def execStakesLoad (t ep sl : Nat) (s : State) : Host.Outcome State Fault Refusal :=
  .next (((Work.start s).at t).oci ep sl 0x0303 cmdStakesLoad).st

/-- The staged words of the groups that LG_LOAD names, each with its payload offset. -/
def Job.groupWords (j : Job) : List (Nat × Nat) :=
  (List.range (8 * j.arg 1 1)).map fun k => (8 * j.arg 0 1 + k, 8 + 8 * k)

/-- LG_LOAD (Table OCI-11). -/
def cmdLgLoad : Cmd where
  chk s j := j.lenIs (8 + 64 * j.arg 1 1) ++ j.run 0 1 3 64 ++ j.rsv 2 6 ++
    (j.groupWords.flatMap fun (i, o) => (s.deny j .STG_LG i true).map fun f => (f.1, (o - 8) / 64, f.2.2)) ++
    s.claimBusy j ++ s.commitBusy
  res _ _ := [(6, 0)]
  run j s := ((s.stageClaim j.ep).each j.groupWords fun s (i, o) => s.fw .STG_LG i (j.word o), .ok)

/-- LG_LOAD (R317). -/
def execLgLoad (t ep sl : Nat) (s : State) : Host.Outcome State Fault Refusal :=
  .next (((Work.start s).at t).oci ep sl 0x0304 cmdLgLoad).st

/-- The staging claim of endpoint `e` ends. -/
def Work.unclaim (s : Work s₀) (e : Nat) : Work s₀ := if s.st.claimEp = some e then s.setClaimEp none else s

/-- AXIS_COMMIT (Table OCI-11): it answers at COMMIT_DONE, where the claim ends. -/
def cmdAxisCommit : Cmd where
  chk s j := j.lenIs 4 ++ j.badMask 0 4 1 ++ s.deny j .AXI_CTRL 0 true ++ s.claimBusy j
  res _ _ := [(6, 0)]
  run j s :=
    if bit (j.arg 0 4) 0 then (s.unclaim j.ep, .ok)
    else
      let s := s.fw .AXI_CTRL 0 (w64 (s.get F.AXI_CTRL_EN 0 + 2))
      if s.on F.AXI_CTRL_COMMIT 0 then (s, .wait) else (s.unclaim j.ep, .ok)

/-- AXIS_COMMIT (R151, R317). -/
def execAxisCommit (t ep sl : Nat) (s : State) : Host.Outcome State Fault Refusal :=
  .next (((Work.start s).at t).oci ep sl 0x0305 cmdAxisCommit).st

/-- Firmware writes a direction word: the ports from `k` on that SELECT names take their bits of VALUE. -/
def Work.markSel (s : Work s₀) (j : Job) (r : Reg) (k : Nat) : Work s₀ :=
  let sel := bits (j.arg 0 16) k 64
  let v := bits (j.arg 16 16) k 64
  s.fw r 0 ((s.reg r 0 &&& ~~~(w64 sel)) ||| w64 (v &&& sel))

/-- MARKDIR_SET (Table OCI-11). -/
def cmdMarkdirSet : Cmd where
  chk s j :=
    let out := fun (k : Nat) => bit (j.arg 0 16) k && bit (j.arg 16 16) k
    let srcs := [s.stepSrc, s.markSrc, F.AXI_CFG_STEP_SRC.of (s.reg .AXI_CFG 0), F.AXI_CFG_MARK_SRC.of (s.reg .AXI_CFG 0)]
    j.lenIs 32 ++ j.rsv 12 4 ++ j.rsv 28 4 ++ s.denyAll j [(.AXI_MARKDIR0, 0), (.AXI_MARKDIR1, 0)] true ++
      failIf (srcs.any fun k => k < 96 && out k) 0x16
  run j s := ((s.markSel j .AXI_MARKDIR0 0).markSel j .AXI_MARKDIR1 64, .ok)

/-- MARKDIR_SET (R133). -/
def execMarkdirSet (t ep sl : Nat) (s : State) : Host.Outcome State Fault Refusal :=
  .next (((Work.start s).at t).oci ep sl 0x0306 cmdMarkdirSet).st

/-- QHIT_READ (Table OCI-11). -/
def cmdQhitRead : Cmd where
  chk s j := j.lenIs 4 ++ j.run 0 2 58 512 ++ absentIf (j.items 0 2) s.laneAbsent ++
    s.denyItems j (j.items 0 2) [.AXI_QHIT] false
  res _ j := (j.items 0 2).map fun n => (0, n)
  run j s :=
    let (s, ws) := s.frs (perItem (j.items 0 2) [.AXI_QHIT])
    (s, .ok 0 (ws.flatMap fun v => le 4 v.toNat))

/-- QHIT_READ (R158). -/
def execQhitRead (t ep sl : Nat) (s : State) : Host.Outcome State Fault Refusal :=
  .next (((Work.start s).at t).oci ep sl 0x0307 cmdQhitRead).st

/-! ## CAL -/

/-- The words of CAL_UNIT_STATUS. -/
def calUnitWords : List Reg :=
  [.CAL_LSTAT, .CAL_LQUAL, .CAL_LCNT, .CAL_LACT_T, .CAL_LACT_A, .CAL_LACT_M, .CAL_LBASE]

/-- Whether a unit is absent. -/
def State.unitAbsent (s : State) (u : Nat) : Bool := s.blockAbsent (blockOf u)

/-- CAL_UNIT_STATUS (Table OCI-12). -/
def cmdCalUnitStatus : Cmd where
  chk s j := j.lenIs 4 ++ j.run 0 2 4 544 ++ absentIf (j.items 0 2) s.unitAbsent ++
    s.denyItems j (j.items 0 2) calUnitWords false
  res _ j := (j.items 0 2).map fun n => (0, n)
  run j s :=
    let (s, ws) := s.frs (perItem (j.items 0 2) calUnitWords)
    (s, .ok 0 (wordBytes ws))

/-- CAL_UNIT_STATUS (R321). -/
def execCalUnitStatus (t ep sl : Nat) (s : State) : Host.Outcome State Fault Refusal :=
  .next (((Work.start s).at t).oci ep sl 0x0500 cmdCalUnitStatus).st

/-- The fields that the MASK of CAL_BLOCK_SET selects. -/
def calBlockFlds : List Fld := [F.CAL_BCFG_DELTA_T, F.CAL_BCFG_POLICY, F.CAL_BCFG_RUN, F.CAL_BCFG_PAUSE, F.CAL_BCFG_BASE_WT]

/-- A word with the fields that a mask selects taken from another. -/
def mixFlds (fs : List Fld) (mask : Nat) (old new : Word) : Word :=
  fs.zipIdx.foldl (fun v (f, k) => if bit mask k then f.put v (f.of new) else v) old

/-- CAL_BLOCK_SET (Table OCI-12). -/
def cmdCalBlockSet : Cmd where
  chk s j :=
    let v := j.word 8
    let d := F.CAL_BCFG_DELTA_T.of v
    j.lenIs 16 ++ j.range 0 1 0 31 ++ j.rsv 1 3 ++ j.badMask 4 4 5 ++
      badArg (v.toNat &&& Reg.CAL_BCFG.rsv != 0 || bit (j.arg 4 4) 0 && (d < 5 || 500 < d)) 8 ++
      failIf (s.blockAbsent (j.arg 0 1)) 0x15 0 ++ s.deny j .CAL_BCFG (j.arg 0 1) true 0
  res _ j := [(1, j.arg 0 1)]
  run j s := (s.fw .CAL_BCFG (j.arg 0 1) (mixFlds calBlockFlds (j.arg 4 4) (s.reg .CAL_BCFG (j.arg 0 1)) (j.word 8)), .ok)

/-- CAL_BLOCK_SET (R321). -/
def execCalBlockSet (t ep sl : Nat) (s : State) : Host.Outcome State Fault Refusal :=
  .next (((Work.start s).at t).oci ep sl 0x0501 cmdCalBlockSet).st

/-- CAL_BLOCK_STATUS (Table OCI-12). -/
def cmdCalBlockStatus : Cmd where
  chk s j := j.lenIs 4 ++ j.range 0 1 0 31 ++ j.rsv 1 3 ++ failIf (s.blockAbsent (j.arg 0 1)) 0x15 0 ++
    s.denyAll j (perItem [j.arg 0 1] [.CAL_BSTAT, .CAL_BEVT, .CAL_BCNT]) false 0
  res _ j := [(1, j.arg 0 1)]
  run j s :=
    let (s, ws) := s.frs (perItem [j.arg 0 1] [.CAL_BSTAT, .CAL_BEVT, .CAL_BCNT])
    (s, .ok 0 (wordBytes ws))

/-- CAL_BLOCK_STATUS (R321). -/
def execCalBlockStatus (t ep sl : Nat) (s : State) : Host.Outcome State Fault Refusal :=
  .next (((Work.start s).at t).oci ep sl 0x0502 cmdCalBlockStatus).st

/-- The checks of a payload that names a unit: UNIT (2), reserved (2); and of the unit's block's registers. -/
def State.unitName (s : State) (j : Job) : List Fail :=
  j.lenIs 4 ++ j.range 0 2 0 543 ++ j.rsv 2 2 ++ failIf (s.unitAbsent (j.arg 0 2)) 0x15 0 ++
    s.deny j .CAL_BCFG (blockOf (j.arg 0 2)) true 0

/-- CAL_PRIORITISE (Table OCI-12): the unit goes to the head of its block's cycle. -/
def cmdCalPrioritise : Cmd where
  chk s j :=
    let u := j.arg 0 2
    s.unitName j ++ failIf (3 ≤ s.calState u || !s.on F.CAL_BCFG_RUN (blockOf u)) 0x16
  res _ j := [(0, j.arg 0 2), (1, blockOf (j.arg 0 2))]
  run j s :=
    let u := j.arg 0 2
    (s.modBlk (blockOf u) fun k => { k with prio := u :: k.prio.erase u }, .ok)

/-- CAL_PRIORITISE (R79, R321). -/
def execCalPrioritise (t ep sl : Nat) (s : State) : Host.Outcome State Fault Refusal :=
  .next (((Work.start s).at t).oci ep sl 0x0503 cmdCalPrioritise).st

/-- The newest valid of unit `u`'s written slots (1 A, 2 B), if one is valid. -/
def State.newestSlot (s : State) (u : Nat) : Option Nat :=
  match s.slotSeq u 1, s.slotSeq u 2 with
  | none, none => none
  | some _, none => some 1
  | none, some _ => some 2
  | some a, some b => some (if b < a then 1 else 2)

/-- Firmware clears unit `u`'s FLAGS in the vault: those of its newest slot, whose CHECK follows (R318). -/
def Work.clearFlags (s : Work s₀) (u : Nat) : Work s₀ :=
  match s.st.newestSlot u with
  | none => s
  | some k =>
    let bs := (s.st.slotBytes u k).take 0x3080
    let bs := bs.take 12 ++ le 4 0 ++ bs.drop 16
    s.vaultWrite (slotAddr u k) (bs ++ le 4 (crc32c bs))

/-- CAL_REINSTATE (Table OCI-12, R318). -/
def cmdCalReinstate : Cmd where
  chk s j :=
    let u := j.arg 0 2
    let b := blockOf u
    let rel := s.calState (512 + b)
    s.unitName j ++ failIf (s.calState u < 3 || u < 512 && !(rel == 1 || rel == 3 && s.carried b == some u)) 0x16
  res _ j := [(0, j.arg 0 2), (1, blockOf (j.arg 0 2))]
  run j s :=
    let u := j.arg 0 2
    let former := s.st.calState u
    ((s.clearFlags u).modBlk (blockOf u) fun k => { k with reinst := some (u, former), agreed := false }, .wait u)

/-- CAL_REINSTATE (R318). -/
def execCalReinstate (t ep sl : Nat) (s : State) : Host.Outcome State Fault Refusal :=
  .next (((Work.start s).at t).oci ep sl 0x0504 cmdCalReinstate).st

/-- The slot that CAL_EXPORT copies: 0 F, 1 A, 2 B; of the newest valid, F where neither A nor B is valid. -/
def State.exportSlot (s : State) (u k : Nat) : Nat := if k = 0 then (s.newestSlot u).getD 0 else k - 1

/-- CAL_EXPORT (Table OCI-12). -/
def cmdCalExport : Cmd where
  chk s j :=
    let m := epMaster j.ep
    j.lenIs 24 ++ j.run 0 2 544 544 ++ j.range 4 1 0 3 ++ j.rsv 5 3 ++ s.bulkFail j 8 1 (0x3088 * j.arg 2 2) ++
      absentIf (j.items 0 2) s.unitAbsent ++
      ((j.items 0 2).zipIdx.flatMap fun (u, i) =>
        let a := slotAddr u (s.exportSlot u (j.arg 4 1))
        failIf ((List.range 1553).any fun w => !s.grants m 16 (a + 8 * w) false) 0x14 noIdx i)
  res _ j := (j.items 0 2).map fun n => (0, n)
  run j s :=
    let one := fun (u : Nat) => s.st.slotBytes u (s.st.exportSlot u (j.arg 4 1)) ++ le 4 0
    s.bulkOut j 8 ((j.items 0 2).flatMap one)

/-- CAL_EXPORT (R321). -/
def execCalExport (t ep sl : Nat) (s : State) : Host.Outcome State Fault Refusal :=
  .next (((Work.start s).at t).oci ep sl 0x0505 cmdCalExport).st

end Sys2Proof.Machine
end

