-- ==== Sys2Proof/Machine/OciWeave.lean ====
section
/-!
DEFINITION. The WEAVE and FILT families of commands (Table OCI-17). The spec summarises their payloads and responses;
the layouts are the model's (log entry 17).
-/

namespace Sys2Proof.Machine

variable {s₀ : State}

/-! ## WEAVE -/

/-- Whether a weaver is absent: BW16 to BW31 of the DZ9256 (R2). -/
def State.weaverAbsent (s : State) (w : Nat) : Bool := w < 32 && s.blockAbsent w

/-- The checks of WEAVER (1) at payload offset 0. -/
def State.weaverName (s : State) (j : Job) : List Fail := j.range 0 1 0 39 ++ failIf (s.weaverAbsent (j.arg 0 1)) 0x15 0

/-- STATE while the weaver runs. -/
def State.weaverRuns (s : State) (j : Job) : List Fail := failIf (s.on F.WEA_WSTAT_RUNNING (j.arg 0 1)) 0x16

/-- A weaver as a resource. -/
def weaverRes (_ : State) (j : Job) : List (Nat × Nat) := [(12, j.arg 0 1)]

/-- A weaver image (Table WEA-6): its instructions, its words of local data with their indices, WENTRY, and WEA_TD0 to
WEA_TD7. -/
structure Image where
  prog  : List Nat
  data  : List (Nat × Word)
  entry : Word
  tds   : List Word

/-- The size of an image in bytes, with its CHECK. -/
def imageSize (bs : List Byte) : Nat := 92 + 4 * field bs 6 2 + 16 * field bs 8 2

/-- The image that bytes spell (R195): none where its counts exceed the limits or its CHECK fails, or where it does not
fill the transfer but for padding to a multiple of 8. -/
def imageOf (bs : List Byte) : Option Image :=
  let p := field bs 6 2
  let d := field bs 8 2
  let n := imageSize bs
  let at_ := fun (i : Nat) => 88 + 4 * p + 16 * i
  let idx := (List.range d).map fun i => field bs (at_ i) 2
  if field bs 0 4 != 0x4957594E || field bs 4 2 != 1 || p < 1 || 1024 < p || 512 < d || field bs 10 6 != 0 ||
      (n + 7) / 8 * 8 != bs.length || field bs (n - 4) 4 != crc32c (bs.take (n - 4)) ||
      idx.any (512 ≤ ·) || (List.range d).any (fun i => field bs (at_ i + 2) 6 != 0) then none
  else some {
    prog := (List.range p).map fun i => field bs (88 + 4 * i) 4
    data := (List.range d).map fun i => (field bs (at_ i) 2, w64 (field bs (at_ i + 8) 8))
    entry := w64 (field bs 16 8)
    tds := (List.range 8).map fun i => w64 (field bs (24 + 8 * i) 8) }

/-- The registers that an image is written to. -/
def imageRegs (w : Nat) : List (Reg × Nat) :=
  [(.WEA_WENTRY, w)] ++ (List.range 8).map (fun i => (.WEA_TD, 8 * w + i)) ++
    (List.range 512).map (fun i => (.WEA_PROG, 1024 * w + 2 * i)) ++ (List.range 512).map fun i => (.WEA_LOCAL, 512 * w + i)

/-- Firmware writes the instructions of an image, two to the word; an odd last one leaves the one after it. -/
def Work.loadProg (s : Work s₀) (w : Nat) (ps : List Nat) : Work s₀ :=
  s.each (List.range ((ps.length + 1) / 2)) fun s i =>
    let hi := match ps[2 * i + 1]? with
      | some x => x
      | none => (s.reg .WEA_PROG (1024 * w + 2 * i + 1)).toNat
    s.fw .WEA_PROG (1024 * w + 2 * i) (w64 (ps.getD (2 * i) 0 + 2 ^ 32 * hi))

/-- WEAVE_LOAD: WEAVER (1), reserved (7), a bulk descriptor. -/
def cmdWeaveLoad : Cmd where
  chk s j :=
    let w := j.arg 0 1
    let n := j.arg 16 4
    let head := j.lenIs 24 ++ j.range 0 1 0 39 ++ j.rsv 1 7 ++ s.bulkFail j 8 0 n
    head ++
      (if head.isEmpty then
        match imageOf (s.bulkIn j 8 n) with
        | none => badArg true noIdx
        | some m => badArg (Reg.WEA_WENTRY.refused m.entry || w < 32 && F.WEA_WENTRY_BEND_PC.of m.entry != 0 ||
            m.tds.any Reg.WEA_TD.refused) noIdx
      else []) ++
      s.weaverName j ++ s.denyAll j (imageRegs w) true 0 ++ s.weaverRuns j
  res := weaverRes
  run j s :=
    let w := j.arg 0 1
    let s := s.bulkMeet j 8 (j.arg 16 4)
    match imageOf (s.st.bulkIn j 8 (j.arg 16 4)) with
    | none => (s, .err 0x12)
    | some m =>
      let s := (s.loadProg w m.prog).each m.data fun s (i, v) => s.fw .WEA_LOCAL (512 * w + i) v
      let s := s.fw .WEA_WENTRY w m.entry
      (s.each m.tds.zipIdx fun s (v, i) => s.fw .WEA_TD (8 * w + i) v, .ok)

/-- WEAVE_LOAD (R195). -/
def execWeaveLoad (t ep sl : Nat) (s : State) : Host.Outcome State Fault Refusal :=
  .next (((Work.start s).at t).oci ep sl 0x0400 cmdWeaveLoad).st

/-- WEAVE_START and WEAVE_STOP: WEAVER (1), reserved (3); RUN is written. -/
def cmdWeaveRun (run : Word) : Cmd where
  chk s j := j.lenIs 4 ++ j.rsv 1 3 ++ s.weaverName j ++ s.deny j .WEA_WCTRL (j.arg 0 1) true 0
  res := weaverRes
  run j s := (s.fw .WEA_WCTRL (j.arg 0 1) run, .ok)

/-- WEAVE_START (R192). -/
def execWeaveStart (t ep sl : Nat) (s : State) : Host.Outcome State Fault Refusal :=
  .next (((Work.start s).at t).oci ep sl 0x0401 (cmdWeaveRun 1)).st

/-- WEAVE_STOP (R193). -/
def execWeaveStop (t ep sl : Nat) (s : State) : Host.Outcome State Fault Refusal :=
  .next (((Work.start s).at t).oci ep sl 0x0402 (cmdWeaveRun 0)).st

/-- The words of WEAVE_STATUS. -/
def weaveStatusWords : List Reg := [.WEA_WSTAT, .WEA_WFAULT, .WEA_WFTIME, .WEA_WEVT, .WEA_WCNT0, .WEA_WCNT1]

/-- WEAVE_STATUS: WEAVER (1), reserved (3); the response is the six words. -/
def cmdWeaveStatus : Cmd where
  chk s j := j.lenIs 4 ++ j.rsv 1 3 ++ s.weaverName j ++ s.denyAll j (perItem [j.arg 0 1] weaveStatusWords) false 0
  res := weaverRes
  run j s :=
    let (s, ws) := s.frs (perItem [j.arg 0 1] weaveStatusWords)
    (s, .ok 0 (wordBytes ws))

/-- WEAVE_STATUS (R321). -/
def execWeaveStatus (t ep sl : Nat) (s : State) : Host.Outcome State Fault Refusal :=
  .next (((Work.start s).at t).oci ep sl 0x0403 cmdWeaveStatus).st

/-- The words of WEAVE_CFG for weaver `w`. -/
def weaveCfgWords (w : Nat) : List (Reg × Nat) :=
  [(.WEA_WCFG, w), (.WEA_WENTRY, w), (.WEA_PCFG, w)] ++ (List.range 8).map fun i => (.WEA_TD, 8 * w + i)

/-- WEAVE_CFG: WEAVER (1), reserved (3), MASK (4); WCFG, WENTRY, WEA_PCFG, WEA_TD0 to WEA_TD7. What an area lacks (the
plaza weavers' WMASK, the block weavers' BEND_PC and WEA_PCFG) is reserved there. -/
def cmdWeaveCfg : Cmd where
  chk s j :=
    let w := j.arg 0 1
    let ws := j.picked 4 4 (weaveCfgWords w) 8
    let bw := decide (w < 32)
    j.lenIs 96 ++ j.range 0 1 0 39 ++ j.rsv 1 3 ++ j.badMask 4 4 11 ++ j.badWords ws ++
      badArg (bit (j.arg 4 4) 0 && !bw && j.arg 8 2 != 0) 8 ++
      badArg (bit (j.arg 4 4) 1 && bw && F.WEA_WENTRY_BEND_PC.of (j.word 16) != 0) 16 ++
      badArg (bit (j.arg 4 4) 2 && bw) 24 ++ s.weaverName j ++ s.denyWords j ws
  res := weaverRes
  run j s := (s.fwWords j (j.picked 4 4 (weaveCfgWords (j.arg 0 1)) 8), .ok)

/-- WEAVE_CFG (R194). -/
def execWeaveCfg (t ep sl : Nat) (s : State) : Host.Outcome State Fault Refusal :=
  .next (((Work.start s).at t).oci ep sl 0x0404 cmdWeaveCfg).st

/-- The local words that WEAVE_DATA names. -/
def Job.localWords (j : Job) : List (Reg × Nat) :=
  (List.range (j.arg 4 2)).map fun i => (.WEA_LOCAL, 512 * j.arg 0 1 + j.arg 2 2 + i)

/-- WEAVE_DATA: WEAVER (1), reserved (1), FIRST (2), COUNT (2), reserved (2), a bulk descriptor with DIR 0 to write the
words or 1 to read them. -/
def cmdWeaveData : Cmd where
  chk s j :=
    let dir := min 1 (j.arg 20 1)
    j.lenIs 24 ++ j.rsv 1 1 ++ j.run 2 2 512 512 ++ j.rsv 6 2 ++ s.bulkFail j 8 dir (8 * j.arg 4 2) ++ s.weaverName j ++
      s.denyAll j j.localWords (dir == 0) 0
  res := weaverRes
  run j s :=
    if j.arg 20 1 = 0 then
      let s := s.bulkMeet j 8 (8 * j.arg 4 2)
      let ws := byteWords (j.arg 4 2) (s.st.bulkIn j 8 (8 * j.arg 4 2))
      (s.each (j.localWords.zip ws) fun s ((r, i), v) => s.fw r i v, .ok)
    else
      let (s, ws) := s.frs j.localWords
      s.bulkOut j 8 (wordBytes ws)

/-- WEAVE_DATA (R194). -/
def execWeaveData (t ep sl : Nat) (s : State) : Host.Outcome State Fault Refusal :=
  .next (((Work.start s).at t).oci ep sl 0x0405 cmdWeaveData).st

/-- WEAVE_PIN: WEAVER (1), a plaza weaver; INPUT (1); reserved (6); the WEA_PIN word. -/
def cmdWeavePin : Cmd where
  chk s j :=
    let i := 8 * (j.arg 0 1 - 32) + j.arg 1 1
    j.lenIs 16 ++ j.range 0 1 32 39 ++ j.range 1 1 0 7 ++ j.rsv 2 6 ++ badArg (Reg.WEA_PIN.refused (j.word 8)) 8 ++
      s.deny j .WEA_PIN i true 0
  res := weaverRes
  run j s := (s.fw .WEA_PIN (8 * (j.arg 0 1 - 32) + j.arg 1 1) (j.word 8), .ok)

/-- WEAVE_PIN (R186, R321). -/
def execWeavePin (t ep sl : Nat) (s : State) : Host.Outcome State Fault Refusal :=
  .next (((Work.start s).at t).oci ep sl 0x0406 cmdWeavePin).st

/-! ## FILT -/

/-- A pipeline and a histogram engine as resources. -/
def fltRes (_ : State) (j : Job) : List (Nat × Nat) := [(10, j.arg 0 1)]
def heRes (_ : State) (j : Job) : List (Nat × Nat) := [(11, j.arg 0 1)]

/-- The words of FILT_SET. -/
def fltWords (p : Nat) : List (Reg × Nat) :=
  [(.FLT_CFG, p), (.FLT_SEL, p), (.FLT_XREF, p), (.FLT_TAU, p), (.FLT_TOFS, p), (.FLT_IO, p)]

/-- Firmware's record of a pipeline's store area. -/
def fltArea (p : Nat) : Nat := 65536 + p

/-- FILT_SET: PIPELINE (1), reserved (3), MASK (4); FLT_CFG, FLT_SEL, FLT_XREF, FLT_TAU, FLT_TOFS, FLT_IO. Firmware
gives the pipeline a store area without overlap and writes its HIST_BLK, whatever the payload's FLT_IO names (R208). A
FLT_SEL that would set CFG_ERR (R198) is refused with BAD_ARGUMENT. -/
def cmdFiltSet : Cmd where
  chk s j :=
    let p := j.arg 0 1
    let ws := j.picked 4 4 (fltWords p) 8
    let ty := F.FLT_SEL_TYPE.of (j.word 16)
    j.lenIs 56 ++ j.range 0 1 0 63 ++ j.rsv 1 3 ++ j.badMask 4 4 6 ++ j.badWords ws ++
      badArg (bit (j.arg 4 4) 1 && (ty < 3 || 6 < ty || F.FLT_SEL_ID_ANY.of (j.word 16) != 0)) 16 ++ s.denyWords j ws ++
      failIf (bit (j.arg 4 4) 5 && s.allocAt (fltArea p) == 0 && (s.freePlaces (fltArea p) 21).isEmpty) 0x17
  res := fltRes
  run j s :=
    let p := j.arg 0 1
    let io := bit (j.arg 4 4) 5
    let s := if io && s.alloc (fltArea p) = 0 then
        let (s, b) := s.pick (s.st.freePlaces (fltArea p) 21)
        s.setAlloc (fltArea p) (areaCode b 21)
      else s
    let blk := (areaOf (s.alloc (fltArea p))).1 / 2 ^ 21
    let ws := (j.picked 4 4 (fltWords p) 8).filter fun (r, _, _) => r != .FLT_CFG && r != .FLT_IO
    let s := s.fwWords j ws
    let s := s.when io fun s => s.fw .FLT_IO p (F.FLT_IO_HIST_BLK.put (j.word 48) blk)
    (s.when (bit (j.arg 4 4) 0) fun s => s.fw .FLT_CFG p (j.word 8), .ok)

/-- FILT_SET (R208, R321). -/
def execFiltSet (t ep sl : Nat) (s : State) : Host.Outcome State Fault Refusal :=
  .next (((Work.start s).at t).oci ep sl 0x0600 cmdFiltSet).st

/-- The words of a bank: SCFG, GAIN and OFFSET of each stage. -/
def bankWords (p b : Nat) : List (Reg × Nat) :=
  (List.range 4).flatMap fun st => [.FLT_SCFG, .FLT_GAIN, .FLT_OFFSET].map fun r => (r, 8 * p + 4 * b + st)

/-- FILT_BANK_LOAD: PIPELINE (1), BANK (1), reserved (6), twelve words. STATE for the bank in force, and for either
during a cross-fade. -/
def cmdFiltBankLoad : Cmd where
  chk s j :=
    let p := j.arg 0 1
    let ws := bankWords p (j.arg 1 1)
    j.lenIs 104 ++ j.range 0 1 0 63 ++ j.range 1 1 0 1 ++ j.rsv 2 6 ++
      (ws.zipIdx.flatMap fun ((r, _), k) => badArg (r.refused (j.word (8 + 8 * k))) (8 + 8 * k)) ++ s.denyAll j ws true 0 ++
      failIf ((s.fltAt p).xf.isSome || s.get F.FLT_STAT_BANK p == j.arg 1 1) 0x16 1
  res := fltRes
  run j s :=
    (s.each (bankWords (j.arg 0 1) (j.arg 1 1)).zipIdx fun s ((r, i), k) => s.fw r i (j.word (8 + 8 * k)), .ok)

/-- FILT_BANK_LOAD (R211, R321). -/
def execFiltBankLoad (t ep sl : Nat) (s : State) : Host.Outcome State Fault Refusal :=
  .next (((Work.start s).at t).oci ep sl 0x0601 cmdFiltBankLoad).st

/-- FILT_SWAP: PIPELINE (1), reserved (1), N (2). -/
def cmdFiltSwap : Cmd where
  chk s j := j.lenIs 4 ++ j.range 0 1 0 63 ++ j.rsv 1 1 ++ j.range 2 2 0 4096 ++ s.deny j .FLT_CTRL (j.arg 0 1) true 0
  res := fltRes
  run j s := (s.fw .FLT_CTRL (j.arg 0 1) (w64 (1 + 2 * j.arg 2 2)), .ok)

/-- FILT_SWAP (R212). -/
def execFiltSwap (t ep sl : Nat) (s : State) : Host.Outcome State Fault Refusal :=
  .next (((Work.start s).at t).oci ep sl 0x0602 cmdFiltSwap).st

/-- FILT_RESET: PIPELINE (1), reserved (3). -/
def cmdFiltReset : Cmd where
  chk s j := j.lenIs 4 ++ j.range 0 1 0 63 ++ j.rsv 1 3 ++ s.deny j .FLT_CTRL (j.arg 0 1) true 0
  res := fltRes
  run j s := (s.fw .FLT_CTRL (j.arg 0 1) 0x4000, .ok)

/-- FILT_RESET (R209). -/
def execFiltReset (t ep sl : Nat) (s : State) : Host.Outcome State Fault Refusal :=
  .next (((Work.start s).at t).oci ep sl 0x0603 cmdFiltReset).st

/-- The words of FILT_STATUS. -/
def fltStatusWords : List Reg := [.FLT_STAT, .FLT_EVT, .FLT_CNT0, .FLT_CNT1, .FLT_CNT2]

/-- FILT_STATUS: PIPELINE (1), reserved (3); the response is the five words. -/
def cmdFiltStatus : Cmd where
  chk s j := j.lenIs 4 ++ j.range 0 1 0 63 ++ j.rsv 1 3 ++ s.denyAll j (perItem [j.arg 0 1] fltStatusWords) false 0
  res := fltRes
  run j s :=
    let (s, ws) := s.frs (perItem [j.arg 0 1] fltStatusWords)
    (s, .ok 0 (wordBytes ws))

/-- FILT_STATUS (R321). -/
def execFiltStatus (t ep sl : Nat) (s : State) : Host.Outcome State Fault Refusal :=
  .next (((Work.start s).at t).oci ep sl 0x0604 cmdFiltStatus).st

/-- The words of HIST_SET. -/
def heWords (h : Nat) : List (Reg × Nat) := [(.HE_CFG, h), (.FLT_SEL, 64 + h), (.HE_KOFS, h), (.HE_SNAP, h)]

/-- HIST_SET: ENGINE (1), reserved (3), MASK (4); HE_CFG, HE_SEL, HE_KOFS, HE_SNAP. HE_CFG is written last. A HE_SEL
that would set CFG_ERR (R226) is refused with BAD_ARGUMENT. -/
def cmdHistSet : Cmd where
  chk s j :=
    let h := j.arg 0 1
    let ws := j.picked 4 4 (heWords h) 8
    let s' := s.withWords j ws
    j.lenIs 40 ++ j.range 0 1 0 63 ++ j.rsv 1 3 ++ j.badMask 4 4 4 ++ j.badWords ws ++
      badArg (!ws.isEmpty && s'.on F.HE_CFG_EN h && s'.heBad h) 16 ++ s.denyWords j ws
  res := heRes
  run j s := (s.fwWords j (j.picked 4 4 (heWords (j.arg 0 1)) 8).reverse, .ok)

/-- HIST_SET (R321). -/
def execHistSet (t ep sl : Nat) (s : State) : Host.Outcome State Fault Refusal :=
  .next (((Work.start s).at t).oci ep sl 0x0605 cmdHistSet).st

/-- HIST_OP: ENGINE (1), OP (1), 1 SNAPSHOT, 2 SNAPSHOT_RESET, 3 RESET; reserved (2). -/
def cmdHistOp : Cmd where
  chk s j := j.lenIs 4 ++ j.range 0 1 0 63 ++ j.range 1 1 1 3 ++ j.rsv 2 2 ++ s.deny j .HE_CTRL (j.arg 0 1) true 0
  res := heRes
  run j s := (s.fw .HE_CTRL (j.arg 0 1) (w64 (j.arg 1 1)), .ok)

/-- HIST_OP (R222). -/
def execHistOp (t ep sl : Nat) (s : State) : Host.Outcome State Fault Refusal :=
  .next (((Work.start s).at t).oci ep sl 0x0606 cmdHistOp).st

/-- The words of HIST_STATUS. -/
def heStatusWords : List Reg :=
  [.HE_STAT, .HE_MIN, .HE_MAX, .HE_UNDER, .HE_OVER, .HE_EVT, .HE_CNT, .HE_SINCE]

/-- HIST_STATUS: ENGINE (1), reserved (3); the response is the eight words. -/
def cmdHistStatus : Cmd where
  chk s j := j.lenIs 4 ++ j.range 0 1 0 63 ++ j.rsv 1 3 ++ s.denyAll j (perItem [j.arg 0 1] heStatusWords) false 0
  res := heRes
  run j s :=
    let (s, ws) := s.frs (perItem [j.arg 0 1] heStatusWords)
    (s, .ok 0 (wordBytes ws))

/-- HIST_STATUS (R321). -/
def execHistStatus (t ep sl : Nat) (s : State) : Host.Outcome State Fault Refusal :=
  .next (((Work.start s).at t).oci ep sl 0x0607 cmdHistStatus).st

end Sys2Proof.Machine
end

