-- ==== Sys2Proof/Machine/OciClk.lean ====
section
/-!
DEFINITION. The CLK family of commands (Table OCI-14, R320).
-/

namespace Sys2Proof.Machine

variable {s₀ : State}

/-! ## The timebase -/

/-- The words of TPLL_SET. -/
def tpllWords : List (Reg × Nat) :=
  [(.TIM_TCFG, 0), (.TIM_TREFP, 0), (.TIM_REF, 0), (.TIM_REF, 1), (.TIM_REF, 2), (.TIM_REF, 3)]

/-- TPLL_SET (Table OCI-14). -/
def cmdTpllSet : Cmd where
  chk s j :=
    let ws := j.picked 0 4 tpllWords 8
    j.lenIs 56 ++ j.badMask 0 4 6 ++ j.rsv 4 4 ++ j.badWords ws ++ badArg (s.withWords j ws).localBad noIdx ++ j.pf0 ++
      s.denyWords j ws
  res _ _ := [(7, 0)]
  run j s := (s.fwWords j (j.picked 0 4 tpllWords 8), .ok)

/-- TPLL_SET (R227). -/
def execTpllSet (t ep sl : Nat) (s : State) : Host.Outcome State Fault Refusal :=
  .next (((Work.start s).at t).oci ep sl 0x0700 cmdTpllSet).st

/-- The words of TPLL_STATUS. -/
def tpllStatusWords : List (Reg × Nat) :=
  [(.TIM_TSTAT, 0), (.TIM_THETA, 0), (.TIM_SREM, 0), (.TIM_STEP, 0), (.TIM_FOFS, 0), (.TIM_TCNT, 0)]

/-- TPLL_STATUS (Table OCI-14). -/
def execTpllStatus (t ep sl : Nat) (s : State) : Host.Outcome State Fault Refusal :=
  .next (((Work.start s).at t).oci ep sl 0x0701 (cmdReadWords tpllStatusWords [(7, 0)])).st

/-- The response of SYNC0_ARM with WAIT: the stamp of the loading edge, PRESET - Δ, and Δ. -/
def State.sync0Data (s : State) : List Byte :=
  le 8 ((s.reg .TIM_PRESET 0) - (s.reg .TIM_STEP 0)).toNat ++ le 8 (s.reg .TIM_STEP 0).toNat

/-- SYNC0_ARM (Table OCI-14): with WAIT it answers ACCEPTED and completes at the load. -/
def cmdSync0Arm : Cmd where
  chk s j := j.lenIs 16 ++ j.range 8 1 0 1 ++ j.badMask 9 1 1 ++ j.rsv 10 6 ++ j.pf0 ++
    s.denyAll j [(.TIM_PRESET, 0), (.TIM_SYNC, 0)] true ++
    failIf (s.on F.TIM_SYNC_ARM0 0 || s.on F.TIM_SYNC_LOAD0_PEND 0) 0x16
  res _ _ := [(7, 0)]
  run j s :=
    let s := s.fw .TIM_PRESET 0 (j.word 0)
    let s := s.fw .TIM_SYNC 0 (w64 (1 + 4 * j.arg 8 1 + 8 * s.get F.TIM_SYNC_POL1 0))
    (s, if bit (j.arg 9 1) 0 then .later else .ok)

/-- SYNC0_ARM (R239). -/
def execSync0Arm (t ep sl : Nat) (s : State) : Host.Outcome State Fault Refusal :=
  .next (((Work.start s).at t).oci ep sl 0x0702 cmdSync0Arm).st

/-! ## The output synthesiser -/

/-- BAND_SET (Table OCI-14). -/
def cmdBandSet : Cmd where
  chk s j :=
    let e := j.arg 0 1
    j.lenIs 16 ++ j.range 0 1 0 15 ++ j.rsv 1 7 ++
      badArg (Reg.TIM_BAND0.refused (j.word 8) || !(s.withReg .TIM_BAND0 (e % 16) (j.word 8)).entryUsable (e % 16)) 8 ++
      s.deny j .TIM_BAND0 e true 0 ++ failIf (s.opll == 3 && s.get F.TIM_OSTAT_ENTRY 0 == e) 0x16
  res _ _ := [(8, 0)]
  run j s := (s.fw .TIM_BAND0 (j.arg 0 1) (j.word 8), .ok)

/-- BAND_SET (R240, R241). -/
def execBandSet (t ep sl : Nat) (s : State) : Host.Outcome State Fault Refusal :=
  .next (((Work.start s).at t).oci ep sl 0x0703 cmdBandSet).st

/-- The response of OPLL_OP: STATE, BAND, FLAGS with STALE, reserved. -/
def State.opllData (s : State) (stale : Nat) : List Byte :=
  le 1 s.opll ++ le 1 (s.get F.TIM_OSTAT_BAND 0) ++ le 1 stale ++ le 1 0

/-- Whether the outputs that the OPLL drives have completed their high phases. -/
def State.outputsLow (s : State) : Bool := s.affected.all fun c => !s.clkEnds c

/-- OPLL_OP (R320): OFF answers once the affected outputs are held low; HOP and SEARCH once the OPLL is LOCKED, within
1 ms, or 10 ms where there is a search. -/
def cmdOpllOp : Cmd where
  chk s j :=
    j.lenIs 4 ++ j.range 0 1 0 15 ++ j.range 1 1 1 3 ++ j.rsv 2 2 ++
      badArg (!s.entryUsable (j.arg 0 1 % 16)) 0 ++ s.deny j .TIM_OCTRL 0 true ++
      failIf (s.opll == 1 || s.opll == 2) 0x13
  res _ _ := [(8, 0)]
  run j s :=
    let e := j.arg 0 1
    let op := j.arg 1 1
    let stale := op == 2 && s.st.entryStale e
    let s := s.fw .TIM_OCTRL 0 (F.TIM_OCTRL_ENTRY.put (F.TIM_OCTRL_OP.put 0 op) e)
    if op = 3 then (s, if s.st.outputsLow then .ok 0 (s.st.opllData 0) else .wait)
    else (s, .wait (b2n stale) (s.now + ms (if op = 1 || stale then 10 else 1)))

/-- OPLL_OP (R320). -/
def execOpllOp (t ep sl : Nat) (s : State) : Host.Outcome State Fault Refusal :=
  .next (((Work.start s).at t).oci ep sl 0x0704 cmdOpllOp).st

/-- OPLL_OP_TIMEOUT (R320): the bound of an OPLL_OP expires without lock. -/
def execOpllOpTimeout (t : Nat) (s : State) : Host.Outcome State Fault Refusal :=
  let s := Work.start s
  .next (match s.st.jobs.find? fun j => j.op == 0x704 && j.arg 1 1 != 3 && j.ran && decide (j.at_ ≤ max t s.now) with
    | some j =>
      let s := s.at j.at_
      if s.st.opll = 3 then s else s.finish j 0x1B 0 (errData noIdx noIdx)
    | none => s.at t : Work _).st

/-- The fields that the MASK of OUT_SET selects. -/
def oclkFlds : List Fld :=
  [F.TIM_OCLK_EN, F.TIM_OCLK_SRC, F.TIM_OCLK_SYNC_EN, F.TIM_OCLK_DIV_X2, F.TIM_OCLK_CDLY, F.TIM_OCLK_FDLY]

/-- The word that OUT_SET writes to output `c`. -/
def State.oclkNew (s : State) (j : Job) (c : Nat) : Word := mixFlds oclkFlds (j.arg 4 4) (s.reg .TIM_OCLK c) (j.word 8)

/-- Whether an enabled output would lie outside 1 MHz to 4.0 GHz with a word (R244). -/
def State.oclkBad (s : State) (c : Nat) (v : Word) : Bool :=
  F.TIM_OCLK_EN.of v == 1 && ({ s with clk := Tab.set (fun _ => (0x40 : Word)) s.clk c v }).clkBad c

/-- OUT_SET (Table OCI-14). -/
def cmdOutSet : Cmd where
  chk s j :=
    let xs := j.items 0 1
    j.lenIs 16 ++ j.run 0 1 32 32 ++ j.rsv 2 2 ++ j.badMask 4 4 6 ++
      badArg ((j.word 8).toNat &&& Reg.TIM_OCLK.rsv != 0) 8 ++
      badArg (bit (j.arg 4 4) 3 && F.TIM_OCLK_DIV_X2.of (j.word 8) < 2) 8 ++
      (xs.zipIdx.flatMap fun (c, i) => badArg (s.oclkBad c (s.oclkNew j c)) 8 i) ++ s.denyItems j xs [.TIM_OCLK] true
  res _ j := (j.items 0 1).map fun c => (9, c)
  run j s := (s.each (j.items 0 1) fun s c => s.fw .TIM_OCLK c (s.st.oclkNew j c), .ok)

/-- OUT_SET (R244, R245). -/
def execOutSet (t ep sl : Nat) (s : State) : Host.Outcome State Fault Refusal :=
  .next (((Work.start s).at t).oci ep sl 0x0705 cmdOutSet).st

/-- SYNC1 (Table OCI-14): MODE 0 arms SYNC_IN1, MODE 1 resets the dividers at once. -/
def cmdSync1 : Cmd where
  chk s j := j.lenIs 4 ++ j.range 0 1 0 1 ++ j.range 1 1 0 1 ++ j.badMask 2 1 1 ++ j.rsv 3 1 ++ s.deny j .TIM_SYNC 0 true ++
    failIf (j.arg 0 1 == 0 && s.on F.TIM_SYNC_ARM1 0) 0x16
  res s _ := ((List.range 32).filter fun c => s.on F.TIM_OCLK_SYNC_EN c).map fun c => (9, c)
  run j s :=
    let v := if j.arg 0 1 = 0 then 2 else 16
    let s := s.fw .TIM_SYNC 0 (w64 (v + 4 * s.get F.TIM_SYNC_POL0 0 + 8 * j.arg 1 1))
    (s, if bit (j.arg 2 1) 0 then .wait else .ok)

/-- SYNC1 (R246). -/
def execSync1 (t ep sl : Nat) (s : State) : Host.Outcome State Fault Refusal :=
  .next (((Work.start s).at t).oci ep sl 0x0706 cmdSync1).st

/-- LOOP_SET (Table OCI-14): it answers once ACTIVE or ERR is set, and with EN = 0 once ACTIVE is 0. -/
def cmdLoopSet : Cmd where
  chk s j := j.lenIs 16 ++ j.range 0 1 0 31 ++ j.rsv 1 7 ++ badArg (Reg.TIM_LOOP.refused (j.word 8)) 8 ++
    failIf (s.blockAbsent (j.arg 0 1)) 0x15 0 ++ s.deny j .TIM_LOOP (j.arg 0 1) true 0
  res _ j := [(1, j.arg 0 1)]
  run j s := (s.fw .TIM_LOOP (j.arg 0 1) (j.word 8), .wait (j.arg 0 1))

/-- LOOP_SET (R247). -/
def execLoopSet (t ep sl : Nat) (s : State) : Host.Outcome State Fault Refusal :=
  .next (((Work.start s).at t).oci ep sl 0x0707 cmdLoopSet).st

/-- The words of OPLL_STATUS. -/
def Job.opllWords (j : Job) : List (Reg × Nat) :=
  [(.TIM_OSTAT, 0), (.TIM_OEVT, 0)] ++ (j.items 0 1).flatMap fun e => [(.TIM_BAND0, e), (.TIM_BAND1, e)]

/-- OPLL_STATUS (Table OCI-14). -/
def cmdOpllStatus : Cmd where
  chk s j := j.lenIs 4 ++ j.run 0 1 14 16 ++ j.rsv 2 2 ++ s.denyAll j j.opllWords false
  res _ _ := [(8, 0)]
  run j s :=
    let (s, ws) := s.frs j.opllWords
    (s, .ok 0 (wordBytes ws))

/-- OPLL_STATUS (R321). -/
def execOpllStatus (t ep sl : Nat) (s : State) : Host.Outcome State Fault Refusal :=
  .next (((Work.start s).at t).oci ep sl 0x0708 cmdOpllStatus).st

end Sys2Proof.Machine
end

