-- ==== Sys2Proof/Machine/OciQueue.lean ====
section
/-!
DEFINITION. The QUEUE family of commands (Table OCI-13, R319).
-/

namespace Sys2Proof.Machine

variable {s₀ : State}

/-! ## Allocation -/

/-- Whether queue `q` is allocated. -/
def State.allocated (s : State) (q : Nat) : Bool := s.allocAt q != 0

/-- The queues that QUEUE_ALLOC can give where the command names none: not allocated, not enabled, and admitted by the
access tables. -/
def State.freeQueues (s : State) (j : Job) : List Nat :=
  (List.range 65535).filter fun q => !s.allocated q && !s.on F.QD_CFG_EN q && (s.deny j .QD_CFG q true).isEmpty

/-- A queue as a resource. -/
def queueRes (_ : State) (j : Job) : List (Nat × Nat) := [(4, j.arg 0 2)]

/-- QUEUE_ALLOC (Table OCI-13). -/
def cmdQueueAlloc : Cmd where
  chk s j :=
    let q := j.arg 0 2
    let k := j.arg 2 1
    let b := j.arg 8 4
    let named := q != 0xFFFF
    j.lenIs 16 ++ j.range 2 1 6 26 ++ j.badMask 3 1 1 ++ badArg (2 ^ 27 ≤ j.arg 4 4) 4 ++ j.rsv 12 4 ++
      badArg (b != 0xFFFFFFFF && (b % 2 ^ k != 0 || 2 ^ 30 < b + 2 ^ k || overlaps (s.areas q) b (2 ^ k))) 8 ++
      (if named then s.denyAll j [(.QD_CFG, q), (.QD_THR, q)] true 0 ++ failIf (s.allocated q) 0x13 0
        else failIf (s.freeQueues j).isEmpty 0x17 0) ++
      failIf (b == 0xFFFFFFFF && k ≤ 26 && (s.freePlaces q k).isEmpty) 0x17 8
  res := queueRes
  run j s :=
    let k := j.arg 2 1
    let (s, q) := if j.arg 0 2 = 0xFFFF then s.pick (s.st.freeQueues j) else (s, j.arg 0 2)
    let (s, b) := if j.arg 8 4 = 0xFFFFFFFF then s.pick (s.st.freePlaces q k) else (s, j.arg 8 4)
    let s := s.setAlloc q (areaCode b k)
    let v := b + k * 2 ^ 32
    let s := s.fw .QD_CFG q (w64 v)
    let s := s.fw .QD_THR q (w64 (j.arg 4 4))
    let s := s.when (bit (j.arg 3 1) 0) fun s => s.fw .QD_CFG q (w64 (v + 2 ^ 40))
    (s, .ok 0 (le 2 q ++ le 2 0 ++ le 4 b))

/-- QUEUE_ALLOC (R251). -/
def execQueueAlloc (t ep sl : Nat) (s : State) : Host.Outcome State Fault Refusal :=
  .next (((Work.start s).at t).oci ep sl 0x0800 cmdQueueAlloc).st

/-! ## Bindings (R319) -/

/-- Whether the consumer of a kind and number runs (R319). -/
def State.consRuns (s : State) (kind id : Nat) : Bool :=
  match kind with
  | 1 => s.on F.RING_CFG_EN id
  | 2 => s.on F.ECH_CFG_EN id
  | 3 => s.on F.FLT_CFG_EN id
  | 4 => s.on F.HE_CFG_EN id
  | 5 => s.on F.WEA_WSTAT_RUNNING (32 + id / 8)
  | _ => false

/-- Whether entry `e` holds a partner that receives bundles, CAPS RECEIVES (R343). -/
def State.receives (s : State) (e : Nat) : Bool := s.attached e && bit (s.get F.PT_STAT_CAPS e) 1

/-- The consumer to which queue `q` is bound. -/
def State.consOf (s : State) (q : Nat) : Nat × Nat := (s.get F.QD_MARK_CONS_KIND q, s.get F.QD_MARK_CONS_ID q)

/-- How many consumers there are of a kind. -/
def consMany (kind : Nat) : Nat := [4096, 1024, 192, 64, 64, 64, 4096, 32].getD kind 0

/-- The register and field by which a consumer names its queue (R319); a ring's descriptor lies in no access target. -/
def consField (kind id : Nat) : Option (Fld × Nat) :=
  match kind with
  | 1 => some (F.RING_CFG_QUEUE, id)
  | 2 => some (F.ECH_CFG_QUEUE, id)
  | 3 => some (F.FLT_IO_IN_Q, id)
  | 4 => some (F.HE_CFG_IN_Q, id)
  | 5 => some (F.WEA_PIN_QUEUE, id)
  | _ => none

/-- DENIED for the register of a consumer that the payload names at `o`; a ring of another function is DENIED but to
PF0 (R319). -/
def State.denyCons (s : State) (j : Job) (kind id o : Nat) : List Fail :=
  if kind = 1 then failIf (j.ep != 0 && s.get F.RING_CFG_FUNC id != j.ep) 0x14 o
  else match consField kind id with
    | some (f, i) => s.deny j f.reg i true o
    | none => []

/-- Both sides of a binding are set (R319, Table QUE-4). -/
def Work.bindQueue (s : Work s₀) (q kind id : Nat) : Work s₀ :=
  let s := s.fw .QD_MARK q (w64 (kind * 2 ^ 44 + id * 2 ^ 48))
  match kind, consField kind id with
  | 1, some (f, i) => s.wrReg 0 .RING_CFG i (f.put (s.reg .RING_CFG i) q)
  | 5, some (f, i) => s.fw .WEA_PIN i (F.WEA_PIN_EN.put (f.put (s.reg .WEA_PIN i) q) 1)
  | _, some (f, i) => s.fwPut f i q
  | _, none => s

/-- A queue returns to CONS_KIND 0; a plaza weaver's input is switched off, other consumers' fields stay (R319). -/
def Work.unbindQueue (s : Work s₀) (q : Nat) : Work s₀ :=
  let (k, id) := s.st.consOf q
  let s := s.fw .QD_MARK q 0
  s.when (k == 5) fun s => s.fwPut F.WEA_PIN_EN id 0

/-- The lane maps with EN = 1 that name queue `q`. -/
def State.routedTo (s : State) (q : Nat) : List Nat :=
  s.indices .WEA_LMAP fun v =>
    F.WEA_LMAP_EN.of v == 1 && (F.WEA_LMAP_QA.of v == q || F.WEA_LMAP_QB_EN.of v == 1 && F.WEA_LMAP_QB.of v == q)

/-- QUEUE_FREE (Table OCI-13): STATE also for a queue that is not allocated (log entry 18). -/
def cmdQueueFree : Cmd where
  chk s j :=
    let q := j.arg 0 2
    let (k, id) := s.consOf q
    j.lenIs 4 ++ j.rsv 2 2 ++ s.denyAll j [(.QD_CFG, q), (.QD_MARK, q)] true 0 ++ failIf (!s.allocated q) 0x16 ++
      failIf (s.consRuns k id) 0x16 ++ failIf (!(s.routedTo q).isEmpty) 0x16
  res := queueRes
  run j s :=
    let q := j.arg 0 2
    let s := s.fwPut F.QD_CFG_EN q 0
    ((s.unbindQueue q).setAlloc q 0, .ok)

/-- QUEUE_FREE (R251). -/
def execQueueFree (t ep sl : Nat) (s : State) : Host.Outcome State Fault Refusal :=
  .next (((Work.start s).at t).oci ep sl 0x0801 cmdQueueFree).st

/-- QUEUE_ENABLE (Table OCI-13). -/
def cmdQueueEnable : Cmd where
  chk s j :=
    let q := j.arg 0 2
    j.lenIs 4 ++ j.range 2 1 0 1 ++ j.rsv 3 1 ++ badArg (j.arg 2 1 == 1 && !geometryOk (s.reg .QD_CFG q)) 0 ++
      s.deny j .QD_CFG q true 0
  res := queueRes
  run j s := (s.fwPut F.QD_CFG_EN (j.arg 0 2) (j.arg 2 1), .ok)

/-- QUEUE_ENABLE (R251). -/
def execQueueEnable (t ep sl : Nat) (s : State) : Host.Outcome State Fault Refusal :=
  .next (((Work.start s).at t).oci ep sl 0x0802 cmdQueueEnable).st

/-- QUEUE_BIND (R319, R343). -/
def cmdQueueBind : Cmd where
  chk s j :=
    let q := j.arg 0 2
    let k := j.arg 2 1
    let id := j.arg 4 2
    let (ok, oid) := s.consOf q
    j.lenIs 8 ++ j.range 2 1 0 7 ++ j.rsv 3 1 ++ badArg (consMany k ≤ id && k != 0 && k != 6) 4 ++ j.rsv 6 2 ++
      s.deny j .QD_MARK q true 0 ++ (if k = 0 then s.denyCons j ok oid 0 else s.denyCons j k id 4) ++
      failIf (if k = 0 then s.consRuns ok oid else ok != 0 || s.consRuns k id || (k = 7 && !s.receives id)) 0x16
  res _ j := [(4, j.arg 0 2)] ++
    (match j.arg 2 1 with
      | 1 => [(5, j.arg 4 2)]
      | 3 => [(10, j.arg 4 2)]
      | 4 => [(11, j.arg 4 2)]
      | 5 => [(12, 32 + j.arg 4 2 / 8)]
      | _ => [])
  run j s :=
    let q := j.arg 0 2
    let k := j.arg 2 1
    (if k = 0 then s.unbindQueue q else s.bindQueue q k (if k = 6 then 0 else j.arg 4 2), .ok)

/-- QUEUE_BIND (R319). -/
def execQueueBind (t ep sl : Nat) (s : State) : Host.Outcome State Fault Refusal :=
  .next (((Work.start s).at t).oci ep sl 0x0803 cmdQueueBind).st

/-! ## Routes -/

/-- QUEUE_ROUTE (Table OCI-13). -/
def cmdQueueRoute : Cmd where
  chk s j :=
    let v := j.word 8
    j.lenIs 16 ++ j.run 0 2 512 512 ++ j.rsv 4 4 ++ badArg (Reg.WEA_LMAP.refused v) 8 ++
      badArg (!s.allocated (F.WEA_LMAP_QA.of v) || F.WEA_LMAP_QB_EN.of v == 1 && !s.allocated (F.WEA_LMAP_QB.of v)) 8 ++
      absentIf (j.items 0 2) s.laneAbsent ++ s.denyItems j (j.items 0 2) [.WEA_LMAP] true
  res _ j := (j.items 0 2).map fun n => (0, n)
  run j s := (s.each (j.items 0 2) fun s n => s.fw .WEA_LMAP n (j.word 8), .ok)

/-- QUEUE_ROUTE (R162). -/
def execQueueRoute (t ep sl : Nat) (s : State) : Host.Outcome State Fault Refusal :=
  .next (((Work.start s).at t).oci ep sl 0x0804 cmdQueueRoute).st

/-- QUEUE_FASTPATH (Table OCI-13). -/
def cmdQueueFastpath : Cmd where
  chk s j := j.lenIs 16 ++ j.range 0 1 0 31 ++ j.rsv 1 7 ++ badArg (Reg.WEA_FPCFG.refused (j.word 8)) 8 ++
    failIf (s.blockAbsent (j.arg 0 1)) 0x15 0 ++ s.deny j .WEA_FPCFG (j.arg 0 1) true 0
  res _ j := [(1, j.arg 0 1)]
  run j s := (s.fw .WEA_FPCFG (j.arg 0 1) (j.word 8), .ok)

/-- QUEUE_FASTPATH (R163). -/
def execQueueFastpath (t ep sl : Nat) (s : State) : Host.Outcome State Fault Refusal :=
  .next (((Work.start s).at t).oci ep sl 0x0805 cmdQueueFastpath).st

/-! ## Rings -/

/-- QUEUE_RING_SET (Table OCI-13). The descriptors lie in no access target. -/
def cmdQueueRingSet : Cmd where
  chk s j :=
    let r := j.arg 0 2
    let cfg := j.word 16
    let geo := fun (v : Word) => (F.RING_CFG_SIZE_LOG2.of v, F.RING_CFG_FUNC.of v)
    j.lenIs 32 ++ j.range 0 2 0 1023 ++ j.rsv 2 6 ++ badArg (Reg.RING_BASE.refused (j.word 8)) 8 ++
      badArg (Reg.RING_CFG.refused cfg) 16 ++ badArg (Reg.RING_WB.refused (j.word 24)) 24 ++
      badArg (F.RING_CFG_EN.of cfg == 1 && !s.boundTo (F.RING_CFG_QUEUE.of cfg) 1 r) 16 ++
      failIf (j.ep != 0 && F.RING_CFG_FUNC.of cfg != j.ep) 0x14 16 ++
      failIf (s.on F.RING_CFG_EN r && (s.reg .RING_BASE r != j.word 8 || geo (s.reg .RING_CFG r) != geo cfg)) 0x16
  res _ j := [(5, j.arg 0 2)]
  run j s :=
    let r := j.arg 0 2
    (((s.wrReg 0 .RING_BASE r (j.word 8)).wrReg 0 .RING_WB r (j.word 24)).wrReg 0 .RING_CFG r (j.word 16), .ok)

/-- QUEUE_RING_SET (R274, R276). -/
def execQueueRingSet (t ep sl : Nat) (s : State) : Host.Outcome State Fault Refusal :=
  .next (((Work.start s).at t).oci ep sl 0x0806 cmdQueueRingSet).st

/-! ## Status and the pool -/

/-- QUEUE_STATUS (Table OCI-13). -/
def cmdQueueStatus : Cmd where
  chk s j := j.lenIs 4 ++ j.rsv 2 2 ++ s.denyAll j (perItem [j.arg 0 2] queRegs) false 0
  res := queueRes
  run j s :=
    let (s, ws) := s.frs (perItem [j.arg 0 2] queRegs)
    (s, .ok 0 (wordBytes ws))

/-- QUEUE_STATUS (R321). -/
def execQueueStatus (t ep sl : Nat) (s : State) : Host.Outcome State Fault Refusal :=
  .next (((Work.start s).at t).oci ep sl 0x0807 cmdQueueStatus).st

/-- QUEUE_FLAGS_CLEAR (Table OCI-13): IE keeps its value. -/
def cmdQueueFlagsClear : Cmd where
  chk s j := j.lenIs 8 ++ badArg (j.arg 2 2 &&& 0xF80F != 0) 2 ++ j.rsv 4 4 ++ s.deny j .QD_FLAGS (j.arg 0 2) true 0
  res := queueRes
  run j s :=
    let q := j.arg 0 2
    (s.fw .QD_FLAGS q (w64 (j.arg 2 2 + s.get F.QD_FLAGS_IE q * 2 ^ 16)), .ok)

/-- QUEUE_FLAGS_CLEAR (R321). -/
def execQueueFlagsClear (t ep sl : Nat) (s : State) : Host.Outcome State Fault Refusal :=
  .next (((Work.start s).at t).oci ep sl 0x0808 cmdQueueFlagsClear).st

/-- The words of QUEUE_POOL_SET. -/
def poolWords : List (Reg × Nat) := [(.QUE_POOL, 0), (.QUE_CTRL, 0)]

/-- QUEUE_POOL_SET (Table OCI-13). -/
def cmdQueuePoolSet : Cmd where
  chk s j :=
    let ws := j.picked 0 4 poolWords 8
    let v := j.word 8
    let used := (s.alloc.filter fun (k, _) => k < 65536).map fun (_, x) => areaOf x
    j.lenIs 24 ++ j.badMask 0 4 2 ++ j.rsv 4 4 ++ j.badWords ws ++
      badArg (bit (j.arg 0 4) 0 && overlaps used (F.QUE_POOL_POOL_BASE.of v) (4096 * F.QUE_POOL_POOL_BUFS.of v)) 8 ++
      j.pf0 ++ s.denyWords j ws ++ failIf (!s.activeQueues.isEmpty) 0x16
  run j s := (s.fwWords j (j.picked 0 4 poolWords 8), .ok)

/-- QUEUE_POOL_SET (R257). -/
def execQueuePoolSet (t ep sl : Nat) (s : State) : Host.Outcome State Fault Refusal :=
  .next (((Work.start s).at t).oci ep sl 0x0809 cmdQueuePoolSet).st

end Sys2Proof.Machine
end

