-- ==== Sys2Proof/Machine/OciLink.lean ====
section
/-!
DEFINITION. The LINK and ACC families of commands (Tables LNK-8 and ACC-6).
-/

namespace Sys2Proof.Machine

variable {s₀ : State}

/-! ## LINK -/

/-- LINK_ASSIGN (Table LNK-8): it answers when training begins; at once where MODE stays. -/
def cmdLinkAssign : Cmd where
  chk s j :=
    let g := j.arg 0 1
    j.lenIs 16 ++ j.range 0 1 4 15 ++ j.rsv 1 7 ++
      badArg (Reg.LNK_GRP.refused (j.word 8) || F.LNK_GRP_MODE.of (j.word 8) == 1) 8 ++ j.pf0 ++
      s.deny j .LNK_GRP g true 0 ++ failIf (!s.domOn (pdGroup g)) 0x16
  res _ j := [(13, j.arg 0 1)]
  run j s :=
    let g := j.arg 0 1
    let s := s.fw .LNK_GRP g (j.word 8)
    (s, if (s.grp g).isNone then .ok else .wait g)

/-- LINK_ASSIGN (R324, R348). -/
def execLinkAssign (t ep sl : Nat) (s : State) : Host.Outcome State Fault Refusal :=
  .next (((Work.start s).at t).oci ep sl 0x0900 cmdLinkAssign).st

/-- LINK_ETH_SET (Table LNK-8). -/
def cmdLinkEthSet : Cmd where
  chk s j :=
    let p := j.arg 0 1
    let ws := j.picked 4 4 [(.ETH_MAC, p), (.ETH_CFG, p)] 8
    j.lenIs 24 ++ j.range 0 1 0 11 ++ j.rsv 1 3 ++ j.badMask 4 4 2 ++ j.badWords ws ++ s.denyWords j ws ++
      failIf (s.grpMode (p + 4) != 2) 0x16
  res _ j := [(13, j.arg 0 1 + 4)]
  run j s :=
    let p := j.arg 0 1
    (s.fwWords j (j.picked 4 4 [(.ETH_MAC, p), (.ETH_CFG, p)] 8), .ok)

/-- LINK_ETH_SET (R348). -/
def execLinkEthSet (t ep sl : Nat) (s : State) : Host.Outcome State Fault Refusal :=
  .next (((Work.start s).at t).oci ep sl 0x0901 cmdLinkEthSet).st

/-- LINK_DLP_SET (Table LNK-8). -/
def cmdLinkDlpSet : Cmd where
  chk s j :=
    let l := j.arg 0 1
    j.lenIs 16 ++ badArg (!s.isLink l) 0 ++ j.rsv 1 7 ++ badArg (Reg.DLP_CFG.refused (j.word 8)) 8 ++
      s.deny j .DLP_CFG l true 0
  res _ j := [(13, j.arg 0 1 / 4)]
  run j s := (s.fw .DLP_CFG (j.arg 0 1) (j.word 8), .ok)

/-- LINK_DLP_SET (R348). -/
def execLinkDlpSet (t ep sl : Nat) (s : State) : Host.Outcome State Fault Refusal :=
  .next (((Work.start s).at t).oci ep sl 0x0902 cmdLinkDlpSet).st

/-- The registers that LINK_STATUS reads of a group: its status and events, then of a port its counters, of each link
its status and counters. -/
def State.groupWords (s : State) (g : Nat) : List (Reg × Nat) :=
  [(.LNK_GSTAT, g), (.LNK_GEVT, g)] ++
    (if s.grpMode g = 2 then [(.ETH_CNT, g - 4)]
      else (s.linksOf g).flatMap fun l => [(.DLP_STAT, l), (.DLP_CNT, l)])

/-- LINK_STATUS (Table LNK-8). A port has no status register; its status word is free (log entry 17). -/
def cmdLinkStatus : Cmd where
  chk s j := j.lenIs 4 ++ j.range 0 1 0 15 ++ j.rsv 1 3 ++ s.denyAll j (s.groupWords (j.arg 0 1)) false 0
  res _ j := [(13, j.arg 0 1)]
  run j s :=
    let g := j.arg 0 1
    let (s, ws) := s.frs (s.st.groupWords g)
    if s.st.grpMode g = 2 then
      let (s, w) := s.fresh
      (s, .ok 0 (wordBytes (ws.take 2 ++ [w] ++ ws.drop 2)))
    else (s, .ok 0 (wordBytes ws))

/-- LINK_STATUS (R348). -/
def execLinkStatus (t ep sl : Nat) (s : State) : Host.Outcome State Fault Refusal :=
  .next (((Work.start s).at t).oci ep sl 0x0903 cmdLinkStatus).st

/-- LINK_PARTNERS (Table LNK-8). -/
def cmdLinkPartners : Cmd where
  chk s j := j.lenIs 4 ++ j.run 0 1 6 32 ++ j.rsv 2 2 ++ s.denyItems j (j.items 0 1) ptRegs false
  run j s :=
    let (s, ws) := s.frs (perItem (j.items 0 1) ptRegs)
    (s, .ok 0 (wordBytes ws))

/-- LINK_PARTNERS (R348). -/
def execLinkPartners (t ep sl : Nat) (s : State) : Host.Outcome State Fault Refusal :=
  .next (((Work.start s).at t).oci ep sl 0x0904 cmdLinkPartners).st

/-- The words of LINK_EGRESS_BIND, each with its payload offset. -/
def channelWords (c : Nat) : List (Reg × Nat × Nat) := [(.ECH_DST, c, 8), (.ECH_IP, c, 16), (.ECH_CFG, c, 24)]

/-- LINK_EGRESS_BIND (Table LNK-8): the queue is bound as R319 binds one, unless it is this channel's already. -/
def cmdLinkEgressBind : Cmd where
  chk s j :=
    let c := j.arg 0 2
    let q := F.ECH_CFG_QUEUE.of (j.word 24)
    let mine := s.consOf q == (2, c)
    let run := s.on F.ECH_CFG_EN c
    j.lenIs 32 ++ j.range 0 2 0 191 ++ j.rsv 2 6 ++ j.badWords (channelWords c) ++ s.denyWords j (channelWords c) ++
      (if mine then [] else s.deny j .QD_MARK q true 24) ++
      failIf (run && s.get F.ECH_CFG_QUEUE c != q) 0x16 ++ failIf (!mine && (run || (s.consOf q).1 != 0)) 0x16
  res _ j := [(4, F.ECH_CFG_QUEUE.of (j.word 24))]
  run j s :=
    let c := j.arg 0 2
    let q := F.ECH_CFG_QUEUE.of (j.word 24)
    let s := s.when (s.st.consOf q != (2, c)) fun s => s.bindQueue q 2 c
    (s.fwWords j (channelWords c), .ok)

/-- LINK_EGRESS_BIND (R319, R348). -/
def execLinkEgressBind (t ep sl : Nat) (s : State) : Host.Outcome State Fault Refusal :=
  .next (((Work.start s).at t).oci ep sl 0x0905 cmdLinkEgressBind).st

/-! ## ACC -/

/-- The index of the window that a payload names: TARGET (2), WINDOW (1). -/
def Job.window (j : Job) : Nat := 16 * j.arg 0 2 + j.arg 2 1

/-- TARGET and WINDOW of a payload are refused where there is no such table or window. -/
def Job.badWindow (j : Job) : List Fail :=
  badArg (j.arg 0 2 == 18 || j.arg 0 2 == 19 || 147 < j.arg 0 2) 0 ++ j.range 2 1 0 15

/-- The window words of ACC_WINDOW_SET, each with its payload offset. -/
def Job.windowWords (j : Job) : List (Reg × Nat × Nat) := accRegs.zipIdx.map fun (r, k) => (r, j.window, 8 + 8 * k)

/-- ACC_WINDOW_SET (Table ACC-6): EN = 0, then the range and the masks, then EN as given. -/
def cmdAccWindowSet : Cmd where
  chk s j := j.lenIs 56 ++ j.badWindow ++ j.rsv 3 5 ++ j.badWords j.windowWords ++ j.pf0 ++ s.denyWords j j.windowWords
  run j s :=
    let s := s.fw .ACC_WCTRL j.window 0
    let s := s.fwWords j (j.windowWords.filter fun (r, _, _) => r != .ACC_WCTRL)
    (s.fw .ACC_WCTRL j.window (j.word 16), .ok)

/-- ACC_WINDOW_SET (R354, R364). -/
def execAccWindowSet (t ep sl : Nat) (s : State) : Host.Outcome State Fault Refusal :=
  .next (((Work.start s).at t).oci ep sl 0x0A00 cmdAccWindowSet).st

/-- ACC_WINDOW_GET (Table ACC-6). -/
def cmdAccWindowGet : Cmd where
  chk s j := j.lenIs 4 ++ j.badWindow ++ j.rsv 3 1 ++ s.denyAll j (perItem [j.window] accRegs) false 0
  run j s :=
    let (s, ws) := s.frs (perItem [j.window] accRegs)
    (s, .ok 0 (wordBytes ws))

/-- ACC_WINDOW_GET (R364). -/
def execAccWindowGet (t ep sl : Nat) (s : State) : Host.Outcome State Fault Refusal :=
  .next (((Work.start s).at t).oci ep sl 0x0A01 cmdAccWindowGet).st

/-- The mask bits that ACC_GRANT and ACC_REVOKE act on: of the read and the write mask of the window, the bit of
MASTER, as RIGHTS selects them. -/
def Job.rights (j : Job) : List (Fld × Nat) :=
  let m := j.arg 3 1
  let one := fun (lo hi : Reg) => ((⟨if m < 64 then lo else hi, m % 64, 1⟩ : Fld), j.window)
  (if bit (j.arg 4 1) 0 then [one .ACC_RD_LO .ACC_RD_HI] else []) ++
    (if bit (j.arg 4 1) 1 then [one .ACC_WR_LO .ACC_WR_HI] else [])

/-- The bits that R353 fixes: masters 16 to 18; writes of ACC and VAULT but by master 0; every write of FUSE. -/
def fixedBit (t m : Nat) (wr : Bool) : Bool :=
  (16 ≤ m && m ≤ 18) || wr && (t == 17 || (t == 14 || t == 16) && m != 0)

/-- The checks that ACC_GRANT and ACC_REVOKE share. -/
def State.rightsFail (s : State) (j : Job) : List Fail :=
  let m := j.arg 3 1
  j.lenIs 16 ++ j.badWindow ++ j.range 3 1 0 93 ++ j.badMask 4 1 2 ++ j.rsv 6 2 ++
    failIf (s.small && 36 ≤ m && m < 52) 0x15 3 ++ j.pf0 ++
    (j.rights.flatMap fun (f, i) => s.deny j f.reg i true 0)

/-- The range word of ACC_GRANT. -/
def Job.grantRange (j : Job) : Word := w64 (j.arg 8 4 + j.arg 12 4 * 2 ^ 32)

/-- ACC_GRANT (R347, Table ACC-6). -/
def cmdAccGrant : Cmd where
  chk s j :=
    let m := j.arg 3 1
    let on := s.on F.ACC_WCTRL_EN j.window
    let e := m - 60
    let r := j.arg 4 1
    s.rightsFail j ++
      badArg (bit r 0 && fixedBit (j.arg 0 2) m false || bit r 1 && fixedBit (j.arg 0 2) m true) 4 ++
      (if on then [] else s.denyAll j [(.ACC_WRANGE, j.window), (.ACC_WCTRL, j.window)] true 0) ++
      failIf (on && s.reg .ACC_WRANGE j.window != j.grantRange) 0x16 ++
      failIf (60 ≤ m && m ≤ 91 && !(s.attached e && s.get F.PT_STAT_GEN e == j.arg 5 1)) 0x16
  run j s :=
    let off := !s.on F.ACC_WCTRL_EN j.window
    let s := s.when off fun s => s.fw .ACC_WRANGE j.window j.grantRange
    let s := s.each j.rights fun s (f, i) => s.fwPut f i 1
    (s.when off fun s => s.fw .ACC_WCTRL j.window 1, .ok)

/-- ACC_GRANT (R347, R364). -/
def execAccGrant (t ep sl : Nat) (s : State) : Host.Outcome State Fault Refusal :=
  .next (((Work.start s).at t).oci ep sl 0x0A02 cmdAccGrant).st

/-- ACC_REVOKE (Table ACC-6): the window stays enabled. -/
def cmdAccRevoke : Cmd where
  chk s j := s.rightsFail j
  run j s := (s.each j.rights fun s (f, i) => s.fwPut f i 0, .ok)

/-- ACC_REVOKE (R364). -/
def execAccRevoke (t ep sl : Nat) (s : State) : Host.Outcome State Fault Refusal :=
  .next (((Work.start s).at t).oci ep sl 0x0A03 cmdAccRevoke).st

/-- The words of ACC_VIOLATIONS. -/
def violationWords : List (Reg × Nat) := [(.ACC_VSTAT, 0), (.ACC_VCAP0, 0), (.ACC_VCAP1, 0)]

/-- ACC_VIOLATIONS (Table ACC-6): it clears VCNT by its read and VALID. -/
def cmdAccViolations : Cmd where
  chk s j := j.lenIs 0 ++ s.denyAll j violationWords false ++ s.deny j .ACC_VSTAT 0 true
  run _ s :=
    let (s, ws) := s.frs violationWords
    (s.fw .ACC_VSTAT 0 (w64 (2 ^ 32 + s.get F.ACC_VSTAT_IE 0 * 2 ^ 33)), .ok 0 (wordBytes ws))

/-- ACC_VIOLATIONS (R356, R364). -/
def execAccViolations (t ep sl : Nat) (s : State) : Host.Outcome State Fault Refusal :=
  .next (((Work.start s).at t).oci ep sl 0x0A04 cmdAccViolations).st

/-- ACC_UNLOCK (R363): phase 0 draws a nonce and answers the challenge; phase 1 presents a signature, for the public
key of the fuses' hash. A signature that fails completes with BAD_ARGUMENT (log entry 17). -/
def cmdAccUnlock : Cmd where
  chk s j :=
    j.lenIs (if j.arg 0 1 = 1 then 104 else 8) ++ j.range 0 1 0 1 ++ j.rsv 1 7 ++ j.pf0 ++
      failIf (3 ≤ s.get F.ACC_BOOT_UNLOCK_FAILS 0) 0x14 ++
      failIf (!s.fuse.secure || s.on F.ACC_BOOT_DEBUG_UNLOCKED 0) 0x16
  run j s :=
    let (s, nonce) := s.freeBytes 32
    if j.arg 0 1 = 0 then
      let s := s.setNonce nonce
      (s, .ok 0 s.st.challenge)
    else
      let s := s.tryUnlock (Config.debugKey s.st.fuse.debugHash) (j.load.drop 8) nonce
      (s, if s.on F.ACC_BOOT_DEBUG_UNLOCKED 0 then .ok else .err 0x12 0xFFFF 8)

/-- ACC_UNLOCK (R363, R364). -/
def execAccUnlock (t ep sl : Nat) (s : State) : Host.Outcome State Fault Refusal :=
  .next (((Work.start s).at t).oci ep sl 0x0A05 cmdAccUnlock).st

end Sys2Proof.Machine
end

