-- ==== Sys2Proof/Machine/OciPwr.lean ====
section
/-!
DEFINITION. The PWR, MON and NVM families of commands (Tables PWR-9, MON-5 and OCI-8; R361, R367, R370).
-/

namespace Sys2Proof.Machine

variable {s₀ : State}

/-! ## PWR -/

/-- Whether a wake source of WATCH is enabled (Table PWR-5). -/
def State.watchWakes (s : State) : Bool :=
  s.get F.PWR_WAKE_ALARM_EN 0 + s.get F.PWR_WAKE_I2C_EN 0 + s.get F.PWR_WAKE_PERST_EN 0 != 0 ||
    !(s.indices .FRE_INCFG fun v => F.FRE_INCFG_WAKE_EN.of v == 1 && F.FRE_INCFG_MODE.of v == 0).isEmpty

/-- PWR_STATE_SET (R370, R371). -/
def cmdPwrStateSet : Cmd where
  chk s j :=
    let watch := j.arg 0 1 == 1
    j.lenIs 8 ++ j.range 0 1 1 2 ++ j.rsv 1 7 ++ j.pf0 ++
      failIf (!s.on F.PWR_ENG_READY 0 || s.on F.PWR_ENG_RECOVERING 0) 0x16 ++
      failIf (watch && !(s.watchWakes && s.on F.TIM_TSTAT_LOCAL_OK 0)) 0x16
  run j s := (s.armEntry (j.arg 0 1), .ok)

/-- PWR_STATE_SET (R370, R389). -/
def execPwrStateSet (t ep sl : Nat) (s : State) : Host.Outcome State Fault Refusal :=
  .next (((Work.start s).at t).oci ep sl 0x0B00 cmdPwrStateSet).st

/-- PWR_DOMAIN_SET (R367): it answers once PWR_DSTAT shows the state. -/
def cmdPwrDomainSet : Cmd where
  chk s j :=
    let d := j.arg 0 1
    let st := j.arg 1 1
    j.lenIs 4 ++ badArg (!(domStates d).contains st) (if (domStates d).isEmpty then 0 else 1) ++ j.rsv 2 2 ++
      failIf (s.domAbsent d) 0x15 0 ++ j.pf0 ++ s.deny j .PWR_DREQ (d / 32) true 0 ++ failIf (!s.domMay d st) 0x16
  run j s :=
    let d := j.arg 0 1
    let s := s.domGo d (j.arg 1 1)
    (s, if s.st.dom d = j.arg 1 1 then .ok else .wait d)

/-- PWR_DOMAIN_SET (R367, R389). -/
def execPwrDomainSet (t ep sl : Nat) (s : State) : Host.Outcome State Fault Refusal :=
  .next (((Work.start s).at t).oci ep sl 0x0B01 cmdPwrDomainSet).st

/-- The words of PWR_WAKE_CFG. -/
def wakeWords : List (Reg × Nat) := [(.PWR_WAKE, 0), (.PWR_ALARM, 0)]

/-- PWR_WAKE_CFG (Table PWR-9). -/
def cmdPwrWakeCfg : Cmd where
  chk s j :=
    let ws := j.picked 0 4 wakeWords 8
    j.lenIs 24 ++ j.badMask 0 4 2 ++ j.rsv 4 4 ++ j.badWords ws ++ j.pf0 ++ s.denyWords j ws
  run j s := (s.fwWords j (j.picked 0 4 wakeWords 8), .ok)

/-- PWR_WAKE_CFG (R389). -/
def execPwrWakeCfg (t ep sl : Nat) (s : State) : Host.Outcome State Fault Refusal :=
  .next (((Work.start s).at t).oci ep sl 0x0B02 cmdPwrWakeCfg).st

/-- The words of PWR_STATUS. -/
def pwrStatusWords : List (Reg × Nat) :=
  [(.PWR_ENG, 0), (.PWR_DSTAT, 0), (.PWR_DSTAT, 1), (.PWR_DSTAT, 2), (.PWR_CSTAT, 0), (.PWR_REC, 0), (.PWR_LRT, 0),
   (.PWR_EVT, 0)]

/-- PWR_STATUS (R389). -/
def execPwrStatus (t ep sl : Nat) (s : State) : Host.Outcome State Fault Refusal :=
  .next (((Work.start s).at t).oci ep sl 0x0B03 (cmdReadWords pwrStatusWords)).st

/-! ## MON -/

/-- Whether a word of MU_CFG names a TARGET that is not allocated: of the kinds that have a queue, a queue that is
not; of RING, no ring (Table MON-6). -/
def State.targetFree (s : State) (v : Word) : Bool :=
  let x := F.MU_CFG_TARGET.of v
  match F.MU_CFG_KIND.of v with
  | 0 | 1 => !s.allocated x
  | 2 => 1024 ≤ x
  | _ => false

/-- The words of MON_SET. -/
def unitWords (u : Nat) : List (Reg × Nat) := [(.MU_CFG, u), (.MU_LIM, u)]

/-- MON_SET (Table MON-5). -/
def cmdMonSet : Cmd where
  chk s j :=
    let ws := j.picked 4 4 (unitWords (j.arg 0 1)) 8
    j.lenIs 24 ++ j.range 0 1 0 63 ++ j.rsv 1 3 ++ j.badMask 4 4 2 ++ j.badWords ws ++
      badArg (bit (j.arg 4 4) 0 && s.targetFree (j.word 8)) 8 ++ s.denyWords j ws
  run j s := (s.fwWords j (j.picked 4 4 (unitWords (j.arg 0 1)) 8), .ok)

/-- MON_SET (R400). -/
def execMonSet (t ep sl : Nat) (s : State) : Host.Outcome State Fault Refusal :=
  .next (((Work.start s).at t).oci ep sl 0x0C00 cmdMonSet).st

/-- MON_READ (Table MON-5): RESTART is applied after the read. -/
def cmdMonRead : Cmd where
  chk s j :=
    let u := j.arg 0 1
    j.lenIs 4 ++ j.range 0 1 0 63 ++ j.badMask 1 1 1 ++ j.rsv 2 2 ++
      s.denyAll j (perItem [u] [.MU_STAT, .MU_MINMAX, .MU_EVT]) false 0 ++
      (if bit (j.arg 1 1) 0 then s.deny j .MU_CTRL u true 0 else [])
  run j s :=
    let u := j.arg 0 1
    let (s, ws) := s.frs (perItem [u] [.MU_STAT, .MU_MINMAX, .MU_EVT])
    (s.when (bit (j.arg 1 1) 0) fun s => s.fw .MU_CTRL u 1, .ok 0 (wordBytes ws))

/-- MON_READ (R393, R400). -/
def execMonRead (t ep sl : Nat) (s : State) : Host.Outcome State Fault Refusal :=
  .next (((Work.start s).at t).oci ep sl 0x0C01 cmdMonRead).st

/-- The temperature registers. -/
def tempWords : List (Reg × Nat) := (List.range 40).map fun k => (.MON_TEMP, k)

/-- MON_TEMPS (Table MON-5). -/
def cmdMonTemps : Cmd where
  chk s j := j.lenIs 0 ++ s.denyAll j tempWords false
  run _ s :=
    let (s, ws) := s.frs tempWords
    (s, .ok 0 (ws.flatMap fun w => le 2 w.toNat))

/-- MON_TEMPS (R400). -/
def execMonTemps (t ep sl : Nat) (s : State) : Host.Outcome State Fault Refusal :=
  .next (((Work.start s).at t).oci ep sl 0x0C02 cmdMonTemps).st

/-- MON_ERRLOG (Table MON-5): the 40 data bytes of each notice. -/
def cmdMonErrlog : Cmd where
  chk s j := j.lenIs 3 ++ j.range 2 1 1 6 ++ badArg (s.errlog.length < j.arg 0 2 + j.arg 2 1) 0
  run j s := (s, .ok 0 (((s.st.errlog.drop (j.arg 0 2)).take (j.arg 2 1)).flatMap fun b => fit 40 (b.drop 24)))

/-- MON_ERRLOG (R400). -/
def execMonErrlog (t ep sl : Nat) (s : State) : Host.Outcome State Fault Refusal :=
  .next (((Work.start s).at t).oci ep sl 0x0C03 cmdMonErrlog).st

/-! ## NVM -/

/-- NVM_SAVE (R100): the units' writes queue; it answers when they are written. -/
def cmdNvmSave : Cmd where
  chk s j := j.lenIs 4 ++ j.run 0 2 544 544 ++ absentIf (j.items 0 2) s.unitAbsent
  res _ j := (j.items 0 2).map fun u => (0, u)
  run j s := (s.each (j.items 0 2) fun s u => s.askVault u, .wait)

/-- NVM_SAVE (R100). -/
def execNvmSave (t ep sl : Nat) (s : State) : Host.Outcome State Fault Refusal :=
  .next (((Work.start s).at t).oci ep sl 0x0D00 cmdNvmSave).st

/-- PROFILE (1), reserved (3): the payload of the profile commands (log entry 17). -/
def Job.profileOnly (j : Job) : List Fail := j.lenIs 4 ++ j.rsv 1 3

/-- NVM_PROFILE_SAVE: the profile goes into the profiles' area of the vault; NO_RESOURCE where it has no room (log
entries 14 and 17). -/
def cmdNvmProfileSave : Cmd where
  chk s j := j.profileOnly ++
    (s.profileNow (j.arg 0 1 == 255)).flatMap (fun (k, _) => s.deny j (Reg.ofNat (k % 256)) (k / 256) false) ++
    failIf (profileSize < (s.profileArea (j.arg 0 1, s.profileNow (j.arg 0 1 == 255))).length) 0x17
  run j s :=
    let p := j.arg 0 1
    let bs := s.st.profileArea (p, s.st.profileNow (p == 255))
    (s.vaultWrite profileBase ((bs ++ le 8 0).take profileSize), .ok)

/-- NVM_PROFILE_SAVE (R321). -/
def execNvmProfileSave (t ep sl : Nat) (s : State) : Host.Outcome State Fault Refusal :=
  .next (((Work.start s).at t).oci ep sl 0x0D01 cmdNvmProfileSave).st

/-- NVM_PROFILE_LOAD: STATE where the vault holds no such profile (log entries 14 and 17). -/
def cmdNvmProfileLoad : Cmd where
  chk s j :=
    j.profileOnly ++
      (match s.profileAt (j.arg 0 1) with
        | some ws => ws.flatMap fun (k, _) => s.deny j (Reg.ofNat (k % 256)) (k / 256) true
        | none => failIf true 0x16)
  run j s := (s.applyProfile ((s.st.profileAt (j.arg 0 1)).getD []), .ok)

/-- NVM_PROFILE_LOAD (R321). -/
def execNvmProfileLoad (t ep sl : Nat) (s : State) : Host.Outcome State Fault Refusal :=
  .next (((Work.start s).at t).oci ep sl 0x0D02 cmdNvmProfileLoad).st

/-- NVM_IMAGE_WRITE (R361): OFFSET (4), LEN (4), bulk descriptor (16); bytes of the image that the preferred pointer
does not name. -/
def cmdNvmImageWrite : Cmd where
  chk s j :=
    let n := j.arg 4 4
    j.lenIs 24 ++ badArg (0x300000 < j.arg 0 4 + n) 0 ++ s.bulkFail j 8 0 n ++ j.pf0
  run j s :=
    let s := s.bulkMeet j 8 (j.arg 4 4)
    (s.vaultWrite (imageBase (1 - s.st.preferred) + j.arg 0 4) (s.st.bulkIn j 8 (j.arg 4 4)), .ok)

/-- NVM_IMAGE_WRITE (R361). -/
def execNvmImageWrite (t ep sl : Nat) (s : State) : Host.Outcome State Fault Refusal :=
  .next (((Work.start s).at t).oci ep sl 0x0D03 cmdNvmImageWrite).st

/-- NVM_IMAGE_ACTIVATE (R361): FLAGS (1), [0] COMMIT_SVN, reserved (3). -/
def cmdNvmImageActivate : Cmd where
  chk s j := j.lenIs 4 ++ j.badMask 0 1 1 ++ j.rsv 1 3 ++ badArg (s.imageFail (1 - s.preferred) != 0) noIdx ++ j.pf0
  run j s :=
    let i := 1 - s.st.preferred
    let svn := max s.st.fuse.svn (s.st.imageField i 6 2)
    let s := s.vaultWrite 0x1FF0010 [BitVec.ofNat 8 i, 1]
    (s.when (bit (j.arg 0 1) 0) fun s => (s.setFuse { s.st.fuse with svn := svn }).put F.ACC_BOOT_SVN_FLOOR 0 svn, .ok)

/-- NVM_IMAGE_ACTIVATE (R361). -/
def execNvmImageActivate (t ep sl : Nat) (s : State) : Host.Outcome State Fault Refusal :=
  .next (((Work.start s).at t).oci ep sl 0x0D04 cmdNvmImageActivate).st

/-- NVM_STATUS: ACC_BOOT (8), the preferred image (1), the causes for which the boot ROM would reject A (1) and B (1),
whether a write is in progress (1), the number of writes waiting (2), reserved (2) (log entry 17). -/
def cmdNvmStatus : Cmd where
  chk s j := j.lenIs 0 ++ s.deny j .ACC_BOOT 0 false
  run _ s :=
    (s, .ok 0 (le 8 (s.reg .ACC_BOOT 0).toNat ++ le 1 s.st.preferred ++ le 1 (s.st.imageFail 0) ++ le 1 (s.st.imageFail 1) ++
      le 1 (b2n s.st.vaultWr.isSome) ++ le 2 s.st.vaultQ.length ++ le 2 0))

/-- NVM_STATUS (R321). -/
def execNvmStatus (t ep sl : Nat) (s : State) : Host.Outcome State Fault Refusal :=
  .next (((Work.start s).at t).oci ep sl 0x0D05 cmdNvmStatus).st

end Sys2Proof.Machine
end

