-- ==== Sys2Proof/Machine/OciEnd.lean ====
section
/-!
DEFINITION. The end of the commands that go on: when each is done, its response or COMPLETE notice, and the answer
ACCEPTED after 10 ms (R302).
-/

namespace Sys2Proof.Machine

variable {s₀ : State}

/-- Whether the work of a command that goes on is done, and what it answers then: the status and the data. -/
def State.doneOf (s : State) (j : Job) : Option (Nat × List Byte) :=
  let doneIf := fun (c : Bool) (d : List Byte) => if c then some (0, d) else none
  match j.op with
  | 0x005 => doneIf (s.on F.PWR_ENG_READY 0 && !s.pwr.soft && s.pwr.softT.isNone) []
  | 0x006 => doneIf (s.on F.PWR_ENG_READY 0) []
  | 0x301 => doneIf s.axis.ctlAt.isNone (le 1 s.axisState)
  | 0x305 => doneIf (!s.on F.AXI_CTRL_COMMIT 0) []
  | 0x504 =>
    let k := s.calBlkAt (blockOf j.obj)
    -- an agreed cycle completes with 1, though a relief lane that carries its lane be RETIRED with it
    doneIf (k.reinst.all fun p => p.1 != j.obj) (le 1 (if k.agreed then 1 else s.calState j.obj))
  | 0x702 => doneIf (!s.on F.TIM_SYNC_ARM0 0 && !s.on F.TIM_SYNC_LOAD0_PEND 0) s.sync0Data
  | 0x704 => doneIf (if j.arg 1 1 = 3 then s.outputsLow else s.opll == 3) (s.opllData j.obj)
  | 0x706 => doneIf (!s.on F.TIM_SYNC_ARM1 0 && s.tim.drst.isEmpty) (le 8 (s.reg .TIM_ORST 0).toNat)
  | 0x707 =>
    if !s.on F.TIM_LOOP_EN j.obj then doneIf (!s.on F.TIM_LOOP_ACTIVE j.obj) (le 1 0)
    else if s.on F.TIM_LOOP_ERR j.obj then some (0x16, errData noIdx noIdx)
    else doneIf (s.on F.TIM_LOOP_ACTIVE j.obj) (le 1 1)
  | 0x900 => doneIf (s.grpAt j.obj).isNone []
  | 0xB01 => doneIf (s.dom j.obj == j.arg 1 1) []
  | 0xD00 => doneIf ((j.items 0 2).all fun u => !s.vaultQ.contains u && s.vaultWr.all fun w => w.unit != u) []
  | _ => none

/-- A command whose work is done ends; with AXIS_COMMIT the staging claim ends too (R317). -/
def Work.endJob (s : Work s₀) (j : Job) : Work s₀ :=
  match s.st.doneOf j with
  | some (st, d) => (s.when (j.op == 0x305) fun s => s.unclaim j.ep).finish j st 0 d
  | none => s

/-- COMPLETE (R302): a command of endpoint `ep` that was taken from `slot` has finished. -/
def execComplete (t ep slot : Nat) (s : State) : Host.Outcome State Fault Refusal :=
  let s := (Work.start s).at t
  .next (match s.st.jobs.find? fun j => j.ep == ep && j.sl == slot && j.ran && (s.st.doneOf j).isSome with
    | some j => s.endJob j
    | none => s : Work _).st

/-- RESPONSE_DEADLINE (R302): 10 ms after its taking a command that has not completed is answered ACCEPTED. -/
def execResponseDeadline (ep slot : Nat) (s : State) : Host.Outcome State Fault Refusal :=
  let s := Work.start s
  .next (match s.st.jobs.find? fun j => j.ep == ep && j.sl == slot && j.slot && !j.gone with
    | none => s
    | some j =>
      let s := s.at ((s.slot (slotKey ep slot)).taken + ms 10)
      if j.ran && (s.st.doneOf j).isSome then s.endJob j
      else if !j.ran && 16 ≤ s.st.inProgress j then s.finish j 0x13 0 (errData noIdx noIdx)
      else
        let s := s.goesOn j { j with slot := false }
        s.respond ep slot j.tag j.op j.flags 1 0 [] : Work _).st

end Sys2Proof.Machine
end

