-- ==== Sys2Proof/Machine/Weaver.lean ====
section
/-!
DEFINITION. The instructions of the weavers (R174 to R177, Table WEA-4), one command each. A command executes the
instruction at the program counter of slot `sl` of weaver `w`, if that is the command's instruction: BUDGET is judged
first (R170), then whether the word is legal (R175), and what must follow the retirement of earlier records waits
(R167).
-/

namespace Sys2Proof.Machine

variable {s₀ : State}

/-- One instruction of slot `sl` of weaver `w`, which is to be a word of operation `op`; `run` is what it does, given
the slot and the word. -/
def Work.weavRow (s : Work s₀) (w sl : Nat) (op : WOp) (run : Work s₀ → WSlot → Nat → Work s₀) : Work s₀ :=
  match s.st.slotOf w sl with
  | none => s
  | some x =>
    if x.ended then s
    else
      let old := s.st.oldest w sl
      let limit := F.WEA_WCFG_BUDGET.of (s.weav w).cfg
      let limit := if limit = 0 then 1024 else limit
      if limit ≤ x.count then if old then s.weavFault w sl 2 x.pc 0 else s
      else if 1024 ≤ x.pc then if old then s.weavFault w sl 1 1023 0 else s
      else
        let i := (s.reg .WEA_PROG (1024 * w + x.pc)).toNat % 2 ^ 32
        match wdecode i with
        | none => if old then s.weavFault w sl 1 x.pc 0 else s
        | some o =>
          if o != op then s
          else if wshares o i && !old then s
          else run s x i

/-- The value of register `r` for slot `x` of weaver `w`. -/
def Work.wreadReg (s : Work s₀) (w : Nat) (x : WSlot) (r : Nat) : Word := x.get (s.weav w).shared r

/-- rd := v, and on to the next instruction. -/
def Work.wset (s : Work s₀) (w sl : Nat) (x : WSlot) (i : Nat) (v : Word) : Work s₀ :=
  (s.wput w sl (fRd i) v).wnext w sl (x.pc + 1)

/-- An operation of format R. -/
def Work.aluR (s : Work s₀) (w sl : Nat) (op : WOp) (f : Word → Word → Word) : Work s₀ :=
  s.weavRow w sl op fun s x i => s.wset w sl x i (f (s.wreadReg w x (fRa i)) (s.wreadReg w x (fRb i)))

/-- An operation of format I on ra and the 16-bit immediate. -/
def Work.aluI (s : Work s₀) (w sl : Nat) (op : WOp) (f : Word → Nat → Word) : Work s₀ :=
  s.weavRow w sl op fun s x i => s.wset w sl x i (f (s.wreadReg w x (fRa i)) (fImm i))

/-- An operation of format F on rd, ra, the position and the width. -/
def Work.aluF (s : Work s₀) (w sl : Nat) (op : WOp) (f : Nat → Nat → Nat → Nat → Word) : Work s₀ :=
  s.weavRow w sl op fun s x i =>
    s.wset w sl x i (f (s.wreadReg w x (fRd i)).toNat (s.wreadReg w x (fRa i)).toNat (bits i 0 6) (bits i 6 6 + 1))

/-- A branch: taken to `pc + off`, ILLEGAL where that lies outside 0 to 1,023 (R175). -/
def Work.branch (s : Work s₀) (w sl : Nat) (x : WSlot) (taken : Bool) (off : Int) : Work s₀ :=
  if !taken then s.wnext w sl (x.pc + 1)
  else
    let t := (x.pc : Int) + off
    if 0 ≤ t && t ≤ 1023 then s.wnext w sl t.toNat
    else if s.st.oldest w sl then s.weavFault w sl 1 x.pc 0
    else s

/-- A branch of format B. -/
def Work.branchB (s : Work s₀) (w sl : Nat) (op : WOp) (f : Word → Word → Bool) : Work s₀ :=
  s.weavRow w sl op fun s x i =>
    s.branch w sl x (f (s.wreadReg w x (fRd i)) (s.wreadReg w x (fRa i))) (sval 16 (fImm i))

/-- A branch of format BB. -/
def Work.branchBit (s : Work s₀) (w sl : Nat) (op : WOp) (want : Bool) : Work s₀ :=
  s.weavRow w sl op fun s x i =>
    s.branch w sl x (bit (s.wreadReg w x (fRd i)).toNat (bits i 15 6) == want) (sval 15 (bits i 0 15))

/-- A branch of format BI. -/
def Work.branchImm (s : Work s₀) (w sl : Nat) (op : WOp) (want : Bool) : Work s₀ :=
  s.weavRow w sl op fun s x i =>
    s.branch w sl x (((s.wreadReg w x (fRd i)).toNat == bits i 13 8) == want) (sval 13 (bits i 0 13))

/-- A Bool as a word. -/
def boolWord (b : Bool) : Word := if b then 1 else 0

/-- The address of a local word: (ra + simm16) mod 512. -/
def localAddr (v : Word) (i : Nat) : Nat := (((v.toNat : Int) + sval 16 (fImm i)) % 512).toNat

/-- The record information (Table WEA-2). -/
def recInfo (r : WRec) : Word :=
  let ty := if r.kind = 0 then bits (r.src.ws.headD 0).toNat 60 4 else 0
  w64 (ty + r.words * 16 + b2n r.lane.isSome * 2 ^ 7 + r.lane.getD 0 * 2 ^ 8 + r.kind * 2 ^ 17 + b2n r.close * 2 ^ 19 +
    r.input % 8 * 2 ^ 20 + r.seq % 2 ^ 32 * 2 ^ 32)

/-- The values that RDS reads (Table WEA-1). -/
def Work.rdsValue (s : Work s₀) (w : Nat) (r : WRec) (sel : Nat) : Word :=
  match sel with
  | 0 => w64 s.now
  | 1 => s.st.posAt (if w < 32 then r.time else s.st.unstamp r.time)
  | 2 => recInfo r
  | 3 => w64 (if w < 32 then s.st.stamp r.time else r.time)
  | 4 => w64 (s.st.stamp r.hor)
  | _ => if w < 32 then w64 w else w64 (w - 32 + 64)

/-- The values that RDL reads (R173): a block weaver reads 0 for lanes of other wards. -/
def Work.rdlValue (s : Work s₀) (w n sel : Nat) : Word :=
  if (w < 32 && n / 64 != w / 4) || s.st.laneAbsent n then 0
  else match sel with
    | 0 => s.reg .WEA_LMAP n
    | 1 => F.CAL_LSTAT_STATE.put (s.reg .CAL_LSTAT n) (s.st.calState n)
    | 2 => s.reg .CAP_STAT n
    | _ => s.reg .FRE_STAT n

/-- ADD (R174): rd := ra + rb modulo 2^64. -/
def execAdd (w sl : Nat) (s : State) : Host.Outcome State Fault Refusal :=
  .next ((Work.start s).aluR w sl .add (fun a b => a + b)).st

/-- SUB (R174): rd := ra - rb modulo 2^64. -/
def execSub (w sl : Nat) (s : State) : Host.Outcome State Fault Refusal :=
  .next ((Work.start s).aluR w sl .sub (fun a b => a - b)).st

/-- AND (R174): rd := ra and rb. -/
def execAndOp (w sl : Nat) (s : State) : Host.Outcome State Fault Refusal :=
  .next ((Work.start s).aluR w sl .and (fun a b => a &&& b)).st

/-- OR (R174): rd := ra or rb. -/
def execOrOp (w sl : Nat) (s : State) : Host.Outcome State Fault Refusal :=
  .next ((Work.start s).aluR w sl .or (fun a b => a ||| b)).st

/-- XOR (R174): rd := ra xor rb. -/
def execXorOp (w sl : Nat) (s : State) : Host.Outcome State Fault Refusal :=
  .next ((Work.start s).aluR w sl .xor (fun a b => a ^^^ b)).st

/-- SHL (R174): ra shifted left by rb[5:0]. -/
def execShl (w sl : Nat) (s : State) : Host.Outcome State Fault Refusal :=
  .next ((Work.start s).aluR w sl .shl (fun a b => a <<< (b.toNat % 64))).st

/-- SHR (R174): ra shifted right by rb[5:0], logically. -/
def execShr (w sl : Nat) (s : State) : Host.Outcome State Fault Refusal :=
  .next ((Work.start s).aluR w sl .shr (fun a b => a >>> (b.toNat % 64))).st

/-- SAR (R174): ra shifted right by rb[5:0], arithmetically. -/
def execSar (w sl : Nat) (s : State) : Host.Outcome State Fault Refusal :=
  .next ((Work.start s).aluR w sl .sar (fun a b => a.sshiftRight (b.toNat % 64))).st

/-- MUL (R174): the low 64 bits of ra times rb. -/
def execMul (w sl : Nat) (s : State) : Host.Outcome State Fault Refusal :=
  .next ((Work.start s).aluR w sl .mul (fun a b => a * b)).st

/-- MINU (R174): the unsigned minimum. -/
def execMinu (w sl : Nat) (s : State) : Host.Outcome State Fault Refusal :=
  .next ((Work.start s).aluR w sl .minu (fun a b => if a.toNat ≤ b.toNat then a else b)).st

/-- MAXU (R174): the unsigned maximum. -/
def execMaxu (w sl : Nat) (s : State) : Host.Outcome State Fault Refusal :=
  .next ((Work.start s).aluR w sl .maxu (fun a b => if a.toNat ≤ b.toNat then b else a)).st

/-- SLTU (R174): 1 if ra < rb, unsigned. -/
def execSltu (w sl : Nat) (s : State) : Host.Outcome State Fault Refusal :=
  .next ((Work.start s).aluR w sl .sltu (fun a b => boolWord (a.ult b))).st

/-- SLT (R174): 1 if ra < rb, signed. -/
def execSlt (w sl : Nat) (s : State) : Host.Outcome State Fault Refusal :=
  .next ((Work.start s).aluR w sl .slt (fun a b => boolWord (a.slt b))).st

/-- SEQ (R174): 1 if ra = rb. -/
def execSeq (w sl : Nat) (s : State) : Host.Outcome State Fault Refusal :=
  .next ((Work.start s).aluR w sl .seq (fun a b => boolWord (a == b))).st

/-- ADDI (R174): rd := ra + simm16. -/
def execAddi (w sl : Nat) (s : State) : Host.Outcome State Fault Refusal :=
  .next ((Work.start s).aluI w sl .addi (fun a k => w64 (((a.toNat : Int) + sval 16 k) % 2 ^ 64).toNat)).st

/-- ANDI (R174): rd := ra and imm16. -/
def execAndi (w sl : Nat) (s : State) : Host.Outcome State Fault Refusal :=
  .next ((Work.start s).aluI w sl .andi (fun a k => a &&& w64 k)).st

/-- ORI (R174): rd := ra or imm16. -/
def execOri (w sl : Nat) (s : State) : Host.Outcome State Fault Refusal :=
  .next ((Work.start s).aluI w sl .ori (fun a k => a ||| w64 k)).st

/-- XORI (R174): rd := ra xor imm16. -/
def execXori (w sl : Nat) (s : State) : Host.Outcome State Fault Refusal :=
  .next ((Work.start s).aluI w sl .xori (fun a k => a ^^^ w64 k)).st

/-- SHLI (R174): ra shifted left by the count. -/
def execShli (w sl : Nat) (s : State) : Host.Outcome State Fault Refusal :=
  .next ((Work.start s).aluI w sl .shli (fun a k => a <<< (k % 64))).st

/-- SHRI (R174): ra shifted right by the count, logically. -/
def execShri (w sl : Nat) (s : State) : Host.Outcome State Fault Refusal :=
  .next ((Work.start s).aluI w sl .shri (fun a k => a >>> (k % 64))).st

/-- SARI (R174): ra shifted right by the count, arithmetically. -/
def execSari (w sl : Nat) (s : State) : Host.Outcome State Fault Refusal :=
  .next ((Work.start s).aluI w sl .sari (fun a k => a.sshiftRight (k % 64))).st

/-- LDIH (R174): rd[16k + 15:16k] := imm16; the other bits are kept. -/
def execLdih (w sl : Nat) (s : State) : Host.Outcome State Fault Refusal :=
  .next ((Work.start s).weavRow w sl .ldih fun s x i =>
    let d := (s.wreadReg w x (fRd i)).toNat
    let k := 16 * bits i 16 2
    s.wset w sl x i (w64 (d - bits d k 16 * 2 ^ k + fImm i * 2 ^ k))).st

/-- EXT (R174): rd := ra[pos + width - 1:pos], zero-extended. -/
def execExt (w sl : Nat) (s : State) : Host.Outcome State Fault Refusal :=
  .next ((Work.start s).aluF w sl .ext (fun _ a pos n => w64 (bits a pos n))).st

/-- EXTS (R174): rd := ra[pos + width - 1:pos], sign-extended. -/
def execExts (w sl : Nat) (s : State) : Host.Outcome State Fault Refusal :=
  .next ((Work.start s).aluF w sl .exts (fun _ a pos n => w64 (sfield 64 (sval n (bits a pos n))))).st

/-- INS (R174): rd[pos + width - 1:pos] := ra[width - 1:0]; the other bits are kept. -/
def execIns (w sl : Nat) (s : State) : Host.Outcome State Fault Refusal :=
  .next ((Work.start s).aluF w sl .ins (fun d a pos n => w64 (d - bits d pos n * 2 ^ pos + bits a 0 n * 2 ^ pos))).st

/-- BEQ (R174): branch if ra = rb. -/
def execBeq (w sl : Nat) (s : State) : Host.Outcome State Fault Refusal :=
  .next ((Work.start s).branchB w sl .beq (fun a b => a == b)).st

/-- BNE (R174): branch if ra differs from rb. -/
def execBne (w sl : Nat) (s : State) : Host.Outcome State Fault Refusal :=
  .next ((Work.start s).branchB w sl .bne (fun a b => a != b)).st

/-- BLTU (R174): branch if ra < rb, unsigned. -/
def execBltu (w sl : Nat) (s : State) : Host.Outcome State Fault Refusal :=
  .next ((Work.start s).branchB w sl .bltu (fun a b => a.ult b)).st

/-- BGEU (R174): branch if ra is at least rb, unsigned. -/
def execBgeu (w sl : Nat) (s : State) : Host.Outcome State Fault Refusal :=
  .next ((Work.start s).branchB w sl .bgeu (fun a b => !a.ult b)).st

/-- BLT (R174): branch if ra < rb, signed. -/
def execBlt (w sl : Nat) (s : State) : Host.Outcome State Fault Refusal :=
  .next ((Work.start s).branchB w sl .blt (fun a b => a.slt b)).st

/-- BGE (R174): branch if ra is at least rb, signed. -/
def execBge (w sl : Nat) (s : State) : Host.Outcome State Fault Refusal :=
  .next ((Work.start s).branchB w sl .bge (fun a b => !a.slt b)).st

/-- BBS (R174): branch if ra[bit] is 1. -/
def execBbs (w sl : Nat) (s : State) : Host.Outcome State Fault Refusal :=
  .next ((Work.start s).branchBit w sl .bbs true).st

/-- BBC (R174): branch if ra[bit] is 0. -/
def execBbc (w sl : Nat) (s : State) : Host.Outcome State Fault Refusal :=
  .next ((Work.start s).branchBit w sl .bbc false).st

/-- J (R174): jump to the target. -/
def execJ (w sl : Nat) (s : State) : Host.Outcome State Fault Refusal :=
  .next ((Work.start s).weavRow w sl .j fun s _ i => s.wnext w sl (bits i 0 10)).st

/-- BEQI (R174): branch if ra = imm8. -/
def execBeqi (w sl : Nat) (s : State) : Host.Outcome State Fault Refusal :=
  .next ((Work.start s).branchImm w sl .beqi true).st

/-- BNEI (R174): branch if ra differs from imm8. -/
def execBnei (w sl : Nat) (s : State) : Host.Outcome State Fault Refusal :=
  .next ((Work.start s).branchImm w sl .bnei false).st

/-- LD (R174): rd := the local word at (ra + simm16) mod 512. -/
def execLd (w sl : Nat) (s : State) : Host.Outcome State Fault Refusal :=
  .next ((Work.start s).weavRow w sl .ld fun s x i =>
    s.wset w sl x i (s.st.localWord w (localAddr (s.wreadReg w x (fRa i)) i))).st

/-- ST (R174): the local word at (ra + simm16) mod 512 := rs. -/
def execSt (w sl : Nat) (s : State) : Host.Outcome State Fault Refusal :=
  .next ((Work.start s).weavRow w sl .st fun s x i =>
    (s.wreg .WEA_LOCAL (512 * w + localAddr (s.wreadReg w x (fRa i)) i) (s.wreadReg w x (fRd i))).wnext w sl
      (x.pc + 1)).st

/-- LUT (R174): rd := the word of table WEA_TDt at ra >> ISHIFT. -/
def execLut (w sl : Nat) (s : State) : Host.Outcome State Fault Refusal :=
  .next ((Work.start s).weavRow w sl .lut fun s x i =>
    let t := 8 * w + bits i 0 3
    let n := 2 ^ min 9 (s.get F.WEA_TD_SIZE_LOG2 t)
    let idx := (s.wreadReg w x (fRa i)).toNat / 2 ^ s.get F.WEA_TD_ISHIFT t % n
    s.wset w sl x i (s.st.localWord w (s.get F.WEA_TD_BASE t + idx))).st

/-- RDS (R172): rd := the value of Table WEA-1 that sel names. -/
def execRds (w sl : Nat) (s : State) : Host.Outcome State Fault Refusal :=
  .next ((Work.start s).weavRow w sl .rds fun s x i => s.wset w sl x i (s.rdsValue w x.r (bits i 0 4))).st

/-- RDL (R173): rd := lane table sel of lane ra mod 512. -/
def execRdl (w sl : Nat) (s : State) : Host.Outcome State Fault Refusal :=
  .next ((Work.start s).weavRow w sl .rdl fun s x i =>
    s.wset w sl x i (s.rdlValue w ((s.wreadReg w x (fRa i)).toNat % 512) (bits i 0 4))).st

/-- EMIT (R176, R178): the first n h registers go to queue rq[15:0] as one record. -/
def execEmit (w sl : Nat) (s : State) : Host.Outcome State Fault Refusal :=
  .next ((Work.start s).weavRow w sl .emit fun s x i =>
    s.emitTo w sl x [(s.wreadReg w x (fRd i)).toNat % 2 ^ 16] (bits i 18 3) (bit i 17) (bit i 16) (bit i 15)).st

/-- EMITI (R176 to R178): as EMIT to the immediate queue, or with M = 1 by the lane map; M = 1 is ILLEGAL for a record
without a lane and in a plaza weaver (R177). -/
def execEmiti (w sl : Nat) (s : State) : Host.Outcome State Fault Refusal :=
  .next ((Work.start s).weavRow w sl .emiti fun s x i =>
    let n := bits i 19 3
    let go := fun (qs : List Nat) => s.emitTo w sl x qs n (bit i 23) (bit i 22) (bit i 25)
    if bit i 24 then
      match (if 32 ≤ w then none else x.r.lane) with
      | some l => go (s.st.mapped l (recClass (x.h.getD 0 0)) true)
      | none => if s.st.oldest w sl then s.weavFault w sl 1 x.pc 0 else s
    else go [fImm i]).st

/-- DROP (R169): the program ends and the record is discarded. -/
def execDrop (w sl : Nat) (s : State) : Host.Outcome State Fault Refusal :=
  .next ((Work.start s).weavRow w sl .drop fun s _ _ => s.wend w sl true).st

/-- YIELD (R169): the program ends. -/
def execYield (w sl : Nat) (s : State) : Host.Outcome State Fault Refusal :=
  .next ((Work.start s).weavRow w sl .yield fun s _ _ => s.wend w sl false).st

/-- SIGNAL (R174): WEVT bit 8 + k is set. -/
def execSignal (w sl : Nat) (s : State) : Host.Outcome State Fault Refusal :=
  .next ((Work.start s).weavRow w sl .signal fun s x i =>
    (s.flag ⟨.WEA_WEVT, 8 + bits i 0 4, 1⟩ w).wnext w sl (x.pc + 1)).st

end Sys2Proof.Machine
end

