-- ==== Sys2Proof/Machine/Dispatch.lean ====
section
/-!
DEFINITION. Which meaning each command has: one arm for each constructor of `Instr`.
-/

namespace Sys2Proof.Machine

/-- The effect of command `i` on everything but the queue of the commands that wait. -/
def exec (i : Instr) (s : State) : Host.Outcome State Fault Refusal :=
  match i with
  | .registerWrite t m a v => Sys2Proof.Machine.execRegisterWrite t m a v s
  | .rcFieldRead t m a => Sys2Proof.Machine.execRcFieldRead t m a s
  | .wardLinkFrame t w up ok => Sys2Proof.Machine.execWardLinkFrame t w up ok s
  | .replayPersist t w => Sys2Proof.Machine.execReplayPersist t w s
  | .edge t u c v tn => Sys2Proof.Machine.execEdge t u c v tn s
  | .overload t u v => Sys2Proof.Machine.execOverload t u v s
  | .thresholdApply u => Sys2Proof.Machine.execThresholdApply u s
  | .rampTimeout u => Sys2Proof.Machine.execRampTimeout u s
  | .rampClamp u => Sys2Proof.Machine.execRampClamp u s
  | .rampRecoveryEnd u => Sys2Proof.Machine.execRampRecoveryEnd u s
  | .switchingWrite t m n v => Sys2Proof.Machine.execSwitchingWrite t m n v s
  | .switchBlankStart u => Sys2Proof.Machine.execSwitchBlankStart u s
  | .switchCircuitsOff u => Sys2Proof.Machine.execSwitchCircuitsOff u s
  | .switchDone u va vb vc => Sys2Proof.Machine.execSwitchDone u va vb vc s
  | .partnerWindowExpiry n => Sys2Proof.Machine.execPartnerWindowExpiry n s
  | .recordHoldRelease n => Sys2Proof.Machine.execRecordHoldRelease n s
  | .capConfigApply n => Sys2Proof.Machine.execCapConfigApply n s
  | .calTakeUnit t b => Sys2Proof.Machine.execCalTakeUnit t b s
  | .reliefSettled b va vb vc => Sys2Proof.Machine.execReliefSettled b va vb vc s
  | .skewAgreed t b => Sys2Proof.Machine.execSkewAgreed t b s
  | .overlapTimeout b => Sys2Proof.Machine.execOverlapTimeout b s
  | .handover b => Sys2Proof.Machine.execHandover b s
  | .laneOffline b => Sys2Proof.Machine.execLaneOffline b s
  | .staticRunsDone t b r1 r2 => Sys2Proof.Machine.execStaticRunsDone t b r1 r2 s
  | .codeDensityRunDone t b w js => Sys2Proof.Machine.execCodeDensityRunDone t b w js s
  | .cleanOverlap t b => Sys2Proof.Machine.execCleanOverlap t b s
  | .handback b => Sys2Proof.Machine.execHandback b s
  | .reliefReleased b => Sys2Proof.Machine.execReliefReleased b s
  | .cycleEnd b => Sys2Proof.Machine.execCycleEnd b s
  | .gapEnd u va vb vc => Sys2Proof.Machine.execGapEnd u va vb vc s
  | .sensorRead t k v => Sys2Proof.Machine.execSensorRead t k v s
  | .tempModelUpdate b => Sys2Proof.Machine.execTempModelUpdate b s
  | .baselineApertureEnd n v => Sys2Proof.Machine.execBaselineApertureEnd n v s
  | .baselineUpdate n => Sys2Proof.Machine.execBaselineUpdate n s
  | .vaultSlotWrite t => Sys2Proof.Machine.execVaultSlotWrite t s
  | .vaultWriteDone t ok => Sys2Proof.Machine.execVaultWriteDone t ok s
  | .fixedLengthRequest n => Sys2Proof.Machine.execFixedLengthRequest n s
  | .maximumLengthRequest n => Sys2Proof.Machine.execMaximumLengthRequest n s
  | .timeBoundedClose n => Sys2Proof.Machine.execTimeBoundedClose n s
  | .cntConfigApply n => Sys2Proof.Machine.execCntConfigApply n s
  | .iwinExpiry p => Sys2Proof.Machine.execIwinExpiry p s
  | .pairConfigApply p => Sys2Proof.Machine.execPairConfigApply p s
  | .xpBundleClose t x q => Sys2Proof.Machine.execXpBundleClose t x q s
  | .markEdge t k lv => Sys2Proof.Machine.execMarkEdge t k lv s
  | .stepEdge t => Sys2Proof.Machine.execStepEdge t s
  | .generatedStep => Sys2Proof.Machine.execGeneratedStep s
  | .axisEnableApply => Sys2Proof.Machine.execAxisEnableApply s
  | .axisDisableApply => Sys2Proof.Machine.execAxisDisableApply s
  | .coastEntry => Sys2Proof.Machine.execCoastEntry s
  | .synthesisedStep => Sys2Proof.Machine.execSynthesisedStep s
  | .stakeIssue t => Sys2Proof.Machine.execStakeIssue t s
  | .gateOpen => Sys2Proof.Machine.execGateOpen s
  | .gateClose => Sys2Proof.Machine.execGateClose s
  | .engineClose => Sys2Proof.Machine.execEngineClose s
  | .calQuiet => Sys2Proof.Machine.execCalQuiet s
  | .bankSwap => Sys2Proof.Machine.execBankSwap s
  | .markOut p => Sys2Proof.Machine.execMarkOut p s
  | .markPulseEnd p => Sys2Proof.Machine.execMarkPulseEnd p s
  | .axisRecord => Sys2Proof.Machine.execAxisRecord s
  | .histKey => Sys2Proof.Machine.execHistKey s
  | .weaverSignal => Sys2Proof.Machine.execWeaverSignal s
  | .rampStart => Sys2Proof.Machine.execRampStart s
  | .stakeMatchWrite t m k v => Sys2Proof.Machine.execStakeMatchWrite t m k v s
  | .commit t m => Sys2Proof.Machine.execCommit t m s
  | .blockMergeTake t b => Sys2Proof.Machine.execBlockMergeTake t b s
  | .fastPathFlush t b q => Sys2Proof.Machine.execFastPathFlush t b q s
  | .weaverRecordLoad w => Sys2Proof.Machine.execWeaverRecordLoad w s
  | .weaverRetire w => Sys2Proof.Machine.execWeaverRetire w s
  | .add w sl => Sys2Proof.Machine.execAdd w sl s
  | .sub w sl => Sys2Proof.Machine.execSub w sl s
  | .andOp w sl => Sys2Proof.Machine.execAndOp w sl s
  | .orOp w sl => Sys2Proof.Machine.execOrOp w sl s
  | .xorOp w sl => Sys2Proof.Machine.execXorOp w sl s
  | .shl w sl => Sys2Proof.Machine.execShl w sl s
  | .shr w sl => Sys2Proof.Machine.execShr w sl s
  | .sar w sl => Sys2Proof.Machine.execSar w sl s
  | .mul w sl => Sys2Proof.Machine.execMul w sl s
  | .minu w sl => Sys2Proof.Machine.execMinu w sl s
  | .maxu w sl => Sys2Proof.Machine.execMaxu w sl s
  | .sltu w sl => Sys2Proof.Machine.execSltu w sl s
  | .slt w sl => Sys2Proof.Machine.execSlt w sl s
  | .seq w sl => Sys2Proof.Machine.execSeq w sl s
  | .addi w sl => Sys2Proof.Machine.execAddi w sl s
  | .andi w sl => Sys2Proof.Machine.execAndi w sl s
  | .ori w sl => Sys2Proof.Machine.execOri w sl s
  | .xori w sl => Sys2Proof.Machine.execXori w sl s
  | .shli w sl => Sys2Proof.Machine.execShli w sl s
  | .shri w sl => Sys2Proof.Machine.execShri w sl s
  | .sari w sl => Sys2Proof.Machine.execSari w sl s
  | .ldih w sl => Sys2Proof.Machine.execLdih w sl s
  | .ext w sl => Sys2Proof.Machine.execExt w sl s
  | .exts w sl => Sys2Proof.Machine.execExts w sl s
  | .ins w sl => Sys2Proof.Machine.execIns w sl s
  | .beq w sl => Sys2Proof.Machine.execBeq w sl s
  | .bne w sl => Sys2Proof.Machine.execBne w sl s
  | .bltu w sl => Sys2Proof.Machine.execBltu w sl s
  | .bgeu w sl => Sys2Proof.Machine.execBgeu w sl s
  | .blt w sl => Sys2Proof.Machine.execBlt w sl s
  | .bge w sl => Sys2Proof.Machine.execBge w sl s
  | .bbs w sl => Sys2Proof.Machine.execBbs w sl s
  | .bbc w sl => Sys2Proof.Machine.execBbc w sl s
  | .j w sl => Sys2Proof.Machine.execJ w sl s
  | .beqi w sl => Sys2Proof.Machine.execBeqi w sl s
  | .bnei w sl => Sys2Proof.Machine.execBnei w sl s
  | .ld w sl => Sys2Proof.Machine.execLd w sl s
  | .st w sl => Sys2Proof.Machine.execSt w sl s
  | .lut w sl => Sys2Proof.Machine.execLut w sl s
  | .rds w sl => Sys2Proof.Machine.execRds w sl s
  | .rdl w sl => Sys2Proof.Machine.execRdl w sl s
  | .emit w sl => Sys2Proof.Machine.execEmit w sl s
  | .emiti w sl => Sys2Proof.Machine.execEmiti w sl s
  | .drop w sl => Sys2Proof.Machine.execDrop w sl s
  | .yield w sl => Sys2Proof.Machine.execYield w sl s
  | .signal w sl => Sys2Proof.Machine.execSignal w sl s
  | .weaverFlush t w q => Sys2Proof.Machine.execWeaverFlush t w q s
  | .signalEntry t w => Sys2Proof.Machine.execSignalEntry t w s
  | .plazaBundleTake t w => Sys2Proof.Machine.execPlazaBundleTake t w s
  | .bundleEnd t w => Sys2Proof.Machine.execBundleEnd t w s
  | .inputRelease t w => Sys2Proof.Machine.execInputRelease t w s
  | .weaverRunStart t m w => Sys2Proof.Machine.execWeaverRunStart t m w s
  | .weaverRunStop t m w => Sys2Proof.Machine.execWeaverRunStop t m w s
  | .halted t w => Sys2Proof.Machine.execHalted t w s
  | .fltRecord t p => Sys2Proof.Machine.execFltRecord t p s
  | .fltBundleFlush p => Sys2Proof.Machine.execFltBundleFlush p s
  | .fltCtrlReset t m p => Sys2Proof.Machine.execFltCtrlReset t m p s
  | .fltCtrlSwap t m p n => Sys2Proof.Machine.execFltCtrlSwap t m p n s
  | .shadowBankWrite t m a v => Sys2Proof.Machine.execShadowBankWrite t m a v s
  | .heRecord t h => Sys2Proof.Machine.execHeRecord t h s
  | .heOpSnapshot t m h => Sys2Proof.Machine.execHeOpSnapshot t m h s
  | .heOpSnapshotReset t m h => Sys2Proof.Machine.execHeOpSnapshotReset t m h s
  | .heOpReset t m h => Sys2Proof.Machine.execHeOpReset t m h s
  | .histOpApply h => Sys2Proof.Machine.execHistOpApply h s
  | .periodicSnapshot h => Sys2Proof.Machine.execPeriodicSnapshot h s
  | .histRecordWritten t h => Sys2Proof.Machine.execHistRecordWritten t h s
  | .refinEdge t k lv => Sys2Proof.Machine.execRefinEdge t k lv s
  | .refLos t k => Sys2Proof.Machine.execRefLos t k s
  | .freqCheck t k f => Sys2Proof.Machine.execFreqCheck t k f s
  | .qualified t k => Sys2Proof.Machine.execQualified t k s
  | .timebaseLock t => Sys2Proof.Machine.execTimebaseLock t s
  | .returnMeasurementEnd t => Sys2Proof.Machine.execReturnMeasurementEnd t s
  | .slewEnd t => Sys2Proof.Machine.execSlewEnd t s
  | .timebaseStep => Sys2Proof.Machine.execTimebaseStep s
  | .syncIn0Edge t lv => Sys2Proof.Machine.execSyncIn0Edge t lv s
  | .arm0 t m => Sys2Proof.Machine.execArm0 t m s
  | .opllSearch t m e => Sys2Proof.Machine.execOpllSearch t m e s
  | .opllHop t m e => Sys2Proof.Machine.execOpllHop t m e s
  | .opllOff t m e => Sys2Proof.Machine.execOpllOff t m e s
  | .opllLock t band tune => Sys2Proof.Machine.execOpllLock t band tune s
  | .opllLossOfLock t => Sys2Proof.Machine.execOpllLossOfLock t s
  | .lostRetry => Sys2Proof.Machine.execLostRetry s
  | .bandEntryWrite t m e v => Sys2Proof.Machine.execBandEntryWrite t m e v s
  | .oclkChangeApply t c => Sys2Proof.Machine.execOclkChangeApply t c s
  | .syncIn1Edge t lv => Sys2Proof.Machine.execSyncIn1Edge t lv s
  | .arm1 t m => Sys2Proof.Machine.execArm1 t m s
  | .sw1 t m => Sys2Proof.Machine.execSw1 t m s
  | .dividerResetRestart t => Sys2Proof.Machine.execDividerResetRestart t s
  | .loopbackStart t b => Sys2Proof.Machine.execLoopbackStart t b s
  | .bundlePlace t q => Sys2Proof.Machine.execBundlePlace t q s
  | .holdExpiry q => Sys2Proof.Machine.execHoldExpiry q s
  | .bundleAgeForce => Sys2Proof.Machine.execBundleAgeForce s
  | .bufferGrant t => Sys2Proof.Machine.execBufferGrant t s
  | .queueEnSet t m q v => Sys2Proof.Machine.execQueueEnSet t m q v s
  | .queueEnClear t m q v => Sys2Proof.Machine.execQueueEnClear t m q v s
  | .pop t m q rd => Sys2Proof.Machine.execPop t m q rd s
  | .ringCopy t r => Sys2Proof.Machine.execRingCopy t r s
  | .ringWriteback t r => Sys2Proof.Machine.execRingWriteback t r s
  | .tailWrite t f r v => Sys2Proof.Machine.execTailWrite t f r v s
  | .sourceInput t k lv => Sys2Proof.Machine.execSourceInput t k lv s
  | .intSetEn t m w v => Sys2Proof.Machine.execIntSetEn t m w v s
  | .intClrEn t m w v => Sys2Proof.Machine.execIntClrEn t m w v s
  | .intSetPend t m w v => Sys2Proof.Machine.execIntSetPend t m w v s
  | .intClrPend t m w v => Sys2Proof.Machine.execIntClrPend t m w v s
  | .moderationTimer u => Sys2Proof.Machine.execModerationTimer u s
  | .route t => Sys2Proof.Machine.execRoute t s
  | .claim t c => Sys2Proof.Machine.execClaim t c s
  | .coreEoi t c k => Sys2Proof.Machine.execCoreEoi t c k s
  | .mret t c => Sys2Proof.Machine.execMret t c s
  | .frameRestoreDone t c => Sys2Proof.Machine.execFrameRestoreDone t c s
  | .stackReset t m c => Sys2Proof.Machine.execStackReset t m c s
  | .vectorTimer v => Sys2Proof.Machine.execVectorTimer v s
  | .vectorUnmask t f v => Sys2Proof.Machine.execVectorUnmask t f v s
  | .functionSleepEntry t f => Sys2Proof.Machine.execFunctionSleepEntry t f s
  | .functionWake t f => Sys2Proof.Machine.execFunctionWake t f s
  | .post t ep slot => Sys2Proof.Machine.execPost t ep slot s
  | .release t ep slot => Sys2Proof.Machine.execRelease t ep slot s
  | .mbxNtail t ep v => Sys2Proof.Machine.execMbxNtail t ep v s
  | .commandTake t => Sys2Proof.Machine.execCommandTake t s
  | .responseDeadline ep slot => Sys2Proof.Machine.execResponseDeadline ep slot s
  | .complete t ep slot => Sys2Proof.Machine.execComplete t ep slot s
  | .sysIdentify t ep sl => Sys2Proof.Machine.execSysIdentify t ep sl s
  | .sysPing t ep sl => Sys2Proof.Machine.execSysPing t ep sl s
  | .sysNoticeSet t ep sl => Sys2Proof.Machine.execSysNoticeSet t ep sl s
  | .sysAbort t ep sl => Sys2Proof.Machine.execSysAbort t ep sl s
  | .sysTime t ep sl => Sys2Proof.Machine.execSysTime t ep sl s
  | .sysEngineReset t ep sl => Sys2Proof.Machine.execSysEngineReset t ep sl s
  | .sysReady t ep sl => Sys2Proof.Machine.execSysReady t ep sl s
  | .laneSet t ep sl => Sys2Proof.Machine.execLaneSet t ep sl s
  | .laneGet t ep sl => Sys2Proof.Machine.execLaneGet t ep sl s
  | .laneStatus t ep sl => Sys2Proof.Machine.execLaneStatus t ep sl s
  | .laneCounters t ep sl => Sys2Proof.Machine.execLaneCounters t ep sl s
  | .walkLoad t ep sl => Sys2Proof.Machine.execWalkLoad t ep sl s
  | .walkRead t ep sl => Sys2Proof.Machine.execWalkRead t ep sl s
  | .walkLearn t ep sl => Sys2Proof.Machine.execWalkLearn t ep sl s
  | .walkLearnDone t ep sl => Sys2Proof.Machine.execWalkLearnDone t ep sl s
  | .engineSet t ep sl => Sys2Proof.Machine.execEngineSet t ep sl s
  | .engineGet t ep sl => Sys2Proof.Machine.execEngineGet t ep sl s
  | .engineCounters t ep sl => Sys2Proof.Machine.execEngineCounters t ep sl s
  | .pairAlloc t ep sl => Sys2Proof.Machine.execPairAlloc t ep sl s
  | .pairSet t ep sl => Sys2Proof.Machine.execPairSet t ep sl s
  | .pairGet t ep sl => Sys2Proof.Machine.execPairGet t ep sl s
  | .pairFree t ep sl => Sys2Proof.Machine.execPairFree t ep sl s
  | .axisSet t ep sl => Sys2Proof.Machine.execAxisSet t ep sl s
  | .axisEnable t ep sl => Sys2Proof.Machine.execAxisEnable t ep sl s
  | .axisStatus t ep sl => Sys2Proof.Machine.execAxisStatus t ep sl s
  | .stakesLoad t ep sl => Sys2Proof.Machine.execStakesLoad t ep sl s
  | .lgLoad t ep sl => Sys2Proof.Machine.execLgLoad t ep sl s
  | .axisCommit t ep sl => Sys2Proof.Machine.execAxisCommit t ep sl s
  | .markdirSet t ep sl => Sys2Proof.Machine.execMarkdirSet t ep sl s
  | .qhitRead t ep sl => Sys2Proof.Machine.execQhitRead t ep sl s
  | .weaveLoad t ep sl => Sys2Proof.Machine.execWeaveLoad t ep sl s
  | .weaveStart t ep sl => Sys2Proof.Machine.execWeaveStart t ep sl s
  | .weaveStop t ep sl => Sys2Proof.Machine.execWeaveStop t ep sl s
  | .weaveStatus t ep sl => Sys2Proof.Machine.execWeaveStatus t ep sl s
  | .weaveCfg t ep sl => Sys2Proof.Machine.execWeaveCfg t ep sl s
  | .weaveData t ep sl => Sys2Proof.Machine.execWeaveData t ep sl s
  | .weavePin t ep sl => Sys2Proof.Machine.execWeavePin t ep sl s
  | .calUnitStatus t ep sl => Sys2Proof.Machine.execCalUnitStatus t ep sl s
  | .calBlockSet t ep sl => Sys2Proof.Machine.execCalBlockSet t ep sl s
  | .calBlockStatus t ep sl => Sys2Proof.Machine.execCalBlockStatus t ep sl s
  | .calPrioritise t ep sl => Sys2Proof.Machine.execCalPrioritise t ep sl s
  | .calReinstate t ep sl => Sys2Proof.Machine.execCalReinstate t ep sl s
  | .calExport t ep sl => Sys2Proof.Machine.execCalExport t ep sl s
  | .filtSet t ep sl => Sys2Proof.Machine.execFiltSet t ep sl s
  | .filtBankLoad t ep sl => Sys2Proof.Machine.execFiltBankLoad t ep sl s
  | .filtSwap t ep sl => Sys2Proof.Machine.execFiltSwap t ep sl s
  | .filtReset t ep sl => Sys2Proof.Machine.execFiltReset t ep sl s
  | .filtStatus t ep sl => Sys2Proof.Machine.execFiltStatus t ep sl s
  | .histSet t ep sl => Sys2Proof.Machine.execHistSet t ep sl s
  | .histOp t ep sl => Sys2Proof.Machine.execHistOp t ep sl s
  | .histStatus t ep sl => Sys2Proof.Machine.execHistStatus t ep sl s
  | .tpllSet t ep sl => Sys2Proof.Machine.execTpllSet t ep sl s
  | .tpllStatus t ep sl => Sys2Proof.Machine.execTpllStatus t ep sl s
  | .sync0Arm t ep sl => Sys2Proof.Machine.execSync0Arm t ep sl s
  | .bandSet t ep sl => Sys2Proof.Machine.execBandSet t ep sl s
  | .opllOp t ep sl => Sys2Proof.Machine.execOpllOp t ep sl s
  | .outSet t ep sl => Sys2Proof.Machine.execOutSet t ep sl s
  | .sync1 t ep sl => Sys2Proof.Machine.execSync1 t ep sl s
  | .loopSet t ep sl => Sys2Proof.Machine.execLoopSet t ep sl s
  | .opllStatus t ep sl => Sys2Proof.Machine.execOpllStatus t ep sl s
  | .queueAlloc t ep sl => Sys2Proof.Machine.execQueueAlloc t ep sl s
  | .queueFree t ep sl => Sys2Proof.Machine.execQueueFree t ep sl s
  | .queueEnable t ep sl => Sys2Proof.Machine.execQueueEnable t ep sl s
  | .queueBind t ep sl => Sys2Proof.Machine.execQueueBind t ep sl s
  | .queueRoute t ep sl => Sys2Proof.Machine.execQueueRoute t ep sl s
  | .queueFastpath t ep sl => Sys2Proof.Machine.execQueueFastpath t ep sl s
  | .queueRingSet t ep sl => Sys2Proof.Machine.execQueueRingSet t ep sl s
  | .queueStatus t ep sl => Sys2Proof.Machine.execQueueStatus t ep sl s
  | .queueFlagsClear t ep sl => Sys2Proof.Machine.execQueueFlagsClear t ep sl s
  | .queuePoolSet t ep sl => Sys2Proof.Machine.execQueuePoolSet t ep sl s
  | .linkAssign t ep sl => Sys2Proof.Machine.execLinkAssign t ep sl s
  | .linkEthSet t ep sl => Sys2Proof.Machine.execLinkEthSet t ep sl s
  | .linkDlpSet t ep sl => Sys2Proof.Machine.execLinkDlpSet t ep sl s
  | .linkStatus t ep sl => Sys2Proof.Machine.execLinkStatus t ep sl s
  | .linkPartners t ep sl => Sys2Proof.Machine.execLinkPartners t ep sl s
  | .linkEgressBind t ep sl => Sys2Proof.Machine.execLinkEgressBind t ep sl s
  | .accWindowSet t ep sl => Sys2Proof.Machine.execAccWindowSet t ep sl s
  | .accWindowGet t ep sl => Sys2Proof.Machine.execAccWindowGet t ep sl s
  | .accGrant t ep sl => Sys2Proof.Machine.execAccGrant t ep sl s
  | .accRevoke t ep sl => Sys2Proof.Machine.execAccRevoke t ep sl s
  | .accViolations t ep sl => Sys2Proof.Machine.execAccViolations t ep sl s
  | .accUnlock t ep sl => Sys2Proof.Machine.execAccUnlock t ep sl s
  | .pwrStateSet t ep sl => Sys2Proof.Machine.execPwrStateSet t ep sl s
  | .pwrDomainSet t ep sl => Sys2Proof.Machine.execPwrDomainSet t ep sl s
  | .pwrWakeCfg t ep sl => Sys2Proof.Machine.execPwrWakeCfg t ep sl s
  | .pwrStatus t ep sl => Sys2Proof.Machine.execPwrStatus t ep sl s
  | .monSet t ep sl => Sys2Proof.Machine.execMonSet t ep sl s
  | .monRead t ep sl => Sys2Proof.Machine.execMonRead t ep sl s
  | .monTemps t ep sl => Sys2Proof.Machine.execMonTemps t ep sl s
  | .monErrlog t ep sl => Sys2Proof.Machine.execMonErrlog t ep sl s
  | .nvmSave t ep sl => Sys2Proof.Machine.execNvmSave t ep sl s
  | .nvmProfileSave t ep sl => Sys2Proof.Machine.execNvmProfileSave t ep sl s
  | .nvmProfileLoad t ep sl => Sys2Proof.Machine.execNvmProfileLoad t ep sl s
  | .nvmImageWrite t ep sl => Sys2Proof.Machine.execNvmImageWrite t ep sl s
  | .nvmImageActivate t ep sl => Sys2Proof.Machine.execNvmImageActivate t ep sl s
  | .nvmStatus t ep sl => Sys2Proof.Machine.execNvmStatus t ep sl s
  | .groupModeWrite t m g v => Sys2Proof.Machine.execGroupModeWrite t m g v s
  | .groupTrain g => Sys2Proof.Machine.execGroupTrain g s
  | .datagramSend t e => Sys2Proof.Machine.execDatagramSend t e s
  | .heartbeat e => Sys2Proof.Machine.execHeartbeat e s
  | .pause t p q => Sys2Proof.Machine.execPause t p q s
  | .rxDisc t p => Sys2Proof.Machine.execRxDisc t p s
  | .dlpLinkUp t l => Sys2Proof.Machine.execDlpLinkUp t l s
  | .helloRepeat l => Sys2Proof.Machine.execHelloRepeat l s
  | .discoveryTimeout l => Sys2Proof.Machine.execDiscoveryTimeout l s
  | .discoveryRestart l => Sys2Proof.Machine.execDiscoveryRestart l s
  | .keep t l f => Sys2Proof.Machine.execKeep t l f s
  | .hello t l f => Sys2Proof.Machine.execHello t l f s
  | .accept t l f => Sys2Proof.Machine.execAccept t l f s
  | .bye t l f => Sys2Proof.Machine.execBye t l f s
  | .bundleFrame t l f => Sys2Proof.Machine.execBundleFrame t l f s
  | .mbxCommand t l f => Sys2Proof.Machine.execMbxCommand t l f s
  | .mbxRelease t l f => Sys2Proof.Machine.execMbxRelease t l f s
  | .timeRequest t l f => Sys2Proof.Machine.execTimeRequest t l f s
  | .timeResponse t l f => Sys2Proof.Machine.execTimeResponse t l f s
  | .frameDiscard t l crc rx => Sys2Proof.Machine.execFrameDiscard t l crc rx s
  | .lossOfSignal t l => Sys2Proof.Machine.execLossOfSignal t l s
  | .rxTimeout t l => Sys2Proof.Machine.execRxTimeout t l s
  | .creditTimeout t l => Sys2Proof.Machine.execCreditTimeout t l s
  | .keepSend t l => Sys2Proof.Machine.execKeepSend t l s
  | .partnerBundleSend t e => Sys2Proof.Machine.execPartnerBundleSend t e s
  | .timeRequestSend t l => Sys2Proof.Machine.execTimeRequestSend t l s
  | .trialTimeout t => Sys2Proof.Machine.execTrialTimeout t s
  | .idcode t => Sys2Proof.Machine.execIdcode t s
  | .challenge t nonce => Sys2Proof.Machine.execChallenge t nonce s
  | .unlock t key sig nonce => Sys2Proof.Machine.execUnlock t key sig nonce s
  | .samplePreload t pins => Sys2Proof.Machine.execSamplePreload t pins s
  | .extest t pins => Sys2Proof.Machine.execExtest t pins s
  | .debug t wr a v => Sys2Proof.Machine.execDebug t wr a v s
  | .bypass t => Sys2Proof.Machine.execBypass t s
  | .pwrDreqWrite t m k v => Sys2Proof.Machine.execPwrDreqWrite t m k v s
  | .domainChangeDone t d => Sys2Proof.Machine.execDomainChangeDone t d s
  | .engineEntryStart t => Sys2Proof.Machine.execEngineEntryStart t s
  | .entryAbandon => Sys2Proof.Machine.execEntryAbandon s
  | .dataPathStop => Sys2Proof.Machine.execDataPathStop s
  | .watchEntered t => Sys2Proof.Machine.execWatchEntered t s
  | .deepSleepEntered t => Sys2Proof.Machine.execDeepSleepEntered t s
  | .alarm t => Sys2Proof.Machine.execAlarm t s
  | .wakeDomainsOn t => Sys2Proof.Machine.execWakeDomainsOn t s
  | .wakeTimebaseRestore ka => Sys2Proof.Machine.execWakeTimebaseRestore ka s
  | .wakeResume => Sys2Proof.Machine.execWakeResume s
  | .pwrOkRise => Sys2Proof.Machine.execPwrOkRise s
  | .pwrOkFall t => Sys2Proof.Machine.execPwrOkFall t s
  | .startDomainsOn => Sys2Proof.Machine.execStartDomainsOn s
  | .t64Start => Sys2Proof.Machine.execT64Start s
  | .bootRomStart t => Sys2Proof.Machine.execBootRomStart t s
  | .storeTrained t => Sys2Proof.Machine.execStoreTrained t s
  | .wardLinksTrained t failed => Sys2Proof.Machine.execWardLinksTrained t failed s
  | .ongenRunning t => Sys2Proof.Machine.execOngenRunning t s
  | .vaultLoaded t => Sys2Proof.Machine.execVaultLoaded t s
  | .ready t => Sys2Proof.Machine.execReady t s
  | .resetNAssert t => Sys2Proof.Machine.execResetNAssert t s
  | .resetNRelease => Sys2Proof.Machine.execResetNRelease s
  | .perstNAssert t => Sys2Proof.Machine.execPerstNAssert t s
  | .perstNRise t => Sys2Proof.Machine.execPerstNRise t s
  | .hotReset t => Sys2Proof.Machine.execHotReset t s
  | .linkDown t => Sys2Proof.Machine.execLinkDown t s
  | .functionLevelReset t f => Sys2Proof.Machine.execFunctionLevelReset t f s
  | .softEngine t m => Sys2Proof.Machine.execSoftEngine t m s
  | .softEngineApply t => Sys2Proof.Machine.execSoftEngineApply t s
  | .softCore t m => Sys2Proof.Machine.execSoftCore t m s
  | .blockResetRequest t m v => Sys2Proof.Machine.execBlockResetRequest t m v s
  | .blockReset b => Sys2Proof.Machine.execBlockReset b s
  | .beat t m c => Sys2Proof.Machine.execBeat t m c s
  | .watchdog t c => Sys2Proof.Machine.execWatchdog t c s
  | .heartbeatSilence t c => Sys2Proof.Machine.execHeartbeatSilence t c s
  | .lastResortTrigger t => Sys2Proof.Machine.execLastResortTrigger t s
  | .lrSoftCore => Sys2Proof.Machine.execLrSoftCore s
  | .lrBoot => Sys2Proof.Machine.execLrBoot s
  | .lrReadyTimeout => Sys2Proof.Machine.execLrReadyTimeout s
  | .scrub t a e => Sys2Proof.Machine.execScrub t a e s
  | .sensorFault t k => Sys2Proof.Machine.execSensorFault t k s
  | .thermalTrip t k => Sys2Proof.Machine.execThermalTrip t k s
  | .muRestart t m h => Sys2Proof.Machine.execMuRestart t m h s
  | .brownOut t => Sys2Proof.Machine.execBrownOut t s
  | .lowerHalfRead t m a => Sys2Proof.Machine.execLowerHalfRead t m a s
  | .upperHalfRead t m a => Sys2Proof.Machine.execUpperHalfRead t m a s
  | .lowerHalfWrite t m a v => Sys2Proof.Machine.execLowerHalfWrite t m a v s
  | .upperHalfWrite t m a v => Sys2Proof.Machine.execUpperHalfWrite t m a v s
  | .vaultWordWrite t m a v => Sys2Proof.Machine.execVaultWordWrite t m a v s
  | .ictrlRead t => Sys2Proof.Machine.execIctrlRead t s
  | .ictrlWrite t => Sys2Proof.Machine.execIctrlWrite t s
  | .indirectDone t => Sys2Proof.Machine.execIndirectDone t s
  | .i2cWrite t off bs => Sys2Proof.Machine.execI2cWrite t off bs s
  | .i2cRead t n => Sys2Proof.Machine.execI2cRead t n s
  | .loopbackEnd t b => Sys2Proof.Machine.execLoopbackEnd t b s
  | .upChg t p up => Sys2Proof.Machine.execUpChg t p up s
  | .linkUp t => Sys2Proof.Machine.execLinkUp t s
  | .pauseExpiry p => Sys2Proof.Machine.execPauseExpiry p s
  | .opllOpTimeout t => Sys2Proof.Machine.execOpllOpTimeout t s

end Sys2Proof.Machine
end

