-- ==== Sys2Proof/Safety.lean ====
section
/-!
DEFINITION. What counts as a well-formed state and as a safe step. The block has no state that a command refuses: a step
is safe where it answers a next state.
-/

namespace Sys2Proof.Machine

/-- Every sparse field is in the canonical form: keys strictly rising, no entry equal to what an unlisted key reads
as. So equal contents of registers, memories and units are equal data. -/
def State.wf (s : State) : Bool :=
  Tab.wf Reg.dflt s.regs && Tab.wf (fun _ => ({} : FreUnit)) s.fre && Tab.wf (fun _ => ({} : CapHw)) s.capHw &&
    Tab.wf (fun _ => ({} : LaneCap)) s.cap && Tab.wf (fun _ => ({} : CalUnit)) s.cal &&
    Tab.wf (fun _ => ({} : CalBlk)) s.calBlk && Tab.wf (fun _ => (0 : Byte)) s.vault &&
    Tab.wf (fun _ => ({} : CntUnit)) s.cnt && Tab.wf (fun _ => ({} : PairSt)) s.pair &&
    Tab.wf (fun _ => (0x40 : Word)) s.clk && Tab.wf (fun _ => ({} : MarkSt)) s.mark &&
    Tab.wf (fun _ => ({} : MergeSt)) s.merge && Tab.wf (fun _ => (0 : Nat)) s.prog &&
    Tab.wf (fun _ => ({} : WeavSt)) s.weav && Tab.wf (fun _ => ({} : QueSt)) s.que &&
    Tab.wf (fun _ => (0 : Word)) s.store && Tab.wf (fun _ => ({} : FltSt)) s.flt &&
    Tab.wf (fun _ => ({} : HeSt)) s.he && Tab.wf (fun _ => (false : Bool)) s.muOn &&
    Tab.wf (fun _ => ((0, 0) : Nat × Nat)) s.ringC && Tab.wf (fun _ => ({} : SrcSt)) s.src &&
    Tab.wf (fun _ => (none : Option Nat)) s.modT && Tab.wf (fun _ => ({} : CoreSt)) s.core &&
    Tab.wf (fun _ => ({} : VecSt)) s.vec && Tab.wf (fun _ => ({} : FnSt)) s.fn &&
    Tab.wf (fun _ => (0 : Byte)) s.host && Tab.wf (fun _ => (0 : Byte)) s.guest &&
    Tab.wf (fun _ => ({} : EpSt)) s.ep && Tab.wf (fun _ => ({} : SlotSt)) s.slot &&
    Tab.wf (fun _ => (none : Option Nat)) s.owner && Tab.wf (fun _ => (0 : Nat)) s.alloc &&
    Tab.wf (fun _ => ({} : WLink)) s.wlink && Tab.wf (fun _ => (none : Option Nat)) s.grp &&
    Tab.wf (fun _ => ({} : PortSt)) s.port && Tab.wf (fun _ => ({} : ChanSt)) s.chan &&
    Tab.wf (fun _ => ({} : LnkSt)) s.lnk && Tab.wf (fun _ => ({} : SensSt)) s.sens &&
    Tab.wf (fun _ => ({} : ShadSt)) s.shad && Tab.wf (fun _ => (0 : Word)) s.keep

/-- The step answers a next state: no fault and no refusal. -/
def State.safe (s : State) : Prop := ∃ t, step s = .next t

/-! ## The terms in which the effect of a command is stated -/

/-- Command `c` on `s` answers a next state, and `P` holds of it. -/
def Answers (c : Instr) (s : State) (P : State → Prop) : Prop := ∃ n, exec c s = .next n ∧ P n

/-- `s` once time has gone on to `t`; T64 never goes back. -/
def State.till (s : State) (t : Nat) : State := { s with t64 := max s.t64 (s.tick t) }

/-- Every register word but those listed is in `n` as it was in `s`. -/
def SameRegs (s n : State) (xs : List (Reg × Nat)) : Prop := ∀ r i, (r, i) ∉ xs → n.reg r i = s.reg r i

/-- Every entry of a table but those listed reads in `g` as it did in `f`. -/
def SameBut {α : Type} (f g : Nat → α) (xs : List Nat) : Prop := ∀ k, k ∉ xs → g k = f k

/-- The registers that a notification writes: the counts of lost notices, what vectors and moderation units show, and
the states of power domains that a wake changes (R284, R293, R295, R296, R309). -/
def noteReg (r : Reg) : Bool := [Reg.MBX_CNT, .HV_STAT, .HV_FERR, .INT_MOD_STAT, .PWR_DSTAT].contains r

/-- `s` with all that raising an interrupt and forming a notice or an answer can reach as it is in `n`: registers (of
which `NotedRegs` speaks), the EIC, the host face, the memories and links of the endpoints, and cores that wake. -/
def State.noted (s n : State) : State :=
  { s with
    regs := n.regs, src := n.src, modT := n.modT, core := n.core, vec := n.vec, host := n.host, guest := n.guest
    store := n.store, ue := n.ue, ce := n.ce, ep := n.ep, lnk := n.lnk, pwr := { s.pwr with pend := n.pwr.pend } }

/-- `s` with all that an error source of MON_EVT can reach as it is in `n`: what a notification reaches, the log of
FAULT notices, and the free values of a FAULT notice's data (log entry 27). -/
def State.faulted (s n : State) : State := { s.noted n with errlog := n.errlog, freeCnt := n.freeCnt }

/-- Every register word but those listed, and those that a notification writes, is in `n` as it was in `s`. -/
def NotedRegs (s n : State) (xs : List (Reg × Nat)) : Prop :=
  ∀ r i, noteReg r = false → (r, i) ∉ xs → n.reg r i = s.reg r i

/-! ## The terms in which the effect of a weaver's instruction is stated -/

/-- The value of register `r` for slot `x` of weaver `w`. -/
def State.wregOf (s : State) (w : Nat) (x : WSlot) (r : Nat) : Word := x.get (s.weavAt w).shared r

/-- Slot `sl` of weaver `w` holds `x`, the oldest record in hand, whose program goes on at a word `i` that is legal and
of operation `op`, with budget left (R167, R170, R175). -/
abbrev State.atWord (s : State) (w sl : Nat) (x : WSlot) (i : Nat) (op : WOp) : Prop :=
  s.slotOf w sl = some x ∧ x.ended = false ∧ s.oldest w sl = true ∧
    x.count < (if F.WEA_WCFG_BUDGET.of (s.weavAt w).cfg = 0 then 1024 else F.WEA_WCFG_BUDGET.of (s.weavAt w).cfg) ∧
    x.pc < 1024 ∧ i = (s.reg .WEA_PROG (1024 * w + x.pc)).toNat % 2 ^ 32 ∧ wdecode i = some op

/-- Slot `x` with its own register `r` written (R168): g1 to g7 and h0 to h3; a write of g0 does nothing, g8 to g15 are
not the slot's. -/
def WSlot.wrote (x : WSlot) (r : Nat) (v : Word) : WSlot :=
  if r = 0 then x
  else if r < 8 then { x with g := x.g.set (r - 1) v }
  else if r < 16 then x
  else { x with h := x.h.set (r - 16) v }

/-- Weaver `y` after an instruction of slot `sl`, which held `x`: register `r` takes `v`, the instruction counts, and
the program goes on at `pc`. -/
def WeavSt.ran (y : WeavSt) (sl : Nat) (x : WSlot) (r : Nat) (v : Word) (pc : Nat) : WeavSt :=
  { y with slots := y.slots.set sl (some { x.wrote r v with count := x.count + 1, pc := pc })
           shared := if 8 ≤ r && r < 16 then y.shared.set (r - 8) v else y.shared }

/-- `s` after an instruction of slot `sl` of weaver `w`, which changes that weaver alone. -/
abbrev State.ran (s : State) (w sl : Nat) (x : WSlot) (r : Nat) (v : Word) (pc : Nat) (n : State) : Prop :=
  n = { s with weav := n.weav } ∧ n.weavAt w = (s.weavAt w).ran sl x r v pc ∧ SameBut s.weavAt n.weavAt [w]

/-! ## The terms in which the effect of an OCI command is stated -/

/-- Job `j`, of opcode `op`, has been taken from slot `sl` of endpoint `ep` while firmware runs, its slot waits for the
response, and at `t` it passes every check of meaning `c` (R301, R305). -/
abbrev State.serves (s : State) (t ep sl op : Nat) (c : Cmd) (j : Job) : Prop :=
  s.pwr.fw = true ∧ s.taken ep sl op = some j ∧ j.slot = true ∧ j.gone = false ∧ bit j.flags 1 = false ∧
    firstFail ((s.till t).commonFail j (c.res (s.till t) j) ++ c.chk (s.till t) j) = none

/-- The slot of job `j` holds its response (R300, R303). -/
def State.answered (n : State) (j : Job) (status rflags : Nat) (data : List Byte) : Prop :=
  (n.slotAt (slotKey j.ep j.sl)).st = 3 ∧
    (n.slotAt (slotKey j.ep j.sl)).bytes.take (16 + (data.take 240).length) =
      le 2 status ++ le 2 j.tag ++ le 2 (data.take 240).length ++ le 2 rflags ++ le 2 j.op ++ le 6 0 ++ data.take 240

/-- `n` is `w` after job `j` has ended with a response in its slot: nothing else changes but what a notification can
reach, and the bytes of the slot beyond the response are free. -/
def State.finished (w n : State) (j : Job) (status rflags : Nat) (data : List Byte) : Prop :=
  n.answered j status rflags data ∧ SameBut w.slotAt n.slotAt [slotKey j.ep j.sl] ∧
    n = { w.noted n with slot := n.slot, jobs := w.jobs.erase j, freeCnt := w.freeCnt + 1 } ∧ NotedRegs w n []

/-- `w` with the work of job `j` begun: it holds the resources `rs` until its end, known by `obj` and `at_`. -/
def State.begun (w : State) (j : Job) (rs : List (Nat × Nat)) (obj at_ : Nat) : State :=
  { w with jobs := w.jobs.map fun x => if x = j then { j with ran := true, holds := rs, obj := obj, at_ := at_ } else x }

/-- `n` is `w` after job `j`, whose work goes on, has been answered ACCEPTED in its slot: it holds the resources `rs`,
its slot no longer waits, and nothing else changes but what a notification can reach. -/
def State.accepted (w n : State) (j : Job) (rs : List (Nat × Nat)) : Prop :=
  n.answered j 1 0 [] ∧ SameBut w.slotAt n.slotAt [slotKey j.ep j.sl] ∧
    n = { w.noted n with
      slot := n.slot, freeCnt := w.freeCnt + 1
      jobs := w.jobs.map fun x => if x = j then { j with ran := true, holds := rs, slot := false } else x } ∧
    NotedRegs w n []

/-- `n` is `s` after job `j` has been refused because sixteen commands of its endpoint go on already (R310). -/
def State.refused (s n : State) (j : Job) : Prop := s.finished n j 0x13 0 (errData noIdx noIdx)

/-- Firmware writes registers one after the other. -/
def Work.fwAll {s₀ : State} (w : Work s₀) (ws : List (Reg × Nat × Word)) : Work s₀ :=
  w.each ws fun w x => w.fw x.1 x.2.1 x.2.2

/-! ## The terms in which the effect of an access is stated -/

/-- Master `m` makes an access to address `a`, naturally aligned if it is a host function's (R326), that reaches
register `r` of index `i` (R352, R403, R411). -/
def State.gets (s : State) (m a : Nat) (wr : Bool) (r : Reg) (i : Nat) : Bool :=
  s.onBus m && (16 ≤ m || a % 8 == 0) && match s.place m a with
    | .spot x => x.cell == .reg r i && s.reach m x wr == 0
    | .bar c _ => c == .reg r i && s.domOn 85
    | _ => false

/-- The number by which the shadow of master `m` names the word at address `a` (R412). -/
def State.wordAt (s : State) (m a : Nat) : Nat := (s.place m a).key.getD 0

/-- A block of consecutive registers of the register map, repeated: copy (i, j), of `n₁` by `n₂`, begins at offset
`base + s₁ * i + s₂ * j` of register space, and its registers have the index `first + mul * i + j`. -/
structure RegBlock where
  base  : Nat
  s₁    : Nat
  n₁    : Nat
  s₂    : Nat
  n₂    : Nat
  first : Nat
  mul   : Nat
  regs  : List Reg
  deriving DecidableEq, Repr

end Sys2Proof.Machine
end

