-- ==== Sys2Proof/Certificates/Slice0/Obligations.lean ====
section
/-!
DEFINITION. The statements for the provers. Each docstring names the rules of the manual that a statement follows. Two
conventions of the model hold throughout: an operand t is T64 at the command's arrival, and time never goes back, so
`s.till t` is the state once time has gone on to it (log entry 1); a value that the manual leaves open is a free value,
and the counter of free values, which a frame leaves to the command, is the model's own (log entry 3).
-/

open Sys2Proof Sys2Proof.Machine

/-- A step takes the command at the front of the queue and executes it on the state with the queue's rest; on an empty
queue the block idles (log entries 1 and 2). The table gives no row any bits, so no word spells a command (log entry
1). -/
def Obligations.StepRunsTheFrontCommand : Prop :=
  (∀ (s : State) (c : Instr) (rest : List Instr), s.pending = c :: rest →
    step s = exec c { s with pending := rest }) ∧
  (∀ s : State, s.pending = [] → step s = .next s) ∧
  (∀ (s : State) (nbits w : Nat), decodeTableWord nbits w = none ∧ s.withFetchWord nbits w = s)

/-- What POWER reset leaves (Table PWR-8): T64 counts from 0, the engine is at the beginning of start-up, no command
waits, every table is in canonical form, and every register holds the reset value of its field map: the registers
listed hold the value beside them at every index, three hold values that go by their index, all others 0. That the
device is the DZ9512 and what PWR_DSTAT and PWR_DREQ show before start-up is the model's choice (log entry 5). -/
def Obligations.ResetState : Prop :=
  let resets : List (Reg × Nat) := [(.FRE_INCFG, 0xA0), (.FRE_STAT, 0x2800), (.CAP_LANECFG, 0x121), (.CAP_STAT, 0x1),
    (.CAL_LSTAT, 0x3E00), (.CAL_BCFG, 0x400000819), (.CAL_BSTAT, 0x1F), (.CNT_CFG, 0x30000400), (.PAIR_CFG, 0x80),
    (.AXI_CFG, 0x40000400007F7F), (.WEA_LMAP, 0x3C00000000), (.WEA_FPCFG, 0xFFF), (.WEA_WCFG, 0x3FFC000000),
    (.FLT_CFG, 0x280018), (.FLT_IO, 0xFFF00000000), (.FLT_GAIN, 0x10000), (.HE_SNAP, 0x3FF000),
    (.HE_MIN, 0x7FFFFFFFFFFFFFFF), (.HE_MAX, 0x8000000000000000), (.TIM_TCFG, 0x64010000320437),
    (.TIM_TREFP, 0xA00E4), (.TIM_OQ, 0x20000), (.TIM_OCLK, 0x40), (.QD_MARK, 0xFFF00000000), (.QD_FLAGS, 0x2),
    (.QUE_POOL, 0x10003F000000), (.QUE_CTRL, 0x1E), (.RING_CFG, 0x18), (.INT_MOD_CFG, 0x10001), (.HV_MOD, 0x1),
    (.ETH_MAC, 0x5DC000000000000), (.ETH_CFG, 0x80000000000000), (.DLP_CFG, 0x400190),
    (.ACC_WRANGE, 0xFFFFFFFF00000000), (.ACC_RD_LO, 0x70000), (.ACC_WR_LO, 0x70000), (.PWR_WAKE, 0xC),
    (.MU_MINMAX, 0xFFFFFFFF), (.MON_ECC_CFG, 0x100000006), (.MON_THERM_CFG, 0x69005F00), (.REG_ID, 0x1C19512),
    (.REG_CAPS, 0x200FF), (.PWR_DSTAT, 0xAAAAAAAAAAAAAAAA), (.PWR_DREQ, 0xAAAAAAAAAAAAAAAA)]
  State.reset.wf = true ∧ State.reset.pending = [] ∧ State.reset.t64 = 0 ∧ State.reset.eng = .starting ∧
  (∀ x ∈ resets, ∀ i : Nat, (State.reset.reg x.1 i).toNat = x.2) ∧
  (∀ i : Nat, (State.reset.reg .ACC_WCTRL i).toNat = if i % 16 = 0 then 1 else 0) ∧
  (∀ i : Nat, (State.reset.reg .LNK_GRP i).toNat = if i < 4 then 9 else 8) ∧
  (∀ i : Nat, (State.reset.reg .INT_SRC i).toNat =
    if (864 ≤ i ∧ i < 880) ∨ (912 ≤ i ∧ i < 944) ∨ (976 ≤ i ∧ i < 992) ∨ (1000 ≤ i ∧ i < 1004) then 0x1000 else 0) ∧
  (∀ r i, r ∉ resets.map (·.1) → r ∉ [Reg.ACC_WCTRL, .LNK_GRP, .INT_SRC] → State.reset.reg r i = 0)

/-- The invariant of the state's form: every register file, memory and table of units stays in its one canonical form,
so that equal contents are equal data, whatever command runs. -/
def Obligations.WellFormedStatesStay : Prop :=
  ∀ s t : State, s.wf = true → step s = .next t → t.wf = true

/-- Every command runs on every state: it answers a next state, and leaves the queue of commands as it is. -/
def Obligations.EveryCommandAnswers : Prop :=
  ∀ (c : Instr) (s : State), ∃ t : State, exec c s = .next t ∧ t.pending = s.pending

/-- R352, R353, R362: a master is granted an address by a window with EN = 1 that covers it and holds its bit in the
mask of the direction; windows combine; firmware (16 to 18) is granted all but the absent targets and the fuses'
writing, no table grants a fuse write, a locked debug port is granted nothing, and masters 94 to 127 are not
presented. -/
def Obligations.AccessTablesGrant : Prop :=
  ∀ (s : State) (m tgt a : Nat) (wr : Bool),
    let mask := fun w => if wr then (s.reg .ACC_WR_LO w).toNat + 2 ^ 64 * (s.reg .ACC_WR_HI w).toNat
      else (s.reg .ACC_RD_LO w).toNat + 2 ^ 64 * (s.reg .ACC_RD_HI w).toNat
    let window := fun (w : Nat) => s.on F.ACC_WCTRL_EN w = true ∧ s.get F.ACC_WRANGE_BASE w ≤ a ∧
      a ≤ s.get F.ACC_WRANGE_LIMIT w ∧ mask w / 2 ^ m % 2 = 1
    let presented := m < 94 ∧ tgt < 148 ∧ tgt ≠ 18 ∧ tgt ≠ 19 ∧ (m = 93 → s.jtagLocked = false)
    (s.grants m tgt a wr = true ↔
      presented ∧ (wr = true → tgt ≠ 17) ∧ ((16 ≤ m ∧ m < 19) ∨ ∃ w, 16 * tgt ≤ w ∧ w < 16 * tgt + 16 ∧ window w)) ∧
    (s.jtagLocked = true ↔ s.on F.ACC_BOOT_SECURE_EN 0 = true ∧ s.on F.ACC_BOOT_DEBUG_UNLOCKED 0 = false)

/-- The layouts of register space (R409, R410, Table REG-4; R47, R77, R105, R131, R158, R196, R225, R226, R249, R277,
R322, R349, R365, R390, R401, R415): each region's addresses lead to its access target; every register lies at its
address, at `base + s₁ * i + s₂ * j + 8 * k` for register k of a block, as index `first + mul * i + j`, where lanes,
blocks and wards are present; program words, vectors, group words, the keep and the guest core's mailbox lie at
theirs; and no address outside the regions leads anywhere. -/
def Obligations.RegisterMap : Prop :=
  -- regions: base, size, access target
  (∀ x ∈ [(0x0, 0x10000, 13), (0x20000, 0x1000, 7), (0x30000, 0x4000, 9), (0x40000, 0x2000, 12), (0x50000, 0x8000, 10),
      (0x60000, 0x8000, 11), (0x100000, 0x10000, 0), (0x110000, 0x10000, 2), (0x120000, 0x20000, 3),
      (0x140000, 0x40000, 14), (0x180000, 0x80000, 4), (0x200000, 0x100000, 1), (0x300000, 0x100000, 5),
      (0x400000, 0x400000, 6), (0x800000, 0x800000, 8)],
    ∀ (s : State) (m o : Nat), o < x.2.1 → ∃ p : Spot, s.spot m (x.1 + o) = some p ∧ p.tgt = x.2.2 ∧ p.off = o) ∧
  -- nothing outside every region
  (∀ (s : State) (m a : Nat), (0x11000 ≤ a ∧ a < 0x20000) ∨ (0x21000 ≤ a ∧ a < 0x30000) ∨ (0x34000 ≤ a ∧ a < 0x40000) ∨
      (0x42000 ≤ a ∧ a < 0x50000) ∨ (0x58000 ≤ a ∧ a < 0x60000) ∨ (0x68000 ≤ a ∧ a < 0x100000) ∨ 0x1000000 ≤ a →
    s.spot m a = none) ∧
  -- registers: base, (S1, count), (S2, count), first index, M, the block's registers
  (∀ x ∈ ([⟨0x100000, 0x40, 512, 0, 1, 0, 1, [.FRE_INCFG, .FRE_THR, .FRE_RAMP, .FRE_STAT, .FRE_EVT, .FRE_IE, .FRE_CNT]⟩,
      ⟨0x108000, 0x40, 32, 0, 1, 512, 1, [.FRE_INCFG, .FRE_THR, .FRE_RAMP, .FRE_STAT, .FRE_EVT, .FRE_IE, .FRE_CNT]⟩,
      ⟨0x200000, 0x40, 512, 0, 1, 0, 1, [.CAP_LANECFG, .CAP_PICK, .CAP_BASE, .CAP_STAT, .CAP_CNT0, .CAP_CNT1, .CAP_CNT2]⟩,
      ⟨0x208000, 0x40, 32, 0, 1, 512, 1, [.CAP_LANECFG, .CAP_PICK, .CAP_BASE, .CAP_STAT, .CAP_CNT0, .CAP_CNT1, .CAP_CNT2]⟩,
      ⟨0x210000, 0x400, 512, 8, 128, 0, 128, [.CAP_WALK]⟩,
      ⟨0x110000, 0x40, 512, 0, 1, 0, 1, [.CAL_LSTAT, .CAL_LQUAL, .CAL_LCNT, .CAL_LACT_T, .CAL_LACT_A, .CAL_LACT_M,
        .CAL_LBASE, .CAL_LEVT]⟩,
      ⟨0x118000, 0x40, 32, 0, 1, 512, 1, [.CAL_LSTAT, .CAL_LQUAL, .CAL_LCNT, .CAL_LACT_T, .CAL_LACT_A, .CAL_LACT_M,
        .CAL_LBASE, .CAL_LEVT]⟩,
      ⟨0x11A000, 0x40, 32, 0, 1, 0, 1, [.CAL_BCFG, .CAL_BSTAT, .CAL_BEVT, .CAL_BCNT]⟩,
      ⟨0x120000, 0x40, 512, 0, 1, 0, 1, [.CNT_CFG, .CNT_LEN, .CNT_COUNT, .CNT_STATCFG, .CNT_STAT, .CNT_EVT, .CNT_CNT, .CNT_IDX]⟩,
      ⟨0x130000, 0x40, 128, 0, 1, 0, 1, [.PAIR_CFG, .PAIR_WIN, .PAIR_OFS, .PAIR_STATCFG, .PAIR_STAT, .PAIR_EVT, .PAIR_CNT]⟩,
      ⟨0x132000, 0x40, 64, 0, 1, 128, 1, [.PAIR_CFG, .PAIR_WIN, .PAIR_OFS, .PAIR_STATCFG, .PAIR_STAT, .PAIR_EVT, .PAIR_CNT]⟩,
      ⟨0x180000, 0, 1, 0, 1, 0, 0, [.AXI_CFG, .AXI_OFS, .AXI_GEN, .AXI_PRESET, .AXI_CTRL, .AXI_POS, .AXI_STEPT,
        .AXI_PERIOD, .AXI_EVT, .AXI_CNT0, .AXI_CNT1, .AXI_CNT2, .AXI_CNT3, .AXI_MARKDIR0, .AXI_MARKDIR1]⟩] ++
     [⟨0x190000, 16, 4096, 0, 1, 0, 1, [.STAKE_MATCH, .STAKE_ACTION]⟩,
      ⟨0x1A0000, 16, 4096, 0, 1, 0, 1, [.STG_MATCH, .STG_ACTION]⟩,
      ⟨0x1B0000, 64, 64, 8, 8, 0, 8, [.AXI_LG]⟩, ⟨0x1B1000, 64, 64, 8, 8, 0, 8, [.STG_LG]⟩,
      ⟨0x1C0000, 8, 512, 0, 1, 0, 1, [.AXI_QHIT]⟩,
      ⟨0x300000, 0x4000, 32, 8, 16, 0, 16, [.WEA_LMAP]⟩, ⟨0x300080, 0x4000, 32, 8, 16, 0, 16, [.WEA_LDROP]⟩,
      ⟨0x300100, 0x4000, 32, 0, 1, 0, 1, [.WEA_FPCFG]⟩, ⟨0x380000, 0x4000, 8, 8, 8, 0, 8, [.WEA_PIN]⟩,
      ⟨0x380150, 0x4000, 8, 0, 1, 32, 1, [.WEA_PCFG]⟩,
      ⟨0x300108, 0x4000, 40, 0, 1, 0, 1, [.WEA_WCFG, .WEA_WENTRY, .WEA_WCTRL, .WEA_WSTAT, .WEA_WFAULT, .WEA_WFTIME,
        .WEA_WEVT, .WEA_WCNT0, .WEA_WCNT1]⟩,
      ⟨0x300180, 0x4000, 40, 8, 8, 0, 8, [.WEA_TD]⟩, ⟨0x302000, 0x4000, 40, 8, 512, 0, 512, [.WEA_LOCAL]⟩,
      ⟨0x400000, 0x200, 64, 0, 1, 0, 1, [.FLT_CFG, .FLT_SEL, .FLT_XREF, .FLT_TAU, .FLT_TOFS, .FLT_IO, .FLT_CTRL,
        .FLT_STAT, .FLT_EVT, .FLT_CNT0, .FLT_CNT1, .FLT_CNT2]⟩,
      ⟨0x400100, 0x200, 64, 0x20, 8, 0, 8, [.FLT_SCFG, .FLT_GAIN, .FLT_OFFSET]⟩,
      ⟨0x410000, 0x100, 64, 0, 1, 0, 1, [.HE_CFG]⟩, ⟨0x410008, 0x100, 64, 0, 1, 64, 1, [.FLT_SEL]⟩,
      ⟨0x410010, 0x100, 64, 0, 1, 0, 1, [.HE_KOFS, .HE_SNAP, .HE_CTRL, .HE_STAT, .HE_MIN, .HE_MAX, .HE_UNDER,
        .HE_OVER, .HE_EVT, .HE_CNT, .HE_SINCE]⟩,
      ⟨0x420000, 0x8000, 64, 8, 4096, 0, 4096, [.HE_BIN]⟩] ++
     [⟨0x20000, 0, 1, 0, 1, 0, 0, [.TIM_TCFG, .TIM_TREFP]⟩, ⟨0x20010, 8, 4, 0, 1, 0, 1, [.TIM_REF]⟩,
      ⟨0x20030, 0, 1, 0, 1, 0, 0, [.TIM_TSTAT, .TIM_THETA, .TIM_SREM, .TIM_STEP, .TIM_FOFS, .TIM_TEVT, .TIM_SYNC,
        .TIM_PRESET, .TIM_SYNCT0, .TIM_SYNCT1, .TIM_ORST, .TIM_TCNT]⟩,
      ⟨0x20100, 0, 1, 0, 1, 0, 0, [.TIM_OCTRL, .TIM_OQ, .TIM_OSTAT, .TIM_OEVT]⟩,
      ⟨0x20200, 16, 16, 0, 1, 0, 1, [.TIM_BAND0, .TIM_BAND1]⟩,
      ⟨0x20400, 16, 32, 0, 1, 0, 1, [.TIM_OCLK, .TIM_OCSTAT]⟩, ⟨0x20600, 8, 32, 0, 1, 0, 1, [.TIM_LOOP]⟩,
      ⟨0x30000, 8, 1024, 0, 1, 0, 1, [.INT_SRC]⟩,
      ⟨0x32400, 16, 128, 0, 1, 0, 1, [.INT_MOD_CFG, .INT_MOD_STAT]⟩,
      ⟨0x33000, 0x400, 4, 0, 1, 0, 1, [.CORE_VBASE, .CORE_THR, .CORE_RUN, .CORE_PRES, .CORE_EOI, .CORE_CTRL,
        .CORE_FAULTINFO, .CORE_CNT]⟩,
      ⟨0x33200, 0x400, 4, 8, 64, 0, 64, [.CORE_STK]⟩,
      ⟨0x40000, 0x40, 64, 0, 1, 0, 1, [.MU_CFG, .MU_LIM, .MU_CTRL, .MU_STAT, .MU_MINMAX, .MU_EVT]⟩,
      ⟨0x41000, 0, 1, 0, 1, 0, 0, [.MON_ECC_CFG, .MON_ECC_CNT, .MON_CE_ADDR, .MON_UE_ADDR, .MON_THERM_CFG,
        .MON_THERM_STAT, .MON_EVT]⟩,
      ⟨0x41100, 8, 40, 0, 1, 0, 1, [.MON_TEMP]⟩] ++
     [⟨0x50000, 8, 16, 0, 1, 0, 1, [.LNK_GRP]⟩, ⟨0x50080, 8, 16, 0, 1, 0, 1, [.LNK_GSTAT]⟩,
      ⟨0x50100, 8, 16, 0, 1, 0, 1, [.LNK_GEVT]⟩,
      ⟨0x51000, 0x40, 12, 0, 1, 0, 1, [.ETH_MAC, .ETH_CFG, .ETH_CNT]⟩,
      ⟨0x52000, 0x20, 192, 0, 1, 0, 1, [.ECH_DST, .ECH_IP, .ECH_CFG, .ECH_STAT]⟩,
      ⟨0x54400, 0x40, 48, 0, 1, 16, 1, [.DLP_CFG, .DLP_STAT, .DLP_CNT]⟩,
      ⟨0x56000, 0x40, 32, 0, 1, 0, 1, [.PT_STAT, .PT_ID0, .PT_ID1, .PT_TIME, .PT_CNT]⟩,
      ⟨0x60000, 0, 1, 0, 1, 0, 0, [.PWR_ENG, .PWR_RST, .PWR_BRST, .PWR_WAKE, .PWR_ALARM]⟩,
      ⟨0x60028, 8, 3, 0, 1, 0, 1, [.PWR_DSTAT]⟩, ⟨0x60040, 8, 3, 0, 1, 0, 1, [.PWR_DREQ]⟩,
      ⟨0x60058, 0, 1, 0, 1, 0, 0, [.PWR_CSTAT]⟩, ⟨0x60060, 8, 4, 0, 1, 0, 1, [.PWR_HB]⟩,
      ⟨0x60080, 0, 1, 0, 1, 0, 0, [.PWR_HBW, .PWR_REC, .PWR_LRT, .PWR_EVT]⟩,
      ⟨0x140000, 0x400, 18, 0x40, 16, 0, 16, [.ACC_WRANGE, .ACC_WCTRL, .ACC_RD_LO, .ACC_RD_HI, .ACC_WR_LO, .ACC_WR_HI]⟩,
      ⟨0x145000, 0x400, 128, 0x40, 16, 320, 16, [.ACC_WRANGE, .ACC_WCTRL, .ACC_RD_LO, .ACC_RD_HI, .ACC_WR_LO, .ACC_WR_HI]⟩,
      ⟨0x170000, 0, 1, 0, 1, 0, 0, [.ACC_VSTAT, .ACC_VCAP0, .ACC_VCAP1, .ACC_K3WIN, .ACC_BOOT]⟩,
      ⟨0x800000, 64, 65536, 0, 1, 0, 1, [.QD_CFG, .QD_RD, .QD_WR, .QD_MARK, .QD_THR, .QD_FLAGS, .QD_CNT0, .QD_CNT1]⟩,
      ⟨0xC02000, 0, 1, 0, 1, 0, 0, [.QUE_POOL, .QUE_CTRL, .QUE_STAT]⟩,
      ⟨0, 0, 1, 0, 1, 0, 0, [.REG_ID, .REG_FW, .REG_IDENT0, .REG_IDENT1, .REG_CAPS, .REG_GSTAT, .REG_T64]⟩] :
      List RegBlock),
    ∀ (s : State) (m i j k : Nat) (r : Reg), s.small = false → i < x.n₁ → j < x.n₂ → x.regs[k]? = some r →
      (s.spot m (x.base + x.s₁ * i + x.s₂ * j + 8 * k)).map (·.cell) = some (.reg r (x.first + x.mul * i + j))) ∧
  -- program words, EIC vectors, group pending words, the keep, the guest core's mailbox
  (∀ (s : State) (m w a : Nat), s.small = false → w < 40 → a < 512 →
    (s.spot m (0x301000 + 0x4000 * w + 8 * a)).map (·.cell) = some (.prog w (2 * a))) ∧
  (∀ (s : State) (m k w : Nat), k < 7 → w < 16 →
    (s.spot m (0x32000 + 0x80 * k + 8 * w)).map (·.cell) = some (.intVec k w)) ∧
  (∀ (s : State) (m g w : Nat), g < 128 → w < 8 →
    (s.spot m (0xC00000 + 64 * g + 8 * w)).map (·.cell) = some (.gpend (8 * g + w))) ∧
  (∀ (s : State) (m k : Nat), k < 2048 → (s.spot m (0x61000 + 8 * k)).map (·.cell) = some (.keep k)) ∧
  (∀ (s : State) (m x : Nat), x < 4 →
    (s.spot m (0x10400 + 8 * x)).map (·.cell) = some (.reg .MBX_STAT (64 + x)) ∧
    (s.spot m (0x10420 + 8 * x)).map (·.cell) =
      some (.reg ([Reg.MBX_DB, .MBX_CFG, .MBX_NTAIL, .MBX_CNT].getD x .MBX_DB) 16))

/-- R402 to R406, R408 with Tables REG-1 and REG-2: what lies where in a function's BAR0, with the ring descriptors
that it is shown, its register window and its store window; the I2C window's accesses go to register space; and the
map that the cores and the debug port see: register space, the vault, the fuses, the cores' memories, the boot ROM,
the guest core's store window, and the store aperture at CPAGE; every other address is unmapped. -/
def Obligations.AddressWindows : Prop :=
  -- a function's own part of BAR0
  (∀ (s : State) (f l : Nat), f < 16 → l < 128 →
    s.place f (0x38) = .bar (.reg .REG_BANK f) (2 ^ 60 + 7) ∧ s.place f 0x40 = .bar (.reg .REG_SCRATCH f) (2 ^ 60 + 8) ∧
    s.place f 0x10420 = .bar (.reg .MBX_DB f) (2 ^ 60 + 0x2084) ∧
    s.place f (0x21000 + 8 * l) = .bar (.reg .HV_MOD (128 * f + l)) (2 ^ 60 + 0x4200 + l) ∧
    s.place f (0x21400 + 8 * l) = .bar (.reg .HV_STAT (128 * f + l)) (2 ^ 60 + 0x4280 + l) ∧
    s.place f 0x21800 = .bar (.reg .HV_FERR f) (2 ^ 60 + 0x4300)) ∧
  (∀ (s : State) (f r k : Nat) (q : Reg), f < 16 → r < 1024 →
    [Reg.RING_BASE, .RING_CFG, .RING_HEAD, .RING_TAIL, .RING_WB, .RING_STAT, .RING_CNT][k]? = some q →
    s.place f (0x100000 + 64 * r + 8 * k) =
      .bar (if f = 0 ∨ s.get F.RING_CFG_FUNC r = f then .reg q r else .rsv) (2 ^ 60 + 0x20000 + 8 * r + k)) ∧
  (∀ (s : State) (f a : Nat), f < 16 →
    (a < 0x10000 → s.place f a = .bar (idCell f a) (2 ^ 60 + a / 8) ∧
      s.place f (0x10000 + a) = .bar (mbxCell f a) (2 ^ 60 + 0x2000 + a / 8)) ∧
    (a < 0x800 → s.place f (0x20000 + a) = .bar (.msix (128 * f + a / 16) (a % 16 / 8)) (2 ^ 60 + 0x4000 + a / 8)) ∧
    (a < 16 → s.place f (0x20800 + a) = .bar (.pba f (a / 8)) (2 ^ 60 + 0x4100 + a / 8)) ∧
    ((0x30000 ≤ a ∧ a < 0x100000) ∨ (0x110000 ≤ a ∧ a < 0x1000000) → s.place f a = .bar .rsv (2 ^ 60 + a / 8)) ∧
    (0x3000000 ≤ a → s.place f a = .unmapped)) ∧
  -- the windows
  (∀ (s : State) (f a : Nat), f < 16 → a < 0x1000000 →
    s.place f (0x1000000 + a) = s.space f a ∧
    s.place f (0x2000000 + a) = .store ((s.get F.REG_BANK_SWIN_BLK f * 2 ^ 21 + a / 8) % 2 ^ 30)) ∧
  (∀ (s : State) (a : Nat), s.place 92 a = s.space 92 a) ∧
  (∀ (s : State) (m a : Nat), m ∈ [16, 17, 18, 19, 93] → a < 0x1000000 → s.place m (0x10000000 + a) = s.space m a) ∧
  (∀ (s : State) (m a : Nat), m ∈ [16, 17, 18, 19, 93] →
    (a < 0x2000000 → s.place m (0x20000000 + a) = .vault a) ∧ (a < 0x1000 → s.place m (0x22000000 + a) = .fuse a) ∧
    (a < 0x40000 → s.place m (0x40000 + a) = if m = 93 then .unmapped else .core (m - 16) a)) ∧
  (∀ (s : State) (m c a : Nat), m ∈ [16, 17, 18, 93] → c < 4 →
    (a < 0x40000 → s.place m (0x100000 + 0x40000 * c + a) = .core c a) ∧
    (a < 0x40000000 → s.place m (0x80000000 + a) = .store (s.get F.REG_BANK_CPAGE m * 2 ^ 27 + a / 8)) ∧
    (a < 0x10000 → s.place m a = .rom)) ∧
  (∀ (s : State) (a : Nat), a < 0x1000000 →
    s.place 19 (0x40000000 + a) = .store (s.get F.ACC_K3WIN_K3_BLK 0 * 2 ^ 21 + a / 8)) ∧
  -- what the windows leave is unmapped
  (∀ (s : State) (m a : Nat), m ∈ [16, 17, 18, 19, 93] →
    (0x10000 ≤ a ∧ a < 0x40000) ∨ (0x80000 ≤ a ∧ a < 0x100000) ∨ (0x200000 ≤ a ∧ a < 0x10000000) ∨
      (0x11000000 ≤ a ∧ a < 0x20000000) ∨ (0x22001000 ≤ a ∧ a < 0x40000000) ∨ (0x41000000 ≤ a ∧ a < 0x80000000) ∨
      0xC0000000 ≤ a →
    s.place m a = .unmapped) ∧
  (∀ (s : State) (m a : Nat), m ∈ [16, 17, 18, 93] → 0x40000000 ≤ a → a < 0x41000000 → s.place m a = .unmapped) ∧
  (∀ (s : State) (a : Nat), a < 0x40000 ∨ (0x100000 ≤ a ∧ a < 0x200000) ∨ (0x80000000 ≤ a ∧ a < 0xC0000000) →
    s.place 19 a = .unmapped)

/-- R30, R22, R33, R34: A written threshold takes effect at its boundary, in lane `u` alone and with the DT factor
that follows; an analogue input whose legs come into overload (Table FRE-1) sets the event and counts each entry once,
and one that leaves it can enter again. Nothing else changes. A
running ramp of unit `u` that reaches RAMP_MAX is stopped and begins 2.5 ns of recovery; one that reaches ±1.2 V is
held there; and at the end of the recovery the ramp is gone and RAMP_RUN is 0. Only that unit's front end and its
event and status words change. A voltage operand counts 1/2,048 µV (log entry 6); that the recovery takes the whole of
its 2.5 ns is the model's choice (log entry 34). -/
def Obligations.ThresholdsAndRamps : Prop :=
  ((∀ (s : State) (u T : Nat), (s.freAt u).thrAt = some T →
    Answers (.thresholdApply u) s fun n =>
      n.freAt u = { s.freAt u with thr := s.reg .FRE_THR u, thrAt := none } ∧ n.t64 = (s.till T).t64 ∧
      n.get F.CAP_STAT_K_EFF u = (n.dtFactor u).1 % 2 ^ 32 ∧ n.on F.CAP_STAT_K_VALID u = (n.dtFactor u).2 ∧
      n = { s.till T with regs := n.regs, fre := n.fre } ∧ SameRegs s n [(.CAP_STAT, u)] ∧ SameBut s.freAt n.freAt [u]) ∧
  (∀ (s : State) (t u : Nat) (vp vn : Int),
    let high := vp < -2048 * 1300000 ∨ 2048 * 1700000 < vp ∨ vn < -2048 * 1300000 ∨ 2048 * 1700000 < vn ∨
      2048 * 1250000 < (vp - vn).natAbs
    (high → (s.laneOfUnit u).isSome = true → s.domOn (pdFront (blockOf u)) = true → F.FRE_INCFG_MODE.of (s.feCfg u) = 0 →
      s.looped u = false →
      Answers (.overload t u (vp, vn)) s fun n =>
        n.freAt u = { s.freAt u with ovl := true } ∧
        ((s.freAt u).ovl = false → n.on F.FRE_EVT_OVERLOAD u = true ∧
          n.get F.FRE_CNT_OVERLOAD_CNT u = min (s.get F.FRE_CNT_OVERLOAD_CNT u + 1) (2 ^ 32 - 1)) ∧
        n = { s.till t with regs := n.regs, fre := n.fre } ∧
        SameRegs s n (if (s.freAt u).ovl then [] else [(.FRE_EVT, u), (.FRE_CNT, u)]) ∧ SameBut s.freAt n.freAt [u]) ∧
    (¬high →
      Answers (.overload t u (vp, vn)) s fun n =>
        n.freAt u = { s.freAt u with ovl := false } ∧ n = { s.till t with fre := n.fre } ∧
        SameBut s.freAt n.freAt [u]))) ∧
  ((∀ (s : State) (u : Nat) (r : Ramp), (s.freAt u).ramp = some r → r.recEnd = none →
    Answers (.rampTimeout u) s fun n =>
      n.freAt u = { s.freAt u with ramp := some { r with recEnd := some (r.ts + r.max + 4096) } } ∧
      n.on F.FRE_EVT_RAMP_TIMEOUT u = true ∧ n = { s.till (r.ts + r.max) with regs := n.regs, fre := n.fre } ∧
      SameRegs s n [(.FRE_EVT, u)] ∧ SameBut s.freAt n.freAt [u]) ∧
  (∀ (s : State) (u : Nat) (r : Ramp), (s.freAt u).ramp = some r → r.recEnd = none → r.clamped = false →
    Answers (.rampClamp u) s fun n =>
      n.freAt u = { s.freAt u with ramp := some { r with clamped := true } } ∧ n.on F.FRE_EVT_RAMP_CLAMP u = true ∧
      n = { s.till (s.clampAt u r) with regs := n.regs, fre := n.fre } ∧ SameRegs s n [(.FRE_EVT, u)] ∧
      SameBut s.freAt n.freAt [u]) ∧
  (∀ (s : State) (u T : Nat) (r : Ramp), (s.freAt u).ramp = some r → r.recEnd = some T →
    Answers (.rampRecoveryEnd u) s fun n =>
      n.freAt u = { s.freAt u with ramp := none } ∧ n.on F.FRE_STAT_RAMP_RUN u = false ∧
      n = { s.till T with regs := n.regs, fre := n.fre } ∧ SameRegs s n [(.FRE_STAT, u)] ∧ SameBut s.freAt n.freAt [u]))

/-- R42, R45: a granted write of FRE_INCFG that changes a switching field starts a switching sequence: SWITCHING is 1,
EN_EFF is 0, and its t_b is the next coarse boundary; one that finds a sequence in progress joins or restarts it; at
t_b the lane is blanked, its open gate marked and a ramp that runs stopped, and a calibration cycle that holds the lane
gives up its partial results; 20 ns later the new configuration is in force; and when the blank
lifts SWITCH_DONE is set and EN_EFF shows EN of a lane whose front end has power. -/
def Obligations.SwitchingSequence : Prop :=
  (∀ (s : State) (t m n : Nat) (v : Word), n < 512 → s.domOn (pdLogic (wardOf n)) = true → s.laneAbsent n = false →
    s.grants m 0 (n * 0x40) true = true → v &&& 0xFFF ≠ s.reg .FRE_INCFG n &&& 0xFFF →
    let w := if F.FRE_INCFG_MODE.of v = 1 then F.FRE_INCFG_WAKE_EN.put (v &&& 0x3FFF) 0 else v &&& 0x3FFF
    let tb := (s.till t).coarse (s.till t).t64
    Answers (.switchingWrite t m n v) s fun x =>
      x.reg .FRE_INCFG n = w ∧ x.on F.FRE_STAT_SWITCHING n = true ∧ x.on F.FRE_STAT_EN_EFF n = false ∧
      x.freAt n = { s.freAt n with
        sw := some (match (s.freAt n).sw with
          | none => ⟨w, tb, tb, 0⟩
          | some q => if q.stage = 0 then { q with cfg := w } else ⟨w, q.tb, max q.tb tb, 1⟩) } ∧
      x = { s.till t with regs := x.regs, fre := x.fre, shad := x.shad } ∧
      SameRegs s x [(.FRE_INCFG, n), (.FRE_STAT, n), (.CAP_BASE, n), (.CAP_STAT, n)] ∧ SameBut s.freAt x.freAt [n]) ∧
  (∀ (s : State) (u : Nat) (q : SwSeq), u < 512 → (s.freAt u).sw = some q → q.stage = 0 →
    Answers (.switchBlankStart u) s fun n =>
      let b := blockOf u
      let k := s.calBlkAt b
      n.freAt u = { s.freAt u with
        sw := some { q with stage := 1 }
        ramp := (s.freAt u).ramp.map fun r => if r.recEnd = none then { r with recEnd := some (q.tb + 4096) } else r } ∧
      n.blanked u = true ∧ n.t64 = (s.till q.tb).t64 ∧
      (n.cntAt u).gate = (s.cntAt u).gate.map (fun g => { g with disc := true }) ∧ SameBut s.cntAt n.cntAt [u] ∧
      n.calBlkAt b = (if s.cycleHolds b u = true then
        { k with ov := none, bound := none, new := none, hits1 := [], runs := 0, statOk := false } else k) ∧
      SameBut s.calBlkAt n.calBlkAt [b] ∧ SameBut s.freAt n.freAt [u, 512 + b] ∧ n.store = s.store ∧ n.vault = s.vault ∧
      SameRegs s n [(.TIM_LOOP, b), (.FRE_STAT, 512 + b), (.FRE_EVT, 512 + b)]) ∧
  (∀ (s : State) (u : Nat) (q : SwSeq), (s.freAt u).sw = some q → q.stage = 1 →
    Answers (.switchCircuitsOff u) s fun n =>
      n.freAt u = { s.freAt u with cfg := q.cfg, sw := some { q with stage := 2 } } ∧
      n = { s.till (q.tr + 32768) with regs := n.regs, fre := n.fre } ∧
      SameRegs s n [(.FRE_STAT, s.carrier u), (.FRE_EVT, s.carrier u)] ∧ SameBut s.freAt n.freAt [u]) ∧
  (∀ (s : State) (u : Nat) (q : SwSeq) (va vb vc : Int), (s.freAt u).sw = some q → q.stage = 2 →
    Answers (.switchDone u va vb vc) s fun n =>
      (n.freAt u).sw = none ∧ n.blanked u = false ∧ n.on F.FRE_STAT_SWITCHING u = false ∧
      n.on F.FRE_STAT_EN_EFF u = (F.FRE_INCFG_EN.of (s.freAt u).cfg == 1 && n.domOn (pdFront (blockOf u))) ∧
      n.on F.FRE_EVT_SWITCH_DONE u = true ∧ n.reg .FRE_INCFG u = s.reg .FRE_INCFG u ∧
      ((s.epAt 16).log2n = 0 → n.store = s.store))

/-- R24, R26, R37, R40, R374, R49, R55, R57, R70: Where the input of a circuit comes to a voltage that takes its output
to another level (R24, R40): in WATCH the level is shown, and the first assertion on comparator A of an analogue lane
with WAKE_EN, whatever EN holds, is recorded and wakes the engine and does nothing else; elsewhere a live circuit's new
level is shown and it is UNRESOLVED no longer, with EDGE_A or EDGE_CMP for an assertion, whether or not capture takes
the edge, and without capture nothing but the unit's front end changes. An edge of comparator A or the IN receiver of a
lane without pick-off that EDGE_SEL selects and the prescaler passes, far enough from the last full stamp, is stamped
by the interpolator next in rotation, later than the stamp before it, and its EDGE record, with that stamp in the scale
of its reception and the lane's quality, enters the lane's output stage; the rotation goes on. -/
def Obligations.EdgesAreTakenAndRecorded : Prop :=
  ((∀ (s : State) (t u : Nat) (v : Int) (tn : Option Nat), u < 512 → s.eng = .watch → s.newLevel u t .a v = some true →
    s.domOn (pdFront (blockOf u)) = true → F.FRE_INCFG_MODE.of (s.freAt u).cfg = 0 → s.on F.FRE_INCFG_WAKE_EN u = true →
    (∀ e ∈ s.pwr.edges, e.1 ≠ u) →
    Answers (.edge t u .a v tn) s fun n =>
      n.pwr = { s.pwr with
        wake := s.pwr.wake.or (some (1, u, t))
        edges := s.pwr.edges ++ [(u, max ((t + 16383) / 16384 * 16384 - 3276800) (s.pwr.tq.getD 0))] } ∧
      (s.pwr.wake = none → n.get F.PWR_ENG_LAST_WAKE 0 = 1 ∧ n.get F.PWR_ENG_WAKE_LANE 0 = u) ∧
      n.on F.FRE_STAT_LVL_A u = true ∧ n.on F.FRE_STAT_UNRES_A u = false ∧
      n.on F.FRE_EVT_RESOLVED u = (s.on F.FRE_EVT_RESOLVED u || s.on F.FRE_STAT_UNRES_A u) ∧
      n = { s.till t with regs := n.regs, pwr := n.pwr } ∧ SameRegs s n [(.PWR_ENG, 0), (.FRE_STAT, u), (.FRE_EVT, u)]) ∧
  (∀ (s : State) (t u l : Nat) (c : Circuit) (v : Int) (lv : Bool) (tn : Option Nat), s.laneOfUnit u = some l →
    s.eng ≠ .watch → (s.till t).circuitLive u c = true → s.unsettled l u = false → s.newLevel u t c v = some lv →
    (u < 512 ∨ s.overlapOf l = none) →
    Answers (.edge t u c v tn) s fun n =>
      n.on (lvlFld c) u = lv ∧ n.on (unresFld c) u = false ∧
      (c = .cmp → lv = true → n.on F.FRE_EVT_EDGE_CMP u = true) ∧
      (c = .a → lv = true → s.looped u = false → n.on F.FRE_EVT_EDGE_A u = true) ∧
      (s.domOn (pdCapture (blockOf l)) = false → n = { s.till t with regs := n.regs, fre := n.fre } ∧
        SameRegs s n [(.FRE_STAT, u), (.FRE_EVT, u), (.FRE_CNT, u)] ∧ SameBut s.freAt n.freAt [u]))) ∧
  (∀ (s : State) (t l : Nat) (v : Int) (lv : Bool) (tn : Option Nat), l < 512 → s.eng = .active →
    (s.till t).circuitLive l .a = true → s.unsettled l l = false → s.overlapOf l = none →
    s.newLevel l t .a v = some lv → s.domOn (pdCapture (blockOf l)) = true → s.watchSpeed l .a = false →
    F.CAP_LANECFG_PICK.of (s.capAt l).cfg = 0 → F.CAP_LANECFG_EDGE_SEL.of (s.capAt l).cfg ≠ 0 →
    (lv = true → F.CAP_LANECFG_EDGE_SEL.of (s.capAt l).cfg ≠ 2) →
    (lv = false → 2 ≤ F.CAP_LANECFG_EDGE_SEL.of (s.capAt l).cfg) → (s.capAt l).pres = 0 →
    (s.capHwAt l).fullA.all (· + 1024 ≤ t) = true →
    Answers (.edge t l .a v tn) s fun n =>
      let st := max (roundStamp (s.rawStamp l .a (some (s.capHwAt l).rot) t)) (((s.capHwAt l).lastA.map (· + 1)).getD 0)
      let h : Held := ⟨1, st, edgeRec l lv 0 (s.quality l l true) st (s.stampAt t st)⟩
      h ∈ (n.capAt l).held ∧
      ((s.capAt l).searches = [] → (s.cntAt l).on = false → s.pair = [] →
        (n.capAt l).held = heldInsert h (s.capAt l).held) ∧
      (n.capHwAt l).rot = ((s.capHwAt l).rot + 1) % 4 ∧ (n.capHwAt l).fullA = some t ∧ (n.capHwAt l).lastA = some st ∧
      n.on F.FRE_STAT_LVL_A l = lv ∧ SameBut s.capHwAt n.capHwAt [l] ∧ SameBut s.capAt n.capAt [l])

/-- R61, R67, R69, R70, R159, R160, R72, R130: Where partner windows are open, the one that passes first without a
partner makes its assertion an EDGE_X record at its own time with NOPART, counted, and waits no longer. The first
record of a lane's output stage leaves it when T64 passes its time plus H, once no gate action or counted edge up to its
time is still to come, and a record timed at a boundary no sooner
than every edge stamped before it has come; it enters the lane's buffer where it fits there, else it is dropped and
counted; an EVENT is never dropped. Written CAP_LANECFG, CAP_PICK and CAP_BASE take effect together at their coarse
boundary, and PEND clears. -/
def Obligations.RecordsLeaveTheLane : Prop :=
  (∀ (s : State) (l : Nat), (s.capAt l).searches ≠ [] → (∀ x ∈ (s.capAt l).searches, x.pick < 4) →
    ∃ a ∈ (s.capAt l).searches, (∀ x ∈ (s.capAt l).searches, a.tA + a.win ≤ x.tA + x.win) ∧
      Answers (.partnerWindowExpiry l) s fun n =>
        (n.capAt l).searches = (s.capAt l).searches.erase a ∧ n.t64 = (s.till (a.tA + a.win + s.lag a.unit)).t64 ∧
        n.get F.CAP_CNT1_NOPART_CNT l = min (s.get F.CAP_CNT1_NOPART_CNT l + 1) (2 ^ F.CAP_CNT1_NOPART_CNT.w - 1) ∧
        (n.capAt l).held = heldInsert ⟨1, a.tA,
          { t := a.tA, lane := some l,
            ws := [w64 (0x2 * 2 ^ 60 + l * 2 ^ 51 + 2 ^ 50 + a.q * 2 ^ 47 + t47 (s.stampAt a.rx a.tA)),
                   w64 ((a.pick + 4) * 2 ^ 56 + (2 ^ 24 - 1) * 2 ^ 32 + s.stampAt a.rx a.tA % 2 ^ 32)] }⟩ (s.capAt l).held ∧
        n = { s.till (a.tA + a.win + s.lag a.unit) with regs := n.regs, cap := n.cap } ∧
        SameRegs s n [(.CAP_CNT1, l)] ∧ SameBut s.capAt n.capAt [l]) ∧
  (∀ (s : State) (l : Nat) (h : Held) (rest : List Held), (s.capAt l).held = h :: rest →
    (∀ e ∈ (s.cntAt l).wait, h.r.t < e.at) → s.gateDue l h.r.t = false →
    let w := if h.rank = 0 ∧ s.lanePowered l = true then max (s.holdTime l) (s.lag (s.carrier l)) else s.holdTime l
    let words := recWords ((s.capAt l).buf.filter fun x => !x.ev) + h.r.ws.length
    (h.r.ev = true ∨ words ≤ 64 →
      Answers (.recordHoldRelease l) s fun n =>
        n.capAt l = { s.capAt l with held := rest, buf := (s.capAt l).buf ++ [h.r] } ∧
        n = { s.till (h.r.t + w) with cap := n.cap } ∧ SameBut s.capAt n.capAt [l]) ∧
    (h.r.ev = false → 64 < words →
      Answers (.recordHoldRelease l) s fun n =>
        (n.capAt l).held = rest ∧ (n.capAt l).buf = (s.capAt l).buf ∧
        n.get F.WEA_LDROP_DROP_CNT l = min (s.get F.WEA_LDROP_DROP_CNT l + 1) (2 ^ 32 - 1) ∧
        n = { s.till (h.r.t + w) with cap := n.cap, regs := n.regs } ∧
        SameRegs s n [(.WEA_LDROP, l), (.WEA_WEVT, l / 16)] ∧ SameBut s.capAt n.capAt [l])) ∧
  (∀ (s : State) (l T : Nat), (s.capAt l).pendAt = some T →
    Answers (.capConfigApply l) s fun n =>
      (n.capAt l).cfg = s.reg .CAP_LANECFG l ∧ (n.capAt l).pick = s.reg .CAP_PICK l ∧
      (n.capAt l).base = s.get F.CAP_BASE_BASE l ∧ (n.capAt l).pendAt = none ∧ n.on F.CAP_STAT_PEND l = false ∧
      n.get F.CAP_STAT_WALK_ACT l = F.CAP_LANECFG_WALK_BANK.of (s.reg .CAP_LANECFG l) ∧ n.t64 = (s.till T).t64 ∧
      (n.capAt l).held = (s.capAt l).held ∧ SameBut s.capAt n.capAt [l] ∧ n.store = s.store)

/-- R107, R112, R106, R109, R111, R116: An instant of a running engine's fixed or CONTINUOUS grid, and a gate that first
reaches 2^MAXLEN_EXP ticks, each put a boundary request behind those that wait, unless CFG_ERR holds or gate 0 cannot
open yet; the grid goes on by the gate length. Only the engine and
the pairing units that follow it change. A time-bounded engine's next boundary B, the first at or after one of its
requests, with no gate action or edge before it in hand, ends the open gate and takes the requests up to B, and a gate
is open after it. A TOTALIZE gate that ends there leaves its MEAS record with KIND 4,
the opening stamp and the number of counted edges in the lane's output stage, timed at B, and the next gate opens
at B with the next index. -/
def Obligations.GatesCloseAtTheirBoundaries : Prop :=
  ((∀ (s : State) (l : Nat),
    let c := s.cntAt l
    let opens := c.openAt = some c.nextFix
    c.on = true → F.CNT_CFG_CL_FIXED.of c.cfg = 1 ∨ estOf c.cfg = 5 →
    Answers (.fixedLengthRequest l) s fun n =>
      n.cntAt l = { c with
        nextFix := c.nextFix + lenOf c.len
        openAt := if opens then none else c.openAt
        reqs := if s.on F.CNT_STAT_CFG_ERR l = true ∨ (c.gate = none ∧ c.nextFix < c.opens) then c.reqs
          else c.reqs ++ [{ tb := c.nextFix, idle := if opens then some false else none }] } ∧
      n = { s.till c.nextFix with cnt := n.cnt, pair := n.pair } ∧ SameBut s.cntAt n.cntAt [l]) ∧
  (∀ (s : State) (l : Nat) (g : Gate),
    let c := s.cntAt l
    c.gate = some g → g.maxed = false →
    Answers (.maximumLengthRequest l) s fun n =>
      n.cntAt l = { c with
        gate := some { g with maxed := true }
        reqs := if c.on = false ∨ s.on F.CNT_STAT_CFG_ERR l = true then c.reqs
          else c.reqs ++ [{ tb := g.topen + 2 ^ maxExp g.cfg, max := true }] } ∧
      n = { s.till (g.topen + 2 ^ maxExp g.cfg) with cnt := n.cnt, pair := n.pair } ∧ SameBut s.cntAt n.cntAt [l])) ∧
  (∀ (s : State) (l : Nat) (r : Req), r ∈ (s.cntAt l).reqs → (∀ x ∈ (s.cntAt l).reqs, s.bound r ≤ s.bound x) →
    timeBounded (estOf (s.cntAt l).cfgOf) = true → (s.cntAt l).change = none → s.gateDue l (s.bound r) = false →
    (s.cntAt l).wait = [] →
    Answers (.timeBoundedClose l) s fun n =>
      n.t64 = (s.till (s.bound r)).t64 ∧ (n.cntAt l).gate.isSome = true ∧ n.on F.CNT_STAT_OPEN l = true ∧
      (∀ x ∈ (n.cntAt l).reqs, x ∈ (s.cntAt l).reqs ∧ s.bound r < s.bound x) ∧ SameBut s.cntAt n.cntAt [l] ∧
      n.store = s.store) ∧
  (∀ (s : State) (l : Nat) (r : Req) (g : Gate), (s.cntAt l).reqs = [r] → r.n = 1 → r.idle = none →
    (s.cntAt l).change = none → (s.cntAt l).recfg = none → (s.cntAt l).wait = [] →
    (s.cntAt l).gate = some g → estOf g.cfg = 2 → F.CNT_CFG_REC_EN.of g.cfg = 1 → g.t0 ≠ s.bound r → g.idle = false →
    g.uncal = false → g.disc = false → g.limit = false → g.rel = false → s.laneBad l = false →
    (s.cntAt l).stat.on = false → s.gateDue l (s.bound r) = false →
    Answers (.timeBoundedClose l) s fun n =>
      (n.capAt l).held = heldInsert ⟨0, 0,
        { t := s.bound r, lane := some l,
          ws := [w64 (0x3 * 2 ^ 60 + l * 2 ^ 51 + 4 * 2 ^ 48 + 0 * 2 ^ 46 + g.idx % 2 ^ 46), w64 (s.stampAt g.rx0 g.t0), w64 g.n,
                 w64 (min g.n (2 ^ 48 - 1) * 65536 + 0)] }⟩ (s.capAt l).held ∧
      (n.cntAt l).gate.map (fun x => (x.idx, x.t0, x.n, x.idle)) = some (g.idx + 1, s.bound r, 0, false) ∧
      (n.cntAt l).reqs = [] ∧ n.get F.CNT_STAT_GATE_IDX l = (g.idx + 1) % 2 ^ F.CNT_STAT_GATE_IDX.w ∧
      n.on F.CNT_EVT_GATE_DONE l = true ∧ n.t64 = (s.till (s.bound r)).t64 ∧ n.store = s.store)

/-- R109, R113, R115, R122, R439: At the boundary of a written configuration, once every gate action before it has come,
an engine whose domain is ON runs with EN =
1, under the words written, and with CFG_ERR where it lacks the stamps its estimator needs, else from that boundary;
with EN = 0 it stops and discards its open gate. An armed INTERVAL start is
discarded and counted when no B event within IWIN of it waits or can still come. A pairing unit's written configuration
takes effect at its boundary, once the edges stamped before it have come, with SEQ 0 and nothing armed where
the unit is newly enabled and no event waits. How long an edge can lag behind its stamp is the model's reading of the
delays (log entry 9). -/
def Obligations.CountingConfigTakesEffect : Prop :=
  ((∀ (s : State) (l T : Nat), (s.cntAt l).pendAt = some T → s.gateDue l T = false →
    F.CNT_CFG_EN.of (s.reg .CNT_CFG l) = 1 → s.domOn (pdEngines (wardOf l)) = true →
    Answers (.cntConfigApply l) s fun n =>
      (n.cntAt l).on = true ∧ (n.cntAt l).cfg = s.reg .CNT_CFG l ∧ (n.cntAt l).len = s.reg .CNT_LEN l ∧
      (n.cntAt l).count = s.reg .CNT_COUNT l ∧ (n.cntAt l).pendAt = none ∧
      n.on F.CNT_STAT_CFG_ERR l = s.cntCfgBad l (s.reg .CNT_CFG l) ∧
      (s.cntCfgBad l (s.reg .CNT_CFG l) = false → (n.cntAt l).tc = T) ∧
      n.t64 = (s.till T).t64 ∧ SameBut s.cntAt n.cntAt [l]) ∧
  (∀ (s : State) (l T : Nat), (s.cntAt l).pendAt = some T → s.gateDue l T = false →
    F.CNT_CFG_EN.of (s.reg .CNT_CFG l) = 0 →
    Answers (.cntConfigApply l) s fun n =>
      (n.cntAt l).on = false ∧ (n.cntAt l).gate = none ∧ (n.cntAt l).reqs = [] ∧ (n.cntAt l).pendAt = none ∧
      n.on F.CNT_STAT_OPEN l = false ∧ SameBut s.cntAt n.cntAt [l] ∧
      ((s.cntAt l).wait = [] → (s.cntAt l).stat.on = false → SameBut s.capAt n.capAt []))) ∧
  ((∀ (s : State) (p : Nat) (a : PEvt), (s.pairAt p).armed = some a → F.PAIR_CFG_KIND.of (s.pairAt p).cfg % 3 = 0 →
    (s.pairAt p).q = [] →
    Answers (.iwinExpiry p) s fun n =>
      (n.pairAt p).armed = none ∧ n.on F.PAIR_STAT_ARMED p = false ∧
      n.get F.PAIR_CNT_NOSTOP_CNT p = min (s.get F.PAIR_CNT_NOSTOP_CNT p + 1) (2 ^ 32 - 1) ∧
      n.on F.PAIR_EVT_NOSTOP p = true ∧ n.t64 = (s.till (a.t + iwinOf (s.pairAt p).win + s.pairLag p + 1)).t64 ∧
      ((s.pairAt p).stat.due = [] →
        n.pairAt p = { s.pairAt p with armed := none, firstB := none, disc := false } ∧
        n = { s.till (a.t + iwinOf (s.pairAt p).win + s.pairLag p + 1) with regs := n.regs, pair := n.pair } ∧
        SameRegs s n [(.PAIR_CNT, p), (.PAIR_EVT, p), (.PAIR_STAT, p)]) ∧ SameBut s.pairAt n.pairAt [p]) ∧
  (∀ (s : State) (p : Nat) (e : PairCfg) (rest : List PairCfg), (s.pairAt p).pend = e :: rest →
    Answers (.pairConfigApply p) s fun n =>
      (n.pairAt p).cfg = e.cfg ∧ (n.pairAt p).win = e.win ∧ (n.pairAt p).ofs = e.ofs ∧ (n.pairAt p).pend = rest ∧
      n.t64 = (s.till (if F.PAIR_CFG_EN.of (s.pairAt p).cfg = 1 then e.at_ + s.pairLag p else e.at_)).t64 ∧
      (F.PAIR_CFG_EN.of e.cfg = 1 → F.PAIR_CFG_EN.of (s.pairAt p).cfg = 0 → (s.pairAt p).q = [] →
        (n.pairAt p).armed = none ∧ n.get F.PAIR_STAT_SEQ p = 0 ∧
        ((s.pairAt p).stat.due = [] → n.store = s.store)) ∧
      SameBut s.pairAt n.pairAt [p]))

/-- R159, R160, R161, R164, R166, R162, R163, R257, R440, R259: With no AXIS record and none of its own before them, the
block merge takes the record or DROP EVENT of a lane of its block that stands first in the round robin, EVENTs before
all others; where
the block's weaver weaves the lane it joins the weaver's intake with the merge horizon and the next sequence number,
and it leaves the lane. An AXIS record that may enter is taken first, and a record that the fast path still had to
write before all. Where no weaver weaves the lane, the fast path appends the record it has taken to the
block's open bundle in the queue that the lane map gives, as long as the bundle holds no more than FP_BMAX words with
it. Once a producer's progress has passed a bundle's opening by more than the flush limit, the bundle closes with that
progress as its horizon, but not below the horizon of the producer's bundle before it, and waits to be placed: so for
a cross-ward pairing unit and for a block's fast path. No record, register or store word changes beside. No pairing
unit of the ward holds events, and no bundle awaits the point at which a timebase step cuts it. -/
def Obligations.RecordsReachTheirBundles : Prop :=
  let still := fun (s : State) (b : Nat) => (∀ x ∈ s.open_, x.cut = none) ∧ (s.mergeAt b).shut = none ∧
    ∀ p ∈ (List.range 16).map (16 * (b / 4) + ·), (s.pairAt p).q = [] ∧ (s.pairAt p).stat.due = []
  ((∀ (s : State) (t b l : Nat) (r : Rec) (drop : Bool), b < 32 → l / 16 = b → still s b → (s.mergeAt b).fb = [] →
    (s.mergeAt b).evs = [] → (s.weavAt b).intake.length < 64 → (s.till t).laneOffer b l = some (r, drop) →
    (∀ k ∈ lanesOf b, ∀ o ∈ (s.till t).laneOffer b k,
      (o.1.ev = true → r.ev = true) ∧
      (o.1.ev = r.ev → (l + 15 * ((s.mergeAt b).rr + 1)) % 16 ≤ (k + 15 * ((s.mergeAt b).rr + 1)) % 16)) →
    Answers (.blockMergeTake t b) s fun n =>
      (n.mergeAt b).rr = l % 16 ∧ n.progAt b = (s.till t).mergeHor b ∧
      (if drop then (n.capAt l).drop = none else (n.capAt l).buf = (s.capAt l).buf.drop 1) ∧
      (s.weaved l = true →
        (n.weavAt b).intake = (s.weavAt b).intake ++ [weavRec r ((s.till t).mergeHor b) (s.weavAt b).seq] ∧
        (n.weavAt b).seq = (s.weavAt b).seq + 1 ∧
        n = { s.till t with regs := n.regs, cap := n.cap, merge := n.merge, prog := n.prog, weav := n.weav } ∧
        SameRegs s n [(.WEA_WSTAT, b)] ∧ SameBut s.weavAt n.weavAt [b]) ∧
      SameBut s.capAt n.capAt [l]) ∧
  (∀ (s : State) (t b : Nat) (r : Rec), b < 32 → still s b → (s.mergeAt b).fb = [] → (s.weavAt b).intake.length < 64 →
    (s.mergeAt b).evs.find? ((s.till t).axisReady b) = some r →
    Answers (.blockMergeTake t b) s fun n =>
      (n.mergeAt b).evs = (s.mergeAt b).evs.erase r ∧ (n.mergeAt b).rr = (s.mergeAt b).rr ∧
      ((maskLanes b r.mask).any s.weaved = true → (n.weavAt b).intake.length = (s.weavAt b).intake.length + 1) ∧
      SameBut s.capAt n.capAt []) ∧
  (∀ (s : State) (t b : Nat) (r : Rec) (rest : List Rec), b < 32 → still s b → (s.mergeAt b).fb = r :: rest →
    s.waiters = [] → s.poolUsed + s.granted.length + (s.recQueues b r).length ≤ s.poolBufs →
    Answers (.blockMergeTake t b) s fun n =>
      (n.mergeAt b).fb = rest ∧ n.progAt b = (s.till t).mergeHor b ∧ SameBut s.capAt n.capAt []) ∧
  (∀ (s : State) (t b l q : Nat) (r : Rec) (x : Bundle), b < 32 → l / 16 = b → still s b → (s.mergeAt b).fb = [] →
    (s.mergeAt b).evs = [] → (s.weavAt b).stop = false → (s.capAt l).buf = [r] → (s.capAt l).drop = none →
    (∀ k ∈ lanesOf b, k ≠ l → (s.capAt k).buf = [] ∧ (s.capAt k).drop = none) → s.weaved l = false → r.dest = none →
    (∀ x ∈ (s.till t).axisActs l, r.t < x) →
    r.lane = some l → (s.weavAt b).intake.length < 80 →
    s.mapped l (recClass (r.ws.headD 0)) = [q] → r.close = false → s.openOf b q = some x → x.dead = false →
    x.len + r.ws.length ≤ s.fpMax b → 3 + r.ws.length ≤ s.fpMax b →
    Answers (.blockMergeTake t b) s fun n =>
      n.openOf b q = some { x with recs := x.recs ++ [r] } ∧ (n.capAt l).buf = [] ∧
      n.progAt b = (s.till t).mergeHor b ∧
      n = { s.till t with cap := n.cap, merge := n.merge, prog := n.prog, open_ := n.open_ } ∧
      SameBut s.capAt n.capAt [l] ∧ SameBut s.mergeAt n.mergeAt [b])) ∧
  ((∀ (s : State) (t x q : Nat) (b : Bundle), (∀ y ∈ s.open_, y.cut = none) → (s.pairAt (128 + x)).q = [] →
    (s.pairAt (128 + x)).stat.due = [] → s.openOf (xpProducer (128 + x)) q = some b → b.dead = false →
    let e := s.get F.WEA_FPCFG_FP_FLUSH_EXP (F.PAIR_CFG_LANE_A.of (s.pairAt (128 + x)).cfg / 16)
    b.openH + (if e = 0 then 2 ^ 30 else min (2 ^ 30) (2 ^ max 13 (min 47 e))) < (s.till t).pairProgress (128 + x) →
    Answers (.xpBundleClose t x q) s fun n =>
      n.wait = s.wait ++ [{ b with
        closedT := (s.till t).t64,
          horizon := max ((s.till t).pairProgress (128 + x)) ((s.prevHor (xpProducer (128 + x)) q).getD 0) }] ∧
      n.openOf (xpProducer (128 + x)) q = none ∧ n = { s.till t with open_ := n.open_, wait := n.wait, que := n.que }) ∧
  (∀ (s : State) (t b q e : Nat) (x : Bundle), (∀ y ∈ s.open_, y.cut = none) → b < 32 → s.openOf b q = some x →
    x.dead = false → flushExp (s.get F.WEA_FPCFG_FP_FLUSH_EXP b) = some e →
    x.openH + 2 ^ e < (s.till t).mergeHor b →
    Answers (.fastPathFlush t b q) s fun n =>
      n.wait = s.wait ++ [{ x with
        closedT := (s.till t).t64, horizon := max ((s.till t).mergeHor b) ((s.prevHor b q).getD 0) }] ∧
      n.openOf b q = none ∧ n.progAt b = (s.till t).mergeHor b ∧
      n = { s.till t with open_ := n.open_, wait := n.wait, que := n.que, prog := n.prog }))

/-- R251, R270, R271: A granted write of QD_CFG that takes EN from 0 to 1 with an allowed geometry makes the queue
active and empty, with its indices, events and sequence number at 0; with any other geometry CFG_ERR is set and the
queue stays inactive. A write that takes EN to 0 rewinds every bundle open in the queue or waiting to be placed there.
The store is untouched. A pop of a queue bound to software, or to the guest core and by it where a header stands at RD,
releases the words up to the written RD where the queue held them at the start of the cycle and no earlier pop of the
cycle has taken them, with POP_RESP 0; it writes nothing to the store. From an empty queue it answers 1, and of more
words than are committed 2, and RD stays. A pop of any other queue sets CFG_ERR and does nothing else. -/
def Obligations.QueuesOpenAndPop : Prop :=
  let soft := fun (s : State) (m q : Nat) => s.get F.QD_MARK_CONS_KIND q = 0 ∨ (s.get F.QD_MARK_CONS_KIND q = 6 ∧ m = 19)
  ((∀ (s : State) (t m q : Nat) (v : Word), s.domOn 85 = true → s.grants m 8 (64 * q) true = true →
    s.on F.QD_CFG_EN q = false → F.QD_CFG_EN.of v = 1 → geometryOk v = true →
    Answers (.queueEnSet t m q v) s fun n =>
      n.active q = true ∧ n.get F.QD_CFG_BASE q = F.QD_CFG_BASE.of v ∧
      n.get F.QD_CFG_SIZE_LOG2 q = F.QD_CFG_SIZE_LOG2.of v ∧ n.on F.QD_CFG_CFG_ERR q = false ∧
      n.get F.QD_RD_RD q = 0 ∧ n.get F.QD_WR_CWR q = 0 ∧ n.get F.QD_WR_IWR q = 0 ∧ n.get F.QD_THR_NEXT_SEQ q = 0 ∧
      n.depth q = 0 ∧ n.on F.QD_FLAGS_EMPTY q = true ∧ n.on F.QD_FLAGS_FULL q = false ∧ n.queAt q = {} ∧
      n = { s.till t with regs := n.regs, que := n.que, shad := n.shad } ∧
      SameRegs s n [(.QD_CFG, q), (.QD_RD, q), (.QD_WR, q), (.QD_MARK, q), (.QD_FLAGS, q), (.QD_THR, q)] ∧
      SameBut s.queAt n.queAt [q]) ∧
  (∀ (s : State) (t m q : Nat) (v : Word), s.domOn 85 = true → s.grants m 8 (64 * q) true = true →
    s.on F.QD_CFG_EN q = false → F.QD_CFG_EN.of v = 1 → geometryOk v = false →
    Answers (.queueEnSet t m q v) s fun n =>
      n.active q = false ∧ n.on F.QD_CFG_CFG_ERR q = true ∧ n.queAt q = { s.queAt q with start := none } ∧
      n = { s.till t with regs := n.regs, que := n.que, shad := n.shad } ∧ SameBut s.queAt n.queAt [q] ∧
      SameRegs s n [(.QD_CFG, q), (.QD_FLAGS, q)]) ∧
  (∀ (s : State) (t m q : Nat) (v : Word), s.domOn 85 = true → s.grants m 8 (64 * q) true = true →
    s.on F.QD_CFG_EN q = true → F.QD_CFG_EN.of v = 0 →
    Answers (.queueEnClear t m q v) s fun n =>
      n.active q = false ∧ (∀ b ∈ n.wait, b.q ≠ q) ∧ (∀ b ∈ n.open_, b.q = q → b.dead = true) ∧
      (∀ b, b.q ≠ q → (b ∈ n.wait ↔ b ∈ s.wait) ∧ (b ∈ n.open_ ↔ b ∈ s.open_)) ∧
      n.store = s.store ∧ n.t64 = (s.till t).t64)) ∧
  ((∀ (s : State) (t m q rd : Nat), s.domOn 85 = true → s.grants m 8 (64 * q + 8) true = true → soft s m q →
    (s.get F.QD_MARK_CONS_KIND q = 6 → s.headerAt q = true) → s.qk q ≤ 26 →
    let d := ((s.till t).cycleStart q).1
    let p := ((s.till t).cycleStart q).2
    let k := s.qdiff q rd (s.get F.QD_RD_RD q)
    p < d → k ≤ d - p →
    Answers (.pop t m q rd) s fun n =>
      n.get F.QD_FLAGS_POP_RESP q = 0 ∧
      n.get F.QD_RD_RD q = (s.get F.QD_RD_RD q + k) % 2 ^ (s.qk q + 1) ∧
      n.get F.QD_WR_CWR q = s.get F.QD_WR_CWR q ∧ n.store = s.store ∧ n.open_ = s.open_ ∧ n.wait = s.wait ∧
      n.queAt q = { s.queAt q with start := some ((s.till t).cycle, d, p + k, (s.till t).threshNow q) } ∧
        SameBut s.queAt n.queAt [q]) ∧
  (∀ (s : State) (t m q rd : Nat), s.domOn 85 = true → s.grants m 8 (64 * q + 8) true = true → soft s m q →
    let d := ((s.till t).cycleStart q).1
    let p := ((s.till t).cycleStart q).2
    d ≤ p ∨ d - p < s.qdiff q rd (s.get F.QD_RD_RD q) →
    Answers (.pop t m q rd) s fun n =>
      n.get F.QD_FLAGS_POP_RESP q = (if d ≤ p then 1 else 2) ∧ n.get F.QD_RD_RD q = s.get F.QD_RD_RD q ∧
      n = { s.till t with regs := n.regs, shad := n.shad } ∧ SameRegs s n [(.QD_FLAGS, q)]) ∧
  (∀ (s : State) (t m q rd : Nat), s.domOn 85 = true → s.grants m 8 (64 * q + 8) true = true → ¬soft s m q →
    Answers (.pop t m q rd) s fun n =>
      n.on F.QD_CFG_CFG_ERR q = true ∧ n.get F.QD_RD_RD q = s.get F.QD_RD_RD q ∧
      n = { s.till t with regs := n.regs, shad := n.shad } ∧ SameRegs s n [(.QD_CFG, q)]))

/-- R252, R253, R261, R263, R262: Where no system EVENT is about to split them, the first of a queue's placeable
bundles in the order of R261 is placed and waits no longer; and once a bundle has awaited placement for 2^HOLD_EXP
ticks one of the queue's is placed whatever blocks it. The one bundle that waits for a queue, once nothing blocks it,
is written from the rewind mark on, word by word as R252 lays it out with the next sequence number, and committed: the
write index moves past it, the sequence number goes on, and the bundle waits no longer. Store words outside its place
keep theirs. The bundle that has awaited placement for 2^HOLD_EXP ticks is placed whatever blocks it, and HOLD is set
and counted; in WATCH, where T64 goes on by 16,384 ticks at once, the two clauses of HOLD_EXP say nothing. -/
def Obligations.BundlesArePlaced : Prop :=
  (∀ (s : State) (t q : Nat), (s.queAt q).evts = [] → (∀ b ∈ s.wait, b.q = q → b.splitter = none) →
    s.wait.zipIdx.any (fun x => x.1.q == q && (s.till t).placeable q x.2 x.1) = true →
    ∃ i b, s.wait[i]? = some b ∧ b.q = q ∧ (s.till t).placeable q i b = true ∧
      (∀ j x, s.wait[j]? = some x → x.q = q → (s.till t).placeable q j x = true → x.before b = false) ∧
      Answers (.bundlePlace t q) s fun n =>
        n.wait = s.wait.eraseIdx i ∧ n.open_ = s.open_ ∧ n.t64 = (s.till t).t64 ∧ SameBut s.queAt n.queAt [q]) ∧
  (∀ (s : State) (q : Nat), (s.queAt q).evts = [] → (∀ b ∈ s.wait, b.q = q → b.splitter = none) →
    s.wait.any (·.q == q) = true → s.eng ≠ .watch →
    ∃ i b, s.wait[i]? = some b ∧ b.q = q ∧
      Answers (.holdExpiry q) s fun n =>
        n.wait = s.wait.eraseIdx i ∧ b.closedT + 2 ^ s.holdExp ≤ n.t64 ∧ n.open_ = s.open_ ∧ SameBut s.queAt n.queAt [q]) ∧
  (∀ (s : State) (t q : Nat) (b : Bundle), s.wait = [b] → b.q = q → b.producer < 0x100 → b.splitter = none →
    (s.queAt q).evts = [] → s.qk q ≤ 26 → s.get F.QD_CFG_BASE q + 2 ^ s.qk q ≤ 2 ^ 30 →
    (s.till t).placeable q 0 b = true → (s.till t).epochFor q b = none → s.ue = [] →
    s.depth q + b.len ≤ 2 ^ s.qk q → b.len < 2 ^ s.qk q →
    Answers (.bundlePlace t q) s fun n =>
      let i := s.get F.QD_WR_CWR q
      let late := match (s.queAt q).hor with | some h => decide (b.floor < h) | none => false
      let ws := b.words (s.stampHor b.floor b.horizon) (s.get F.QD_THR_NEXT_SEQ q)
        (trailerFlags (s.queAt q).lost late false b.forced b.straddle)
      n.get F.QD_WR_CWR q = (i + b.len) % 2 ^ (s.qk q + 1) ∧ n.wait = [] ∧ n.open_ = s.open_ ∧
      n.get F.QD_THR_NEXT_SEQ q = (s.get F.QD_THR_NEXT_SEQ q + 1) % 2 ^ 32 ∧
      n.get F.QD_RD_RD q = s.get F.QD_RD_RD q ∧
      (∀ j (h : j < ws.length), n.storeAt (s.qAddr q (i + j)) = ws[j]) ∧
      (∀ a, (∀ j, j < ws.length → a ≠ s.qAddr q (i + j)) → n.storeAt a = s.storeAt a) ∧
      (n.queAt q).hor = some (max b.horizon ((s.queAt q).hor.getD 0)) ∧ (n.queAt q).lost = false) ∧
  (∀ (s : State) (q : Nat) (b : Bundle), s.wait = [b] → b.q = q → b.producer < 0x100 → b.splitter = none →
    (s.queAt q).evts = [] → s.qk q ≤ 26 → (s.till (b.closedT + 2 ^ s.holdExp)).epochFor q b = none →
    s.depth q + b.len ≤ 2 ^ s.qk q → b.len < 2 ^ s.qk q → s.eng ≠ .watch →
    Answers (.holdExpiry q) s fun n =>
      n.wait = [] ∧ n.open_ = s.open_ ∧ n.t64 = (s.till (b.closedT + 2 ^ s.holdExp)).t64 ∧
      n.on F.QD_FLAGS_HOLD q = true ∧
      n.get F.QD_CNT1_HOLD_CNT q = min (s.get F.QD_CNT1_HOLD_CNT q + 1) (2 ^ F.QD_CNT1_HOLD_CNT.w - 1) ∧
      n.get F.QD_WR_CWR q = (s.get F.QD_WR_CWR q + b.len) % 2 ^ (s.qk q + 1))

/-- R257: of the bundles that hold a buffer the one open longest, once it has been open for 2^44 ticks, is closed by the
queue manager with FORCED and its producer's
progress as horizon; and a buffer that is free goes to the producer that has waited longest, whose record waits no
longer. Neither writes the store, unless the force raises POOL_FORCE with its interrupt enabled and firmware's FAULT
notice goes to the guest. -/
def Obligations.PoolForcesAndGrants : Prop :=
  (∀ (s : State) (b : Bundle), b ∈ s.open_ → b.buf = true → b.dead = false →
    (∀ x ∈ s.open_, x.buf = true → x = b ∨ b.openT < x.openT) →
    Answers .bundleAgeForce s fun n =>
      let t := b.openT + 2 ^ 44
      n.open_ = (s.open_.filter fun x => !(x.producer == b.producer && x.q == b.q)) ∧
      n.on F.MON_EVT_POOL_FORCE 0 = true ∧ n.t64 = (s.till t).t64 ∧
      n.wait = s.wait ++ [{ b with
        closedT := (s.till t).t64, forced := true
        horizon := max ((s.till t).progress b.producer) ((s.prevHor b.producer b.q).getD 0) }] ∧
      n.get F.QUE_STAT_FORCE_CNT 0 = min (s.get F.QUE_STAT_FORCE_CNT 0 + 1) (2 ^ F.QUE_STAT_FORCE_CNT.w - 1) ∧
      n = { (s.till t).faulted n with open_ := n.open_, wait := n.wait, que := n.que, weav := n.weav } ∧
      NotedRegs s n [(.MON_EVT, 0), (.QUE_STAT, 0)] ∧
      (s.on F.MON_EVT_POOL_FORCE 0 = true ∨ bit (s.get F.MON_EVT_IE 0) F.MON_EVT_POOL_FORCE.lo = false →
        n.store = s.store)) ∧
  (∀ (s : State) (t p : Nat) (rest : List Nat), s.waiters = p :: rest → s.poolUsed + s.granted.length < s.poolBufs →
    ((∀ x ∈ s.back, x.1 ≠ p) →
      Answers (.bufferGrant t) s fun n =>
        n.waiters = rest ∧ n.granted = s.granted ++ [p] ∧
        n = { s.till t with waiters := n.waiters, granted := n.granted }) ∧
    (∀ x, s.back.filter (·.1 == p) = [x] →
      Answers (.bufferGrant t) s fun n =>
        n.waiters = rest ∧ n.back = s.back.filter (·.1 != p) ∧ n.store = s.store ∧ n.t64 = (s.till t).t64))

/-- R78, R79, R80, R81, R82, R89, R91, R92: With the engine ready and the sequencer of a block idle, outside a pause
and not frozen, the unit under reinstatement or else the next unit is taken: a powered lane with a relief lane that is
OK begins its overlap, one that is not powered and the relief lane on its own are offline at once, and with the relief
lane unfit the cycle begins with a gap. Where the next unit is a powered lane, its overlap begins at once; when the
side of an overlap that was connected has settled, matching begins there, in the phase of the lane's prescaler. After
200 µs and 256 matched edges, none of which waits for its copy, skews of the two halves that agree to 0.32 tick give
the skew and set t_h to the next coarse boundary; skews that do not, the first and second time, begin the overlap again
and are counted, and the third time the lane is skipped. After 2 ms with fewer edges the retained skew serves, or with
none to retain, or too far from its temperature, the lane is skipped. -/
def Obligations.OverlapsAgreeOnSkew : Prop :=
  ((∀ (s : State) (t b p : Nat), s.pwr.fw = true → s.on F.PWR_ENG_READY 0 = true → s.on F.TIM_LOOP_ACTIVE b = false →
    s.on F.CAL_BCFG_RUN b = true → s.domOn (pdCapture b) = true → s.domOn (pdFront b) = true →
    s.blockAbsent b = false → s.get F.CAL_BSTAT_POS b = 31 → b < 32 → p < 17 →
    let u := unitAt b p
    let rel := s.calState (512 + b)
    let cfg := (s.freAt u).cfg
    let powered := F.FRE_INCFG_EN.of cfg = 1 ∨ F.FRE_INCFG_CMP_EN.of cfg = 1
    let named := (s.calBlkAt b).reinst.isSome = true
    (s.calBlkAt b).reinst.map (·.1) = some u ∨
      ((s.calBlkAt b).reinst = none ∧ s.nextUnit b = some p ∧ (∀ x ∈ (s.calBlkAt b).pauseT, x ≤ t) ∧
        (rel = 3 ∨ rel = 4 → s.get F.CAL_BCFG_POLICY b ≠ 0)) →
    Answers (.calTakeUnit t b) s fun n =>
      n.get F.CAL_BSTAT_POS b = p ∧
      n.get F.CAL_BSTAT_STEP b =
        (if p < 16 ∧ (s.carried b = some u ∨ ¬powered) then 2 else if p < 16 ∧ (rel = 1 ∨ named) then 1
         else if p = 16 ∧ (rel ≤ 1 ∨ named) then 2 else 4) ∧
      n.t64 = (s.till t).t64 ∧ SameBut s.calBlkAt n.calBlkAt [b]) ∧
  (∀ (s : State) (t b p : Nat), s.pwr.fw = true → s.on F.PWR_ENG_READY 0 = true → s.on F.TIM_LOOP_ACTIVE b = false →
    s.on F.CAL_BCFG_RUN b = true → s.domOn (pdCapture b) = true → s.domOn (pdFront b) = true →
    s.blockAbsent b = false → s.get F.CAL_BSTAT_POS b = 31 → (s.calBlkAt b).reinst = none →
    (∀ x ∈ (s.calBlkAt b).pauseT, x ≤ t) → s.calState (512 + b) = 1 → s.carried b = none → b < 32 →
    s.nextUnit b = some p → p < 16 → F.FRE_INCFG_EN.of (s.freAt (16 * b + p)).cfg = 1 →
    Answers (.calTakeUnit t b) s fun n =>
      n.get F.CAL_BSTAT_POS b = p ∧ n.get F.CAL_BSTAT_STEP b = 1 ∧
      (n.calBlkAt b).ov = some { back := false, t0 := t } ∧ (n.calBlkAt b).laps = true ∧
      (n.calBlkAt b).bound = none ∧ n.calState (512 + b) = 1 ∧ n.carried b = none ∧
      n = { s.till t with regs := n.regs, calBlk := n.calBlk } ∧ SameBut s.calBlkAt n.calBlkAt [b] ∧
      ∀ r i, r ≠ Reg.CAL_LSTAT → (r, i) ≠ (Reg.CAL_BSTAT, b) → n.reg r i = s.reg r i) ∧
  (∀ (s : State) (b : Nat) (va vb vc : Int) (o : Overlap), (s.calBlkAt b).ov = some o → o.start = none →
    let u := s.unitInHand b
    let v := if o.back then u else 512 + b
    let e := o.t0 + settleTime (s.freAt u).cfg
    Answers (.reliefSettled b va vb vc) s fun n =>
      n.calBlkAt b = { s.calBlkAt b with
        ov := some { o with start := some (s.till e).t64, pres := (s.capAt u).pres, passed := (s.capAt u).passed } } ∧
      n = { s.till e with regs := n.regs, calBlk := n.calBlk } ∧ SameBut s.calBlkAt n.calBlkAt [b] ∧
      SameRegs s n [(.FRE_STAT, v), (.FRE_EVT, v)])) ∧
  ((∀ (s : State) (t b st co ce : Nat) (so se : Int) (o : Overlap),
    (s.calBlkAt b).ov = some o → o.back = false → o.start = some st → o.sums = (so, se) → o.cnts = (co, ce) →
    (s.calBlkAt b).bound = none → st + us 200 ≤ t → 256 ≤ o.n → (s.till t).unmet b o = false →
    let u := s.unitInHand b
    let again := min (s.get F.CAL_LCNT_DISAGREE_CNT u + 1) (2 ^ F.CAL_LCNT_DISAGREE_CNT.w - 1)
    ((so * ce - se * co).natAbs * 100000 ≤ 33554432 * co * ce →
      Answers (.skewAgreed t b) s fun n =>
        n.calBlkAt b = { s.calBlkAt b with
          skew := rnd (so * ce + se * co) (2 * co * ce), kept := false, disK := 0, fails := 0
          bound := some (s.coarse t) } ∧
        n = { s.till t with calBlk := n.calBlk } ∧ SameBut s.calBlkAt n.calBlkAt [b]) ∧
    (33554432 * co * ce < (so * ce - se * co).natAbs * 100000 → (s.calBlkAt b).disK < 2 →
      Answers (.skewAgreed t b) s fun n =>
        (n.calBlkAt b).ov = some { back := false, t0 := t } ∧ (n.calBlkAt b).bound = none ∧
        (n.calBlkAt b).disK = (s.calBlkAt b).disK + 1 ∧ n.get F.CAL_LCNT_DISAGREE_CNT u = again ∧
        n = { s.till t with regs := n.regs, calBlk := n.calBlk, fre := n.fre } ∧ SameBut s.calBlkAt n.calBlkAt [b] ∧
        SameBut s.freAt n.freAt [512 + b] ∧
        SameRegs s n [(.CAL_LCNT, u), (.FRE_STAT, 512 + b), (.FRE_EVT, 512 + b)]) ∧
    (33554432 * co * ce < (so * ce - se * co).natAbs * 100000 → (s.calBlkAt b).disK = 2 →
      Answers (.skewAgreed t b) s fun n =>
        n.get F.CAL_LCNT_DISAGREE_CNT u = again ∧
        n.get F.CAL_LCNT_SKIP_CNT u = min (s.get F.CAL_LCNT_SKIP_CNT u + 1) (2 ^ F.CAL_LCNT_SKIP_CNT.w - 1) ∧
        n.on F.CAL_BEVT_SKIP b = true ∧ n.get F.CAL_BSTAT_POS b = 31)) ∧
  (∀ (s : State) (b st : Nat) (o : Overlap), (s.calBlkAt b).ov = some o → o.back = false → o.start = some st →
    (s.calBlkAt b).bound = none → o.n < 256 → (s.till (st + ms 2)).unmet b o = false →
    let u := s.unitInHand b
    ((s.calAt u).skewOk = true → s.tempFar u = false →
      Answers (.overlapTimeout b) s fun n =>
        n.calBlkAt b = { s.calBlkAt b with
          skew := sval 32 (s.get F.CAL_LACT_M_SKEW u), kept := true
          bound := some (s.coarse (s.till (st + ms 2)).t64) } ∧
        n = { s.till (st + ms 2) with calBlk := n.calBlk } ∧ SameBut s.calBlkAt n.calBlkAt [b]) ∧
    ((s.calAt u).skewOk = false ∨ s.tempFar u = true →
      Answers (.overlapTimeout b) s fun n =>
        n.get F.CAL_LCNT_SKIP_CNT u = min (s.get F.CAL_LCNT_SKIP_CNT u + 1) (2 ^ F.CAL_LCNT_SKIP_CNT.w - 1) ∧
        n.on F.CAL_BEVT_SKIP b = true ∧ n.get F.CAL_BSTAT_STEP b = 0 ∧ n.get F.CAL_BSTAT_POS b = 31 ∧
        (n.calBlkAt b).ov = none ∧ (n.calBlkAt b).bound = none ∧
        n = { (s.till (st + ms 2)).noted n with calBlk := n.calBlk, fre := n.fre, cap := n.cap } ∧
        SameBut s.capAt n.capAt (if (s.reinstNow b).isSome then [u] else []) ∧
        SameBut s.calBlkAt n.calBlkAt [b] ∧ SameBut s.freAt n.freAt [512 + b] ∧
        NotedRegs s n [(.CAL_LCNT, u), (.CAL_BEVT, b), (.CAL_BSTAT, b), (.FRE_STAT, 512 + b), (.FRE_EVT, 512 + b)])))

/-- R84, R86, R88, R87, R78: At t_h the lane in hand becomes RELIEF with its relief lane, which carries its signal
from then on, and the lane's HANDOVER EVENT holds the table version and the skew; 20 ns later the lane is offline, and
its circuits are dark. 200 µs of clean overlap, in which no edge waits for its copy, set t_k to the next coarse
boundary; at t_k the new tables come into
force, and the lane is OK and carries its signal itself, and a reinstatement of it has agreed and ends the temperature
model of its block; 20 ns later its relief lane is released and the sequencer is
idle. Where no edge still waits in the overlap that then ends, nothing else changes. A ward that is not in service has
no lane that could change its state. -/
def Obligations.HandoverAndHandback : Prop :=
  let empty := fun (s : State) (b : Nat) => ∀ o, (s.calBlkAt b).ov = some o → o.qD = [] ∧ o.qN = []
  ((∀ (s : State) (b p h : Nat), (s.calBlkAt b).bound = some h → s.get F.CAL_BSTAT_STEP b = 1 → s.carried b = none →
    s.get F.CAL_BSTAT_POS b = p → p < 16 → b < 32 → s.wardFailed (b / 4) = false →
    let u := 16 * b + p
    Answers (.handover b) s fun n =>
      n.calState u = 2 ∧ n.calState (512 + b) = 2 ∧ n.carried b = some u ∧
      n.carrier u = 512 + b ∧ n.on F.FRE_STAT_CARRIED u = true ∧ n.t64 = (s.till h).t64 ∧
      (n.capAt u).held = heldInsert ⟨0, 0, laneEvent u (if (s.calBlkAt b).kept then 2 else 1) h (s.stamp h)
        (w64 (s.get F.CAL_LSTAT_TABLE_VER u * 2 ^ 32 + sfield 32 (s.calBlkAt b).skew))⟩ (s.capAt u).held ∧
      n = { (s.till h).noted n with cap := n.cap, vaultQ := n.vaultQ } ∧ SameBut s.capAt n.capAt [u] ∧
      NotedRegs s n [(.CAL_LSTAT, u), (.CAL_LSTAT, 512 + b), (.CAL_LEVT, u), (.CAL_LEVT, 512 + b), (.CAL_BSTAT, b),
        (.CAL_BEVT, b), (.FRE_STAT, u), (.CAL_LQUAL, u)]) ∧
  (∀ (s : State) (b h : Nat), (s.calBlkAt b).bound = some h → s.get F.CAL_BSTAT_STEP b = 1 →
    (s.carried b).isSome = true →
    let u := s.unitInHand b
    Answers (.laneOffline b) s fun n =>
      n.get F.CAL_BSTAT_STEP b = 2 ∧ (n.calBlkAt b).ov = none ∧ (n.calBlkAt b).bound = none ∧
      (∀ c, n.on (lvlFld c) u = false ∧ n.on (unresFld c) u = false) ∧
      (empty s b →
        n = { s.till (h + 32768) with regs := n.regs, calBlk := n.calBlk, cap := n.cap, fre := n.fre } ∧
        SameBut s.calBlkAt n.calBlkAt [b] ∧ SameBut s.capAt n.capAt [u] ∧ SameBut s.freAt n.freAt [u] ∧
        SameRegs s n [(.CAL_BSTAT, b), (.FRE_STAT, u), (.FRE_EVT, u)]))) ∧
  ((∀ (s : State) (t b st : Nat) (o : Overlap), (s.calBlkAt b).ov = some o → o.back = true → o.start = some st →
    (s.calBlkAt b).bound = none → st + us 200 ≤ t → (s.till t).unmet b o = false →
    Answers (.cleanOverlap t b) s fun n =>
      n.calBlkAt b = { s.calBlkAt b with bound := some (s.coarse t) } ∧
      n = { s.till t with calBlk := n.calBlk } ∧ SameBut s.calBlkAt n.calBlkAt [b]) ∧
  (∀ (s : State) (b p h : Nat) (tab : CalTables), (s.calBlkAt b).bound = some h → s.get F.CAL_BSTAT_STEP b = 3 →
    s.get F.CAL_BSTAT_POS b = p → p < 16 → b < 32 → s.carried b = some (16 * b + p) →
    s.wardFailed (b / 4) = false → (s.calBlkAt b).new = some tab →
    let u := 16 * b + p
    Answers (.handback b) s fun n =>
      n.calState u = 1 ∧ n.calState (512 + b) = 1 ∧ n.carried b = none ∧ n.on F.FRE_STAT_CARRIED u = false ∧
      (n.calAt u).tab = tab ∧ (n.calAt u).model = (0, 0, 0) ∧ n.t64 = (s.till h).t64 ∧
      n.get F.CAL_LSTAT_TABLE_VER u = (s.get F.CAL_LSTAT_TABLE_VER u + 1) % 2 ^ F.CAL_LSTAT_TABLE_VER.w ∧
      n.reg .CAL_LACT_T u = w64 h ∧
      n.calBlkAt b = { s.calBlkAt b with agreed := (s.calBlkAt b).agreed || (s.reinstNow b).isSome } ∧
      n = { (s.till h).noted n with cap := n.cap, cal := n.cal, calBlk := n.calBlk, vaultQ := n.vaultQ } ∧
      SameBut s.capAt n.capAt [u] ∧ SameBut s.calBlkAt n.calBlkAt [b] ∧
      SameBut s.calAt n.calAt (if (s.reinstNow b).isSome then unitsOf b else [u])) ∧
  (∀ (s : State) (b h : Nat), (s.calBlkAt b).bound = some h → s.get F.CAL_BSTAT_STEP b = 3 → s.carried b = none →
    let u := s.unitInHand b
    Answers (.reliefReleased b) s fun n =>
      n.get F.CAL_BSTAT_STEP b = 0 ∧ n.get F.CAL_BSTAT_POS b = 31 ∧ (n.calBlkAt b).ov = none ∧
      (n.calBlkAt b).bound = none ∧ (∀ c, n.on (lvlFld c) (512 + b) = false) ∧
      (empty s b →
        n = { (s.till (h + 32768)).noted n with calBlk := n.calBlk, cap := n.cap, fre := n.fre } ∧
        SameBut s.calBlkAt n.calBlkAt [b] ∧ SameBut s.capAt n.capAt [u] ∧ SameBut s.freAt n.freAt [512 + b] ∧
        NotedRegs s n [(.CAL_BSTAT, b), (.CAL_BEVT, b), (.FRE_STAT, 512 + b), (.FRE_EVT, 512 + b)])))

/-- R88, R89, R93, R87, R92: Static runs that agree give the new tables their mean; ones that do not, the first and
second time, are counted and repeated, and the third time the unit is declared failed: a lane that its relief lane can
keep is RETIRED, any other unit FAILED. The first code-density run is kept; a second that agrees with it ends the
measurement: a lane that its relief lane carries is connected again, and else the cycle ends at the next coarse
boundary; one that does not counts as a disagreement. A cycle without overlaps ends at its boundary: the new tables
come into force, the unit is OK, or a relief lane RETIRED with the lane it carries or takes, and the sequencer idle. A
gap that is not a cycle's ends at t_e with a GAP EVENT from its start, and the lane is online again; the end of a
cycle's gap brings the new tables with it. -/
def Obligations.OfflineMeasurements : Prop :=
  ((∀ (s : State) (t b : Nat) (r1 r2 : CalRun), s.get F.CAL_BSTAT_STEP b = 2 ∨ s.get F.CAL_BSTAT_STEP b = 4 →
    (s.calBlkAt b).statOk = false → (s.calBlkAt b).bound = none →
    let u := s.unitInHand b
    let rel := s.calState (512 + b)
    let digital := F.FRE_INCFG_MODE.of (s.feCfg u) = 1
    (runsAgree r1 r2 digital = true →
      Answers (.staticRunsDone t b r1 r2) s fun n =>
        n.calBlkAt b = { s.calBlkAt b with statOk := true, new := (n.calBlkAt b).new, runs := 0 } ∧
        (n.calBlkAt b).new.map (·.bins) = some (s.calAt u).tab.bins ∧
        (n.calBlkAt b).new.map (·.tc) = some (means r1.tc r2.tc) ∧
        (n.calBlkAt b).new.map (·.dly) = some (some ((rnd ((r1.dly.1 + r2.dly.1 : Nat) : Int) 2).toNat,
          (rnd ((r1.dly.2.1 + r2.dly.2.1 : Nat) : Int) 2).toNat,
          (rnd ((r1.dly.2.2 + r2.dly.2.2 : Nat) : Int) 2).toNat)) ∧
        n = { s.till t with calBlk := n.calBlk } ∧ SameBut s.calBlkAt n.calBlkAt [b]) ∧
    (runsAgree r1 r2 digital = false → s.get F.CAL_LSTAT_DISAGREE u < 2 →
      Answers (.staticRunsDone t b r1 r2) s fun n =>
        n.get F.CAL_LSTAT_DISAGREE u = s.get F.CAL_LSTAT_DISAGREE u + 1 ∧
        n.get F.CAL_LCNT_DISAGREE_CNT u =
          min (s.get F.CAL_LCNT_DISAGREE_CNT u + 1) (2 ^ F.CAL_LCNT_DISAGREE_CNT.w - 1) ∧
        (n.calBlkAt b).statOk = false ∧ (n.calBlkAt b).new = none ∧
        n = { s.till t with regs := n.regs, calBlk := n.calBlk } ∧ SameBut s.calBlkAt n.calBlkAt [b] ∧
        SameRegs s n [(.CAL_LCNT, u), (.CAL_LSTAT, u)]) ∧
    (runsAgree r1 r2 digital = false → 2 ≤ s.get F.CAL_LSTAT_DISAGREE u → s.reinstNow b = none → b < 32 →
      s.get F.CAL_BSTAT_POS b ≤ 16 → s.wardFailed (b / 4) = false →
      Answers (.staticRunsDone t b r1 r2) s fun n =>
        n.calState u = (if u < 512 ∧ s.get F.CAL_BSTAT_STEP b = 2 ∧ (rel = 1 ∨ rel = 2) then 3 else 4) ∧
        n.get F.CAL_LSTAT_DISAGREE u = 0 ∧ (n.calBlkAt b).statOk = false ∧ n.t64 = (s.till t).t64)) ∧
  (∀ (s : State) (t b : Nat) (w js : List Nat), s.get F.CAL_BSTAT_STEP b = 2 ∨ s.get F.CAL_BSTAT_STEP b = 4 →
    (s.calBlkAt b).statOk = true → (s.calBlkAt b).bound = none →
    let u := s.unitInHand b
    ((s.calBlkAt b).runs = 0 →
      Answers (.codeDensityRunDone t b w js) s fun n =>
        n.calBlkAt b = { s.calBlkAt b with runs := 1, hits1 := w, jit1 := js } ∧
        n = { s.till t with calBlk := n.calBlk } ∧ SameBut s.calBlkAt n.calBlkAt [b]) ∧
    ((s.calBlkAt b).runs ≠ 0 → (s.calBlkAt b).laps = true → hitsAgree (s.calBlkAt b).hits1 w = true →
      Answers (.codeDensityRunDone t b w js) s fun n =>
        n.get F.CAL_BSTAT_STEP b = 3 ∧ (n.calBlkAt b).ov = some { back := true, t0 := t } ∧
        (n.calBlkAt b).jitter = ((s.calBlkAt b).jit1.zip js).map (fun (x, y) => (x + y) / 2) ∧
        n = { s.till t with regs := n.regs, calBlk := n.calBlk } ∧ SameBut s.calBlkAt n.calBlkAt [b] ∧
        SameRegs s n [(.CAL_BSTAT, b)]) ∧
    ((s.calBlkAt b).runs ≠ 0 → (s.calBlkAt b).laps = false → hitsAgree (s.calBlkAt b).hits1 w = true →
      Answers (.codeDensityRunDone t b w js) s fun n =>
        (n.calBlkAt b).bound = some (s.coarse t) ∧ (n.calBlkAt b).runs = 2 ∧
        n = { s.till t with cal := n.cal, calBlk := n.calBlk } ∧ SameBut s.calBlkAt n.calBlkAt [b]) ∧
    ((s.calBlkAt b).runs ≠ 0 → hitsAgree (s.calBlkAt b).hits1 w = false → s.get F.CAL_LSTAT_DISAGREE u < 2 →
      Answers (.codeDensityRunDone t b w js) s fun n =>
        n.get F.CAL_LSTAT_DISAGREE u = s.get F.CAL_LSTAT_DISAGREE u + 1 ∧ (n.calBlkAt b).statOk = false ∧
        n = { s.till t with regs := n.regs, calBlk := n.calBlk } ∧ SameBut s.calBlkAt n.calBlkAt [b] ∧
        SameRegs s n [(.CAL_LCNT, u), (.CAL_LSTAT, u)]))) ∧
  ((∀ (s : State) (b p h : Nat) (tab : CalTables), (s.calBlkAt b).bound = some h → s.get F.CAL_BSTAT_STEP b = 2 →
    (s.calBlkAt b).laps = false → s.get F.CAL_BSTAT_POS b = p → p < 17 → b < 32 → (s.calBlkAt b).new = some tab →
    s.wardFailed (b / 4) = false →
    let u := unitAt b p
    Answers (.cycleEnd b) s fun n =>
      n.calState u =
        (if p = 16 ∧ ((s.carried b).isSome = true ∨ ∃ l ∈ lanesOf b, s.calState l = 3) then 3 else 1) ∧
      (n.calAt u).tab = tab ∧ n.get F.CAL_BSTAT_STEP b = 0 ∧ n.get F.CAL_BSTAT_POS b = 31 ∧
      (n.calBlkAt b).bound = none ∧ n.t64 = (s.till h).t64 ∧ n.reg .CAL_LACT_T u = w64 h ∧
      SameBut s.calBlkAt n.calBlkAt [b] ∧
      (p < 16 →
        n = { (s.till h).noted n with cal := n.cal, calBlk := n.calBlk, vaultQ := n.vaultQ, cap := n.cap } ∧
        SameBut s.calAt n.calAt [u] ∧ SameBut s.capAt n.capAt [u])) ∧
  (∀ (s : State) (u g e : Nat) (va vb vc : Int), u < 512 → (s.calAt u).gapG = some g → (s.calAt u).gapE = some e →
    s.get F.CAL_BSTAT_STEP (u / 16) ≠ 4 ∨ (s.unitInHand (u / 16) ≠ u ∧ s.unitInHand (u / 16) ≠ 512 + u / 16) →
    Answers (.gapEnd u va vb vc) s fun n =>
      n.on F.CAL_LSTAT_OFFLINE u = false ∧ n.calAt u = { s.calAt u with gapG := none, gapE := none } ∧
      (n.capAt u).held = heldInsert ⟨0, 0, laneEvent u 5 e (s.stamp e) (w64 (s.stamp g))⟩ (s.capAt u).held ∧
      n = { s.till e with regs := n.regs, cal := n.cal, cap := n.cap } ∧ SameBut s.calAt n.calAt [u] ∧
      SameBut s.capAt n.capAt [u] ∧
      SameRegs s n [(.CAL_LSTAT, u), (.FRE_STAT, s.carrier u), (.FRE_EVT, s.carrier u)]) ∧
  (∀ (s : State) (b p g e h : Nat) (tab : CalTables) (va vb vc : Int), p < 16 → b < 32 →
    let u := 16 * b + p
    (s.calAt u).gapG = some g → (s.calAt u).gapE = some e → s.get F.CAL_BSTAT_STEP b = 4 →
    s.get F.CAL_BSTAT_POS b = p → (s.calBlkAt b).bound = some h → (s.calBlkAt b).new = some tab →
    s.wardFailed (b / 4) = false →
    Answers (.gapEnd u va vb vc) s fun n =>
      n.calState u = 1 ∧ n.on F.CAL_LSTAT_OFFLINE u = false ∧ (n.calAt u).tab = tab ∧ (n.calAt u).gapG = none ∧
      n.get F.CAL_BSTAT_STEP b = 0 ∧ n.t64 = (s.till e).t64 ∧
      n = { (s.till e).noted n with cal := n.cal, calBlk := n.calBlk, cap := n.cap, vaultQ := n.vaultQ } ∧
      SameBut s.calAt n.calAt [u] ∧ SameBut s.calBlkAt n.calBlkAt [b] ∧ SameBut s.capAt n.capAt [u]))

/-- R92, R95, R96, R99, R101: Where the temperature model applies, every unit of the block follows its temperature by
its coefficients. The aperture of a quiet window on a lane that tracks its baseline leaves its mean input as a sample;
at the next coarse boundary the sample moves BASE_EFF by its distance over 2^BASE_WT, unless an assertion in the
window defers it, which is counted. The next queued slot write goes into slot A or B, the one that is invalid or holds
the lower SEQ, with a SEQ one above the higher; SEQ = 0 is written first. Where that SEQ is not to be had, nothing is
written and VAULT_ERR is set. The rest of the slot follows when the write completes, and is counted; where its
read-back fails the slot stays as it is and VAULT_WRITE is set. Which slot is taken where both are invalid or of equal
SEQ, and what the mean of the temperature coefficients is taken of, is the model's choice (log entry 36). -/
def Obligations.TemperatureAndSlots : Prop :=
  ((∀ (s : State) (b : Nat), s.modelled b = true → b < 32 →
    Answers (.tempModelUpdate b) s fun n =>
      (∀ i, i < 17 → let u := unitAt b i
        let m := fun (j : Nat) => rnd ((s.calAt u).tab.tc.getD j 0 * s.tempDiff u) 256
        (n.calAt u).model = (m 0, m 1, m 2) ∧ (n.calAt u).tab = (s.calAt u).tab ∧
          n.on F.CAL_LSTAT_MODELLED u = true) ∧
      n = { s.till (s.coarse s.t64) with regs := n.regs, cal := n.cal } ∧
      (∀ u, u ∉ unitsOf b → n.calAt u = s.calAt u) ∧
      ∀ r i, r ≠ Reg.CAL_LSTAT → r ≠ Reg.CAL_LQUAL → n.reg r i = s.reg r i) ∧
  (∀ (s : State) (u o : Nat) (v : Int), (s.calAt u).quietAt = some o → s.tracks u = true →
    Answers (.baselineApertureEnd u v) s fun n =>
      n.calAt u = { s.calAt u with sample := some v } ∧ n = { s.till (o + ns 1124) with cal := n.cal } ∧
      SameBut s.calAt n.calAt [u]) ∧
  (∀ (s : State) (u o : Nat) (v : Int), (s.calAt u).quietAt = some o → (s.calAt u).sample = some v →
    s.shortClose u o = false →
    let e := s.coarse (o + ns 1124)
    let old := sval 14 (s.get F.CAP_BASE_BASE_EFF u)
    ((s.calAt u).hit = false →
      Answers (.baselineUpdate u) s fun n =>
        n.get F.CAP_BASE_BASE_EFF u =
          sfield 14 (old + rndAway (v - old) (2 ^ s.get F.CAL_BCFG_BASE_WT (blockOf u))) ∧
        n.get F.CAL_LBASE_DEFER_RUN u = 0 ∧ n.calAt u = { s.calAt u with sample := none } ∧
        n = { s.till e with regs := n.regs, cal := n.cal } ∧ SameBut s.calAt n.calAt [u] ∧
        SameRegs s n [(.CAP_BASE, u), (.CAL_LBASE, u), (.CAP_STAT, u)]) ∧
    ((s.calAt u).hit = true →
      Answers (.baselineUpdate u) s fun n =>
        n.get F.CAL_LBASE_DEFER_CNT u =
          min (s.get F.CAL_LBASE_DEFER_CNT u + 1) (2 ^ F.CAL_LBASE_DEFER_CNT.w - 1) ∧
        n.calAt u = { s.calAt u with sample := none } ∧ n = { (s.till e).noted n with cal := n.cal } ∧
        SameBut s.calAt n.calAt [u] ∧ NotedRegs s n [(.CAL_LBASE, u), (.CAL_BEVT, blockOf u)]))) ∧
  ((∀ (s : State) (t u : Nat) (rest : List Nat), s.vaultQ = u :: rest → s.vaultWr = none → s.pwr.ok = true →
    s.domOn 95 = true →
    let qa := s.slotSeq u 1
    let qb := s.slotSeq u 2
    let q := max (qa.getD 0) (qb.getD 0) + 1
    let k := if qa.isNone || (qb.isSome && qa.getD 0 ≤ qb.getD 0) then 1 else 2
    (q ≠ 0xFFFFFFFF →
      Answers (.vaultSlotWrite t) s fun n =>
        n.vaultQ = rest ∧ (∀ j, j < 4 → n.vaultAt (slotAddr u k + 4 + j) = 0) ∧
        (∀ a, (∀ j, j < 4 → a ≠ slotAddr u k + 4 + j) → n.vaultAt a = s.vaultAt a) ∧
        n.vaultWr = some ⟨u, k, s.slotImage u q, s.vaultBytes (slotAddr u k + 4) 4⟩ ∧
        n.calAt u = { s.calAt u with lastWr := some t, stored := (s.calAt u).tab } ∧ SameBut s.calAt n.calAt [u] ∧
        n = { s.till t with vaultQ := n.vaultQ, vaultWr := n.vaultWr, vault := n.vault, cal := n.cal }) ∧
    (q = 0xFFFFFFFF →
      Answers (.vaultSlotWrite t) s fun n =>
        n.vaultQ = rest ∧ n.on F.CAL_BEVT_VAULT_ERR (blockOf u) = true ∧ n.on F.MON_EVT_VAULT_ERR 0 = true ∧
        n.vaultWr = none ∧ n.vault = s.vault ∧ n.cal = s.cal)) ∧
  (∀ (s : State) (t : Nat) (w : VaultWr), s.vaultWr = some w →
    (Answers (.vaultWriteDone t true) s fun n =>
      n.vaultWr = none ∧ (∀ j (h : j < w.data.length), n.vaultAt (slotAddr w.unit w.slot + j) = w.data[j]) ∧
      (∀ a, a < slotAddr w.unit w.slot ∨ slotAddr w.unit w.slot + w.data.length ≤ a → n.vaultAt a = s.vaultAt a) ∧
      n.get F.CAL_BCNT_VAULT_WR_CNT (blockOf w.unit) =
        min (s.get F.CAL_BCNT_VAULT_WR_CNT (blockOf w.unit) + 1) (2 ^ F.CAL_BCNT_VAULT_WR_CNT.w - 1) ∧
      n = { s.till t with regs := n.regs, vaultWr := n.vaultWr, vault := n.vault } ∧
      SameRegs s n [(.CAL_BCNT, blockOf w.unit)]) ∧
    (Answers (.vaultWriteDone t false) s fun n =>
      n.vaultWr = none ∧ n.on F.MON_EVT_VAULT_WRITE 0 = true ∧
      n = { (s.till t).faulted n with vaultWr := n.vaultWr } ∧ NotedRegs s n [(.MON_EVT, 0)])))

/-- R132, R136, R151: EN = 1 takes effect at its coarse boundary: an axis that is OFF takes its configuration and seeks,
or with START_MODE 1 runs, without moving its position; one whose sources are reserved or the same stays OFF with
CFG_ERR; one that is not OFF stays as it is. EN = 0 takes the axis to OFF where it is, and its stakes are discarded; a
COMMIT that waits for a turn boundary is then carried out. Where no engine holds edges for a stake and no COMMIT waits,
nothing changes beside but windows that close and a timebase step that waited for the axis. -/
def Obligations.AxisEnableAndDisable : Prop :=
  (∀ (s : State) (e : Nat), s.axis.ctlAt = some (e, true) →
    let step := srcCode (s.get F.AXI_CFG_STEP_SRC 0)
    let bad := step = 127 ∨ step = srcCode (s.get F.AXI_CFG_MARK_SRC 0)
    Answers .axisEnableApply s fun n =>
      n.axis.ctlAt = none ∧ n.t64 = (s.till e).t64 ∧
      n.get F.AXI_POS_TURN 0 = s.get F.AXI_POS_TURN 0 ∧ n.get F.AXI_POS_SLOT 0 = s.get F.AXI_POS_SLOT 0 ∧
      (s.axisState ≠ 0 → n = { s.till e with axis := { s.axis with ctlAt := none } }) ∧
      (s.axisState = 0 → ¬bad →
        n.axisState = (if s.get F.AXI_CFG_START_MODE 0 = 1 then 2 else 1) ∧
        n.axis.cfg = s.reg .AXI_CFG 0 ∧ n.axis.ofs = s.reg .AXI_OFS 0 ∧ n.axis.gen = s.reg .AXI_GEN 0 ∧
        n.axis.placed = false ∧ n.axis.tg = e ∧ n.axis.gk = 0 ∧ n.axis.fired = [] ∧ n.axis.issued = [] ∧
        n = { s.till e with regs := n.regs, axis := n.axis } ∧ SameRegs s n [(.AXI_POS, 0), (.AXI_PERIOD, 0)]) ∧
      (s.axisState = 0 → bad →
        n.on F.AXI_EVT_CFG_ERR 0 = true ∧ n.axisState = 0 ∧
        n.axis = { s.axis with ctlAt := none, cfg := s.reg .AXI_CFG 0, ofs := s.reg .AXI_OFS 0, gen := s.reg .AXI_GEN 0 } ∧
        n = { (s.till e).noted n with axis := n.axis } ∧ NotedRegs s n [(.AXI_EVT, 0)])) ∧
  (∀ (s : State) (e : Nat), s.axis.ctlAt = some (e, false) → s.axisState ≠ 0 →
    Answers .axisDisableApply s fun n =>
      n.axisState = 0 ∧ n.get F.AXI_POS_TURN 0 = s.get F.AXI_POS_TURN 0 ∧
      n.get F.AXI_POS_SLOT 0 = s.get F.AXI_POS_SLOT 0 ∧ n.axis.ctlAt = none ∧ n.axis.fired = [] ∧
      n.axis.issued = [] ∧ n.axis.placed = false ∧ n.axis.cfg = s.reg .AXI_CFG 0 ∧ n.on F.AXI_CTRL_COMMIT 0 = false ∧
      (s.on F.AXI_CTRL_COMMIT 0 = true → n.on F.AXI_EVT_COMMIT_DONE 0 = true) ∧
      (s.on F.AXI_CTRL_COMMIT 0 = false → (∀ x ∈ s.cnt, x.2.wait = []) →
        n = { s.till e with regs := n.regs, axis := n.axis, cal := n.cal, tim := n.tim } ∧
        (s.tim.step = none → n.tim = s.tim) ∧
        ∀ r i, r ≠ Reg.CAL_BCNT → (r, i) ≠ (Reg.AXI_POS, 0) → n.reg r i = s.reg r i))

/-- R132, R133, R134, R135, R137, R147, R143: An edge of the step source, a MARK input or a REFIN input, is stamped as
every edge of it; where its stamp lies at least 5 ns after the step before it and no mark waits for it, it advances the
position by one slot, S slots to the turn, and so does a step of the generator at its instant. Every stake that matches
the new position fires. One that comes sooner moves nothing: FAST is set and counted. With COAST_EN and a measured
period, an axis in RUN whose step edge has not come by t_e + COAST_TO enters COAST: it synthesises the step at the
instant expected, and so each further one; synthesised steps advance the position as real ones do, and are counted.
Without a measured period STALL is set instead. Where neither mark source nor COMMIT takes part, no engine holds an
edge for a stake and no engine or ramp takes the edge, nothing changes beside. How a coarse period's stamp is chosen
for an edge less than 5 ns after the last is the model's reading (log entry 38). -/
def Obligations.AxisFollowsItsSteps : Prop :=
  let turn := fun (s : State) => (s.get F.AXI_POS_TURN 0 + (s.get F.AXI_POS_SLOT 0 + 1) / s.slots) % 2 ^ 40
  let slot := fun (s : State) => (s.get F.AXI_POS_SLOT 0 + 1) % s.slots
  let plain := fun (s : State) => s.markSrc = 127 ∧ s.axis.marks = [] ∧ s.axis.due = [] ∧
    s.on F.AXI_CTRL_COMMIT 0 = false ∧ ∀ x ∈ s.cnt, x.2.wait = []
  let unmarked := fun (s : State) (z : Nat) => ∀ m ∈ s.axis.marks, (z : Int) < m + s.markOfs
  let unused := fun (s : State) (k : Nat) => (∀ y ∈ s.cnt, F.CNT_CFG_CL_MARK.of y.2.cfg = 0) ∧
    s.indices .FRE_RAMP (fun w => F.FRE_RAMP_SRC_MARK.of w == 1 && F.FRE_RAMP_MARK_SEL.of w == k) = []
  let edge := fun (s : State) => s.stepSrc < 100 ∧ s.running = true ∧ (s.stepSrc < 96 → s.markOut s.stepSrc = false) ∧
    s.markSrc ≠ s.stepSrc
  ((∀ (s : State) (t : Nat), edge s →
    let z := s.plazaStamp s.stepSrc t
    (s.axisState = 2 → s.axis.placed = true → unmarked s z → (∀ l ∈ s.axis.last, l + 8192 ≤ z) →
      Answers (.stepEdge t) s fun n =>
        n.get F.AXI_POS_TURN 0 = turn s ∧ n.get F.AXI_POS_SLOT 0 = slot s ∧ n.axisState = 2 ∧
        n.reg .AXI_STEPT 0 = w64 z ∧ n.axis.last = some z ∧ n.t64 = (s.till t).t64 ∧
        n.markAt s.stepSrc = { s.markAt s.stepSrc with full := some t, stamp := some z } ∧
        SameBut s.markAt n.markAt [s.stepSrc] ∧
        (plain s → s.stepSrc < 96 → unused s s.stepSrc →
          n.axis.fired = s.axis.fired ++
            (((s.indices .STAKE_MATCH fun w => matches' w (turn s) (slot s)).filter fun i =>
              s.get F.STAKE_ACTION_ACTION i < 10).map fun i =>
                { idx := i, act := s.reg .STAKE_ACTION i, ts := z + actDelay (s.reg .STAKE_ACTION i)
                  step := z, pos := w64 (posWord (turn s) (slot s)), last := z + 2 ^ 16 }) ∧
          n = { s.till t with regs := n.regs, axis := n.axis, tim := n.tim, mark := n.mark } ∧
          (s.tim.step = none → n.tim = s.tim) ∧ SameRegs s n [(.AXI_POS, 0), (.AXI_PERIOD, 0), (.AXI_STEPT, 0)])) ∧
    (∀ l, s.axisState ≠ 0 → s.axis.last = some l → z < l + 8192 →
      Answers (.stepEdge t) s fun n =>
        n.on F.AXI_EVT_FAST 0 = true ∧
        n.get F.AXI_CNT3_FAST_CNT 0 = min (s.get F.AXI_CNT3_FAST_CNT 0 + 1) (2 ^ F.AXI_CNT3_FAST_CNT.w - 1) ∧
        n.axis = s.axis ∧
        (s.stepSrc < 96 → unused s s.stepSrc →
          n = { (s.till t).noted n with mark := n.mark } ∧ NotedRegs s n [(.AXI_CNT3, 0), (.AXI_EVT, 0)]))) ∧
  (∀ (s : State), s.axisState = 2 → s.stepSrc = 100 → s.axis.placed = true →
    let period := max (2 ^ 29) (F.AXI_GEN_GEN_PERIOD.of s.axis.gen)
    let t := (rnd ((s.axis.tg * 2 ^ 16 + s.axis.gk * period : Nat) : Int) (2 ^ 16)).toNat
    unmarked s t →
    Answers .generatedStep s fun n =>
      n.get F.AXI_POS_TURN 0 = turn s ∧ n.get F.AXI_POS_SLOT 0 = slot s ∧ n.axisState = 2 ∧ n.reg .AXI_STEPT 0 = w64 t ∧
      n.axis.gk = s.axis.gk + 1 ∧ n.t64 = (s.till t).t64 ∧
      (plain s →
        n = { s.till t with regs := n.regs, axis := n.axis, tim := n.tim } ∧ (s.tim.step = none → n.tim = s.tim) ∧
        SameRegs s n [(.AXI_POS, 0), (.AXI_PERIOD, 0), (.AXI_STEPT, 0)]))) ∧
  ((∀ (s : State) (l : Nat), s.axisState = 2 → s.axis.last = some l → F.AXI_CFG_COAST_EN.of s.axis.cfg = 1 →
    s.stepSrc ≠ 100 → s.get F.AXI_PERIOD_P 0 ≠ 0 →
    (s.on F.AXI_PERIOD_PVALID 0 = true → s.axis.placed = true → unmarked s (s.coastAt l 1) →
      Answers .coastEntry s fun n =>
        n.axisState = 3 ∧ n.get F.AXI_POS_TURN 0 = turn s ∧ n.get F.AXI_POS_SLOT 0 = slot s ∧
        n.on F.AXI_EVT_COAST 0 = true ∧
        n.get F.AXI_CNT1_COAST_CNT 0 = min (s.get F.AXI_CNT1_COAST_CNT 0 + 1) (2 ^ F.AXI_CNT1_COAST_CNT.w - 1) ∧
        n.axis.coastK = 2 ∧ n.axis.synth = 1 ∧ n.reg .AXI_STEPT 0 = w64 (s.coastAt l 1) ∧
        n.t64 = (s.till (s.coastAt l 1 + s.coastTo)).t64 ∧
        (plain s →
          n = { (s.till (s.coastAt l 1 + s.coastTo)).noted n with axis := n.axis, tim := n.tim, wait := n.wait } ∧
          NotedRegs s n [(.AXI_POS, 0), (.AXI_PERIOD, 0), (.AXI_STEPT, 0), (.AXI_CNT1, 0), (.AXI_EVT, 0)])) ∧
    (s.on F.AXI_PERIOD_PVALID 0 = false → s.axis.stall = false →
      Answers .coastEntry s fun n =>
        n.on F.AXI_EVT_STALL 0 = true ∧ n.axis = { s.axis with stall := true } ∧
        n = { (s.till (s.coastAt l 1 + s.coastTo)).noted n with axis := n.axis } ∧
        NotedRegs s n [(.AXI_EVT, 0)])) ∧
  (∀ (s : State), s.axisState = 3 → s.axis.placed = true →
    let tk := s.coastAt (s.axis.real.getD 0) s.axis.coastK
    unmarked s tk →
    Answers .synthesisedStep s fun n =>
      n.axisState = 3 ∧ n.get F.AXI_POS_TURN 0 = turn s ∧ n.get F.AXI_POS_SLOT 0 = slot s ∧
      n.axis.coastK = s.axis.coastK + 1 ∧ n.axis.synth = s.axis.synth + 1 ∧ n.reg .AXI_STEPT 0 = w64 tk ∧
      n.get F.AXI_CNT1_COAST_CNT 0 = min (s.get F.AXI_CNT1_COAST_CNT 0 + 1) (2 ^ F.AXI_CNT1_COAST_CNT.w - 1) ∧
      n.t64 = (s.till (tk + s.coastTo)).t64 ∧
      (plain s →
        n = { s.till (tk + s.coastTo) with regs := n.regs, axis := n.axis, tim := n.tim } ∧
        SameRegs s n [(.AXI_POS, 0), (.AXI_PERIOD, 0), (.AXI_STEPT, 0), (.AXI_CNT1, 0)])))

/-- R133, R107, R139, R140: Every edge of a MARK input is stamped, whatever it feeds: in full where it comes 5 ns or
more after the input's last edge. The engines that select the port get a boundary request at the stamp. An edge of the
mark source for which no step has come yet waits for its step. A step within a turn that a mark reaches is a mismatch,
counted; with POLICY 1 it becomes slot 0 of the next turn and RESYNC is set, with POLICY 0 the position goes on as
without it. The coarse stamp of an edge that comes sooner is the model's reading (log entry 38). -/
def Obligations.MarksAreJudged : Prop :=
  let unused := fun (s : State) (k : Nat) => (∀ y ∈ s.cnt, F.CNT_CFG_CL_MARK.of y.2.cfg = 0) ∧
    s.indices .FRE_RAMP (fun w => F.FRE_RAMP_SRC_MARK.of w == 1 && F.FRE_RAMP_MARK_SEL.of w == k) = []
  (∀ (s : State) (t k : Nat) (lv : Bool), s.markOut k = false → k < 96 → s.running = true →
    let z := s.plazaStamp k t
    ((∀ f ∈ (s.markAt k).full, f + 8192 ≤ t) → z = t) ∧
    Answers (.markEdge t k lv) s fun n =>
      n.markAt k = { s.markAt k with full := some t, stamp := some z } ∧ SameBut s.markAt n.markAt [k] ∧
      n.t64 = (s.till t).t64 ∧
      (s.stepSrc ≠ k → s.markSrc ≠ k → s.wf = true → ∀ l, (s.cntAt l).on = true → s.on F.CNT_STAT_CFG_ERR l = false →
        F.CNT_CFG_CL_MARK.of (s.cntAt l).cfg = 1 → min 95 (F.CNT_CFG_MARK_SEL.of (s.cntAt l).cfg) = k →
        (s.cntAt l).gate.isSome = true →
        n.cntAt l = { s.cntAt l with reqs := (s.cntAt l).reqs ++ [{ tb := z }] }) ∧
      (s.stepSrc ≠ k → s.markSrc ≠ k → unused s k → n = { s.till t with mark := n.mark }) ∧
      (s.isMark k lv = true → s.stepSrc ≠ k → s.axisState ≠ 0 → firstStep s.axis.steps ((z : Int) + s.markOfs) = none →
        s.axis.due = [] →
        n.axis = { s.axis with marks := s.axis.marks ++ [z] } ∧ n.get F.AXI_POS_SLOT 0 = s.get F.AXI_POS_SLOT 0 ∧
        (unused s k → n = { s.till t with mark := n.mark, axis := n.axis }))) ∧
  (∀ (s : State) (t m : Nat), s.axisState = 2 → s.stepSrc < 96 → s.running = true → s.markOut s.stepSrc = false →
    s.markSrc ≠ s.stepSrc → s.axis.placed = true → s.axis.marks = [m] →
    let z := s.plazaStamp s.stepSrc t
    (m : Int) + s.markOfs ≤ z → (∀ l ∈ s.axis.last, l + 8192 ≤ z) → s.get F.AXI_POS_SLOT 0 + 1 < s.slots →
    (s.axisPolicy = 1 →
      Answers (.stepEdge t) s fun n =>
        n.get F.AXI_POS_TURN 0 = (s.get F.AXI_POS_TURN 0 + 1) % 2 ^ 40 ∧ n.get F.AXI_POS_SLOT 0 = 0 ∧
        n.on F.AXI_EVT_RESYNC 0 = true ∧ n.on F.AXI_EVT_MISMATCH 0 = true ∧ n.axis.marks = [] ∧
        n.get F.AXI_CNT0_MISMATCH_CNT 0 =
          min (s.get F.AXI_CNT0_MISMATCH_CNT 0 + 1) (2 ^ F.AXI_CNT0_MISMATCH_CNT.w - 1) ∧
        (s.axis.due = [] → (∀ x ∈ s.cnt, x.2.wait = []) → unused s s.stepSrc → (∀ p, (s.fltAt p).on = false) →
          n = { (s.till t).noted n with axis := n.axis, wait := n.wait, mark := n.mark })) ∧
    (s.axisPolicy = 0 →
      Answers (.stepEdge t) s fun n =>
        n.get F.AXI_POS_TURN 0 = s.get F.AXI_POS_TURN 0 ∧
        n.get F.AXI_POS_SLOT 0 = s.get F.AXI_POS_SLOT 0 + 1 ∧ n.on F.AXI_EVT_MISMATCH 0 = true ∧
        n.axis.marks = [] ∧
        n.get F.AXI_CNT0_MISMATCH_CNT 0 =
          min (s.get F.AXI_CNT0_MISMATCH_CNT 0 + 1) (2 ^ F.AXI_CNT0_MISMATCH_CNT.w - 1) ∧
        (s.axis.due = [] → (∀ x ∈ s.cnt, x.2.wait = []) → unused s s.stepSrc →
          n = { (s.till t).noted n with axis := n.axis, wait := n.wait, mark := n.mark })))

/-- R147, R148, R149, R150, R107, R153, R32, R157, R185, R212, R222: The stake that fired first is issued once its turn
has come, and the next one 1.25 ns later; a real-time stake with too small a DELAY acts 2^17 ticks after its step, and
is counted; one whose UNIT is out of range sets CFG_ERR and has no effect; one that comes too late, or that finds 1,024
issued, is skipped and counted. The issued stake that acts first, and that no stake still to be issued precedes, acts
at its instant, and is then done: for every lane of its group a boundary request for an active gate, for an idle one or
for one of the same kind; the opening or closing of a quiet window; a ramp start, for the relief front end that sees
the lane too. For its unit a swap request of a filter pipeline, an operation of a histogram engine that counts
records, a signal of a weaver that takes them, an AXIS record in an active queue or for the blocks of its group. Lanes
whose engines and pairing units hold no edges for a stake, and nothing else, change. -/
def Obligations.StakesAct : Prop :=
  let first := fun (s : State) (f : Fired) =>
    firstFired (s.axis.issued.filter (·.kind != 5)) = some f ∧ s.unissued f = false
  let done := fun (s n : State) (f : Fired) =>
    n.axis = { s.axis with issued := s.axis.issued.erase f } ∧ n.t64 = (s.till f.ts).t64
  let asks := fun (s n : State) (f : Fired) (idle : Option Bool) =>
    done s n f ∧
    (∀ l ∈ s.groupLanes f, (s.cntAt l).wait = [] → F.CNT_CFG_CL_STAKE.of (s.cntAt l).cfg = 1 → (s.cntAt l).on = true →
      s.on F.CNT_STAT_CFG_ERR l = false → (s.cntAt l).gate.isSome = true ∨ (s.cntAt l).opens ≤ f.ts →
      n.cntAt l = { s.cntAt l with reqs := (s.cntAt l).reqs ++ [{ tb := f.ts, idle := idle }] }) ∧
    ((∀ l ∈ s.groupLanes f, (s.cntAt l).wait = []) →
      (∀ p, (s.pairAt p).q = [] ∧ (s.pairAt p).stat.due = []) →
      n = { s.till f.ts with axis := n.axis, cnt := n.cnt, pair := n.pair } ∧
      SameBut s.cntAt n.cntAt (s.groupLanes f))
  (∀ (s : State) (t : Nat) (f : Fired) (rest : List Fired), s.axis.fired = f :: rest → s.axis.issueAt ≤ (s.till t).t64 →
    let x := { s.axis with fired := rest, issueAt := (s.till t).t64 + 2048 }
    let late := realTime f.kind = true ∧ actDelay f.act < 2 ^ 17
    let y := { f with ts := if late then f.step + 2 ^ 17 else f.ts, lg := s.groupOf f.act }
    ((s.till t).t64 ≤ f.last → s.axis.issued.length < 1024 → f.badUnit = false →
      Answers (.stakeIssue t) s fun n =>
        n.axis = { x with issued := s.axis.issued ++ [y] } ∧
        (¬late → n = { s.till t with axis := n.axis }) ∧
        (late →
          n.get F.AXI_CNT2_LATE_CNT 0 = min (s.get F.AXI_CNT2_LATE_CNT 0 + 1) (2 ^ F.AXI_CNT2_LATE_CNT.w - 1) ∧
          n.on F.AXI_EVT_LATE 0 = true ∧ n = { (s.till t).noted n with axis := n.axis } ∧
          NotedRegs s n [(.AXI_CNT2, 0), (.AXI_EVT, 0)])) ∧
    ((s.till t).t64 ≤ f.last → s.axis.issued.length < 1024 → f.badUnit = true →
      Answers (.stakeIssue t) s fun n =>
        n.axis = x ∧ n.on F.AXI_EVT_CFG_ERR 0 = true ∧ n = { (s.till t).noted n with axis := n.axis } ∧
        NotedRegs s n [(.AXI_CNT2, 0), (.AXI_EVT, 0)]) ∧
    (f.last < (s.till t).t64 ∨ 1024 ≤ s.axis.issued.length →
      Answers (.stakeIssue t) s fun n =>
        n.axis = x ∧ n.on F.AXI_EVT_OVF 0 = true ∧
        n.get F.AXI_CNT2_OVF_CNT 0 = min (s.get F.AXI_CNT2_OVF_CNT 0 + 1) (2 ^ F.AXI_CNT2_OVF_CNT.w - 1) ∧
        ((∀ y ∈ s.cnt, y.2.wait = []) →
          n = { (s.till t).noted n with axis := n.axis } ∧ NotedRegs s n [(.AXI_CNT2, 0), (.AXI_EVT, 0)]))) ∧
  (∀ (s : State) (f : Fired), first s f →
    (f.kind = 0 → Answers .gateOpen s fun n => asks s n f (some false)) ∧
    (f.kind = 1 → Answers .gateClose s fun n => asks s n f (some true)) ∧
    (f.kind = 2 → Answers .engineClose s fun n => asks s n f none) ∧
    (f.kind = 3 → Answers .calQuiet s fun n =>
      done s n f ∧
      (∀ l ∈ s.groupLanes f,
        (f.arg % 2 = 1 → (s.calAt l).quietAt = none →
          n.calAt l = { s.calAt l with quietAt := some f.ts, sample := none, hit := false }) ∧
        (f.arg % 2 = 0 → (s.calAt l).quietAt.isSome = true →
          n.calAt l = { s.calAt l with quietAt := none, sample := none, hit := false })) ∧
      SameBut s.calAt n.calAt (s.groupLanes f) ∧
      n = { s.till f.ts with regs := n.regs, axis := n.axis, cal := n.cal } ∧
      ∀ r i, r ≠ Reg.CAL_BCNT ∨ f.arg % 2 = 1 → n.reg r i = s.reg r i) ∧
    (f.kind = 9 → Answers .rampStart s fun n =>
      done s n f ∧
      (∀ l ∈ s.groupLanes f, s.on F.FRE_RAMP_SRC_STAKE l = true → s.get F.FRE_RAMP_SLOPE l ≠ 0 →
        ∀ u ∈ s.frontsOf l, s.laneOfUnit u = some l → (s.till f.ts).circuitLive u .b = true →
          (s.freAt u).ramp = none →
          (n.freAt u).ramp.map (·.ts) = some (f.ts + s.rampLat u) ∧
          (n.freAt u).ramp.map (·.slope) = some (s.get F.FRE_RAMP_SLOPE l) ∧ n.on F.FRE_STAT_RAMP_RUN u = true) ∧
      n = { s.till f.ts with regs := n.regs, axis := n.axis, fre := n.fre } ∧
      ∀ r i, r ∉ [Reg.FRE_STAT, .FRE_EVT, .FRE_CNT] → n.reg r i = s.reg r i)) ∧
  (∀ (s : State) (f : Fired), first s f →
    (f.kind = 4 → Answers .bankSwap s fun n =>
      let p := f.unit % 64
      done s n f ∧
      n.fltAt p = { s.fltAt p with req := some (f.ts, min (F.FLT_CFG_XF_DEF.of (s.fltAt p).cfg) 4096) } ∧
      n.on F.FLT_STAT_PENDING p = true ∧
      ((s.fltAt p).req.isSome = true → n.on F.FLT_EVT_REPL p = true ∧
        n.get F.FLT_CNT2_REPL_CNT p = min (s.get F.FLT_CNT2_REPL_CNT p + 1) (2 ^ F.FLT_CNT2_REPL_CNT.w - 1)) ∧
      n = { s.till f.ts with regs := n.regs, axis := n.axis, flt := n.flt } ∧ SameBut s.fltAt n.fltAt [p] ∧
      SameRegs s n (if (s.fltAt p).req.isSome then [(.FLT_STAT, p), (.FLT_EVT, p), (.FLT_CNT2, p)]
        else [(.FLT_STAT, p)])) ∧
    (f.kind = 7 → Answers .histKey s fun n =>
      let h := f.unit % 64
      done s n f ∧
      (f.arg / 4096 ≤ 3 → s.get F.HE_CFG_KEY_SRC h < 2 →
        ((s.heAt h).ops.length < 4 →
          n.heAt h = { s.heAt h with ops := opInsert (f.arg / 4096, f.arg % 4096, f.ts) (s.heAt h).ops } ∧
          n.get F.HE_STAT_WAIT_OPS h = (s.heAt h).ops.length + 1 ∧
          n = { s.till f.ts with regs := n.regs, axis := n.axis, he := n.he } ∧ SameBut s.heAt n.heAt [h] ∧
          SameRegs s n [(.HE_STAT, h)]) ∧
        (4 ≤ (s.heAt h).ops.length →
          n.on F.HE_EVT_LOST_OP h = true ∧
          n.get F.HE_CNT_LOST_OP_CNT h = min (s.get F.HE_CNT_LOST_OP_CNT h + 1) (2 ^ F.HE_CNT_LOST_OP_CNT.w - 1) ∧
          n = { s.till f.ts with regs := n.regs, axis := n.axis }))) ∧
    (f.kind = 8 → Answers .weaverSignal s fun n =>
      done s n f ∧
      (s.on F.WEA_WSTAT_RUNNING f.unit = true → F.WEA_WCFG_SIG_EN.of (s.weavAt f.unit).cfg = 1 →
        (s.weavAt f.unit).sigs.length < 16 →
        n.weavAt f.unit = { s.weavAt f.unit with sigs := (s.weavAt f.unit).sigs ++ [(f.ts, f.arg)] } ∧
        n = { s.till f.ts with regs := n.regs, axis := n.axis, weav := n.weav } ∧
        SameBut s.weavAt n.weavAt [f.unit] ∧ SameRegs s n [(.WEA_WSTAT, f.unit)]) ∧
      (s.on F.WEA_WSTAT_RUNNING f.unit = false ∨ F.WEA_WCFG_SIG_EN.of (s.weavAt f.unit).cfg = 0 →
        n.on F.WEA_WEVT_SIG_LOST f.unit = true ∧ n = { s.till f.ts with regs := n.regs, axis := n.axis })) ∧
    (f.kind = 6 → Answers .axisRecord s fun n =>
      done s n f ∧
      (bit f.unit 0 = false → s.active f.arg = true →
        n.wait.length = s.wait.length + 1 ∧ (∀ b ∈ s.wait, b ∈ n.wait) ∧
        (n.wait.getLast?.map (·.recs)) = some [{ t := f.ts, ws := s.axisWords 15 f, ev := true }] ∧
        (n.wait.getLast?.map (·.q)) = some f.arg ∧ n = { s.till f.ts with axis := n.axis, wait := n.wait }) ∧
      (bit f.unit 0 = true → s.small = false →
        (∀ b, b < 32 → (n.mergeAt b).evs = (s.mergeAt b).evs ++
          if bits (f.lg.getD (b / 4) 0).toNat (16 * (b % 4)) 16 = 0 then []
          else [{ t := f.ts, ws := s.axisWords (b / 4) f, close := bit f.unit 1, ev := true
                  mask := bits (f.lg.getD (b / 4) 0).toNat (16 * (b % 4)) 16 }]) ∧
        n = { s.till f.ts with axis := n.axis, merge := n.merge })))

/-- R133, R155, R151: At the coarse boundary at or after its instant the MARK_OUT stake that acts first on a port drives
it: a pulse, high, low or a toggle; on a port that is an input it sets CFG_ERR. A pulse ends at its width. A granted
write of a stake's match word commits the action word that was written before it with it. A granted COMMIT copies the
staging area at once while the axis is OFF or in SEEK; otherwise the copy waits for the turn boundary. -/
def Obligations.MarkPortsAndStakeTable : Prop :=
  ((∀ (s : State) (p : Nat) (f : Fired),
    firstFired (s.axis.issued.filter fun x => x.kind == 5 && x.unit == p) = some f →
    let b := s.coarseUp f.ts
    (s.markOut p = true →
      Answers (.markOut p) s fun n =>
        n.markAt p = (if f.arg / 2 ^ 14 = 0 then
            { s.markAt p with level := true, pulse := some (b + (f.arg % 2 ^ 14 + 1) * 512) }
          else { s.markAt p with
            level := if f.arg / 2 ^ 14 = 1 then true else if f.arg / 2 ^ 14 = 2 then false else !(s.markAt p).level
            pulse := none }) ∧
        n.axis = { s.axis with issued := s.axis.issued.erase f } ∧ SameBut s.markAt n.markAt [p] ∧
        n.t64 = ((s.till f.ts).till b).t64 ∧ n = { s with t64 := n.t64, axis := n.axis, mark := n.mark }) ∧
    (s.markOut p = false →
      Answers (.markOut p) s fun n =>
        n.on F.AXI_EVT_CFG_ERR 0 = true ∧ n.axis = { s.axis with issued := s.axis.issued.erase f } ∧
        n = { s.noted n with t64 := n.t64, axis := n.axis } ∧ NotedRegs s n [(.AXI_EVT, 0)])) ∧
  (∀ (s : State) (p e : Nat), (s.markAt p).pulse = some e →
    Answers (.markPulseEnd p) s fun n =>
      n.markAt p = { s.markAt p with level := false, pulse := none } ∧ SameBut s.markAt n.markAt [p] ∧
      n = { s.till e with mark := n.mark })) ∧
  ((∀ (s : State) (t m i : Nat) (v : Word), s.domOn 85 = true → s.grants m 4 (0x10000 + 16 * i) true = true →
    let a := (s.axis.shadow.find? (·.1 == i)).map (·.2)
    Answers (.stakeMatchWrite t m i v) s fun n =>
      n.reg .STAKE_MATCH i = v &&& w64 (Reg.desc .STAKE_MATCH).rw ∧
      n.reg .STAKE_ACTION i = a.getD (s.reg .STAKE_ACTION i) ∧
      n.axis = { s.axis with shadow := if a.isSome then s.axis.shadow.filter (·.1 != i) else s.axis.shadow } ∧
      n = { s.till t with regs := n.regs, axis := n.axis, shad := n.shad } ∧
      SameRegs s n [(.STAKE_MATCH, i), (.STAKE_ACTION, i)]) ∧
  (∀ (s : State) (t m : Nat), s.domOn 85 = true → s.grants m 4 0x20 true = true →
    (s.axisState ≤ 1 → s.wf = true →
      Answers (.commit t m) s fun n =>
        (∀ i, n.reg .STAKE_MATCH i = s.reg .STG_MATCH i ∧ n.reg .STAKE_ACTION i = s.reg .STG_ACTION i ∧
          n.reg .AXI_LG i = s.reg .STG_LG i) ∧
        n.on F.AXI_EVT_COMMIT_DONE 0 = true ∧ n.on F.AXI_CTRL_COMMIT 0 = false ∧
        n = { (s.till t).noted n with shad := n.shad } ∧
        ∀ r i, noteReg r = false → r ≠ Reg.STAKE_MATCH → r ≠ Reg.STAKE_ACTION → r ≠ Reg.AXI_LG →
          (r, i) ≠ (Reg.AXI_CTRL, 0) → (r, i) ≠ (Reg.AXI_EVT, 0) → n.reg r i = s.reg r i) ∧
    (1 < s.axisState →
      Answers (.commit t m) s fun n =>
        n.on F.AXI_CTRL_COMMIT 0 = true ∧ n = { s.till t with regs := n.regs, shad := n.shad } ∧
        SameRegs s n [(.AXI_CTRL, 0)])))

/-- R168, R174, Table WEA-4, R175: An arithmetic instruction writes to rd what the table gives of ra and rb, of ra and
the immediate, or of the bits that a position and a width name, and the program goes on at the next word. A write of
g0 is discarded. Nothing but the weaver changes. A branch whose condition holds goes on at pc + offset, where that is
in 0 to 1,023, and else at the next word; J goes to its target. No register changes. -/
def Obligations.WeaverComputes : Prop :=
  (∀ (s : State) (w sl i : Nat) (x : WSlot),
    let a := s.wregOf w x (fRa i)
    let b := s.wregOf w x (fRb i)
    let d := s.wregOf w x (fRd i)
    let k := fImm i
    let pos := bits i 0 6
    let width := bits i 6 6 + 1
    (∀ p ∈ ([(.add, .add, a + b), (.sub, .sub, a - b), (.andOp, .and, a &&& b), (.orOp, .or, a ||| b),
        (.xorOp, .xor, a ^^^ b), (.shl, .shl, a <<< (b.toNat % 64)), (.shr, .shr, a >>> (b.toNat % 64)),
        (.sar, .sar, a.sshiftRight (b.toNat % 64)), (.mul, .mul, w64 (a.toNat * b.toNat)),
        (.minu, .minu, w64 (min a.toNat b.toNat)), (.maxu, .maxu, w64 (max a.toNat b.toNat)),
        (.sltu, .sltu, if a.toNat < b.toNat then 1 else 0), (.slt, .slt, if a.toInt < b.toInt then 1 else 0),
        (.seq, .seq, if a = b then 1 else 0)] : List ((Nat → Nat → Instr) × WOp × Word)),
      s.atWord w sl x i p.2.1 → Answers (p.1 w sl) s fun n => s.ran w sl x (fRd i) p.2.2 (x.pc + 1) n) ∧
    (∀ p ∈ ([(.addi, .addi, w64 (sfield 64 (a.toNat + sval 16 k))), (.andi, .andi, a &&& w64 k),
        (.ori, .ori, a ||| w64 k), (.xori, .xori, a ^^^ w64 k), (.shli, .shli, a <<< (k % 64)),
        (.shri, .shri, a >>> (k % 64)), (.sari, .sari, a.sshiftRight (k % 64)),
        (.ldih, .ldih, Fld.put ⟨.WEA_LOCAL, 16 * bits i 16 2, 16⟩ d k),
        (.ext, .ext, w64 (a.toNat / 2 ^ pos % 2 ^ width)),
        (.exts, .exts, w64 (sfield 64 (sval width (a.toNat / 2 ^ pos)))),
        (.ins, .ins, Fld.put ⟨.WEA_LOCAL, pos, width⟩ d a.toNat)] :
        List ((Nat → Nat → Instr) × WOp × Word)),
      s.atWord w sl x i p.2.1 → Answers (p.1 w sl) s fun n => s.ran w sl x (fRd i) p.2.2 (x.pc + 1) n)) ∧
  (∀ (s : State) (w sl i : Nat) (x : WSlot),
    let a := s.wregOf w x (fRd i)
    let b := s.wregOf w x (fRa i)
    (∀ p ∈ ([(.beq, .beq, decide (a = b), 16), (.bne, .bne, decide (a ≠ b), 16),
        (.bltu, .bltu, decide (a.toNat < b.toNat), 16), (.bgeu, .bgeu, decide (b.toNat ≤ a.toNat), 16),
        (.blt, .blt, decide (a.toInt < b.toInt), 16), (.bge, .bge, decide (b.toInt ≤ a.toInt), 16),
        (.bbs, .bbs, bit a.toNat (bits i 15 6), 15), (.bbc, .bbc, !bit a.toNat (bits i 15 6), 15),
        (.beqi, .beqi, decide (a.toNat = bits i 13 8), 13), (.bnei, .bnei, decide (a.toNat ≠ bits i 13 8), 13)] :
        List ((Nat → Nat → Instr) × WOp × Bool × Nat)),
      s.atWord w sl x i p.2.1 →
        let t := (x.pc : Int) + sval p.2.2.2 (bits i 0 p.2.2.2)
        (p.2.2.1 = true → 0 ≤ t → t ≤ 1023 → Answers (p.1 w sl) s fun n => s.ran w sl x 0 0 t.toNat n) ∧
        (p.2.2.1 = false → Answers (p.1 w sl) s fun n => s.ran w sl x 0 0 (x.pc + 1) n)) ∧
    (s.atWord w sl x i .j → Answers (.j w sl) s fun n => s.ran w sl x 0 0 (bits i 0 10) n))

/-- R172 to R174, R169, R176 to R179, R183: LD and ST reach the local word at (ra + simm16) mod 512, LUT that of a
table at ra >> ISHIFT, RDS the values of Table WEA-1, RDL the lane tables, which for a block weaver read 0 of another
ward's lanes; SIGNAL sets its bit of WEVT. An emission that is well formed and granted waits with its record, in
program order, and the program goes on, or ends with E = 1; EMITI with M = 1 emits to the queues that the lane map
gives. YIELD ends the program, DROP ends it and discards the record. -/
def Obligations.WeaverReadsWritesAndEmits : Prop :=
  (∀ (s : State) (w sl i : Nat) (x : WSlot),
    let a := s.wregOf w x (fRa i)
    let ad := ((a.toNat + sval 16 (fImm i)) % 512).toNat
    (s.atWord w sl x i .ld → Answers (.ld w sl) s fun n =>
      s.ran w sl x (fRd i) (s.reg .WEA_LOCAL (512 * w + ad)) (x.pc + 1) n) ∧
    (s.atWord w sl x i .st → Answers (.st w sl) s fun n =>
      n.reg .WEA_LOCAL (512 * w + ad) = s.wregOf w x (fRd i) ∧ SameRegs s n [(.WEA_LOCAL, 512 * w + ad)] ∧
      { s with regs := n.regs }.ran w sl x 0 0 (x.pc + 1) n) ∧
    (s.atWord w sl x i .lut → Answers (.lut w sl) s fun n =>
      let t := 8 * w + bits i 0 3
      let idx := a.toNat / 2 ^ s.get F.WEA_TD_ISHIFT t % 2 ^ min 9 (s.get F.WEA_TD_SIZE_LOG2 t)
      s.ran w sl x (fRd i) (s.reg .WEA_LOCAL (512 * w + (s.get F.WEA_TD_BASE t + idx) % 512)) (x.pc + 1) n) ∧
    (s.atWord w sl x i .rds → Answers (.rds w sl) s fun n =>
      let v := match bits i 0 4 with
        | 0 => w64 s.t64
        | 1 => s.posAt (if w < 32 then x.r.time else s.unstamp x.r.time)
        | 2 => recInfo x.r
        | 3 => w64 (if w < 32 then s.stamp x.r.time else x.r.time)
        | 4 => w64 (s.stamp x.r.hor)
        | _ => w64 (if w < 32 then w else 64 + (w - 32))
      s.ran w sl x (fRd i) v (x.pc + 1) n) ∧
    (s.atWord w sl x i .rdl → Answers (.rdl w sl) s fun n =>
      let l := a.toNat % 512
      let v : Word := if (w < 32 ∧ l / 64 ≠ w / 4) ∨ s.laneAbsent l = true then 0 else match bits i 0 4 with
        | 0 => s.reg .WEA_LMAP l
        | 1 => F.CAL_LSTAT_STATE.put (s.reg .CAL_LSTAT l) (s.calState l)
        | 2 => s.reg .CAP_STAT l
        | _ => s.reg .FRE_STAT l
      s.ran w sl x (fRd i) v (x.pc + 1) n) ∧
    (s.atWord w sl x i .signal → Answers (.signal w sl) s fun n =>
      bit (n.reg .WEA_WEVT w).toNat (8 + bits i 0 4) = true ∧ SameRegs s n [(.WEA_WEVT, w)] ∧
      { s with regs := n.regs }.ran w sl x 0 0 (x.pc + 1) n)) ∧
  (∀ (s : State) (w sl i : Nat) (x : WSlot),
    let emitted := fun (qs : List Nat) (ws : List Word) (o c e : Bool) => { s.weavAt w with
      slots := (s.weavAt w).slots.set sl (some { x with
        emits := x.emits ++ qs.map fun q => { q := q, ws := ws, o := o, c := c }
        count := x.count + 1, pc := if e then x.pc else x.pc + 1, ended := e
        dropd := if e then false else x.dropd }) }
    let granted := fun (q : Nat) => s.grants (weavMaster w) (20 + q / 512) (q % 512) true = true
    (∀ ws, s.atWord w sl x i .emit → emitWords x (bits i 18 3) = some ws → s.autoSplit w = true →
      granted ((s.wregOf w x (fRd i)).toNat % 2 ^ 16) →
      Answers (.emit w sl) s fun n =>
        n.weavAt w = emitted [(s.wregOf w x (fRd i)).toNat % 2 ^ 16] ws (bit i 17) (bit i 16) (bit i 15) ∧
        n = { s with weav := n.weav } ∧ SameBut s.weavAt n.weavAt [w]) ∧
    (∀ ws, s.atWord w sl x i .emiti → emitWords x (bits i 19 3) = some ws → s.autoSplit w = true →
      bit i 24 = false → granted (fImm i) →
      Answers (.emiti w sl) s fun n =>
        n.weavAt w = emitted [fImm i] ws (bit i 23) (bit i 22) (bit i 25) ∧
        n = { s with weav := n.weav } ∧ SameBut s.weavAt n.weavAt [w]) ∧
    (∀ ws l, s.atWord w sl x i .emiti → emitWords x (bits i 19 3) = some ws → s.autoSplit w = true →
      bit i 24 = true → w < 32 → x.r.lane = some l →
      (∀ q ∈ s.mapped l (recClass (x.h.getD 0 0)) true, granted q) →
      Answers (.emiti w sl) s fun n =>
        n.weavAt w =
          emitted (s.mapped l (recClass (x.h.getD 0 0)) true) ws (bit i 23) (bit i 22) (bit i 25) ∧
        n = { s with weav := n.weav } ∧ SameBut s.weavAt n.weavAt [w]) ∧
    (s.atWord w sl x i .yield → Answers (.yield w sl) s fun n =>
      n.weavAt w = { s.weavAt w with
        slots := (s.weavAt w).slots.set sl (some { x with count := x.count + 1, ended := true, dropd := false }) } ∧
      n = { s with weav := n.weav } ∧ SameBut s.weavAt n.weavAt [w]) ∧
    (s.atWord w sl x i .drop → Answers (.drop w sl) s fun n =>
      n.weavAt w = { s.weavAt w with
        slots := (s.weavAt w).slots.set sl (some { x with count := x.count + 1, ended := true, dropd := true }) } ∧
      n = { s with weav := n.weav } ∧ SameBut s.weavAt n.weavAt [w]))

/-- R170, R175, R189 to R191: where the oldest record in hand stands at a word that is not legal, or has used up its
budget, the weaver faults: the cause, the place and the time are captured, it runs no longer and has nothing in hand,
and its open bundles are rewound. A block weaver falls back, and its records go to the fast path behind an EVENT; a
plaza weaver falls back where FB_EN says so. -/
def Obligations.WeaverFaults : Prop :=
  ∀ (s : State) (w sl : Nat) (x : WSlot), s.slotOf w sl = some x → x.ended = false → s.oldest w sl = true →
    x.pc < 1024 →
    let budget := F.WEA_WCFG_BUDGET.of (s.weavAt w).cfg
    let word := (s.reg .WEA_PROG (1024 * w + x.pc)).toNat % 2 ^ 32
    let captured := fun (cause : Nat) (n : State) =>
      n.reg .WEA_WFAULT w = w64 (cause + x.pc * 8 + sl % 4 * 2 ^ 13 + word * 2 ^ 32) ∧
      n.reg .WEA_WFTIME w = w64 (if w < 32 then s.stamp x.r.time else x.r.time) ∧ n.on F.WEA_WSTAT_FAULTED w = true ∧
      n.on F.WEA_WSTAT_RUNNING w = false ∧ n.on F.WEA_WCTRL_RUN w = false ∧
      n.on F.WEA_WSTAT_FALLBACK w =
        (decide (w < 32) || s.on F.WEA_PCFG_FB_EN w || s.on F.WEA_WSTAT_FALLBACK w) ∧
      n.on F.WEA_WEVT_FAULT w = true ∧ (n.weavAt w).slots = [none, none, none, none] ∧ (n.weavAt w).intake = [] ∧
      n.get F.WEA_WCNT1_FAULT_CNT w = min (s.get F.WEA_WCNT1_FAULT_CNT w + 1) (2 ^ F.WEA_WCNT1_FAULT_CNT.w - 1) ∧
      (w < 32 → ((n.mergeAt w).fb.drop (s.mergeAt w).fb.length).head?.map (·.t) = some x.r.time) ∧
      (∀ b ∈ n.open_, b.producer ≠ weavProducer w) ∧ n.store = s.store ∧ n.t64 = s.t64
    (wdecode word = none → x.count < (if budget = 0 then 1024 else budget) →
      Answers (.add w sl) s fun n => captured 1 n) ∧
    ((if budget = 0 then 1024 else budget) ≤ x.count → Answers (.add w sl) s fun n => captured 2 n)

/-- R167, R166, R169, R178, R179, R182, R185, R192, R193: The first record of the intake takes the first free slot at
its entry point with g1 to g7 at 0, and a plaza weaver's next records move up. The oldest record whose program has
ended retires, and its slot is free: its emissions enter their bundles, an open one or a new one where a buffer is to
be had, and the record is counted. A signal enters the intake once the merge horizon has reached its time. A bundle
closes once the horizon has gone on by more than 2^FLUSH_EXP, with that horizon, but not below that of the weaver's
bundle before it. A granted write of RUN = 1 starts a weaver that is stopped, with the configuration and entry points
written, and nothing in hand, or once it has halted; RUN = 0 stops it: it takes no more records, and pending signals
are discarded. Once its records have retired it halts: its bundles close and HALTED is set. -/
def Obligations.WeaverTakesStartsAndStops : Prop :=
  let uncut := fun (s : State) (w : Nat) => ∀ b ∈ s.open_, b.producer = weavProducer w → b.cut = none
  let counted := fun (s n : State) (w : Nat) (x : WSlot) =>
    n.get F.WEA_WCNT0_REC_CNT w = (s.get F.WEA_WCNT0_REC_CNT w + (if x.r.kind = 0 then 1 else 0)) %
        2 ^ F.WEA_WCNT0_REC_CNT.w ∧
      n.get F.WEA_WCNT0_PDROP_CNT w =
        min (s.get F.WEA_WCNT0_PDROP_CNT w + (if x.dropd then 1 else 0)) (2 ^ F.WEA_WCNT0_PDROP_CNT.w - 1)
  ((∀ (s : State) (w sl : Nat) (r : WRec) (rest : List WRec), (s.weavAt w).intake = r :: rest →
    ((List.range 4).find? fun i => (s.slotOf w i).isNone) = some sl →
    let e := (s.weavAt w).entry
    Answers (.weaverRecordLoad w) s fun n =>
      n.weavAt w = { s.weavAt w with
        intake := rest ++ (s.weavAt w).feed.take (64 - rest.length)
        feed := (s.weavAt w).feed.drop (64 - rest.length)
        slots := (s.weavAt w).slots.set sl (some {
          r := r, g := [0, 0, 0, 0, 0, 0, 0], h := r.h, count := 0, emits := [], ended := false
          pc := if r.kind = 0 then F.WEA_WENTRY_REC_PC.of e
            else if r.kind = 1 then F.WEA_WENTRY_SIG_PC.of e else F.WEA_WENTRY_BEND_PC.of e }) } ∧
      n = { s with regs := n.regs, weav := n.weav } ∧ SameBut s.weavAt n.weavAt [w] ∧
      SameRegs s n [(.WEA_WSTAT, w)]) ∧
  (∀ (s : State) (w sl : Nat) (x : WSlot), (List.range 4).find? (s.oldest w) = some sl → s.slotOf w sl = some x →
    x.ended = true →
    (x.emits = [] →
      Answers (.weaverRetire w) s fun n =>
        n.slotOf w sl = none ∧ counted s n w x ∧
        (uncut s w → (s.weavAt w).writes = [] → F.WEA_WCFG_FLUSH_EXP.of (s.weavAt w).cfg = 0 →
          n.weavAt w = { s.weavAt w with slots := (s.weavAt w).slots.set sl none } ∧
          n = { s with regs := n.regs, weav := n.weav } ∧ SameBut s.weavAt n.weavAt [w] ∧
          SameRegs s n [(.WEA_WSTAT, w), (.WEA_WCNT0, w)])) ∧
    (∀ (q : Nat) (ws : List Word), x.emits = [{ q := q, ws := ws, o := false, c := false }] → ws ≠ [] →
      uncut s w → (s.weavAt w).writes = [] → F.WEA_WCFG_FLUSH_EXP.of (s.weavAt w).cfg = 0 →
      3 + ws.length ≤ s.weavMax w →
      let r : Rec := { t := bits (ws.headD 0).toNat 0 47, ws := ws }
      (∀ b, s.openOf (weavProducer w) q = some b → b.dead = false → b.len + ws.length ≤ s.weavMax w →
        Answers (.weaverRetire w) s fun n =>
          n.open_ = (s.open_.filter fun y => !(y.producer == weavProducer w && y.q == q)) ++
            [{ b with recs := b.recs ++ [r] }] ∧
          n.weavAt w = { s.weavAt w with slots := (s.weavAt w).slots.set sl none } ∧ counted s n w x ∧
          n = { s with regs := n.regs, open_ := n.open_, weav := n.weav } ∧ SameBut s.weavAt n.weavAt [w] ∧
          SameRegs s n [(.WEA_WSTAT, w), (.WEA_WCNT0, w), (.WEA_WCNT1, w)]) ∧
      (w < 40 → s.openOf (weavProducer w) q = none → s.canOpen (weavProducer w) q = true → s.active q = true →
        (s.open_.filter (·.producer == weavProducer w)).length < 8 →
        Answers (.weaverRetire w) s fun n =>
          (n.openOf (weavProducer w) q).map (fun b => (b.recs, b.floor, b.openT)) =
            some ([r], (s.prevHor (weavProducer w) q).getD (s.weavHor w), s.t64) ∧
          (∀ b ∈ s.open_, b ∈ n.open_) ∧
          n.weavAt w = { s.weavAt w with slots := (s.weavAt w).slots.set sl none } ∧ counted s n w x))) ∧
  (∀ (s : State) (t w ts arg : Nat) (rest : List (Nat × Nat)), (s.weavAt w).sigs = (ts, arg) :: rest →
    let hor := (s.till t).weavHor w
    let time := if w < 32 then ts else s.stamp ts
    ts ≤ hor → (s.weavAt w).intake.length < 64 → (s.weavAt w).feed = [] →
    Answers (.signalEntry t w) s fun n =>
      n.weavAt w = { s.weavAt w with
        sigs := rest, seq := (s.weavAt w).seq + 1
        intake := (s.weavAt w).intake ++ [{
          kind := 1, h := [w64 arg, w64 (s.stamp ts), 0, 0], words := 0, lane := none, close := false, input := 0
          time := time, hor := hor, seq := (s.weavAt w).seq, src := { t := time, ws := [] } }] } ∧
      n = { s.till t with regs := n.regs, weav := n.weav, prog := n.prog } ∧ SameBut s.weavAt n.weavAt [w] ∧
      SameRegs s n [(.WEA_WSTAT, w)]) ∧
  (∀ (s : State) (t w q e : Nat) (b : Bundle), s.openOf (weavProducer w) q = some b → b.dead = false → uncut s w →
    flushExp (F.WEA_WCFG_FLUSH_EXP.of (s.weavAt w).cfg) = some e →
    let hor := (s.till t).weavHor w
    b.openH + 2 ^ e < hor →
    Answers (.weaverFlush t w q) s fun n =>
      n.open_ = (s.open_.filter fun y => !(y.producer == weavProducer w && y.q == q)) ∧
      n.wait = s.wait ++ [{ b with
        horizon := max hor ((s.prevHor (weavProducer w) q).getD 0), closedT := (s.till t).t64 }] ∧
      n = { s.till t with regs := n.regs, open_ := n.open_, wait := n.wait, que := n.que, prog := n.prog, weav := n.weav } ∧
      SameRegs s n [(.WEA_WSTAT, w)])) ∧
  ((∀ (s : State) (t m w : Nat), s.domOn (weavPd w) = true → s.grants m 5 (weavArea w + 0x118) true = true →
    s.weavAbsent w = false → s.on F.WEA_WCTRL_RUN w = false →
    Answers (.weaverRunStart t m w) s fun n =>
      n.on F.WEA_WCTRL_RUN w = true ∧
      ((s.weavAt w).stop = false →
        n.on F.WEA_WSTAT_RUNNING w = true ∧ n.on F.WEA_WSTAT_FAULTED w = false ∧
        n.on F.WEA_WSTAT_FALLBACK w = false ∧
        n.weavAt w = { cfg := s.reg .WEA_WCFG w, entry := s.reg .WEA_WENTRY w } ∧
        n = { s.till t with regs := n.regs, weav := n.weav, shad := n.shad } ∧ SameBut s.weavAt n.weavAt [w] ∧
        SameRegs s n [(.WEA_WCTRL, w), (.WEA_WSTAT, w)]) ∧
      ((s.weavAt w).stop = true →
        n = { s.till t with regs := n.regs, shad := n.shad } ∧ SameRegs s n [(.WEA_WCTRL, w)])) ∧
  (∀ (s : State) (t m w : Nat), s.domOn (weavPd w) = true → s.grants m 5 (weavArea w + 0x118) true = true →
    Answers (.weaverRunStop t m w) s fun n =>
      n.on F.WEA_WCTRL_RUN w = false ∧
      (s.on F.WEA_WCTRL_RUN w = true → s.on F.WEA_WSTAT_RUNNING w = true →
        n.on F.WEA_WSTAT_RUNNING w = false ∧ (n.weavAt w).stop = true ∧
        (n.weavAt w).sigs = [] ∧ (n.weavAt w).feed = [] ∧ (n.weavAt w).intake = (s.weavAt w).intake ∧
        (n.weavAt w).slots = (s.weavAt w).slots) ∧
      n = { s.till t with regs := n.regs, weav := n.weav, shad := n.shad } ∧
      SameBut s.weavAt n.weavAt [w] ∧ SameRegs s n [(.WEA_WCTRL, w), (.WEA_WSTAT, w), (.WEA_WEVT, w)]) ∧
  (∀ (s : State) (t w : Nat), (s.weavAt w).stop = true → (s.weavAt w).unretired = [] →
    Answers (.halted t w) s fun n =>
      (n.weavAt w).stop = false ∧ n.on F.WEA_WEVT_HALTED w = true ∧
      n.on F.WEA_WSTAT_RUNNING w = (s.on F.WEA_WCTRL_RUN w || s.on F.WEA_WSTAT_RUNNING w) ∧
      ((s.weavAt w).ends = [] → (s.weavAt w).unrel = [] →
        (∀ b ∈ n.open_, b.producer ≠ weavProducer w) ∧ n.t64 = (s.till t).t64 ∧ n.store = s.store)))

/-- R186, R187, R396: a running plaza weaver none of whose output waits for an assembly buffer takes the next bundle of
its inputs, up to a word that cannot be read: the words stay in the queue, and the weaver's place in it moves past
them; with nothing to take it shows which input it waits for. When its records have retired the bundle's end is
reached, and once the output bundles that were open then have closed, the words are released, each input's in order. -/
def Obligations.PlazaWeaverInputs : Prop :=
  (∀ (s : State) (t w i : Nat), 32 ≤ w → s.on F.WEA_WSTAT_RUNNING w = true →
    s.back.any (·.1 == weavProducer w) = false → s.nextPin w = some i →
    let next := s.peek (s.pinQueue w i) ((s.weavAt w).ahead.getD i 0)
    (next = none →
      Answers (.plazaBundleTake t w) s fun n =>
        n.on F.WEA_WSTAT_WAITING w = true ∧ n.get F.WEA_WSTAT_WAIT_IN w = i % 2 ^ F.WEA_WSTAT_WAIT_IN.w ∧
        n = { s.till t with regs := n.regs } ∧ SameRegs s n [(.WEA_WSTAT, w)]) ∧
    (∀ b, next = some (some b) →
      s.on F.WEA_PCFG_HIST_EN w = false ∨ (∀ r ∈ b.recs, bits (r.getD 0 0).toNat 60 4 ≠ 10) →
      Answers (.plazaBundleTake t w) s fun n =>
        (n.weavAt w).taken = (s.weavAt w).taken.set i (some ((s.till t).unstamp b.hor)) ∧
        (n.weavAt w).ahead = (s.weavAt w).ahead.modify i (· + b.len) ∧
        (n.weavAt w).unretired.length = (s.weavAt w).unretired.length +
          (b.recs.filter fun r => bits (r.getD 0 0).toNat 60 4 != 10).length + b2n (s.on F.WEA_PCFG_BEND_EN w) ∧
        n.on F.WEA_WSTAT_WAITING w = false ∧ SameBut s.weavAt n.weavAt [w] ∧
        n.get F.QD_RD_RD (s.pinQueue w i) = s.get F.QD_RD_RD (s.pinQueue w i) ∧
        (b.errs = [] → n = { s.till t with regs := n.regs, weav := n.weav } ∧
          SameRegs s n [(.WEA_WSTAT, w), (.WEA_WCNT0, w)]))) ∧
  (∀ (s : State) (t w i k h seq : Nat) (hd tr : Word) (rest : List (Nat × Nat × Nat × Word × Word × Nat)),
    (s.weavAt w).ends = (i, k, h, hd, tr, seq) :: rest → ((s.weavAt w).unretired.any (·.seq < seq)) = false →
    Answers (.bundleEnd t w) s fun n =>
      (n.weavAt w).ends = rest ∧ (n.weavAt w).ended = (s.weavAt w).ended.set i (some h) ∧
      (s.on F.WEA_PCFG_BEND_CLOSE w = true →
        (∀ b ∈ n.open_, b.producer ≠ weavProducer w) ∧ (n.weavAt w).unrel.getLast? = some (i, k, h, [])) ∧
      (s.on F.WEA_PCFG_BEND_CLOSE w = false →
        n.weavAt w = { s.weavAt w with
          ends := rest, ended := (s.weavAt w).ended.set i (some h)
          unrel := (s.weavAt w).unrel ++
            [(i, k, h, (s.open_.filter (·.producer == weavProducer w)).map (·.q))] } ∧
        n = { s.till t with regs := n.regs, weav := n.weav } ∧ SameBut s.weavAt n.weavAt [w] ∧
        SameRegs s n [(.WEA_WSTAT, w)])) ∧
  (∀ (s : State) (t w i k h : Nat) (a b : List (Nat × Nat × Nat × List Nat)),
    (s.weavAt w).unrel = a ++ (i, k, h, []) :: b → (∀ x ∈ a, x.1 ≠ i ∧ x.2.2.2 ≠ []) →
    let q := s.pinQueue w i
    s.qk q ≤ 26 →
    Answers (.inputRelease t w) s fun n =>
      n.weavAt w = { s.weavAt w with
        unrel := a ++ b, ahead := (s.weavAt w).ahead.modify i (· - k), rel := (s.weavAt w).rel.set i (some h) } ∧
      n.get F.QD_RD_RD q = (s.get F.QD_RD_RD q + k) % 2 ^ (s.qk q + 1) ∧
      n.get F.QD_WR_CWR q = s.get F.QD_WR_CWR q ∧ n.store = s.store ∧ n.open_ = s.open_ ∧
      SameBut s.weavAt n.weavAt [w])

/-- R197, R198, R200, R202, R205 to R207: a pipeline for which no reset and no assembly buffer's record waits takes the
one record of the next bundle of its input queue, and the bundle is released. In filter mode with no stage in its
banks, what it appends to its output, in a new bundle, is the sample's value relative to the reference, by gain and
offset of the bank in force, rounded and clamped, at the sample's time moved by TOFS; the sample and the output are
counted. A record that it does not select leaves all but the queue as it was. -/
def Obligations.FilterTakesRecords : Prop :=
  ∀ (s : State) (t p : Nat) (b : QBundle) (r : List Word), (s.fltAt p).on = true → s.on F.FLT_STAT_CFG_ERR p = false →
    (s.fltAt p).inp.busy = false → (s.fltAt p).rsts = [] → s.back.any (·.1 == fltProducer p) = false →
    b.errs = [] → b.recs = [r] →
    let x := s.fltAt p
    let q := F.FLT_IO_IN_Q.of x.io
    let out := F.FLT_IO_OUT_Q.of x.io
    s.boundTo q 3 p = true → s.peek q 0 = some (some b) → s.qk q ≤ 26 →
    let released := fun (n : State) => n.get F.QD_RD_RD q = (s.get F.QD_RD_RD q + b.len) % 2 ^ (s.qk q + 1) ∧
      n.get F.QD_WR_CWR q = s.get F.QD_WR_CWR q ∧ n.store = s.store ∧ n.t64 = (s.till t).t64
    let ep := s.epochOf q (x.inp.start b).next.1.ep
    (selects x.sel ep r = none →
      Answers (.fltRecord t p) s fun n => released n ∧ n.open_ = s.open_ ∧ n.wait = s.wait ∧
        (n.fltAt p).bankA = x.bankA ∧ (n.fltAt p).out = x.out ∧ n.reg .FLT_CNT0 p = s.reg .FLT_CNT0 p) ∧
    (∀ smp, selects x.sel ep r = some smp → smp.q ≤ 2 →
      (∀ k ∈ smp.seq, ∀ a ∈ x.prev, k.1 = (a + 1) % 2 ^ k.2) →
      F.FLT_CFG_MODE.of x.cfg = 0 → s.stages p false = 0 → s.stages p true = 0 → s.on F.FLT_STAT_BANK p = false →
      x.xf = none → x.req = none → x.out = none → x.evt = [] → s.active out = true →
      s.openOf (fltProducer p) out = none → s.canOpen (fltProducer p) out = true → 5 ≤ F.FLT_IO_BMAX.of x.io →
      let v := (smp.f + 2 ^ 64 - x.xref.toNat) % 2 ^ 64
      let tx := (s.till t).near ((smp.t : Int) + sval 48 x.tofs.toNat)
      let k := bankIdx p false 0
      let y := sat64 (rnd (sval 64 v * (s.get F.FLT_GAIN_GAIN k : Nat)) (2 ^ 16) + sval 64 (s.reg .FLT_OFFSET k).toNat)
      (s.till t).stakeFirst 4 p tx = false →
      Answers (.fltRecord t p) s fun n => released n ∧
        n.open_.getLast?.map (·.recs) =
          some [filtRec p tx (smp.q + 4 * b2n y.2) (w64 (sfield 64 y.1))] ∧
        n.open_.getLast?.map (fun b => (b.producer, b.q)) = some (fltProducer p, out) ∧
        n.open_.length = s.open_.length + 1 ∧ (n.fltAt p).out = some tx ∧ (n.fltAt p).good = v ∧
        n.reg .FLT_CNT0 p = s.reg .FLT_CNT0 p + 1 ∧ n.reg .FLT_CNT1 p = s.reg .FLT_CNT1 p + 1 ∧
        n.wait = s.wait ∧ SameBut s.fltAt n.fltAt [p])

/-- R207, R208, R209, R211, R212, R214: the open bundle of a pipeline closes once the latest sample time has gone on
past FLUSH_EXP. A granted CTRL.RESET asks for a synchronising reset at the time of the write: it waits while an earlier
sample can still come, and takes place where none can. A granted CTRL.SWAP asks for a bank swap with the cross-fade
that it names, at most 4,096, in place of one that waits. A granted write of a bank word is taken in the shadow bank,
which starts again, its combs in the store area of a running filter at 0, and ignored in the bank in force and during a
cross-fade. -/
def Obligations.FilterControl : Prop :=
  (∀ (s : State) (p e : Nat) (b : Bundle), flushExp (F.FLT_IO_FLUSH_EXP.of (s.fltAt p).io) = some e →
    s.openOf (fltProducer p) (F.FLT_IO_OUT_Q.of (s.fltAt p).io) = some b → b.openH + 2 ^ e < s.progAt (fltProducer p) →
    b.dead = false →
    Answers (.fltBundleFlush p) s fun n =>
      n.open_ = s.open_.filter (fun x => !(x.producer == b.producer && x.q == b.q)) ∧
      n.wait = s.wait ++ [{ b with
        closedT := s.t64
        horizon := max ((b.recs.getLast?.map (·.t)).getD b.openH) ((s.prevHor b.producer b.q).getD 0) }] ∧
      n = { s with open_ := n.open_, wait := n.wait, que := n.que, weav := n.weav }) ∧
  (∀ (s : State) (t m p : Nat), s.domOn 87 = true → s.grants m 6 (p * 0x200 + 0x30) true = true →
    let now := (s.till t).t64
    let x := s.fltAt p
    ((∀ tr ∈ x.rsts ++ [now], (s.till t).fltPast p tr = false) →
      Answers (.fltCtrlReset t m p) s fun n =>
        n.fltAt p = { x with rsts := x.rsts ++ [now] } ∧
        n = { s.till t with flt := n.flt, shad := n.shad } ∧ SameBut s.fltAt n.fltAt [p]) ∧
    ((∀ tr ∈ x.rsts ++ [now], (s.till t).fltPast p tr = true) →
      Answers (.fltCtrlReset t m p) s fun n =>
        (n.fltAt p).rsts = [] ∧ n.on F.FLT_EVT_RESET p = true ∧ n.on F.FLT_STAT_XFADING p = false ∧
        (n.fltAt p).cfg = s.reg .FLT_CFG p ∧ (n.fltAt p).sel = s.reg .FLT_SEL p ∧ (n.fltAt p).io = s.reg .FLT_IO p ∧
        (n.fltAt p).bankA = {} ∧ (n.fltAt p).bankB = {} ∧ (n.fltAt p).evt = x.evt ++ x.rsts ++ [now] ∧
        n.t64 = now ∧ SameBut s.fltAt n.fltAt [p])) ∧
  (∀ (s : State) (t m p k : Nat), s.domOn 87 = true → s.grants m 6 (p * 0x200 + 0x30) true = true →
    Answers (.fltCtrlSwap t m p k) s fun n =>
      n.fltAt p = { s.fltAt p with req := some ((s.till t).t64, min (k % 2 ^ 13) 4096) } ∧
      n.on F.FLT_STAT_PENDING p = true ∧
      ((s.fltAt p).req.isSome = true → n.on F.FLT_EVT_REPL p = true ∧
        n.get F.FLT_CNT2_REPL_CNT p = min (s.get F.FLT_CNT2_REPL_CNT p + 1) (2 ^ F.FLT_CNT2_REPL_CNT.w - 1)) ∧
      n = { s.till t with regs := n.regs, flt := n.flt, shad := n.shad } ∧ SameBut s.fltAt n.fltAt [p] ∧
      SameRegs s n (if (s.fltAt p).req.isSome then [(.FLT_STAT, p), (.FLT_EVT, p), (.FLT_CNT2, p)]
        else [(.FLT_STAT, p)])) ∧
  (∀ (s : State) (t m a i : Nat) (r : Reg) (v : Word), s.domOn 87 = true → s.grants m 6 a true = true →
    bankWord a = some (r, i) →
    let p := i / 8
    let x := s.fltAt p
    let bankB : Bool := decide (4 ≤ i % 8)
    let combs := combAt x.io bankB 0 0
    let live := x.on && F.FLT_CFG_MODE.of x.cfg != 2
    (x.xf = none → bankB ≠ s.on F.FLT_STAT_BANK p →
      Answers (.shadowBankWrite t m a v) s fun n =>
        n.reg r i = v &&& w64 r.desc.rw ∧
        n.fltAt p = (if bankB then { x with bankB := {} } else { x with bankA := {} }) ∧
        (∀ k, n.storeAt k = if live = true ∧ combs ≤ k ∧ k < combs + 2 ^ 19 then 0 else s.storeAt k) ∧
        n = { s.till t with regs := n.regs, flt := n.flt, shad := n.shad, store := n.store, ue := n.ue, ce := n.ce } ∧
        SameBut s.fltAt n.fltAt [p] ∧ SameRegs s n [(r, i)]) ∧
    (x.xf.isSome = true ∨ bankB = s.on F.FLT_STAT_BANK p →
      Answers (.shadowBankWrite t m a v) s fun n => n = { s.till t with shad := n.shad }))

/-- R197, R220, R221, R222, R223, R224: A histogram engine that counts records takes the one record of the next bundle
of its input queue: a key inside its range adds one to its bin and to TOTAL, MIN and MAX follow, and the bundle is
released. An operation that reaches an engine counting records, by a granted write of CTRL.OP or at the period of
SNAP_EXP, waits in order of time, as one behind another does, and a fifth is lost; an engine that follows a queue and
has nothing waiting carries it out at once. The first waiting operation takes effect once the engine's input has
reached its time: COUNT adds one to the bin that it names, SNAPSHOT takes the words of a HIST record. When the record
has been written, in a bundle of its own, SNAP_DONE is set and the engine goes on. -/
def Obligations.Histograms : Prop :=
  let heRegs : List Reg := [.HE_STAT, .HE_MIN, .HE_MAX, .HE_SINCE, .HE_UNDER, .HE_OVER, .HE_BIN]
  let cleared := fun (s n : State) (h now : Nat) =>
    n.get F.HE_STAT_TOTAL h = 0 ∧ n.on F.HE_STAT_SAT h = false ∧ n.reg .HE_MIN h = w64 (2 ^ 63 - 1) ∧
    n.reg .HE_MAX h = w64 (2 ^ 63) ∧ n.reg .HE_SINCE h = w64 now ∧ n.get F.HE_UNDER_UNDER h = 0 ∧
    n.get F.HE_OVER_OVER h = 0 ∧ (∀ i, i < 4096 → n.reg .HE_BIN (4096 * h + i) = 0) ∧
    ∀ r i, r ∉ heRegs → n.reg r i = s.reg r i
  (∀ (s : State) (t h tk : Nat) (v : Int) (b : QBundle) (r : List Word), s.on F.HE_CFG_EN h = true →
    s.on F.HE_STAT_CFG_ERR h = false → s.get F.HE_CFG_KEY_SRC h < 2 → (s.heAt h).snap = none → (s.heAt h).ops = [] →
    (s.heAt h).inp.busy = false → b.errs = [] → b.recs = [r] →
    let q := s.get F.HE_CFG_IN_Q h
    s.boundTo q 4 h = true → s.peek q 0 = some (some b) → s.qk q ≤ 26 →
    (s.till t).heRecordKey h (s.epochOf q ((s.heAt h).inp.start b).next.1.ep) r = some (v, tk) →
    (s.till t).stakeFirst 7 h tk = false → (s.heAt h).at_ ≤ tk →
    let i := (v - sval 64 (s.reg .HE_KOFS h).toNat) / (2 ^ s.get F.HE_CFG_KSHIFT h : Nat)
    let bin : Fld := ⟨.HE_BIN, 0, 48⟩
    0 ≤ i → i ≤ 4095 → s.get bin (4096 * h + i.toNat) + 1 < 2 ^ 48 → s.get F.HE_STAT_TOTAL h + 1 < 2 ^ 48 →
    Answers (.heRecord t h) s fun n =>
      n.get bin (4096 * h + i.toNat) = s.get bin (4096 * h + i.toNat) + 1 ∧
      n.get F.HE_STAT_TOTAL h = s.get F.HE_STAT_TOTAL h + 1 ∧
      (∀ j, j ≠ 4096 * h + i.toNat → j / 4096 = h → n.get bin j = s.get bin j) ∧
      n.reg .HE_MIN h = (if v < sval 64 (s.reg .HE_MIN h).toNat then w64 (sfield 64 v) else s.reg .HE_MIN h) ∧
      n.reg .HE_MAX h = (if sval 64 (s.reg .HE_MAX h).toNat < v then w64 (sfield 64 v) else s.reg .HE_MAX h) ∧
      (n.heAt h).hor = max (s.heAt h).hor ((s.till t).near b.hor) ∧
      n.get F.QD_RD_RD q = (s.get F.QD_RD_RD q + b.len) % 2 ^ (s.qk q + 1) ∧
      n.store = s.store ∧ n.open_ = s.open_ ∧ n.wait = s.wait ∧ n.t64 = (s.till t).t64) ∧
  ((∀ (s : State) (t m h : Nat), s.domOn 87 = true → s.grants m 6 (heCtrlAt h) true = true →
    (s.get F.HE_CFG_KEY_SRC h < 2 ∨ (s.heAt h).snap.isSome = true ∨ (s.heAt h).ops ≠ []) →
    let taken := fun (op : Nat) (n : State) =>
      n = { s.till t with regs := n.regs, he := n.he, shad := n.shad } ∧
      ((s.heAt h).ops.length < 4 →
        n.heAt h = { s.heAt h with ops := opInsert (op, 0, (s.till t).t64) (s.heAt h).ops } ∧
        n.get F.HE_STAT_WAIT_OPS h = (s.heAt h).ops.length + 1 ∧ SameBut s.heAt n.heAt [h] ∧
        SameRegs s n [(.HE_STAT, h)]) ∧
      (4 ≤ (s.heAt h).ops.length →
        n.he = s.he ∧ n.on F.HE_EVT_LOST_OP h = true ∧ SameRegs s n [(.HE_CNT, h), (.HE_EVT, h)])
    (Answers (.heOpSnapshot t m h) s fun n => taken 1 n) ∧
    (Answers (.heOpSnapshotReset t m h) s fun n => taken 2 n) ∧
    (Answers (.heOpReset t m h) s fun n => taken 3 n)) ∧
  (∀ (s : State) (t m h : Nat), s.domOn 87 = true → s.grants m 6 (heCtrlAt h) true = true →
    2 ≤ s.get F.HE_CFG_KEY_SRC h → (s.heAt h).snap = none → (s.heAt h).ops = [] →
    let now := (s.till t).t64
    (Answers (.heOpSnapshot t m h) s fun n =>
      (n.heAt h).snap.map (·.2) = some now ∧
      ((s.heAt h).at_ < now →
        n.heAt h = { s.heAt h with snap := some ((s.till t).histWords h now false, now) } ∧
        n = { s.till t with he := n.he, shad := n.shad } ∧ SameBut s.heAt n.heAt [h])) ∧
    (Answers (.heOpSnapshotReset t m h) s fun n =>
      (n.heAt h).snap.map (·.2) = some now ∧
      ((s.heAt h).at_ < now →
        n.heAt h = { s.heAt h with
          snap := some ((s.till t).histWords h now true, now), same := [], old := [] } ∧ cleared s n h now ∧
        n = { s.till t with regs := n.regs, he := n.he, shad := n.shad } ∧ SameBut s.heAt n.heAt [h])) ∧
    (Answers (.heOpReset t m h) s fun n =>
      n.heAt h = { s.heAt h with same := [], old := [] } ∧ cleared s n h now ∧
      n = { s.till t with regs := n.regs, he := n.he, shad := n.shad } ∧ SameBut s.heAt n.heAt [h])) ∧
  (∀ (s : State) (h e : Nat), s.snapExp h = some e →
    let t := (s.heAt h).per
    Answers (.periodicSnapshot h) s fun n =>
      (n.heAt h).per = t + 2 ^ e ∧ n.t64 = (s.till t).t64 ∧
      (s.get F.HE_CFG_KEY_SRC h < 2 ∨ (s.heAt h).snap.isSome = true ∨ (s.heAt h).ops ≠ [] →
        (s.heAt h).ops.length < 4 →
        n.heAt h = { s.heAt h with ops := opInsert (2, 0, t) (s.heAt h).ops, per := t + 2 ^ e } ∧
        n.get F.HE_STAT_WAIT_OPS h = (s.heAt h).ops.length + 1 ∧
        n = { s.till t with regs := n.regs, he := n.he } ∧ SameBut s.heAt n.heAt [h] ∧
        SameRegs s n [(.HE_STAT, h)]))) ∧
  ((∀ (s : State) (h k a t : Nat) (rest : List (Nat × Nat × Nat)), (s.heAt h).snap = none →
    (s.get F.HE_CFG_KEY_SRC h < 2 → t ≤ (s.heAt h).hor) → (s.heAt h).ops = (k, a, t) :: rest →
    let bin : Fld := ⟨.HE_BIN, 0, 48⟩
    let i := 4096 * h + a % 4096
    Answers (.histOpApply h) s fun n =>
      (n.heAt h).ops = rest ∧ n.get F.HE_STAT_WAIT_OPS h = rest.length % 2 ^ F.HE_STAT_WAIT_OPS.w ∧
      (k = 1 ∨ k = 2 → (n.heAt h).snap.map (·.2) = some t) ∧
      ((s.heAt h).keys = [] →
        n = { s with regs := n.regs, he := n.he } ∧ SameBut s.heAt n.heAt [h] ∧
        (k = 0 → (s.heAt h).at_ ≤ t → s.get bin i + 1 < 2 ^ 48 → s.get F.HE_STAT_TOTAL h + 1 < 2 ^ 48 →
          n.get bin i = s.get bin i + 1 ∧ n.get F.HE_STAT_TOTAL h = s.get F.HE_STAT_TOTAL h + 1 ∧
          n.heAt h = { s.heAt h with ops := rest, at_ := t, same := (n.heAt h).same, old := (n.heAt h).old } ∧
          SameRegs s n [(.HE_BIN, i), (.HE_STAT, h), (.HE_MIN, h), (.HE_MAX, h)] ∧
          n.reg .HE_MIN h = s.reg .HE_MIN h ∧ n.reg .HE_MAX h = s.reg .HE_MAX h) ∧
        (k = 1 → (s.heAt h).at_ < t →
          n.heAt h = { s.heAt h with ops := rest, snap := some (s.histWords h t false, t) } ∧
          SameRegs s n [(.HE_STAT, h)]) ∧
        (k = 3 → n.heAt h = { s.heAt h with ops := rest, same := [], old := [] } ∧ cleared s n h t))) ∧
  (∀ (s : State) (t h t0 : Nat) (ws : List Word), (s.heAt h).snap = some (ws, t0) →
    let q := s.get F.HE_SNAP_OUT_Q h
    s.canOpen (0xC0 + h) q = true →
    Answers (.histRecordWritten t h) s fun n =>
      n.on F.HE_EVT_SNAP_DONE h = true ∧ (n.heAt h).snap = none ∧ n.open_ = s.open_ ∧ n.store = s.store ∧
      n.t64 = (s.till t).t64 ∧ SameBut s.heAt n.heAt [h] ∧
      ((s.heAt h).keys = [] → n.heAt h = { s.heAt h with snap := none }) ∧
      (s.active q = true →
        n.wait.length = s.wait.length + 1 ∧ n.wait.getLast?.map (·.recs) = some [{ t := t0, ws := ws }] ∧
        n.wait.getLast?.map (fun b => (b.producer, b.q)) = some (0xC0 + h, q))))

/-- R133, R228 to R232, R325, Tables TIM-1 and TIM-2: an edge of a REFIN input is stamped as a plaza input and ends the
input's LOS, and a rising one is its last stamp; a returned reference's edges are measured for 1 ms. An input silent for
the longer of 4 periods and 2 µs is in LOS and loses QUAL, and the TPLL goes to HOLDOVER where it was the forced
reference in use, at the mean of what it had tracked, and to FREE where it is the local oscillator; on REFIN3 the pool's
PLL holds too. A frequency outside FTOL sets FREQ_BAD and clears QUAL, one inside clears FREQ_BAD; an input that
has been free of both for QUAL_TIME gets QUAL, and where FREE selects it ACQUIRE starts; 100 ms of ACQUIRE lead to
LOCKED with its anchor. -/
def Obligations.ReferenceInputs : Prop :=
  (∀ (s : State) (t k : Nat) (lv : Bool), k < 4 → s.running = true →
    Answers (.refinEdge t k lv) s fun n =>
      n.refLos k = false ∧ n.tim.seen = s.tim.seen.set k t ∧
      n.tim.last = (if lv then s.tim.last.set k (some t) else s.tim.last) ∧
      n.markAt (96 + k) = { s.markAt (96 + k) with full := some t, stamp := some (s.plazaStamp (96 + k) t) } ∧
      SameBut s.markAt n.markAt [96 + k] ∧ n.t64 = (s.till t).t64 ∧
      n.pool = (if k = 3 then { s.pool with held := false } else s.pool) ∧
      (s.isMark (96 + k) lv = false → s.isStep (96 + k) lv = false → s.localIn ≠ k → s.refInUse ≠ some k →
        n.tim = { s.tim with
          seen := s.tim.seen.set k t
          clean := if s.refLos k && !s.refBad k then s.tim.clean.set k t else s.tim.clean
          last := if lv then s.tim.last.set k (some t) else s.tim.last
          meas := s.tim.meas.map fun m =>
            if lv && s.tpll == 3 && s.get F.TIM_TSTAT_REF_ACT 0 == k && t < s.tim.measT + ms 1 then
              (m.1 + s.refOffset t k, m.2 + 1) else m } ∧
        n = { s.till t with regs := n.regs, tim := n.tim, mark := n.mark, pool := n.pool } ∧
        SameRegs s n [(.TIM_TSTAT, 0)])) ∧
  (∀ (s : State) (t k : Nat), k < 4 → s.refUsed k = true → s.refSilent t k = true →
    (s.eng ≠ .watch → k ≠ s.localIn → s.localBad = false → s.refLos s.localIn = false →
      (optAt s.tim.last s.localIn).isSome = true → s.get F.TIM_TCFG_REF_MODE 0 = k → s.refInUse = some k →
      s.tpll = 2 ∨ s.tpll = 4 ∨ s.tpll = 5 →
      Answers (.refLos t k) s fun n =>
        n.tpll = 3 ∧ n.refLos k = true ∧ n.refQual k = false ∧ n.refInUse = none ∧
        n.get F.TIM_FOFS_FOFS 0 = sfield 32 (trackMean t s.tim.track) ∧ n.on F.TIM_TEVT_HOLDOVER 0 = true ∧
        n.get F.TIM_TCNT_HOLDOVER_CNT 0 =
          min (s.get F.TIM_TCNT_HOLDOVER_CNT 0 + 1) (2 ^ F.TIM_TCNT_HOLDOVER_CNT.w - 1) ∧
        n.tim = { s.tim with step := none, meas := none, track := [] } ∧
        n.pool = (if k = 3 then { s.pool with held := true } else s.pool) ∧
        n = { (s.till t).noted n with tim := n.tim, wait := n.wait, pool := n.pool } ∧
        NotedRegs s n [(.TIM_TSTAT, 0), (.TIM_SREM, 0), (.TIM_FOFS, 0), (.TIM_TEVT, 0), (.TIM_TCNT, 0)]) ∧
    (s.eng ≠ .watch → k = s.localIn →
      Answers (.refLos t k) s fun n =>
        n.tpll = 0 ∧ n.refLos k = true ∧ n.refQual k = false ∧ n.on F.TIM_TSTAT_LOCAL_OK 0 = false ∧
        n.get F.TIM_FOFS_FOFS 0 = 0 ∧ n.on F.TIM_TEVT_LOCAL_FAIL 0 = true ∧
        n.tim = { s.tim with step := none, meas := none, track := [] } ∧
        n = { (s.till t).noted n with tim := n.tim, wait := n.wait, pool := n.pool } ∧
        NotedRegs s n [(.TIM_TSTAT, 0), (.TIM_SREM, 0), (.TIM_FOFS, 0), (.TIM_TEVT, 0)]) ∧
    (s.eng = .watch → k = s.localIn →
      Answers (.refLos t k) s fun n =>
        n.pwr.hold = true ∧ n.on F.PWR_ENG_LOCAL_HOLD 0 = true ∧
        n = { s.till t with regs := n.regs, pwr := n.pwr, pool := n.pool } ∧ SameRegs s n [(.PWR_ENG, 0)])) ∧
  (∀ (s : State) (t k f : Nat), k < 4 → s.refUsed k = true →
    let apart := ((f : Int) - s.get F.TIM_REF_FREQ k).natAbs * 1000000
    let most := max 1 (s.get F.TIM_TCFG_FTOL 0) * s.get F.TIM_REF_FREQ k
    (apart ≤ most →
      Answers (.freqCheck t k f) s fun n =>
        n.refBad k = false ∧
        n.tim = { s.tim with
          clean := if s.refBad k && !s.refLos k then s.tim.clean.set k t else s.tim.clean } ∧
        n = { s.till t with regs := n.regs, tim := n.tim } ∧ SameRegs s n [(.TIM_TSTAT, 0)]) ∧
    (most < apart →
      Answers (.freqCheck t k f) s fun n =>
        n.refBad k = true ∧ n.refQual k = false ∧ n.t64 = (s.till t).t64 ∧
        (s.tpll = 0 → s.refSelect = none →
          n.tpll = 0 ∧ n = { s.till t with regs := n.regs } ∧ SameRegs s n [(.TIM_TSTAT, 0)]))) ∧
  (∀ (s : State) (t k : Nat), k < 4 → s.refReady t k = true →
    Answers (.qualified t k) s fun n =>
      n.refQual k = true ∧ n.t64 = (s.till t).t64 ∧
      (k ≠ s.localIn → s.localBad = false → s.refLos s.localIn = false →
        (optAt s.tim.last s.localIn).isSome = true → s.get F.TIM_TCFG_REF_MODE 0 = k → s.tpll = 0 →
        n.tpll = 1 ∧ n.refInUse = some k ∧
        n.tim = { s.tim with step := none, meas := none, track := [], acq := t } ∧
        n = { s.till t with regs := n.regs, tim := n.tim } ∧
        SameRegs s n [(.TIM_TSTAT, 0), (.TIM_SREM, 0)])) ∧
  (∀ (s : State) (t : Nat), s.tpll = 1 → s.tim.acq + ms 100 ≤ t →
    Answers (.timebaseLock t) s fun n =>
      n.tpll = 2 ∧ n.refInUse = some (s.get F.TIM_TSTAT_REF_ACT 0) ∧ n.on F.TIM_TEVT_LOCK 0 = true ∧
      n.tim = { s.tim with
        step := none
        meas := none
        anchor := (optAt s.tim.last (s.get F.TIM_TSTAT_REF_ACT 0)).getD t
        track := n.tim.track } ∧
      n = { (s.till t).noted n with tim := n.tim, wait := n.wait, freeCnt := n.freeCnt } ∧
      NotedRegs s n [(.TIM_TSTAT, 0), (.TIM_SREM, 0), (.TIM_FOFS, 0), (.TIM_TEVT, 0)])

/-- R233 to R236, R239: the offset measured over 1 ms of a returned reference goes into TIM_THETA and decides between
LOCKED, SLEWING and STEP_WAIT, whose step waits for a turn boundary of a running axis; the slew ends in LOCKED once no
more than 0.1 ps is left of it; a step that waits is applied at its boundary and adds Δ to T64; an edge of SYNC_IN0 is
stamped and, where ARM0 was set, schedules the load of PRESET, which is applied at its boundary. T64 is the model's time
modulo 2^64, so a load that sets it back goes on to the next multiple (log entry 39). -/
def Obligations.TimebaseSteps : Prop :=
  (∀ (s : State) (t m : Nat) (sum : Int), s.tpll = 3 → s.tim.meas = some (sum, m) → 0 < m → s.tim.measT + ms 1 ≤ t →
    let off := rnd sum m
    let r := s.get F.TIM_TSTAT_REF_ACT 0
    let stepping := !s.inWindow off && s.on F.TIM_TCFG_RET_POLICY 0
    Answers (.returnMeasurementEnd t) s fun n =>
      n.reg .TIM_THETA 0 = w64 (sfield 64 off) ∧ n.on F.TIM_TEVT_RETURN 0 = true ∧ n.refInUse = some r ∧
      n.tpll = (if off = 0 then 2 else if stepping then 5 else 4) ∧
      (off ≠ 0 → stepping = true → n.tim = { s.tim with
        step := some (-(rnd off 65536), if s.axisState < 2 then some (s.coarseUp (t + 2 ^ 15)) else none)
        meas := none, stepT := t, track := n.tim.track }) ∧
      (off ≠ 0 → stepping = false →
        n.tim = { s.tim with step := none, meas := none, slew := (t, off), slewT := t, track := n.tim.track } ∧
        n.reg .TIM_SREM 0 = w64 (sfield 64 off)) ∧
      n = { (s.till t).noted n with tim := n.tim, wait := n.wait, freeCnt := n.freeCnt } ∧
      NotedRegs s n [(.TIM_TSTAT, 0), (.TIM_SREM, 0), (.TIM_FOFS, 0), (.TIM_TEVT, 0), (.TIM_THETA, 0)]) ∧
  (∀ (s : State) (t : Nat), s.tpll = 4 → s.slewOver t = true →
    Answers (.slewEnd t) s fun n =>
      n.tpll = 2 ∧ n.reg .TIM_SREM 0 = 0 ∧ n.on F.TIM_TEVT_SLEW_DONE 0 = true ∧
      n = { (s.till t).noted n with tim := n.tim, wait := n.wait } ∧
      NotedRegs s n [(.TIM_TSTAT, 0), (.TIM_SREM, 0), (.TIM_TEVT, 0)]) ∧
  (∀ (s : State) (d : Int) (b : Nat),
    let stepped := fun (n : State) (d : Int) =>
      n.t64 = moved d b ∧ n.phase = (s.phase + (d % 512).toNat) % 512 ∧ n.reg .TIM_STEP 0 = w64 (sfield 64 d) ∧
      n.tim.steps.getLast? = some (moved d b, d) ∧ n.on F.TIM_TEVT_STEPPED 0 = true ∧
      n.get F.TIM_TCNT_STEP_CNT 0 = min (s.get F.TIM_TCNT_STEP_CNT 0 + 1) (2 ^ F.TIM_TCNT_STEP_CNT.w - 1) ∧
      n.pending = s.pending
    (s.tim.step = some (d, some b) → (∀ x ∈ s.tim.load, b ≤ x.2) →
      Answers .timebaseStep s fun n => stepped n d ∧ n.tim.step = none ∧ n.tpll = 2) ∧
    (s.tim.load = some (d, b) → (∀ x ∈ s.tim.step, ∀ c ∈ x.2, b < c) →
      Answers .timebaseStep s fun n =>
        stepped n (d % 2 ^ 64) ∧ n.tim.load = none ∧ n.tpll = s.tpll ∧ n.on F.TIM_SYNC_LOAD0_PEND 0 = false ∧
        n.on F.TIM_TEVT_SYNC0_LOAD 0 = true)) ∧
  (∀ (s : State) (t : Nat) (lv : Bool), s.running = true → lv ≠ s.on F.TIM_SYNC_POL0 0 →
    (s.on F.TIM_SYNC_ARM0 0 = false →
      Answers (.syncIn0Edge t lv) s fun n =>
        n.reg .TIM_SYNCT0 0 = w64 t ∧ n = { s.till t with regs := n.regs } ∧ SameRegs s n [(.TIM_SYNCT0, 0)]) ∧
    (s.on F.TIM_SYNC_ARM0 0 = true →
      Answers (.syncIn0Edge t lv) s fun n =>
        n.reg .TIM_SYNCT0 0 = w64 t ∧ n.on F.TIM_SYNC_ARM0 0 = false ∧ n.on F.TIM_SYNC_LOAD0_PEND 0 = true ∧
        n.tim = { s.tim with load := some (((s.reg .TIM_PRESET 0).toNat : Int) - t, s.coarseUp (t + 2 ^ 15)) } ∧
        n = { s.till t with regs := n.regs, tim := n.tim } ∧
        SameRegs s n [(.TIM_SYNCT0, 0), (.TIM_SYNC, 0)])) ∧
  (∀ (s : State) (t m : Nat), s.domOn 85 = true → s.grants m 7 0x60 true = true →
    Answers (.arm0 t m) s fun n =>
      n.on F.TIM_SYNC_ARM0 0 = (s.on F.TIM_SYNC_ARM0 0 || !s.on F.TIM_SYNC_LOAD0_PEND 0) ∧
      n = { s.till t with regs := n.regs, shad := n.shad } ∧ SameRegs s n [(.TIM_SYNC, 0)])

/-- R241 to R243: SEARCH and HOP take an entry that is valid for use into SEARCH or RELOCK, OFF into OFF, and every
output of the OPLL completes the high phase that it is in; lock leads to LOCKED at the restart edge, not before all of
them are low, from which the dividers of the OPLL's outputs count; loss of lock leads to LOST, whose HOP
is repeated every 1 ms; a write to word 0 of an entry makes it invalid, but for the entry in use while LOCKED. -/
def Obligations.OutputLoop : Prop :=
  let lets := fun (s n : State) (t : Nat) => ∀ c, c < 32 →
    n.clkFall c = if F.TIM_OCLK_SRC.of (s.clkAt c) = 0 then (s.till t).fallOf c t else s.clkFall c
  let held := fun (s n : State) (t : Nat) =>
    n.tim = { s.tim with
      op := n.tim.op, gate := true, retry := n.tim.retry, low := n.tim.low, fall := n.tim.fall } ∧
    (s.tim.gate = true → n.tim.low = s.tim.low ∧ n.tim.fall = s.tim.fall) ∧
    (s.tim.gate = false → lets s n t ∧ t ≤ n.tim.low ∧
      ∀ c, c < 32 → F.TIM_OCLK_SRC.of (s.clkAt c) = 0 → n.clkFall c ≤ n.tim.low)
  (∀ (s : State) (t m e : Nat), s.domOn 85 = true → s.domOn 89 = true → s.grants m 7 0x100 true = true → e < 16 →
    (s.opll = 0 ∨ s.opll = 3 ∨ s.opll = 4 →
      (s.entryUsable e = true →
        Answers (.opllSearch t m e) s fun n =>
          n.opll = 1 ∧ n.get F.TIM_OSTAT_ENTRY 0 = e ∧ n.tim.op = some (e, true, t) ∧ held s n t ∧ n.tim.retry = s.tim.retry ∧
          n = { s.till t with regs := n.regs, shad := n.shad, tim := n.tim, freeCnt := n.freeCnt } ∧
          SameRegs s n [(.TIM_OSTAT, 0)]) ∧
      (s.entryUsable e = true → s.entryStale e = false →
        Answers (.opllHop t m e) s fun n =>
          n.opll = 2 ∧ n.get F.TIM_OSTAT_ENTRY 0 = e ∧ n.tim.op = some (e, false, t) ∧ held s n t ∧ n.tim.retry = s.tim.retry ∧
          n = { s.till t with regs := n.regs, shad := n.shad, tim := n.tim, freeCnt := n.freeCnt } ∧
          SameRegs s n [(.TIM_OSTAT, 0)]) ∧
      (s.entryUsable e = true → s.entryStale e = true →
        Answers (.opllHop t m e) s fun n =>
          n.opll = 1 ∧ n.get F.TIM_OSTAT_ENTRY 0 = e ∧ n.tim.op = some (e, true, t) ∧ held s n t ∧ n.tim.retry = s.tim.retry ∧
          n.on F.TIM_OEVT_STALE 0 = true ∧
          n = { (s.till t).noted n with shad := n.shad, tim := n.tim, freeCnt := n.freeCnt } ∧
          NotedRegs s n [(.TIM_OSTAT, 0), (.TIM_OEVT, 0)]) ∧
      (s.entryUsable e = false →
        Answers (.opllSearch t m e) s fun n =>
          n.opll = s.opll ∧ n.tim = s.tim ∧ n.on F.TIM_OEVT_CFG_ERR 0 = true ∧ n.on F.TIM_OEVT_REJECT 0 = true ∧
          n = { (s.till t).noted n with shad := n.shad } ∧ NotedRegs s n [(.TIM_OEVT, 0)]) ∧
      Answers (.opllOff t m e) s fun n =>
        n.opll = 0 ∧ n.tim = { s.tim with op := none, gate := false, fall := n.tim.fall } ∧ lets s n t ∧
        n = { s.till t with regs := n.regs, shad := n.shad, tim := n.tim } ∧ SameRegs s n [(.TIM_OSTAT, 0)]) ∧
    (s.opll = 1 ∨ s.opll = 2 →
      Answers (.opllSearch t m e) s fun n =>
        n.opll = s.opll ∧ n.tim = s.tim ∧ n.on F.TIM_OEVT_REJECT 0 = true ∧
        n = { (s.till t).noted n with shad := n.shad } ∧ NotedRegs s n [(.TIM_OEVT, 0)])) ∧
  (∀ (s : State) (t band tune e : Nat) (search : Bool),
    (s.tim.op.map fun x => (x.1, x.2.1)) = some (e, search) ∨
      (s.tim.op = none ∧ s.opll = 4 ∧ e = s.get F.TIM_OSTAT_ENTRY 0 ∧ search = false) →
    band < 2 ^ F.TIM_BAND1_BAND.w → tune < 2 ^ F.TIM_BAND1_TUNE.w → e < 16 →
    let tr := if s.tim.gate then max t s.tim.low else t
    Answers (.opllLock t band tune) s fun n =>
      n.opll = 3 ∧ n.get F.TIM_OSTAT_ENTRY 0 = e ∧ n.reg .TIM_ORST 0 = w64 tr ∧ n.on F.TIM_OEVT_RELOCKED 0 = true ∧
      n.tim.op = none ∧ n.tim.gate = false ∧
      (∀ c, c < 32 → F.TIM_OCLK_SRC.of (s.clkAt c) = 0 → n.divAt c = tr) ∧
      n.get F.TIM_BAND1_TEMP e = sfield 16 s.plazaTemp ∧
      n.get F.TIM_OSTAT_BAND 0 = (if search then band else s.get F.TIM_BAND1_BAND e) ∧
      (search = true →
        n.get F.TIM_BAND1_BAND e = band ∧ n.get F.TIM_BAND1_TUNE e = tune ∧ n.on F.TIM_BAND1_VALID e = true ∧
        n.on F.TIM_OEVT_SEARCH_DONE 0 = true) ∧
      (s.tim.drst.all (!·.2.2) = true →
        n.tim = { s.tim with op := none, gate := false, div := n.tim.div } ∧
        n = { (s.till tr).noted n with tim := n.tim, wait := n.wait } ∧
        NotedRegs s n [(.TIM_OSTAT, 0), (.TIM_OEVT, 0), (.TIM_ORST, 0), (.TIM_BAND1, e)])) ∧
  (∀ (s : State) (t : Nat), s.opll = 3 →
    Answers (.opllLossOfLock t) s fun n =>
      n.opll = 4 ∧ n.on F.TIM_OEVT_LOST 0 = true ∧
      n.tim.retry = t + ms 1 ∧
      (s.on F.TIM_OQ_LOL_GATE 0 = false → n.tim = { s.tim with retry := t + ms 1 }) ∧
      (s.on F.TIM_OQ_LOL_GATE 0 = true → held s n t ∧ n.tim.op = s.tim.op) ∧
      n.get F.TIM_TCNT_OLOST_CNT 0 = min (s.get F.TIM_TCNT_OLOST_CNT 0 + 1) (2 ^ F.TIM_TCNT_OLOST_CNT.w - 1) ∧
      n = { (s.till t).noted n with tim := n.tim, wait := n.wait, freeCnt := n.freeCnt } ∧
      NotedRegs s n [(.TIM_OSTAT, 0), (.TIM_OEVT, 0), (.TIM_TCNT, 0)]) ∧
  (∀ (s : State), s.opll = 4 →
    let e := s.get F.TIM_OSTAT_ENTRY 0
    Answers .lostRetry s fun n =>
      n.opll = 4 ∧ n.tim.retry = s.tim.retry + ms 1 ∧ n.t64 = (s.till s.tim.retry).t64 ∧
      (s.entryUsable e = true →
        n.tim.op = some (e, s.entryStale e, s.tim.retry) ∧ held s n s.tim.retry ∧
        (s.entryStale e = true → n.on F.TIM_OEVT_STALE 0 = true) ∧
        (s.entryStale e = false → n = { s.till s.tim.retry with tim := n.tim, freeCnt := n.freeCnt })) ∧
      (s.entryUsable e = false → n.tim.op = s.tim.op ∧ n.on F.TIM_OEVT_REJECT 0 = true)) ∧
  (∀ (s : State) (t m e : Nat) (v : Word), s.domOn 89 = true → e < 16 →
    s.grants m 7 (0x200 + 16 * e) true = true →
    (¬ (s.opll = 3 ∧ s.get F.TIM_OSTAT_ENTRY 0 = e) →
      Answers (.bandEntryWrite t m e v) s fun n =>
        n.reg .TIM_BAND0 e = v &&& w64 (Reg.desc .TIM_BAND0).rw ∧ n.on F.TIM_BAND1_VALID e = false ∧
        n = { s.till t with regs := n.regs, shad := n.shad } ∧
        SameRegs s n [(.TIM_BAND0, e), (.TIM_BAND1, e)]) ∧
    (s.opll = 3 ∧ s.get F.TIM_OSTAT_ENTRY 0 = e →
      Answers (.bandEntryWrite t m e v) s fun n =>
        n.on F.TIM_OEVT_REJECT 0 = true ∧ n = { (s.till t).noted n with shad := n.shad } ∧
        NotedRegs s n [(.TIM_OEVT, 0)]))

/-- R245 to R247: an output takes a written word in a low phase step by step, its delays one step a cycle, a new DIV_X2
from the next rising edge, and a new source after its disable; in a high phase it takes nothing. SYNC_IN1, once after
ARM1, and SW1 ask for divider resets, for which the selected outputs complete the high phases that they are in, and
which hold them until the restart 2^15 ticks later or after, or where the OPLL relocks until its restart; loopback
starts at a coarse boundary where the relief lane is in maintenance, and ends at one, with the relief lane's circuits
dark. -/
def Obligations.OutputClocks : Prop :=
  let lets := fun (s n : State) (t : Nat) => ∀ c, c < 32 →
    n.clkFall c = if s.on F.TIM_OCLK_SYNC_EN c then (s.till t).fallOf c t else s.clkFall c
  (∀ (s : State) (t c : Nat), c < 32 → s.domOn 89 = true →
    let high := (s.till t).clkEnds c || (s.till t).divHigh c t
    (high = true → Answers (.oclkChangeApply t c) s fun n => n = s.till t) ∧
    (high = false → F.TIM_OCLK_SRC.of (s.reg .TIM_OCLK c) = F.TIM_OCLK_SRC.of (s.clkAt c) →
      let again := s.tim.cyc[c]? = some (s.nextRise c t)
      let step := fun (f : Fld) => if again then f.of (s.clkAt c) else toward (f.of (s.clkAt c)) (s.get f c)
      Answers (.oclkChangeApply t c) s fun n =>
        F.TIM_OCLK_EN.of (n.clkAt c) = s.get F.TIM_OCLK_EN c ∧
        F.TIM_OCLK_DIV_X2.of (n.clkAt c) = s.get F.TIM_OCLK_DIV_X2 c ∧
        F.TIM_OCLK_SYNC_EN.of (n.clkAt c) = s.get F.TIM_OCLK_SYNC_EN c ∧
        F.TIM_OCLK_CDLY.of (n.clkAt c) = step F.TIM_OCLK_CDLY ∧ F.TIM_OCLK_FDLY.of (n.clkAt c) = step F.TIM_OCLK_FDLY ∧
        n.divAt c = (if s.get F.TIM_OCLK_DIV_X2 c = F.TIM_OCLK_DIV_X2.of (s.clkAt c) then s.divAt c
          else s.nextRise c t) ∧
        n.tim = { s.tim with div := n.tim.div, cyc := n.tim.cyc } ∧
        n = { s.till t with clk := n.clk, tim := n.tim } ∧ SameBut s.clkAt n.clkAt [c]) ∧
    (high = false → F.TIM_OCLK_SRC.of (s.reg .TIM_OCLK c) ≠ F.TIM_OCLK_SRC.of (s.clkAt c) →
      Answers (.oclkChangeApply t c) s fun n =>
        n.clkAt c = (if F.TIM_OCLK_EN.of (s.clkAt c) = 1 then F.TIM_OCLK_EN.put (s.clkAt c) 0
          else F.TIM_OCLK_SRC.put (s.clkAt c) (s.get F.TIM_OCLK_SRC c)) ∧
        n.divAt c = (if F.TIM_OCLK_EN.of (s.clkAt c) = 1 then s.divAt c else t) ∧
        n.tim = { s.tim with div := n.tim.div } ∧
        n = { s.till t with clk := n.clk, tim := n.tim } ∧ SameBut s.clkAt n.clkAt [c])) ∧
  (∀ (s : State) (t : Nat) (lv : Bool), s.running = true → lv ≠ s.on F.TIM_SYNC_POL1 0 →
    let asks := s.on F.TIM_SYNC_ARM1 0 && s.tim.edge1.isNone
    Answers (.syncIn1Edge t lv) s fun n =>
      n.reg .TIM_SYNCT1 0 = w64 t ∧
      n.tim = { s.tim with
        drst := if asks then s.tim.drst ++ [(t, s.syncOutputs, false)] else s.tim.drst
        edge1 := if asks then some t else s.tim.edge1
        fall := n.tim.fall } ∧
      (asks = true → lets s n t) ∧ (asks = false → n.tim.fall = s.tim.fall) ∧
      n = { s.till t with regs := n.regs, tim := n.tim } ∧ SameRegs s n [(.TIM_SYNCT1, 0)]) ∧
  (∀ (s : State) (t m : Nat), s.domOn 85 = true → s.grants m 7 0x60 true = true →
    (Answers (.arm1 t m) s fun n =>
      n.on F.TIM_SYNC_ARM1 0 = true ∧
      n.tim = { s.tim with edge1 := if s.on F.TIM_SYNC_ARM1 0 then s.tim.edge1 else none } ∧
      n = { s.till t with regs := n.regs, shad := n.shad, tim := n.tim } ∧ SameRegs s n [(.TIM_SYNC, 0)]) ∧
    Answers (.sw1 t m) s fun n =>
      n.tim = { s.tim with drst := s.tim.drst ++ [(t, s.syncOutputs, false)], fall := n.tim.fall } ∧ lets s n t ∧
      n = { s.till t with shad := n.shad, tim := n.tim }) ∧
  (∀ (s : State) (t a : Nat) (os : List Nat), s.tim.drst.find? (!·.2.2) = some (a, os, false) → a + 2 ^ 15 ≤ t →
    let opll := os.filter fun c => F.TIM_OCLK_SRC.of (s.clkAt c) = 0
    (s.tim.op = none ∨ opll = [] →
      Answers (.dividerResetRestart t) s fun n =>
        n.tim = { s.tim with
          drst := s.tim.drst.erase (a, os, false), edge1 := s.tim.edge1.filter (· != a), div := n.tim.div } ∧
        (∀ c ∈ os, c < 32 →
          n.divAt c = if F.TIM_OCLK_SRC.of (s.clkAt c) = 0 then t else s.coarseUp (a + 2 ^ 15)) ∧
        n.on F.TIM_SYNC_ARM1 0 = false ∧ n.on F.TIM_OEVT_SYNC1_DONE 0 = true ∧
        n.reg .TIM_ORST 0 = (if opll = [] then s.reg .TIM_ORST 0 else w64 t) ∧
        n = { (s.till t).noted n with tim := n.tim } ∧
        NotedRegs s n [(.TIM_SYNC, 0), (.TIM_OEVT, 0), (.TIM_ORST, 0)]) ∧
    (s.tim.op ≠ none → opll ≠ [] →
      Answers (.dividerResetRestart t) s fun n =>
        n.tim = { s.tim with
          drst := s.tim.drst.map fun e => if e = (a, os, false) then (a, opll, true) else e, div := n.tim.div } ∧
        n = { s.till t with tim := n.tim })) ∧
  (∀ (s : State) (t b : Nat), b < 32 → s.blockAbsent b = false → s.on F.TIM_LOOP_EN b = true →
    s.on F.TIM_LOOP_ACTIVE b = false → s.on F.TIM_LOOP_ERR b = false → s.get F.CAL_BSTAT_POS b = 31 →
    s.get F.CAL_BSTAT_STEP b = 0 →
    let u := 16 * b + s.get F.TIM_LOOP_LB_POS b
    let fits := s.calState (512 + b) = 1 ∧ s.on F.FRE_INCFG_EN u = false ∧ s.on F.FRE_INCFG_CMP_EN u = false
    (fits →
      Answers (.loopbackStart t b) s fun n =>
        n.on F.TIM_LOOP_ACTIVE b = true ∧ n = { s.till (s.coarseUp (s.till t).t64) with regs := n.regs } ∧
        SameRegs s n [(.TIM_LOOP, b)]) ∧
    (¬ fits →
      Answers (.loopbackStart t b) s fun n =>
        n.on F.TIM_LOOP_ERR b = true ∧ n.on F.TIM_LOOP_ACTIVE b = false ∧ n.on F.TIM_OEVT_LOOP_ERR 0 = true ∧
        n = (s.till (s.coarseUp (s.till t).t64)).noted n ∧
        NotedRegs s n [(.TIM_LOOP, b), (.TIM_OEVT, 0)])) ∧
  (∀ (s : State) (t b : Nat), s.on F.TIM_LOOP_EN b = false →
    Answers (.loopbackEnd t b) s fun n =>
      n.on F.TIM_LOOP_ACTIVE b = false ∧
      n = { s.till (s.coarseUp (s.till t).t64) with regs := n.regs, fre := n.fre } ∧
      (s.on F.TIM_LOOP_ACTIVE b = false → n.fre = s.fre ∧ SameRegs s n [(.TIM_LOOP, b)]) ∧
      (s.on F.TIM_LOOP_ACTIVE b = true →
        n.freAt (512 + b) = { s.freAt (512 + b) with ramp := none, ovl := false } ∧
        (∀ f ∈ [F.FRE_STAT_LVL_A, F.FRE_STAT_LVL_B, F.FRE_STAT_LVL_CMP, F.FRE_STAT_UNRES_A, F.FRE_STAT_UNRES_B,
          F.FRE_STAT_UNRES_CMP, F.FRE_STAT_RAMP_RUN], n.get f (512 + b) = 0) ∧
        SameBut s.freAt n.freAt [512 + b] ∧
        SameRegs s n [(.TIM_LOOP, b), (.FRE_STAT, 512 + b), (.FRE_EVT, 512 + b)]))

/-- R2, R279 to R281, R284, R293: the EIC takes the level of an input into account, but for that of a source that never
becomes pending, one absent or assigned to nothing; a 0-to-1
transition at the input of an edge source sets its latch and PEND; an input that falls leaves the latch; the words of
granted writes of SET_EN, CLR_EN, SET_PEND and CLR_PEND act on the sources of their 1 bits alone, where CLR_PEND leaves
an edge source whose input has risen in the same cycle; a moderation unit holds an event until its count or its time is
reached, then releases all it holds; an enabled, pending source that nothing holds wakes the cores of its TARGET from
WFI. -/
def Obligations.InterruptSources : Prop :=
  (∀ (s : State) (t k : Nat) (lv : Bool), k < 976 ∨ 992 ≤ k ∧ k < 1024 →
    (s.srcMute k = false →
      Answers (.sourceInput t k lv) s fun n => (n.srcAt k).level = (s.inputOf k).getD lv) ∧
    (s.srcMute k = true → Answers (.sourceInput t k lv) s fun n => n = s.till t)) ∧
  (∀ (s : State) (t k : Nat), k < 976 ∨ 992 ≤ k ∧ k < 1024 → s.inputOf k = none → s.srcMute k = false →
    (s.senseEdge k = true → (s.srcAt k).level = false →
      (Answers (.sourceInput t k true) s fun n =>
        (n.srcAt k).level = true ∧ (n.srcAt k).latch = true ∧ n.pendOf k = true ∧
        (n.srcAt k).last = some (s.till t).cycle ∧
        (n.srcAt k).en = (s.srcAt k).en ∧ (n.srcAt k).active = (s.srcAt k).active ∧
        n = (s.till t).noted n ∧ NotedRegs s n []) ∧
      (s.modUnit k = none → s.enabledSrc k = true → (s.srcAt k).held = false → s.on F.INT_SRC_HOST_EN k = false →
        Answers (.sourceInput t k true) s fun n =>
          ∀ c : Fin 4, (n.coreAt c).wfi = ((s.coreAt c).wfi && !bit (s.get F.INT_SRC_TARGET k) c)) ∧
      (∀ u, s.modUnit k = some u → s.on F.INT_MOD_STAT_OPEN u = false →
        s.get F.INT_MOD_STAT_CNT u + 1 < max 1 (s.get F.INT_MOD_CFG_COUNT u) →
        s.get F.INT_MOD_STAT_CNT u + 1 < 2 ^ F.INT_MOD_STAT_CNT.w →
        Answers (.sourceInput t k true) s fun n =>
          (n.srcAt k).held = true ∧ n.get F.INT_MOD_STAT_CNT u = s.get F.INT_MOD_STAT_CNT u + 1 ∧
          n.modTAt u = (if s.on F.INT_MOD_STAT_TIMING u then s.modTAt u
            else some ((s.till t).t64 + max 1 (min 65000000 (s.get F.INT_MOD_CFG_TIME u)) * 163840)) ∧
          n.on F.INT_MOD_STAT_OPEN u = false)) ∧
    Answers (.sourceInput t k false) s fun n =>
      n.srcAt k = { s.srcAt k with level := false } ∧ SameBut s.srcAt n.srcAt [k] ∧
      n = { s.till t with regs := n.regs, src := n.src } ∧ NotedRegs s n []) ∧
  (∀ (s : State) (t m w : Nat) (v : Word), s.domOn 85 = true → w < 16 →
    let hit := fun (k : Nat) => k / 64 == w && bit v.toNat (k % 64)
    (s.grants m 9 (0x2000 + 8 * w) true = true →
      Answers (.intSetEn t m w v) s fun n =>
        (∀ k, n.srcAt k = { s.srcAt k with en := (s.srcAt k).en || hit k }) ∧
        n = { (s.till t).noted n with shad := n.shad } ∧ NotedRegs s n []) ∧
    (s.grants m 9 (0x2080 + 8 * w) true = true →
      Answers (.intClrEn t m w v) s fun n =>
        (∀ k, n.srcAt k = { s.srcAt k with en := (s.srcAt k).en && !hit k }) ∧
        n = { s.till t with src := n.src, shad := n.shad }) ∧
    (s.grants m 9 (0x2100 + 8 * w) true = true →
      Answers (.intSetPend t m w v) s fun n =>
        (∀ k, (n.srcAt k).latch = ((s.srcAt k).latch || (hit k && !s.srcMute k))) ∧
        n = { (s.till t).noted n with shad := n.shad } ∧ NotedRegs s n []) ∧
    (s.grants m 9 (0x2180 + 8 * w) true = true →
      let clears := fun (k : Nat) => hit k && !(s.senseEdge k && (s.srcAt k).last == some (s.till t).cycle)
      Answers (.intClrPend t m w v) s fun n =>
        (∀ k, (n.srcAt k).latch = ((s.srcAt k).latch && !clears k)) ∧
        (∀ k, (n.srcAt k).held = ((s.srcAt k).held && !clears k)) ∧
        n = { s.till t with regs := n.regs, src := n.src, shad := n.shad } ∧ NotedRegs s n [])) ∧
  (∀ (s : State) (u d : Nat), s.modTAt u = some d →
    Answers (.moderationTimer u) s fun n =>
      (∀ k, (n.srcAt k).held = ((s.srcAt k).held && s.modUnit k != some u)) ∧ n.modTAt u = none ∧
      n.get F.INT_MOD_STAT_CNT u = 0 ∧ n.on F.INT_MOD_STAT_TIMING u = false ∧
      n.on F.INT_MOD_STAT_OPEN u = (s.boundSrcs u).any s.pendOf ∧
      n.get F.INT_MOD_STAT_FIRES u = (s.get F.INT_MOD_STAT_FIRES u + 1) % 2 ^ F.INT_MOD_STAT_FIRES.w ∧
      n = (s.till d).noted n ∧ NotedRegs s n [])

/-- R282, R283, R285 to R292: the highest ranking source that is eligible for a core, and for no other, is presented to
it; where nothing is eligible, a cycle of routing changes nothing; a claim at the end of the entry window pushes the
presented source and its priority, makes it ACTIVE and has the core save a frame, but for a chained entry, and fetch
the source's vector; a completion of the top of the stack pops it, one of anything else freezes the stack and enters
the fault slot, and one while it is frozen only counts; `mret` after a completion starts the frame restore, which ends
after 12 cycles; a core that executes WFI (core number 4 + c of MRET, log entry 52) sleeps, but where a source wakes
it; a reset of the stack empties it, and its edge sources are pending again. -/
def Obligations.CoresTakeInterrupts : Prop :=
  (∀ (s : State) (t k : Nat) (c : Fin 4), s.eligible k c = true → (s.till t).takesEntry c = true →
    (∀ d : Fin 4, d ≠ c → s.eligible k d = false) →
    (∀ j ∈ s.candidates, j ≠ k → s.eligible j c = true → s.get F.INT_SRC_PRIO j < s.get F.INT_SRC_PRIO k ∨
      (s.get F.INT_SRC_PRIO j = s.get F.INT_SRC_PRIO k ∧ k < j)) →
    Answers (.route t) s fun n =>
      (n.coreAt c).win.map (·.1) = some k ∧ n.get F.CORE_PRES_SOURCE c = k % 1024 ∧
      n.on F.CORE_PRES_VALID c = true) ∧
  (∀ (s : State) (t k : Nat) (c : Fin 4), s.eligible k c = true → (s.coreAt c).win = none →
    (s.candidates.all fun j => [0, 1, 2, 3].all fun d => !s.eligible j d || (j == k && d == c)) = true →
    let done := match (s.coreAt c).restore with | some r => decide (r + coreCycles 12 ≤ (s.till t).t64) | none => false
    Answers (.route t) s fun n =>
      n.coreAt c = { s.coreAt c with
        win := some (k, (s.till t).t64, (s.coreAt c).restore.isSome && !done), restore := none, wfi := false
        frames := if done then (s.coreAt c).frames - 1 else (s.coreAt c).frames } ∧
      n.srcAt k = { s.srcAt k with rr := (c + 1) % 4 } ∧ n.get F.CORE_PRES_SOURCE c = k % 1024 ∧
      n.on F.CORE_PRES_VALID c = true ∧ SameBut s.coreAt n.coreAt [c] ∧ SameBut s.srcAt n.srcAt [k] ∧
      n = { s.till t with regs := n.regs, src := n.src, core := n.core } ∧ SameRegs s n [(.CORE_PRES, c)]) ∧
  (∀ (s : State) (t : Nat), (s.candidates.all fun j => [0, 1, 2, 3].all fun d => !s.eligible j d) = true →
    Answers (.route t) s fun n => n = s.till t) ∧
  (∀ (s : State) (t c k t0 : Nat) (ch : Bool), (s.coreAt c).win = some (k, t0, ch) →
    (windowEnd t0 ch ≤ (s.till t).t64 →
      Answers (.claim t c) s fun n =>
        n.coreAt c = { s.coreAt c with
          stack := (k, s.get F.INT_SRC_PRIO k) :: (s.coreAt c).stack, win := none
          fetch := 2 ^ 16 * s.get F.CORE_VBASE_VBASE c + 16 * (k + 1)
          frames := (s.coreAt c).frames + (if ch then 0 else 1) } ∧
        n.srcAt k = { s.srcAt k with latch := false, active := true } ∧ n.on F.CORE_PRES_VALID c = false ∧
        n.get F.CORE_CNT_ENTRIES c = (s.get F.CORE_CNT_ENTRIES c + 1) % 2 ^ F.CORE_CNT_ENTRIES.w ∧
        SameBut s.coreAt n.coreAt [c] ∧ SameBut s.srcAt n.srcAt [k] ∧
        n = { s.till t with regs := n.regs, src := n.src, core := n.core } ∧
        NotedRegs s n [(.CORE_PRES, c), (.CORE_CNT, c)]) ∧
    ((s.till t).t64 < windowEnd t0 ch → Answers (.claim t c) s fun n => n = s.till t)) ∧
  (∀ (s : State) (t c k : Nat), s.domOn 85 = true → c < 4 →
    s.grants (16 + c) 9 (0x3000 + 0x400 * c + 0x20) true = true →
    (s.on F.CORE_RUN_FROZEN c = true →
      Answers (.coreEoi t c k) s fun n =>
        n.get F.CORE_CNT_FAULT_CNT c = min (s.get F.CORE_CNT_FAULT_CNT c + 1) (2 ^ F.CORE_CNT_FAULT_CNT.w - 1) ∧
        n = { s.till t with regs := n.regs, shad := n.shad } ∧ SameRegs s n [(.CORE_CNT, c)]) ∧
    (∀ (j p : Nat) (rest : List (Nat × Nat)), s.on F.CORE_RUN_FROZEN c = false → (s.coreAt c).stack = (j, p) :: rest →
      j = k →
      Answers (.coreEoi t c k) s fun n =>
        n.coreAt c = { s.coreAt c with stack := rest, eoi := true } ∧
        n.srcAt k = { s.srcAt k with active := false } ∧ SameBut s.coreAt n.coreAt [c] ∧
        SameBut s.srcAt n.srcAt [k] ∧ n = { s.till t with src := n.src, core := n.core, shad := n.shad }) ∧
    (let st := (s.coreAt c).stack
     s.on F.CORE_RUN_FROZEN c = false → st.head?.map (·.1) ≠ some k →
      Answers (.coreEoi t c k) s fun n =>
        n.on F.CORE_RUN_FROZEN c = true ∧ (n.coreAt c).stack = st ∧ (n.coreAt c).win = none ∧
        (n.coreAt c).restore = none ∧ (n.coreAt c).fetch = 2 ^ 16 * s.get F.CORE_VBASE_VBASE c ∧
        (n.coreAt c).frames = (s.coreAt c).frames + 1 ∧ n.on F.CORE_PRES_VALID c = false ∧
        n.reg .CORE_FAULTINFO c =
          w64 (k % 1024 + (if st = [] then 2 ^ 10 else 0) + st.length * 2 ^ 11 + (st.headD (0, 0)).2 * 2 ^ 17 +
            (st.headD (0, 0)).1 * 2 ^ 23) ∧
        n.get F.CORE_CNT_FAULT_CNT c =
          min (s.get F.CORE_CNT_FAULT_CNT c + 1) (2 ^ F.CORE_CNT_FAULT_CNT.w - 1) ∧
        (n.srcAt (1000 + c)).latch = true ∧ n = { (s.till t).faulted n with shad := n.shad } ∧
        NotedRegs s n [(.CORE_RUN, c), (.CORE_FAULTINFO, c), (.CORE_PRES, c), (.CORE_CNT, c)])) ∧
  (∀ (s : State) (t c : Nat), c < 4 → (s.coreAt c).eoi = true →
    Answers (.mret t c) s fun n =>
      n.coreAt c = { s.coreAt c with eoi := false, restore := some (s.till t).t64 } ∧
      SameBut s.coreAt n.coreAt [c] ∧ n = { s.till t with core := n.core }) ∧
  (∀ (s : State) (t c : Nat), c < 4 → s.domOn (81 + c) = true → (s.coreAt c).win = none →
    let wakes := s.candidates.any fun k =>
      bit (s.get F.INT_SRC_TARGET k) c && s.enabledSrc k && s.pendOf k && !s.heldNow k
    Answers (.mret t (4 + c)) s fun n =>
      (n.coreAt c).wfi = !wakes ∧
      (wakes = false →
        n.coreAt c = { s.coreAt c with wfi := true } ∧ SameBut s.coreAt n.coreAt [c] ∧
        n = { s.till t with core := n.core })) ∧
  (∀ (s : State) (t c r : Nat), (s.coreAt c).restore = some r → r + coreCycles 12 ≤ (s.till t).t64 →
    Answers (.frameRestoreDone t c) s fun n =>
      n.coreAt c = { s.coreAt c with restore := none, frames := (s.coreAt c).frames - 1 } ∧
      SameBut s.coreAt n.coreAt [c] ∧ n = { s.till t with core := n.core }) ∧
  (∀ (s : State) (t m c : Nat), s.domOn 85 = true → s.grants m 9 (0x3000 + 0x400 * c + 0x28) true = true →
    Answers (.stackReset t m c) s fun n =>
      (n.coreAt c).stack = [] ∧ n.on F.CORE_RUN_FROZEN c = false ∧
      (∀ x ∈ (s.coreAt c).stack, (n.srcAt x.1).active = false ∧
        (n.srcAt x.1).latch = ((s.srcAt x.1).latch || s.senseEdge x.1)) ∧
      SameBut s.srcAt n.srcAt ((s.coreAt c).stack.map (·.1)) ∧
      n = { (s.till t).noted n with shad := n.shad } ∧ NotedRegs s n [(.CORE_RUN, c)])

/-- R274 to R276, R294 to R298, R327: a ring whose turn it is for one of the 16 DMA engines copies the bundle at the
head of its queue into its function's host memory from HEAD on; a ring that is not set right stops with ERR; the
writeback of HEAD pops the bundle and shows HEAD and BUNDLES in host memory; TAIL frees ring words, and one that claims
more than the ring holds stops it with ERR; a vector whose timer runs out sends its message, or is pending where it is
masked, and during sleep is held, where it asks for the wake if it is to; an unmasked vector of an unmasked function
whose MSI-X is enabled sends what is pending; a function that enters sleep is asleep with its copies complete, one that
is asleep enters it no second time, and one that wakes is not asleep. -/
def Obligations.HostRingsAndVectors : Prop :=
  (∀ (s : State) (t r : Nat), s.ringLive r = true →
    (s.fnAt (s.get F.RING_CFG_FUNC r)).sleep = false → (s.ringCAt r).1 = 0 → s.domOn 85 = true →
    (∀ e, s.ringBad r = some e →
      Answers (.ringCopy t r) s fun n =>
        n.on F.RING_STAT_ERR r = true ∧ n.get F.RING_STAT_ERR_CAUSE r = e ∧ n.on F.RING_STAT_ACTIVE r = false ∧
        n = { s.till t with regs := n.regs } ∧ SameRegs s n [(.RING_STAT, r)]) ∧
    (∀ b : QBundle, s.ringBad r = none → s.peek (s.get F.RING_CFG_QUEUE r) 0 = some (some b) → s.ringFree r < b.len →
      Answers (.ringCopy t r) s fun n =>
        n.on F.RING_STAT_WAITING r = true ∧ n = { s.till t with regs := n.regs } ∧ SameRegs s n [(.RING_STAT, r)]) ∧
    (∀ b : QBundle, s.ringBad r = none → s.peek (s.get F.RING_CFG_QUEUE r) 0 = some (some b) → b.len ≤ s.ringFree r →
      (s.ringTurn r = false → Answers (.ringCopy t r) s fun n => n = s.till t) ∧
      (s.ringTurn r = true →
        let m := s.get F.RING_CFG_SIZE_LOG2 r
        Answers (.ringCopy t r) s fun n =>
          n.get F.RING_HEAD_HEAD r = (s.get F.RING_HEAD_HEAD r + b.len) % 2 ^ (m + 1) ∧
          n.ringCAt r = (b.len, s.get F.RING_CFG_QUEUE r) ∧ n.on F.RING_STAT_WAITING r = false ∧ n.que = s.que ∧
          n.dmaRr = r ∧ SameBut s.ringCAt n.ringCAt [r]))) ∧
  (∀ (s : State) (t r : Nat) (b : QBundle), s.ringLive r = true →
    (s.fnAt (s.get F.RING_CFG_FUNC r)).sleep = false → (s.ringCAt r).1 = 0 → s.domOn 85 = true → s.ringBad r = none →
    s.peek (s.get F.RING_CFG_QUEUE r) 0 = some (some b) → b.len ≤ s.ringFree r → s.ringTurn r = true →
    b.errs = [] → s.get F.RING_BASE_BASE r * 4096 + 8 * 2 ^ s.get F.RING_CFG_SIZE_LOG2 r ≤ 2 ^ 64 →
    let m := s.get F.RING_CFG_SIZE_LOG2 r
    let place := fun i =>
      hostKey (s.get F.RING_CFG_FUNC r) (s.get F.RING_BASE_BASE r * 4096 + 8 * ((s.get F.RING_HEAD_HEAD r + i) % 2 ^ m))
    Answers (.ringCopy t r) s fun n =>
      n.get F.RING_HEAD_HEAD r = (s.get F.RING_HEAD_HEAD r + b.len) % 2 ^ (m + 1) ∧
      n.ringCAt r = (b.len, s.get F.RING_CFG_QUEUE r) ∧
      n.on F.RING_STAT_WAITING r = false ∧
      n.get F.RING_CNT_BUNDLES r = (s.get F.RING_CNT_BUNDLES r + 1) % 2 ^ F.RING_CNT_BUNDLES.w ∧
      n.get F.RING_CNT_WORDS r = (s.get F.RING_CNT_WORDS r + b.len) % 2 ^ F.RING_CNT_WORDS.w ∧
      (∀ i (h : i < b.words.length), ∀ j : Fin 8,
        n.hostAt (place i + j) = BitVec.ofNat 8 (b.words[i].toNat / 256 ^ j.val)) ∧
      (∀ a, (∀ i, i < b.words.length → a < place i ∨ place i + 8 ≤ a) → n.hostAt a = s.hostAt a) ∧
      SameBut s.ringCAt n.ringCAt [r] ∧
      n = { s.till t with regs := n.regs, host := n.host, ringC := n.ringC, dmaRr := r } ∧
      SameRegs s n [(.RING_HEAD, r), (.RING_STAT, r), (.RING_CNT, r)]) ∧
  (∀ (s : State) (t r : Nat), (s.ringCAt r).1 ≠ 0 →
    let q := (s.ringCAt r).2
    let wb := s.get F.RING_WB_WB r * 8
    (Answers (.ringWriteback t r) s fun n =>
      n.ringCAt r = (0, 0) ∧
      n.get F.QD_RD_RD q = (s.get F.QD_RD_RD q + (s.ringCAt r).1) % 2 ^ (s.qk q + 1) % 2 ^ F.QD_RD_RD.w ∧
      n.get F.RING_HEAD_HEAD r = s.get F.RING_HEAD_HEAD r ∧ n.get F.RING_TAIL_TAIL r = s.get F.RING_TAIL_TAIL r ∧
      SameBut s.ringCAt n.ringCAt [r] ∧ n.store = s.store ∧ n.wait = s.wait ∧ n.open_ = s.open_ ∧
      SameBut s.queAt n.queAt [q] ∧ n.t64 = (s.till t).t64) ∧
    (wb ≠ 0 → s.masked (s.get F.RING_CFG_VECTOR r) = true →
      Answers (.ringWriteback t r) s fun n =>
        ∀ j : Fin 8, n.hostAt (hostKey (s.get F.RING_CFG_FUNC r) (wb + j)) =
          BitVec.ofNat 8 ((s.get F.RING_HEAD_HEAD r + s.get F.RING_CNT_BUNDLES r * 2 ^ 32) / 256 ^ j.val))) ∧
  (∀ (s : State) (t f r : Nat) (v : Word),
    (s.ringMine f r = false → Answers (.tailWrite t f r v) s fun n => n = s.till t) ∧
    (s.ringMine f r = true → s.ringLive r = true ∧
        2 ^ s.get F.RING_CFG_SIZE_LOG2 r < s.ringUsed r (F.RING_TAIL_TAIL.of v) →
      Answers (.tailWrite t f r v) s fun n =>
        n.on F.RING_STAT_ERR r = true ∧ n.get F.RING_STAT_ERR_CAUSE r = 4 ∧ n.on F.RING_STAT_ACTIVE r = false ∧
        n = { s.till t with regs := n.regs, muOn := n.muOn } ∧
        ∀ q i, q ∉ [Reg.MU_STAT, .MU_EVT, .MU_MINMAX] → (q, i) ≠ (.RING_STAT, r) → n.reg q i = s.reg q i) ∧
    (s.ringMine f r = true → ¬ (s.ringLive r = true ∧
        2 ^ s.get F.RING_CFG_SIZE_LOG2 r < s.ringUsed r (F.RING_TAIL_TAIL.of v)) →
      Answers (.tailWrite t f r v) s fun n =>
        n.get F.RING_TAIL_TAIL r = F.RING_TAIL_TAIL.of v ∧ n.get F.RING_HEAD_HEAD r = s.get F.RING_HEAD_HEAD r ∧
        n.on F.RING_STAT_ERR r = s.on F.RING_STAT_ERR r ∧ n.host = s.host ∧ n.store = s.store ∧
        n.t64 = (s.till t).t64)) ∧
  (∀ (s : State) (v d : Nat), (s.vecAt v).due = some d →
    ((s.fnAt (v / 128)).sleep = false → s.masked v = true →
      Answers (.vectorTimer v) s fun n =>
        n.vecAt v = { s.vecAt v with due := none, pend := true } ∧ SameBut s.vecAt n.vecAt [v] ∧
        n.get F.HV_STAT_HELD_CNT v = 0 ∧ n.on F.HV_STAT_TIMING v = false ∧
        n = { s.till d with regs := n.regs, vec := n.vec } ∧ SameRegs s n [(.HV_STAT, v)]) ∧
    ((s.fnAt (v / 128)).sleep = false → s.masked v = false →
      Answers (.vectorTimer v) s fun n =>
        n.vecAt v = { s.vecAt v with due := none, pend := false } ∧ SameBut s.vecAt n.vecAt [v] ∧
        n.get F.HV_STAT_HELD_CNT v = 0 ∧ n.on F.HV_STAT_TIMING v = false ∧
        n.get F.HV_STAT_SENT v = (s.get F.HV_STAT_SENT v + 1) % 2 ^ F.HV_STAT_SENT.w ∧
        (∀ j : Fin 4, n.hostAt (hostKey (v / 128) ((s.vecAt v).addr + j)) = BitVec.ofNat 8 ((s.vecAt v).data / 256 ^ j.val)) ∧
        n = { s.till d with regs := n.regs, vec := n.vec, host := n.host } ∧ SameRegs s n [(.HV_STAT, v)]) ∧
    ((s.fnAt (v / 128)).sleep = true →
      let asks := s.sleepPol v == 2 && (s.inL2 || (s.fnAt (v / 128)).pme)
      Answers (.vectorTimer v) s fun n =>
        n.vecAt v = { s.vecAt v with due := none } ∧ SameBut s.vecAt n.vecAt [v] ∧
        n.get F.HV_STAT_HELD_CNT v = s.get F.HV_STAT_HELD_CNT v ∧ n.on F.HV_STAT_TIMING v = false ∧
        n.on F.HV_STAT_WAKE_REQ v = (s.on F.HV_STAT_WAKE_REQ v || asks) ∧
        n.pwr = { s.pwr with wakeN := s.pwr.wakeN || (s.sleepPol v == 2 && s.inL2) } ∧
        n = { s.till d with regs := n.regs, vec := n.vec, pwr := n.pwr } ∧ SameRegs s n [(.HV_STAT, v)])) ∧
  (∀ (s : State) (t f l : Nat), l < 128 →
    let v := 128 * f + l
    ((s.vecAt v).pend = false ∨ (s.fnAt f).fmask = true ∨ (s.fnAt f).msix = false →
      Answers (.vectorUnmask t f l) s fun n =>
        n.vecAt v = { s.vecAt v with mask := false } ∧ SameBut s.vecAt n.vecAt [v] ∧
        n = { s.till t with vec := n.vec }) ∧
    ((s.vecAt v).pend = true → (s.fnAt f).fmask = false → (s.fnAt f).msix = true →
      Answers (.vectorUnmask t f l) s fun n =>
        n.vecAt v = { s.vecAt v with mask := false, pend := false } ∧ SameBut s.vecAt n.vecAt [v] ∧
        n.get F.HV_STAT_SENT v = (s.get F.HV_STAT_SENT v + 1) % 2 ^ F.HV_STAT_SENT.w ∧
        (∀ j : Fin 4, n.hostAt (hostKey (v / 128) ((s.vecAt v).addr + j)) = BitVec.ofNat 8 ((s.vecAt v).data / 256 ^ j.val)) ∧
        n = { s.till t with regs := n.regs, vec := n.vec, host := n.host } ∧ SameRegs s n [(.HV_STAT, v)])) ∧
  (∀ (s : State) (t f : Nat),
    ((s.fnAt f).sleep = true → Answers (.functionSleepEntry t f) s fun n => n = s.till t) ∧
    ((s.fnAt f).sleep = false →
      Answers (.functionSleepEntry t f) s fun n =>
        n.fnAt f = { s.fnAt f with sleep := true } ∧ SameBut s.fnAt n.fnAt [f] ∧
        (n.srcAt (864 + f)).latch = true ∧ (∀ r ∈ s.ringsOf f, (n.ringCAt r).1 = 0)) ∧
    ((s.fnAt f).sleep = false → ((s.ringsOf f).all fun r => (s.ringCAt r).1 == 0) = true →
      Answers (.functionSleepEntry t f) s fun n =>
        n.fnAt f = { s.fnAt f with sleep := true } ∧ SameBut s.fnAt n.fnAt [f] ∧
        (n.srcAt (864 + f)).latch = true ∧ n = { (s.till t).noted n with fn := n.fn } ∧ NotedRegs s n []) ∧
    Answers (.functionWake t f) s fun n =>
      n.fnAt f = { s.fnAt f with sleep := false, d3 := false, bme := true } ∧ SameBut s.fnAt n.fnAt [f] ∧
      n.pwr.pcie = 1 ∧ n.pwr.wakeN = false ∧
      ((s.fnAt f).sleep = true ∨ (s.fnAt f).d3 = true ∨ (s.fnAt f).bme = false → (n.srcAt (864 + f)).latch = true) ∧
      n = { (s.till t).noted n with fn := n.fn, pwr := n.pwr } ∧ NotedRegs s n [])

/-- R300 to R302, R310, R311, R313: a POST makes a FREE or DONE slot POSTED with its TAG and rings the doorbell, one of
a slot in POSTED or BUSY only counts; a RELEASE makes a DONE slot FREE, one of another only counts; a write of
MBX_NTAIL takes entries out of the event queue; firmware takes the next posted command, and one that is assigned and
not too long waits as a job, any other is answered at once; after 10 ms a command that is not done is answered
ACCEPTED, or BUSY where it has not begun and sixteen of its endpoint go on (log entry 53); one that is done ends, in
its slot or with a COMPLETE notice, or after a reset of its endpoint with neither. -/
def Obligations.MailboxProtocol : Prop :=
  (∀ (s : State) (t e sl : Nat),
    let x := s.slotAt (slotKey e sl)
    (x.st ≠ 1 → x.st ≠ 2 →
      Answers (.post t e sl) s fun n =>
        n.slotAt (slotKey e sl) = { x with st := 1, tag := field (s.slotData e sl) 2 2 } ∧
        SameBut s.slotAt n.slotAt [slotKey e sl] ∧ (e < 16 → (n.srcAt (912 + 2 * e)).latch = true) ∧
        n = { (s.till t).noted n with slot := n.slot } ∧ NotedRegs s n []) ∧
    (x.st = 1 ∨ x.st = 2 →
      Answers (.post t e sl) s fun n =>
        n.get F.MBX_CNT_POST_IGN e = min (s.get F.MBX_CNT_POST_IGN e + 1) (2 ^ F.MBX_CNT_POST_IGN.w - 1) ∧
        n = { s.till t with regs := n.regs } ∧ SameRegs s n [(.MBX_CNT, e)]) ∧
    (x.st = 3 →
      Answers (.release t e sl) s fun n =>
        n.slotAt (slotKey e sl) = { x with st := 0 } ∧ SameBut s.slotAt n.slotAt [slotKey e sl] ∧
        n = { s.till t with slot := n.slot }) ∧
    (x.st ≠ 3 →
      Answers (.release t e sl) s fun n =>
        n.get F.MBX_CNT_POST_IGN e = min (s.get F.MBX_CNT_POST_IGN e + 1) (2 ^ F.MBX_CNT_POST_IGN.w - 1) ∧
        n = { s.till t with regs := n.regs } ∧ SameRegs s n [(.MBX_CNT, e)])) ∧
  (∀ (s : State) (t e v : Nat),
    (e ≠ 17 → Answers (.mbxNtail t e v) s fun n =>
      (n.epAt e).ntail = v % 2 ^ 17 ∧ (e < 16 → (n.srcAt (912 + 2 * e + 1)).latch = true) ∧
      SameBut s.epAt n.epAt [e] ∧ n = (s.till t).noted n ∧ NotedRegs s n []) ∧
    (e ≠ 17 → (s.epAt e).kept = [] → Answers (.mbxNtail t e v) s fun n =>
      n.epAt e = { s.epAt e with ntail := v % 2 ^ 17 }) ∧
    (e = 17 → v % 2 = 1 → Answers (.mbxNtail t e v) s fun n =>
      SameBut s.epAt n.epAt [e] ∧ n = { s.till t with ep := n.ep }) ∧
    (e = 17 → v % 2 = 1 → (s.epAt e).kept = [] → Answers (.mbxNtail t e v) s fun n =>
      n.epAt e = { s.epAt e with fifo := (s.epAt e).fifo.drop 1 }) ∧
    (e = 17 → v % 2 = 0 → Answers (.mbxNtail t e v) s fun n => n = s.till t)) ∧
  (∀ (s : State) (t e sl : Nat) (rest : List (Nat × Nat)), s.pwr.fw = true → s.on F.PWR_ENG_READY 0 = true →
    s.romServes = false → s.posted = (e, sl) :: rest →
    let bs := s.slotData e sl
    let op := field bs 0 2
    (Answers (.commandTake t) s fun n =>
      n.lastEp = e ∧ (n.epAt e).slot = sl ∧ (n.slotAt (slotKey e sl)).taken = (s.till t).t64 ∧
      (n.slotAt (slotKey e sl)).st = (if assigned op && decide (field bs 4 2 ≤ 240) then 2 else 3) ∧
      (assigned op = false → (n.slotAt (slotKey e sl)).bytes.take 2 = le 2 0x10) ∧
      (assigned op = true → 240 < field bs 4 2 → (n.slotAt (slotKey e sl)).bytes.take 2 = le 2 0x11) ∧
      n.jobs = s.jobs ++ (if assigned op && decide (field bs 4 2 ≤ 240) then
        [{ ep := e, sl := sl, tag := field bs 2 2, op := op, load := (bs.drop 16).take (field bs 4 2)
           flags := field bs 6 2 + if field bs 8 8 = 0 then 0 else 2 ^ 16 }] else [])) ∧
    (e < 18 → assigned op = true → field bs 4 2 ≤ 240 →
      Answers (.commandTake t) s fun n =>
        SameBut s.slotAt n.slotAt [slotKey e sl] ∧ SameBut s.epAt n.epAt [e] ∧
        n = { s.till t with slot := n.slot, ep := n.ep, lastEp := n.lastEp, jobs := n.jobs })) ∧
  (∀ (s : State) (j : Job),
    s.jobs.find? (fun x => x.ep == j.ep && x.sl == j.sl && x.slot && !x.gone) = some j →
    let w := s.till ((s.slotAt (slotKey j.ep j.sl)).taken + ms 10)
    (j.ran = false → 16 ≤ w.inProgress j →
      Answers (.responseDeadline j.ep j.sl) s fun n => w.refused n j) ∧
    ((j.ran = true → w.doneOf j = none) → (j.ran = false → w.inProgress j < 16) →
      Answers (.responseDeadline j.ep j.sl) s fun n =>
        n.answered j 1 0 [] ∧ SameBut s.slotAt n.slotAt [slotKey j.ep j.sl] ∧
        n.jobs = (s.jobs.map fun x => if x = j then { j with slot := false } else x) ∧
        n = { w.noted n with slot := n.slot, jobs := n.jobs, freeCnt := s.freeCnt + 1 } ∧ NotedRegs s n []) ∧
    (∀ (st : Nat) (d : List Byte), j.ran = true → w.doneOf j = some (st, d) →
      Answers (.responseDeadline j.ep j.sl) s fun n => n.answered j st 0 d ∧ n.jobs = s.jobs.erase j)) ∧
  (∀ (s : State) (t : Nat) (j : Job) (st : Nat) (d : List Byte),
    s.jobs.find? (fun x => x.ep == j.ep && x.sl == j.sl && x.ran && ((s.till t).doneOf x).isSome) = some j →
    (s.till t).doneOf j = some (st, d) →
    let w := { s.till t with
      claimEp := if j.op = 0x305 ∧ s.claimEp = some j.ep then none else s.claimEp }
    (j.gone = false → j.slot = true → Answers (.complete t j.ep j.sl) s fun n => w.finished n j st 0 d) ∧
    (j.gone = false → j.slot = false → Answers (.complete t j.ep j.sl) s fun n =>
      n.jobs = s.jobs.erase j ∧ SameBut s.epAt n.epAt [j.ep] ∧ n = { w.noted n with jobs := n.jobs } ∧
      NotedRegs s n []) ∧
    (j.gone = true → Answers (.complete t j.ep j.sl) s fun n => n = { w with jobs := s.jobs.erase j })) ∧
  (∀ (s : State) (t : Nat) (j : Job),
    s.jobs.find? (fun j => j.op == 0x704 && j.arg 1 1 != 3 && j.ran && decide (j.at_ ≤ max t s.t64)) = some j → s.opll ≠ 3 →
    (j.gone = false → j.slot = true →
      Answers (.opllOpTimeout t) s fun n => (s.till j.at_).finished n j 0x1B 0 (errData noIdx noIdx)) ∧
    (j.gone = false → j.slot = false →
      Answers (.opllOpTimeout t) s fun n =>
        n.jobs = s.jobs.erase j ∧ SameBut s.epAt n.epAt [j.ep] ∧
        n = { (s.till j.at_).noted n with jobs := n.jobs } ∧ NotedRegs s n []) ∧
    (j.gone = true → Answers (.opllOpTimeout t) s fun n => n = { s.till j.at_ with jobs := s.jobs.erase j }))

/-- R302 to R306, R309, R310: every command that has been taken passes its checks in their order or is answered with
the status of the first that fails, changing nothing; with DRY_RUN it answers SUCCESS with RFLAGS 1 and does no work;
else its work is done, and it is answered with SUCCESS and its data, or goes on holding its resources, where need be
answered ACCEPTED at once; one that would go on while sixteen of its endpoint do is BUSY. Which commands and notices
take one of the sixteen places is the model's reading (log entry 53). -/
def Obligations.CommandsAreAnswered : Prop :=
  ∀ p ∈ ([(.sysIdentify, 0x0000, cmdSysIdentify), (.sysPing, 0x0001, cmdSysPing), (.sysNoticeSet, 0x0002, cmdSysNoticeSet),
      (.sysAbort, 0x0003, cmdSysAbort), (.sysTime, 0x0004, cmdSysTime), (.sysEngineReset, 0x0005, cmdSysEngineReset),
      (.sysReady, 0x0006, cmdSysReady), (.laneSet, 0x0100, cmdLaneSet), (.laneGet, 0x0101, cmdLaneGet),
      (.laneStatus, 0x0102, cmdLaneStatus), (.laneCounters, 0x0103, cmdLaneCounters), (.walkLoad, 0x0104, cmdWalkLoad),
      (.walkRead, 0x0105, cmdWalkRead), (.walkLearn, 0x0106, cmdWalkLearn), (.engineSet, 0x0200, cmdEngineSet),
      (.engineGet, 0x0201, (cmdEngineRead (engineWords ++ [.CNT_STAT, .CNT_IDX]))),
      (.engineCounters, 0x0202, (cmdEngineRead [.CNT_CNT])), (.pairAlloc, 0x0203, cmdPairAlloc),
      (.pairSet, 0x0204, cmdPairSet), (.pairGet, 0x0205, cmdPairGet), (.pairFree, 0x0206, cmdPairFree),
      (.axisSet, 0x0300, cmdAxisSet), (.axisEnable, 0x0301, cmdAxisEnable),
      (.axisStatus, 0x0302, (cmdReadWords axisStatusWords)), (.stakesLoad, 0x0303, cmdStakesLoad),
      (.lgLoad, 0x0304, cmdLgLoad), (.axisCommit, 0x0305, cmdAxisCommit), (.markdirSet, 0x0306, cmdMarkdirSet),
      (.qhitRead, 0x0307, cmdQhitRead), (.calUnitStatus, 0x0500, cmdCalUnitStatus),
      (.calBlockSet, 0x0501, cmdCalBlockSet), (.calBlockStatus, 0x0502, cmdCalBlockStatus),
      (.calPrioritise, 0x0503, cmdCalPrioritise), (.calReinstate, 0x0504, cmdCalReinstate),
      (.calExport, 0x0505, cmdCalExport), (.weaveLoad, 0x0400, cmdWeaveLoad), (.weaveStart, 0x0401, (cmdWeaveRun 1)),
      (.weaveStop, 0x0402, (cmdWeaveRun 0)), (.weaveStatus, 0x0403, cmdWeaveStatus), (.weaveCfg, 0x0404, cmdWeaveCfg),
      (.weaveData, 0x0405, cmdWeaveData), (.weavePin, 0x0406, cmdWeavePin), (.filtSet, 0x0600, cmdFiltSet),
      (.filtBankLoad, 0x0601, cmdFiltBankLoad), (.filtSwap, 0x0602, cmdFiltSwap), (.filtReset, 0x0603, cmdFiltReset),
      (.filtStatus, 0x0604, cmdFiltStatus), (.histSet, 0x0605, cmdHistSet), (.histOp, 0x0606, cmdHistOp),
      (.histStatus, 0x0607, cmdHistStatus), (.tpllSet, 0x0700, cmdTpllSet),
      (.tpllStatus, 0x0701, (cmdReadWords tpllStatusWords)), (.sync0Arm, 0x0702, cmdSync0Arm),
      (.bandSet, 0x0703, cmdBandSet), (.opllOp, 0x0704, cmdOpllOp), (.outSet, 0x0705, cmdOutSet),
      (.sync1, 0x0706, cmdSync1), (.loopSet, 0x0707, cmdLoopSet), (.opllStatus, 0x0708, cmdOpllStatus),
      (.queueAlloc, 0x0800, cmdQueueAlloc), (.queueFree, 0x0801, cmdQueueFree), (.queueEnable, 0x0802, cmdQueueEnable),
      (.queueBind, 0x0803, cmdQueueBind), (.queueRoute, 0x0804, cmdQueueRoute),
      (.queueFastpath, 0x0805, cmdQueueFastpath), (.queueRingSet, 0x0806, cmdQueueRingSet),
      (.queueStatus, 0x0807, cmdQueueStatus), (.queueFlagsClear, 0x0808, cmdQueueFlagsClear),
      (.queuePoolSet, 0x0809, cmdQueuePoolSet), (.linkAssign, 0x0900, cmdLinkAssign),
      (.linkEthSet, 0x0901, cmdLinkEthSet), (.linkDlpSet, 0x0902, cmdLinkDlpSet), (.linkStatus, 0x0903, cmdLinkStatus),
      (.linkPartners, 0x0904, cmdLinkPartners), (.linkEgressBind, 0x0905, cmdLinkEgressBind),
      (.accWindowSet, 0x0A00, cmdAccWindowSet), (.accWindowGet, 0x0A01, cmdAccWindowGet),
      (.accGrant, 0x0A02, cmdAccGrant), (.accRevoke, 0x0A03, cmdAccRevoke), (.accViolations, 0x0A04, cmdAccViolations),
      (.accUnlock, 0x0A05, cmdAccUnlock), (.pwrStateSet, 0x0B00, cmdPwrStateSet),
      (.pwrDomainSet, 0x0B01, cmdPwrDomainSet), (.pwrWakeCfg, 0x0B02, cmdPwrWakeCfg),
      (.pwrStatus, 0x0B03, (cmdReadWords pwrStatusWords)), (.monSet, 0x0C00, cmdMonSet), (.monRead, 0x0C01, cmdMonRead),
      (.monTemps, 0x0C02, cmdMonTemps), (.monErrlog, 0x0C03, cmdMonErrlog), (.nvmSave, 0x0D00, cmdNvmSave),
      (.nvmProfileSave, 0x0D01, cmdNvmProfileSave), (.nvmProfileLoad, 0x0D02, cmdNvmProfileLoad),
      (.nvmImageWrite, 0x0D03, cmdNvmImageWrite), (.nvmImageActivate, 0x0D04, cmdNvmImageActivate),
      (.nvmStatus, 0x0D05, cmdNvmStatus)] :
      List ((Nat → Nat → Nat → Instr) × Nat × Cmd)),
    ∀ (s : State) (t e sl : Nat) (j : Job),
    (s.serves t e sl p.2.1 p.2.2 j →
      let out := p.2.2.run j ((Work.start s).at t)
      (∀ f d, out.2 = .ok f d → Answers (p.1 t e sl) s fun n => out.1.st.finished n j 0 f d) ∧
      (∀ st i o, out.2 = .err st i o → Answers (p.1 t e sl) s fun n => out.1.st.finished n j st 0 (errData i o)) ∧
      (∀ o a, out.2 = .wait o a → (s.till t).inProgress j < 16 →
        Answers (p.1 t e sl) s fun n => n = out.1.st.begun j (p.2.2.res (s.till t) j) o a) ∧
      (out.2 = .later → (s.till t).inProgress j < 16 →
        Answers (p.1 t e sl) s fun n => out.1.st.accepted n j (p.2.2.res (s.till t) j)) ∧
      (∀ o a, out.2 = .wait o a ∨ out.2 = .later → 16 ≤ (s.till t).inProgress j →
        Answers (p.1 t e sl) s fun n => (s.till t).refused n j)) ∧
    (s.pwr.fw = true → s.taken e sl p.2.1 = some j → j.slot = true → j.gone = false →
      let fails := firstFail ((s.till t).commonFail j (p.2.2.res (s.till t) j) ++ p.2.2.chk (s.till t) j)
      (∀ st i o, fails = some (st, i, o) →
        Answers (p.1 t e sl) s fun n => (s.till t).finished n j st 0 (errData i o)) ∧
      (fails = none → bit j.flags 1 = true → Answers (p.1 t e sl) s fun n => (s.till t).finished n j 0 1 []))

/-- R306, R314, R316 to R321 with Tables OCI-9 to OCI-14, LNK-8, ACC-6, PWR-9 and MON-5: a command that reads answers
with the register words that its table lists, read in that order; one that writes has written, when it answers, the
words that its table lists, in that order, and nothing else. -/
def Obligations.CommandsReadAndWriteRegisters : Prop :=
  (∀ p ∈ ([
      (.laneGet, 0x0101, cmdLaneGet, (fun j => perItem [j.arg 0 2] (laneWords ++ [.FRE_STAT, .CAP_STAT]))),
      (.laneCounters, 0x0103, cmdLaneCounters, (fun j => perItem (j.items 0 2) laneCounters)),
      (.engineGet, 0x0201, cmdEngineRead (engineWords ++ [.CNT_STAT, .CNT_IDX]), (fun j => perItem [j.arg 0 2]
        [.CNT_CFG, .CNT_LEN, .CNT_COUNT, .CNT_STATCFG, .CNT_STAT, .CNT_IDX])),
      (.engineCounters, 0x0202, cmdEngineRead [.CNT_CNT], (fun j => [(.CNT_CNT, j.arg 0 2)])),
      (.pairGet, 0x0205, cmdPairGet, (fun j => perItem [j.pairUnit] [.PAIR_CFG, .PAIR_WIN, .PAIR_OFS, .PAIR_STATCFG,
        .PAIR_STAT, .PAIR_CNT])),
      (.axisStatus, 0x0302, cmdReadWords axisStatusWords, (fun _ => [(.AXI_POS, 0), (.AXI_STEPT, 0), (.AXI_PERIOD,
        0), (.AXI_EVT, 0), (.AXI_CNT0, 0), (.AXI_CNT1, 0), (.AXI_CNT2, 0), (.AXI_CNT3, 0)])),
      (.calUnitStatus, 0x0500, cmdCalUnitStatus, (fun j => perItem (j.items 0 2) calUnitWords)),
      (.calBlockStatus, 0x0502, cmdCalBlockStatus, (fun j => perItem [j.arg 0 1] [.CAL_BSTAT, .CAL_BEVT,
        .CAL_BCNT])),
      (.weaveStatus, 0x0403, cmdWeaveStatus, (fun j => perItem [j.arg 0 1] weaveStatusWords)),
      (.filtStatus, 0x0604, cmdFiltStatus, (fun j => perItem [j.arg 0 1] fltStatusWords)),
      (.histStatus, 0x0607, cmdHistStatus, (fun j => perItem [j.arg 0 1] heStatusWords)),
      (.tpllStatus, 0x0701, cmdReadWords tpllStatusWords, (fun _ => [(.TIM_TSTAT, 0), (.TIM_THETA, 0), (.TIM_SREM,
        0), (.TIM_STEP, 0), (.TIM_FOFS, 0), (.TIM_TCNT, 0)])),
      (.opllStatus, 0x0708, cmdOpllStatus, (fun j => j.opllWords)),
      (.queueStatus, 0x0807, cmdQueueStatus, (fun j => perItem [j.arg 0 2] queRegs)),
      (.linkPartners, 0x0904, cmdLinkPartners, (fun j => perItem (j.items 0 1) ptRegs)),
      (.accWindowGet, 0x0A01, cmdAccWindowGet, (fun j => perItem [j.window] accRegs)),
      (.pwrStatus, 0x0B03, cmdReadWords pwrStatusWords, (fun _ => [(.PWR_ENG, 0), (.PWR_DSTAT, 0), (.PWR_DSTAT, 1),
        (.PWR_DSTAT, 2), (.PWR_CSTAT, 0), (.PWR_REC, 0), (.PWR_LRT, 0), (.PWR_EVT, 0)]))] :
      List ((Nat → Nat → Nat → Instr) × Nat × Cmd × (Job → List (Reg × Nat)))),
    ∀ (s : State) (t e sl : Nat) (j : Job), s.serves t e sl p.2.1 p.2.2.1 j →
      let got := ((Work.start s).at t).frs (p.2.2.2 j)
      Answers (p.1 t e sl) s fun n => got.1.st.finished n j 0 0 (wordBytes got.2)) ∧
  (∀ p ∈ ([
      (.laneStatus, 0x0102, cmdLaneStatus, (fun j => perItem (j.items 0 2) [.FRE_STAT, .CAL_LSTAT, .CAL_LQUAL]), fun
        ws => (List.range (ws.length / 3)).flatMap fun i => le 8 (laneStatusWord (ws.getD (3 * i) 0) (ws.getD (3 * i
        + 1) 0) (ws.getD (3 * i + 2) 0))),
      (.qhitRead, 0x0307, cmdQhitRead, (fun j => perItem (j.items 0 2) [.AXI_QHIT]), fun ws => ws.flatMap fun v =>
        le 4 v.toNat),
      (.monTemps, 0x0C02, cmdMonTemps, (fun _ => tempWords), fun ws => ws.flatMap fun w => le 2 w.toNat)] :
      List ((Nat → Nat → Nat → Instr) × Nat × Cmd × (Job → List (Reg × Nat)) × (List Word → List Byte))),
    ∀ (s : State) (t e sl : Nat) (j : Job), s.serves t e sl p.2.1 p.2.2.1 j →
      let got := ((Work.start s).at t).frs (p.2.2.2.1 j)
      Answers (p.1 t e sl) s fun n => got.1.st.finished n j 0 0 (p.2.2.2.2 got.2)) ∧
  (∀ (s : State),
    ∀ p ∈ ([
      (.laneSet, 0x0100, cmdLaneSet, (fun j => (j.items 0 2).flatMap fun n => laneOrder.filterMap fun r => (j.chose
        (j.chosen 4 laneWords 8) r).map fun v => (r, n, v))),
      (.engineSet, 0x0200, cmdEngineSet, (fun j => (j.items 0 2).flatMap fun n => (j.chosen 4 engineWords 8).map fun
        x => (x.1, n, j.word x.2))),
      (.pairSet, 0x0204, cmdPairSet, (fun j => (j.chosen 4 pairWords 8).map fun x => (x.1, j.pairUnit, j.word x.2))),
      (.calBlockSet, 0x0501, cmdCalBlockSet, (fun j => [(.CAL_BCFG, j.arg 0 1, mixFlds calBlockFlds (j.arg 4 4)
        (s.reg .CAL_BCFG (j.arg 0 1)) (j.word 8))])),
      (.weaveStart, 0x0401, cmdWeaveRun 1, (fun j => [(.WEA_WCTRL, j.arg 0 1, 1)])),
      (.weaveStop, 0x0402, cmdWeaveRun 0, (fun j => [(.WEA_WCTRL, j.arg 0 1, 0)])),
      (.weaveCfg, 0x0404, cmdWeaveCfg, (fun j => (j.picked 4 4 (weaveCfgWords (j.arg 0 1)) 8).map fun x => (x.1,
        x.2.1, j.word x.2.2))),
      (.weavePin, 0x0406, cmdWeavePin, (fun j => [(.WEA_PIN, 8 * (j.arg 0 1 - 32) + j.arg 1 1, j.word 8)])),
      (.filtBankLoad, 0x0601, cmdFiltBankLoad, (fun j => (bankWords (j.arg 0 1) (j.arg 1 1)).zipIdx.map fun x =>
        (x.1.1, x.1.2, j.word (8 + 8 * x.2)))),
      (.filtSwap, 0x0602, cmdFiltSwap, (fun j => [(.FLT_CTRL, j.arg 0 1, w64 (1 + 2 * j.arg 2 2))])),
      (.filtReset, 0x0603, cmdFiltReset, (fun j => [(.FLT_CTRL, j.arg 0 1, 0x4000)])),
      (.histSet, 0x0605, cmdHistSet, (fun j => ((j.picked 4 4 (heWords (j.arg 0 1)) 8).map fun x => (x.1, x.2.1,
        j.word x.2.2)).reverse)),
      (.histOp, 0x0606, cmdHistOp, (fun j => [(.HE_CTRL, j.arg 0 1, w64 (j.arg 1 1))])),
      (.tpllSet, 0x0700, cmdTpllSet, (fun j => (j.picked 0 4 tpllWords 8).map fun x => (x.1, x.2.1, j.word x.2.2))),
      (.bandSet, 0x0703, cmdBandSet, (fun j => [(.TIM_BAND0, j.arg 0 1, j.word 8)])),
      (.queueEnable, 0x0802, cmdQueueEnable, (fun j => [(.QD_CFG, j.arg 0 2, F.QD_CFG_EN.put (s.reg .QD_CFG (j.arg 0
        2)) (j.arg 2 1))])),
      (.queueRoute, 0x0804, cmdQueueRoute, (fun j => (j.items 0 2).map fun n => (.WEA_LMAP, n, j.word 8))),
      (.queueFastpath, 0x0805, cmdQueueFastpath, (fun j => [(.WEA_FPCFG, j.arg 0 1, j.word 8)])),
      (.queueFlagsClear, 0x0808, cmdQueueFlagsClear, (fun j => [(.QD_FLAGS, j.arg 0 2, w64 (j.arg 2 2 + s.get
        F.QD_FLAGS_IE (j.arg 0 2) * 2 ^ 16))])),
      (.queuePoolSet, 0x0809, cmdQueuePoolSet, (fun j => (j.picked 0 4 poolWords 8).map fun x => (x.1, x.2.1, j.word
        x.2.2))),
      (.linkEthSet, 0x0901, cmdLinkEthSet, (fun j => (j.picked 4 4 [(.ETH_MAC, j.arg 0 1), (.ETH_CFG, j.arg 0 1)]
        8).map fun x => (x.1, x.2.1, j.word x.2.2))),
      (.linkDlpSet, 0x0902, cmdLinkDlpSet, (fun j => [(.DLP_CFG, j.arg 0 1, j.word 8)])),
      (.accWindowSet, 0x0A00, cmdAccWindowSet, (fun j => (.ACC_WCTRL, j.window, 0) :: (j.windowWords.filter fun x =>
        x.1 != .ACC_WCTRL).map (fun x => (x.1, x.2.1, j.word x.2.2)) ++ [(.ACC_WCTRL, j.window, j.word 16)])),
      (.pwrWakeCfg, 0x0B02, cmdPwrWakeCfg, (fun j => (j.picked 0 4 wakeWords 8).map fun x => (x.1, x.2.1, j.word
        x.2.2))),
      (.monSet, 0x0C00, cmdMonSet, (fun j => (j.picked 4 4 (unitWords (j.arg 0 1)) 8).map fun x => (x.1, x.2.1,
        j.word x.2.2)))] :
      List ((Nat → Nat → Nat → Instr) × Nat × Cmd × (Job → List (Reg × Nat × Word)))),
    ∀ (t e sl : Nat) (j : Job), s.serves t e sl p.2.1 p.2.2.1 j →
      Answers (p.1 t e sl) s fun n => (((Work.start s).at t).fwAll (p.2.2.2 j)).st.finished n j 0 0 [])

/-- R302, R310, R311, R314 to R316, R321, R396: what the commands answer and do that no list of register words says:
of SYS the identity, the echo, the event queue, the end of an ACCEPTED command, the time; of LANE a walk table's
transfer and learning; of MEAS the owner of a pairing unit; of MON one unit's words and the error log; of NVM
profiles, images and their state. -/
def Obligations.CommandsOfTheSystem : Prop :=
  ∀ (s : State) (t e sl : Nat) (j : Job),
    (s.serves t e sl 0x0000 cmdSysIdentify j →
      Answers (.sysIdentify t e sl) s fun n =>
        n.answered j 0 0 (le 2 s.device ++ le 1 0xC1 ++ le 1 (s.get F.ACC_BOOT_IMAGE 0) ++
          le 4 (s.reg .REG_FW 0).toNat ++ le 1 e ++ le 1 (epMaster e) ++ le 2 0) ∧
        n.jobs = s.jobs.erase j ∧ NotedRegs s n []) ∧
    (s.serves t e sl 0x0001 cmdSysPing j →
      Answers (.sysPing t e sl) s fun n =>
        n.answered j 0 0 j.load ∧ n.jobs = s.jobs.erase j ∧ NotedRegs s n []) ∧
    (s.serves t e sl 0x0002 cmdSysNoticeSet j →
      Answers (.sysNoticeSet t e sl) s fun n =>
        n.answered j 0 0 [] ∧ SameBut s.epAt n.epAt [e] ∧ NotedRegs s n [] ∧
        (n.epAt e).base = j.arg 0 8 ∧ (n.epAt e).wb = j.arg 8 8 ∧ (n.epAt e).log2n = j.arg 16 1 ∧
        (n.epAt e).vector = j.arg 18 2 ∧ (n.epAt e).mask = j.arg 20 4) ∧
    (s.serves t e sl 0x0002 cmdSysNoticeSet j → (s.epAt e).kept = [] →
      let x := s.epAt e
      let same := x.base = j.arg 0 8 ∧ x.wb = j.arg 8 8 ∧ x.log2n = j.arg 16 1
      Answers (.sysNoticeSet t e sl) s fun n =>
        n.answered j 0 0 [] ∧ SameBut s.epAt n.epAt [e] ∧ NotedRegs s n [] ∧
        n.epAt e = { x with
          base := j.arg 0 8, wb := j.arg 8 8, log2n := j.arg 16 1, vector := j.arg 18 2, mask := j.arg 20 4
          nprod := if same then x.nprod else 0, ntail := if same then x.ntail else 0 }) ∧
    (∀ x : Job, s.serves t e sl 0x0003 cmdSysAbort j → x ≠ j → abortable x.op = true → x.gone = false →
      s.jobs.find? (fun x => x.ep == j.ep && x.tag == j.arg 0 2 && !x.gone && !x.slot) = some x →
      Answers (.sysAbort t e sl) s fun n =>
        n.answered j 0 0 [] ∧ n.jobs = (s.jobs.erase x).erase j ∧
        n.learn = (s.learn.filter fun l => !(l.ep == x.ep && l.tag == x.tag)) ∧ NotedRegs s n []) ∧
    (s.serves t e sl 0x0004 cmdSysTime j →
      Answers (.sysTime t e sl) s fun n =>
        n.answered j 0 0 (le 8 (s.till t).t64 ++ le 8 (s.reg .AXI_POS 0).toNat ++ le 8 s.tpll) ∧ NotedRegs s n []) ∧
    (s.serves t e sl 0x0005 cmdSysEngineReset j → (s.till t).inProgress j < 16 →
      (s.pwr.softT ≠ none → Answers (.sysEngineReset t e sl) s fun n => n = (s.till t).begun j [] 0 0) ∧
      (s.on F.PWR_ENG_READY 0 = true → s.pwr.softT = none →
        Answers (.sysEngineReset t e sl) s fun n =>
          n = { (s.till t).begun j [] 0 0 with
            pwr := { s.pwr with softT := some ((s.till t).coarse (s.till t).t64) } }) ∧
      (s.on F.PWR_ENG_READY 0 = false → s.pwr.softT = none →
        Answers (.sysEngineReset t e sl) s fun n =>
          n.on F.PWR_RST_PENDING 0 = true ∧
          n = { (s.till t).begun j [] 0 0 with pwr := { s.pwr with soft := true }, regs := n.regs } ∧
          SameRegs s n [(.PWR_RST, 0)])) ∧
    (s.serves t e sl 0x0006 cmdSysReady j →
      (s.on F.PWR_ENG_READY 0 = true → Answers (.sysReady t e sl) s fun n => (s.till t).finished n j 0 0 []) ∧
      (s.on F.PWR_ENG_READY 0 = false → (s.till t).inProgress j < 16 →
        Answers (.sysReady t e sl) s fun n => n = (s.till t).begun j [] 0 0)) ∧
    (s.serves t e sl 0x0105 cmdWalkRead j →
      let got := ((Work.start s).at t).frs (bankRegs (j.arg 0 2) (j.arg 2 1))
      let out := got.1.bulkOut j 8 (wordBytes got.2)
      (s.bulkErr j 8 512 = none → Answers (.walkRead t e sl) s fun n => out.1.st.finished n j 0 0 []) ∧
      (s.bulkErr j 8 512 ≠ none →
        Answers (.walkRead t e sl) s fun n => out.1.st.finished n j 0x18 0 (errData noIdx 8))) ∧
    (s.serves t e sl 0x0104 cmdWalkLoad j →
      let w := ((Work.start s).at t).bulkMeet j 8 (512 * j.arg 2 2)
      let ws := byteWords (64 * j.arg 2 2) (w.st.bulkIn j 8 (512 * j.arg 2 2))
      Answers (.walkLoad t e sl) s fun n =>
        (w.fwAll ((((j.items 0 2).flatMap fun n => bankRegs n (j.arg 4 1)).zip ws).map fun x =>
          (x.1.1, x.1.2, x.2))).st.finished n j 0 0 []) ∧
    (s.serves t e sl 0x0106 cmdWalkLearn j → (s.till t).inProgress j < 16 →
      Answers (.walkLearn t e sl) s fun n =>
        n = { (s.till t).begun j [(0, j.arg 0 2), (0, j.arg 2 2)] 0 0 with
          learn := s.learn ++ [{ lane := j.arg 0 2, ref := j.arg 2 2, bank := j.arg 4 1, need := j.arg 8 4
                                 ofs := sval 32 (j.arg 12 4), ep := e, tag := j.tag }] }) ∧
    (∀ l : Learn,
      let mine := fun (l : Learn) => s.jobs.find? fun j =>
        j.ep == e && j.sl == sl && j.op == 0x106 && j.ran && j.tag == l.tag && l.ep == e
      let left := s.learn.filter fun x => !(x.ep == l.ep && x.tag == l.tag)
      s.learn.find? (fun l => (mine l).isSome && (l.bad || l.pairs.length == l.need)) = some l → mine l = some j →
      j.slot = true → j.gone = false →
      (l.bad = true →
        Answers (.walkLearnDone t e sl) s fun n =>
          n.answered j 0x16 0 (errData noIdx noIdx) ∧ n.learn = left ∧ n.jobs = s.jobs.erase j ∧ NotedRegs s n []) ∧
      (l.bad = false →
        let pts := keepFirst ((List.range 64).map fun k =>
          learnBin (sortPairs l.pairs) k (Config.freeWord (s.freeCnt + k)).toNat)
        let ws := (pts ++ List.replicate (64 - pts.length) (pts.getLastD (0, 0))).map fun p =>
          w64 (p.1 + 2 ^ 32 * sfield 32 p.2)
        let w := ((Work.start s).at t).fwAll (((bankRegs l.lane l.bank).zip ws).map fun x => (x.1.1, x.1.2, x.2))
        Answers (.walkLearnDone t e sl) s fun n =>
          n.answered j 0 0
            (le 2 pts.length ++ le 2 (Config.freeWord (s.freeCnt + 64)).toNat ++ le 4 l.need) ∧
          n.learn = left ∧ n.jobs = s.jobs.erase j ∧ NotedRegs w.st n [])) ∧
    (s.serves t e sl 0x0203 cmdPairAlloc j →
      let xs := s.pairPicks (j.arg 0 2) (j.arg 2 2) (j.arg 4 1)
      let p := xs.getD ((Config.freeWord s.freeCnt).toNat % xs.length) 0
      Answers (.pairAlloc t e sl) s fun n =>
        n.answered j 0 0 (if 128 ≤ p then le 1 1 ++ le 1 0 ++ le 2 (p - 128) else le 1 0 ++ le 1 0 ++ le 2 p) ∧
        n.ownerAt p = some e ∧ SameBut s.ownerAt n.ownerAt [p] ∧ NotedRegs s n []) ∧
    (s.serves t e sl 0x0206 cmdPairFree j →
      Answers (.pairFree t e sl) s fun n =>
        n.answered j 0 0 [] ∧ n.ownerAt j.pairUnit = none ∧ SameBut s.ownerAt n.ownerAt [j.pairUnit] ∧
        NotedRegs (((Work.start s).at t).fwPut F.PAIR_CFG_EN j.pairUnit 0).st n []) ∧
    (s.serves t e sl 0x0C01 cmdMonRead j →
      let got := ((Work.start s).at t).frs (perItem [j.arg 0 1] [.MU_STAT, .MU_MINMAX, .MU_EVT])
      Answers (.monRead t e sl) s fun n =>
        (if bit (j.arg 1 1) 0 then got.1.fw .MU_CTRL (j.arg 0 1) 1 else got.1).st.finished n j 0 0
          (wordBytes got.2)) ∧
    (s.serves t e sl 0x0C03 cmdMonErrlog j →
      Answers (.monErrlog t e sl) s fun n =>
        (s.till t).finished n j 0 0
          (((s.errlog.drop (j.arg 0 2)).take (j.arg 2 1)).flatMap fun b => fit 40 (b.drop 24))) ∧
    (s.serves t e sl 0x0D00 cmdNvmSave j → (s.till t).inProgress j < 16 →
      Answers (.nvmSave t e sl) s fun n =>
        (∀ u ∈ j.items 0 2, u ∈ n.vaultQ) ∧ (∀ u ∈ s.vaultQ, u ∈ n.vaultQ) ∧
        n = { (s.till t).begun j ((j.items 0 2).map fun u => (0, u)) 0 0 with vaultQ := n.vaultQ }) ∧
    (s.serves t e sl 0x0D01 cmdNvmProfileSave j →
      let p := j.arg 0 1
      let bs := (s.profileArea (p, s.profileNow (p == 255)) ++ le 8 0).take profileSize
      Answers (.nvmProfileSave t e sl) s fun n =>
        n.answered j 0 0 [] ∧ (∀ i (h : i < bs.length), n.vaultAt (profileBase + i) = bs[i]) ∧
        (∀ a, a < profileBase ∨ profileBase + bs.length ≤ a → n.vaultAt a = s.vaultAt a) ∧ NotedRegs s n []) ∧
    (∀ ws, s.serves t e sl 0x0D02 cmdNvmProfileLoad j → s.profileAt (j.arg 0 1) = some ws →
      Answers (.nvmProfileLoad t e sl) s fun n =>
        (((Work.start s).at t).applyProfile ws).st.finished n j 0 0 []) ∧
    (s.serves t e sl 0x0D03 cmdNvmImageWrite j →
      let a := imageBase (1 - s.preferred) + j.arg 0 4
      let w := ((Work.start s).at t).bulkMeet j 8 (j.arg 4 4)
      let bs := w.st.bulkIn j 8 (j.arg 4 4)
      Answers (.nvmImageWrite t e sl) s fun n =>
        n.answered j 0 0 [] ∧ (∀ i (h : i < bs.length), n.vaultAt (a + i) = bs[i]) ∧
        (∀ b, b < a ∨ a + bs.length ≤ b → n.vaultAt b = s.vaultAt b) ∧ NotedRegs w.st n []) ∧
    (s.serves t e sl 0x0D04 cmdNvmImageActivate j →
      Answers (.nvmImageActivate t e sl) s fun n =>
        n.answered j 0 0 [] ∧ n.preferred = 1 - s.preferred ∧
        SameBut s.vaultAt n.vaultAt [0x1FF0010, 0x1FF0011] ∧
        n.fuse = (if bit (j.arg 0 1) 0 then
          { s.fuse with svn := max s.fuse.svn (s.imageField (1 - s.preferred) 6 2) } else s.fuse)) ∧
    (s.serves t e sl 0x0D05 cmdNvmStatus j →
      Answers (.nvmStatus t e sl) s fun n =>
        (s.till t).finished n j 0 0 (le 8 (s.reg .ACC_BOOT 0).toNat ++ le 1 s.preferred ++ le 1 (s.imageFail 0) ++
          le 1 (s.imageFail 1) ++ le 1 (b2n s.vaultWr.isSome) ++ le 2 s.vaultQ.length ++ le 2 0))

/-- R195, R208, R251, R316 to R321, R353, R362, R363, R366, R368 with Tables OCI-11 to OCI-14, LNK-8, ACC-6 and PWR-9:
what the commands of the units do beyond the words that they write: the staging claim, the head of a cycle and a
reinstatement, the allocation of queues and store, bindings, training, rights, challenges, entries into sleep. -/
def Obligations.CommandsOfTheUnits : Prop :=
  ∀ (s : State) (t e sl : Nat) (j : Job),
    let w := (Work.start s).at t
    (s.serves t e sl 0x0300 cmdAxisSet j →
      let ws := (j.chosen 0 [.AXI_CFG, .AXI_OFS, .AXI_GEN, .AXI_PRESET] 8).map fun x => (x.1, 0, j.word x.2)
      Answers (.axisSet t e sl) s fun n =>
        (w.fwAll ws).st.finished n j 0 (if s.axisState = 0 then 0 else 2) []) ∧
    (s.serves t e sl 0x0301 cmdAxisEnable j →
      let w := w.fw .AXI_CTRL 0 (w64 (j.arg 0 1))
      (w.st.axis.ctlAt = none →
        Answers (.axisEnable t e sl) s fun n => w.st.finished n j 0 0 (le 1 w.st.axisState)) ∧
      (w.st.axis.ctlAt ≠ none → (s.till t).inProgress j < 16 → Answers (.axisEnable t e sl) s fun n => n = w.st.begun j [] 0 0)) ∧
    (s.serves t e sl 0x0303 cmdStakesLoad j →
      let bs := (w.bulkMeet j 8 (16 * j.arg 2 2)).st.bulkIn j 8 (16 * j.arg 2 2)
      Answers (.stakesLoad t e sl) s fun n =>
        n.answered j 0 0 [] ∧ n.claimEp = some e ∧
        ∀ k, k < j.arg 2 2 → n.reg .STG_MATCH (j.arg 0 2 + k) = w64 (field bs (16 * k) 8) ∧
          n.reg .STG_ACTION (j.arg 0 2 + k) = w64 (field bs (16 * k + 8) 8)) ∧
    (s.serves t e sl 0x0303 cmdStakesLoad j → bit (j.arg 4 4) 0 = true →
      Answers (.stakesLoad t e sl) s fun n =>
        (∀ i, i < 4096 → i < j.arg 0 2 ∨ j.arg 0 2 + j.arg 2 2 ≤ i → n.reg .STG_MATCH i = 0) ∧
        ∀ i, i < 512 → n.reg .STG_LG i = 0) ∧
    (s.serves t e sl 0x0304 cmdLgLoad j →
      Answers (.lgLoad t e sl) s fun n =>
        n.answered j 0 0 [] ∧ n.claimEp = some e ∧
        (∀ k, k < 8 * j.arg 1 1 → n.reg .STG_LG (8 * j.arg 0 1 + k) = j.word (8 + 8 * k)) ∧
        NotedRegs s n ((List.range (8 * j.arg 1 1)).map fun k => (Reg.STG_LG, 8 * j.arg 0 1 + k))) ∧
    (s.serves t e sl 0x0305 cmdAxisCommit j →
      (bit (j.arg 0 4) 0 = true →
        Answers (.axisCommit t e sl) s fun n =>
          n.answered j 0 0 [] ∧ n.claimEp = (if s.claimEp = some e then none else s.claimEp) ∧
          NotedRegs s n []) ∧
      (bit (j.arg 0 4) 0 = false →
        let w := w.fw .AXI_CTRL 0 (w64 (s.get F.AXI_CTRL_EN 0 + 2))
        (w.on F.AXI_CTRL_COMMIT 0 = true → (s.till t).inProgress j < 16 →
          Answers (.axisCommit t e sl) s fun n => n = w.st.begun j [(6, 0)] 0 0) ∧
        (w.on F.AXI_CTRL_COMMIT 0 = false →
          Answers (.axisCommit t e sl) s fun n => (w.unclaim e).st.finished n j 0 0 []))) ∧
    (s.serves t e sl 0x0306 cmdMarkdirSet j →
      let dir := fun (r : Reg) (k : Nat) =>
        (s.reg r 0 &&& ~~~(w64 (bits (j.arg 0 16) k 64))) ||| w64 (bits (j.arg 16 16) k 64 &&& bits (j.arg 0 16) k 64)
      Answers (.markdirSet t e sl) s fun n =>
        (w.fwAll [(.AXI_MARKDIR0, 0, dir .AXI_MARKDIR0 0),
          (.AXI_MARKDIR1, 0, dir .AXI_MARKDIR1 64)]).st.finished n j 0 0 []) ∧
    (s.serves t e sl 0x0503 cmdCalPrioritise j →
      let u := j.arg 0 2
      let b := blockOf u
      Answers (.calPrioritise t e sl) s fun n =>
        n.answered j 0 0 [] ∧ SameBut s.calBlkAt n.calBlkAt [b] ∧
        n.calBlkAt b = { s.calBlkAt b with prio := u :: (s.calBlkAt b).prio.erase u } ∧ NotedRegs s n []) ∧
    (s.serves t e sl 0x0504 cmdCalReinstate j → (s.till t).inProgress j < 16 →
      let u := j.arg 0 2
      let b := blockOf u
      Answers (.calReinstate t e sl) s fun n =>
        SameBut s.calBlkAt n.calBlkAt [b] ∧
        n.calBlkAt b = { s.calBlkAt b with reinst := some (u, s.calState u), agreed := false } ∧
        n = { (s.till t).begun j [(0, u), (1, b)] u 0 with calBlk := n.calBlk, vault := n.vault } ∧
        (s.newestSlot u = none → n.vault = s.vault)) ∧
    (s.serves t e sl 0x0505 cmdCalExport j →
      let one := fun (u : Nat) => s.slotBytes u (s.exportSlot u (j.arg 4 1)) ++ le 4 0
      let out := w.bulkOut j 8 ((j.items 0 2).flatMap one)
      (s.bulkErr j 8 ((j.items 0 2).flatMap one).length = none →
        Answers (.calExport t e sl) s fun n => out.1.st.finished n j 0 0 []) ∧
      (s.bulkErr j 8 ((j.items 0 2).flatMap one).length ≠ none →
        Answers (.calExport t e sl) s fun n => out.1.st.finished n j 0x18 0 (errData noIdx 8))) ∧
    (∀ m, s.serves t e sl 0x0400 cmdWeaveLoad j →
      imageOf ((w.bulkMeet j 8 (j.arg 16 4)).st.bulkIn j 8 (j.arg 16 4)) = some m →
      let k := j.arg 0 1
      let w := w.bulkMeet j 8 (j.arg 16 4)
      let w := (w.loadProg k m.prog).fwAll (m.data.map fun x => (.WEA_LOCAL, 512 * k + x.1, x.2))
      let w := w.fwAll ((.WEA_WENTRY, k, m.entry) :: m.tds.zipIdx.map fun x => (.WEA_TD, 8 * k + x.2, x.1))
      Answers (.weaveLoad t e sl) s fun n => w.st.finished n j 0 0 []) ∧
    (s.serves t e sl 0x0405 cmdWeaveData j →
      let rs := (List.range (j.arg 4 2)).map fun i => (Reg.WEA_LOCAL, 512 * j.arg 0 1 + j.arg 2 2 + i)
      (j.arg 20 1 = 0 →
        let w := w.bulkMeet j 8 (8 * j.arg 4 2)
        let ws := byteWords (j.arg 4 2) (w.st.bulkIn j 8 (8 * j.arg 4 2))
        Answers (.weaveData t e sl) s fun n =>
          (w.fwAll ((rs.zip ws).map fun x => (x.1.1, x.1.2, x.2))).st.finished n j 0 0 []) ∧
      (j.arg 20 1 ≠ 0 →
        let out := (w.frs rs).1.bulkOut j 8 (wordBytes (w.frs rs).2)
        (s.bulkErr j 8 (8 * j.arg 4 2) = none → Answers (.weaveData t e sl) s fun n => out.1.st.finished n j 0 0 []) ∧
        (s.bulkErr j 8 (8 * j.arg 4 2) ≠ none →
          Answers (.weaveData t e sl) s fun n => out.1.st.finished n j 0x18 0 (errData noIdx 8)))) ∧
    (s.serves t e sl 0x0600 cmdFiltSet j → bit (j.arg 4 4) 5 = false →
      let ws := (j.picked 4 4 (fltWords (j.arg 0 1)) 8).map fun x => (x.1, x.2.1, j.word x.2.2)
      Answers (.filtSet t e sl) s fun n =>
        (w.fwAll ((ws.filter fun x => x.1 != .FLT_CFG) ++ ws.filter fun x => x.1 == .FLT_CFG)).st.finished n j 0 0 []) ∧
    (s.serves t e sl 0x0702 cmdSync0Arm j →
      let w := w.fwAll [(.TIM_PRESET, 0, j.word 0),
        (.TIM_SYNC, 0, w64 (1 + 4 * j.arg 8 1 + 8 * s.get F.TIM_SYNC_POL1 0))]
      (bit (j.arg 9 1) 0 = false → Answers (.sync0Arm t e sl) s fun n => w.st.finished n j 0 0 []) ∧
      (bit (j.arg 9 1) 0 = true → (s.till t).inProgress j < 16 →
        Answers (.sync0Arm t e sl) s fun n => w.st.accepted n j [(7, 0)])) ∧
    (s.serves t e sl 0x0704 cmdOpllOp j →
      let op := j.arg 1 1
      let stale := op == 2 && s.entryStale (j.arg 0 1)
      let w := w.fw .TIM_OCTRL 0 (F.TIM_OCTRL_ENTRY.put (F.TIM_OCTRL_OP.put 0 op) (j.arg 0 1))
      (op = 3 → w.st.outputsLow = true →
        Answers (.opllOp t e sl) s fun n => w.st.finished n j 0 0 (w.st.opllData 0)) ∧
      (op = 3 → w.st.outputsLow = false → (s.till t).inProgress j < 16 →
        Answers (.opllOp t e sl) s fun n => n = w.st.begun j [(8, 0)] 0 0) ∧
      (op ≠ 3 → (s.till t).inProgress j < 16 → Answers (.opllOp t e sl) s fun n =>
        n = w.st.begun j [(8, 0)] (b2n stale) (w.now + ms (if op = 1 || stale then 10 else 1)))) ∧
    (s.serves t e sl 0x0705 cmdOutSet j → j.arg 1 1 = 1 →
      Answers (.outSet t e sl) s fun n =>
        (w.fw .TIM_OCLK (j.arg 0 1) (mixFlds [F.TIM_OCLK_EN, F.TIM_OCLK_SRC, F.TIM_OCLK_SYNC_EN, F.TIM_OCLK_DIV_X2,
          F.TIM_OCLK_CDLY, F.TIM_OCLK_FDLY] (j.arg 4 4) (s.reg .TIM_OCLK (j.arg 0 1)) (j.word 8))).st.finished
            n j 0 0 []) ∧
    (s.serves t e sl 0x0706 cmdSync1 j →
      let w := w.fw .TIM_SYNC 0
        (w64 ((if j.arg 0 1 = 0 then 2 else 16) + 4 * s.get F.TIM_SYNC_POL0 0 + 8 * j.arg 1 1))
      (bit (j.arg 2 1) 0 = false → Answers (.sync1 t e sl) s fun n => w.st.finished n j 0 0 []) ∧
      (bit (j.arg 2 1) 0 = true → (s.till t).inProgress j < 16 →
        Answers (.sync1 t e sl) s fun n => n = w.st.begun j (s.syncOutputs.map fun c => (9, c)) 0 0)) ∧
    (s.serves t e sl 0x0707 cmdLoopSet j → (s.till t).inProgress j < 16 →
      Answers (.loopSet t e sl) s fun n =>
        n = (w.fw .TIM_LOOP (j.arg 0 1) (j.word 8)).st.begun j [(1, j.arg 0 1)] (j.arg 0 1) 0) ∧
    (s.serves t e sl 0x0800 cmdQueueAlloc j → j.arg 0 2 ≠ 0xFFFF → j.arg 8 4 ≠ 0xFFFFFFFF →
      let q := j.arg 0 2
      let v := j.arg 8 4 + j.arg 2 1 * 2 ^ 32
      let en : List (Reg × Nat × Word) := if bit (j.arg 3 1) 0 then [(.QD_CFG, q, w64 (v + 2 ^ 40))] else []
      let w := w.fwAll ([(.QD_CFG, q, w64 v), (.QD_THR, q, w64 (j.arg 4 4))] ++ en)
      Answers (.queueAlloc t e sl) s fun n =>
        n.answered j 0 0 (le 2 q ++ le 2 0 ++ le 4 (j.arg 8 4)) ∧ n.allocAt q = areaCode (j.arg 8 4) (j.arg 2 1) ∧
        SameBut s.allocAt n.allocAt [q] ∧ NotedRegs w.st n []) ∧
    (s.serves t e sl 0x0801 cmdQueueFree j →
      let q := j.arg 0 2
      Answers (.queueFree t e sl) s fun n =>
        n.answered j 0 0 [] ∧ n.allocAt q = 0 ∧ SameBut s.allocAt n.allocAt [q] ∧
        NotedRegs ((w.fwPut F.QD_CFG_EN q 0).unbindQueue q).st n []) ∧
    (s.serves t e sl 0x0803 cmdQueueBind j →
      Answers (.queueBind t e sl) s fun n =>
        (if j.arg 2 1 = 0 then w.unbindQueue (j.arg 0 2)
          else w.bindQueue (j.arg 0 2) (j.arg 2 1) (if j.arg 2 1 = 6 then 0 else j.arg 4 2)).st.finished n j 0 0 []) ∧
    (s.serves t e sl 0x0806 cmdQueueRingSet j →
      Answers (.queueRingSet t e sl) s fun n =>
        n.answered j 0 0 [] ∧ n.reg .RING_BASE (j.arg 0 2) = j.word 8 ∧ n.reg .RING_WB (j.arg 0 2) = j.word 24 ∧
        n.reg .RING_CFG (j.arg 0 2) = j.word 16 &&& 0xFFFF001FFFFF ∧
        NotedRegs s n [(.RING_BASE, j.arg 0 2), (.RING_WB, j.arg 0 2), (.RING_CFG, j.arg 0 2),
          (.RING_STAT, j.arg 0 2)]) ∧
    (s.serves t e sl 0x0900 cmdLinkAssign j →
      let w := w.fw .LNK_GRP (j.arg 0 1) (j.word 8)
      (w.st.grpAt (j.arg 0 1) = none → Answers (.linkAssign t e sl) s fun n => w.st.finished n j 0 0 []) ∧
      (w.st.grpAt (j.arg 0 1) ≠ none → (s.till t).inProgress j < 16 →
        Answers (.linkAssign t e sl) s fun n => n = w.st.begun j [(13, j.arg 0 1)] (j.arg 0 1) 0)) ∧
    (s.serves t e sl 0x0903 cmdLinkStatus j →
      let got := w.frs (s.groupWords (j.arg 0 1))
      (s.grpMode (j.arg 0 1) ≠ 2 →
        Answers (.linkStatus t e sl) s fun n => got.1.st.finished n j 0 0 (wordBytes got.2)) ∧
      (s.grpMode (j.arg 0 1) = 2 →
        Answers (.linkStatus t e sl) s fun n =>
          got.1.fresh.1.st.finished n j 0 0 (wordBytes (got.2.take 2 ++ [got.1.fresh.2] ++ got.2.drop 2)))) ∧
    (s.serves t e sl 0x0905 cmdLinkEgressBind j →
      let c := j.arg 0 2
      let q := F.ECH_CFG_QUEUE.of (j.word 24)
      Answers (.linkEgressBind t e sl) s fun n =>
        ((if s.consOf q = (2, c) then w else w.bindQueue q 2 c).fwAll
          [(.ECH_DST, c, j.word 8), (.ECH_IP, c, j.word 16), (.ECH_CFG, c, j.word 24)]).st.finished n j 0 0 []) ∧
    (s.serves t e sl 0x0A02 cmdAccGrant j →
      let i := j.window
      let off := !s.on F.ACC_WCTRL_EN i
      let w := if off then w.fw .ACC_WRANGE i (w64 (j.arg 8 4 + j.arg 12 4 * 2 ^ 32)) else w
      let w := j.rights.foldl (fun w x => w.fwPut x.1 x.2 1) w
      Answers (.accGrant t e sl) s fun n =>
        (if off then w.fw .ACC_WCTRL i 1 else w).st.finished n j 0 0 []) ∧
    (s.serves t e sl 0x0A03 cmdAccRevoke j →
      Answers (.accRevoke t e sl) s fun n =>
        (j.rights.foldl (fun w x => w.fwPut x.1 x.2 0) w).st.finished n j 0 0 []) ∧
    (s.serves t e sl 0x0A04 cmdAccViolations j →
      let got := w.frs [(.ACC_VSTAT, 0), (.ACC_VCAP0, 0), (.ACC_VCAP1, 0)]
      Answers (.accViolations t e sl) s fun n =>
        (got.1.fw .ACC_VSTAT 0 (w64 (2 ^ 32 + s.get F.ACC_VSTAT_IE 0 * 2 ^ 33))).st.finished n j 0 0
          (wordBytes got.2)) ∧
    (s.serves t e sl 0x0A05 cmdAccUnlock j → j.arg 0 1 = 0 →
      let x := w.freeBytes 32
      Answers (.accUnlock t e sl) s fun n =>
        (x.1.setNonce x.2).st.finished n j 0 0 (x.1.setNonce x.2).st.challenge) ∧
    (s.serves t e sl 0x0B00 cmdPwrStateSet j →
      Answers (.pwrStateSet t e sl) s fun n =>
        n.answered j 0 0 [] ∧ n.get F.PWR_ENG_PHASE 0 = 1 ∧ n.pwr.target = j.arg 0 1 ∧ n.pwr.armT = (s.till t).t64 ∧
        NotedRegs s n [(.PWR_ENG, 0)]) ∧
    (s.serves t e sl 0x0B01 cmdPwrDomainSet j →
      let w := w.domGo (j.arg 0 1) (j.arg 1 1)
      (w.st.dom (j.arg 0 1) = j.arg 1 1 → Answers (.pwrDomainSet t e sl) s fun n => w.st.finished n j 0 0 []) ∧
      (w.st.dom (j.arg 0 1) ≠ j.arg 1 1 → (s.till t).inProgress j < 16 →
        Answers (.pwrDomainSet t e sl) s fun n => n = w.st.begun j [] (j.arg 0 1) 0))

/-- R12, R13, R324, R328, R329, R331, R332: a failed frame of a ward link is replayed and counted until a good one,
and replays that last more than 1 ms raise the ward's source; a granted change of a group's MODE takes its links down,
with a BYE to each partner, and starts an idle millisecond, after which its enabled links train; PAUSE stops a port for
its quanta, any other frame only counts; a channel that has its port's turn sends the next words of its queue, and after
2^HB_EXP ticks of silence, where it has the turn, a heartbeat. -/
def Obligations.GroupsAndPorts : Prop :=
  (∀ (s : State) (t w : Nat) (up ok : Bool), w < 8 →
    (ok = true →
      Answers (.wardLinkFrame t w up ok) s fun n =>
        n.wlinkAt w = (if up then { s.wlinkAt w with upT := none } else { s.wlinkAt w with downT := none }) ∧
        SameBut s.wlinkAt n.wlinkAt [w] ∧ SameBut s.srcAt n.srcAt [544 + w] ∧
        n = { s.till t with wlink := n.wlink, src := n.src, regs := n.regs } ∧ NotedRegs s n []) ∧
    (ok = false →
      Answers (.wardLinkFrame t w up ok) s fun n =>
        n.wlinkAt w = (if up then
            { s.wlinkAt w with up := (s.wlinkAt w).up + 1, upT := some ((s.wlinkAt w).upT.getD (s.till t).t64) }
          else
            { s.wlinkAt w with down := (s.wlinkAt w).down + 1
                               downT := some ((s.wlinkAt w).downT.getD (s.till t).t64) }) ∧
        SameBut s.wlinkAt n.wlinkAt [w] ∧ n = { s.till t with wlink := n.wlink })) ∧
  (∀ (s : State) (t w a : Nat), w < 8 → (s.wlinkAt w).upT = some a ∨ (s.wlinkAt w).downT = some a →
    a + ms 1 < (s.till t).t64 → s.srcAbsent (544 + w) = false →
    Answers (.replayPersist t w) s fun n =>
      (n.srcAt (544 + w)).level = true ∧ n.wlink = s.wlink ∧ n = (s.till t).noted n ∧ NotedRegs s n []) ∧
  (∀ (s : State) (t m g : Nat) (v : Word), g < 16 → s.domOn 85 = true → s.grants m 10 (8 * g) true = true →
    let mode := F.LNK_GRP_MODE.of v
    let word := F.LNK_GRP_MODE.put (v &&& 0xFFF) (if g < 4 then 1 else mode)
    let new := if !s.domOn (pdGroup g) then 0 else if g < 4 then 1 else if mode = 1 ∨ 6 ≤ mode then 0 else mode
    (new = s.grpMode g →
      Answers (.groupModeWrite t m g v) s fun n =>
        n.reg .LNK_GRP g = word ∧ n = { s.till t with regs := n.regs, shad := n.shad } ∧
        SameRegs s n [(.LNK_GRP, g)]) ∧
    (new ≠ s.grpMode g →
      Answers (.groupModeWrite t m g v) s fun n =>
        n.reg .LNK_GRP g = word ∧ n.grpAt g = some ((s.till t).t64 + ms 1) ∧ SameBut s.grpAt n.grpAt [g] ∧
        n.on F.LNK_GSTAT_UP g = false ∧ ∀ k : Fin 4, n.dlp (4 * g + k) = 0 ∧ (n.lnkAt (4 * g + k)).locked = false) ∧
    (new ≠ s.grpMode g → (s.linksOf g).all (fun l => s.dlp l != 3) = true →
      Answers (.groupModeWrite t m g v) s fun n =>
        n = { s.till t with regs := n.regs, shad := n.shad, lnk := n.lnk, grp := n.grp } ∧
        SameRegs s n ((.LNK_GRP, g) :: (.LNK_GSTAT, g) :: (.LNK_GEVT, g) ::
          (List.range 4).map fun k => (Reg.DLP_STAT, 4 * g + k)))) ∧
  (∀ (s : State) (g a : Nat), s.grpAt g = some a →
    Answers (.groupTrain g) s fun n =>
      n.grpAt g = none ∧ SameBut s.grpAt n.grpAt [g] ∧
      (∀ k : Fin 4, s.isLink (4 * g + k) = true → s.on F.DLP_CFG_EN (4 * g + k) = true → n.dlp (4 * g + k) = 1) ∧
      n = { s.till a with regs := n.regs, grp := n.grp } ∧
      SameRegs s n ((List.range 4).map fun k => (Reg.DLP_STAT, 4 * g + k))) ∧
  (∀ (s : State) (t p : Nat) (up : Bool), p < 12 → s.grpMode (p + 4) = 2 → s.grpAt (p + 4) = none →
    Answers (.upChg t p up) s fun n =>
      n.on F.LNK_GSTAT_UP (p + 4) = up ∧
      n.on F.LNK_GEVT_UP_CHG (p + 4) = (s.on F.LNK_GEVT_UP_CHG (p + 4) || s.on F.LNK_GSTAT_UP (p + 4) != up) ∧
      n = { s.till t with regs := n.regs } ∧ SameRegs s n [(.LNK_GSTAT, p + 4), (.LNK_GEVT, p + 4)]) ∧
  (∀ (s : State) (t p q : Nat), s.portUp p = true →
    (s.on F.ETH_CFG_PAUSE_EN p = true →
      Answers (.pause t p q) s fun n =>
        n.portAt p = { s.portAt p with
          pause := if q % 65536 = 0 then none else some ((s.till t).t64 + (q % 65536 * 8388608 + 999) / 1000) } ∧
        SameBut s.portAt n.portAt [p] ∧ n = { s.till t with port := n.port }) ∧
    (s.on F.ETH_CFG_PAUSE_EN p = false →
      Answers (.pause t p q) s fun n =>
        n.get F.ETH_CNT_RX_DISC p = min (s.get F.ETH_CNT_RX_DISC p + 1) (2 ^ F.ETH_CNT_RX_DISC.w - 1) ∧
        n = { s.till t with regs := n.regs } ∧ SameRegs s n [(.ETH_CNT, p)]) ∧
    Answers (.rxDisc t p) s fun n =>
      n.get F.ETH_CNT_RX_DISC p = min (s.get F.ETH_CNT_RX_DISC p + 1) (2 ^ F.ETH_CNT_RX_DISC.w - 1) ∧
      n = { s.till t with regs := n.regs } ∧ SameRegs s n [(.ETH_CNT, p)]) ∧
  (∀ (s : State) (p a : Nat), (s.portAt p).pause = some a →
    Answers (.pauseExpiry p) s fun n =>
      n.portAt p = { s.portAt p with pause := none } ∧ SameBut s.portAt n.portAt [p] ∧
      n = { s.till a with port := n.port }) ∧
  (∀ (s : State) (t c : Nat), s.on F.ECH_CFG_EN c = true → s.on F.ECH_STAT_ERR c = false →
    let q := s.get F.ECH_CFG_QUEUE c
    let ls := (s.chanNext c).1
    let k := (s.chanNext c).2.2
    let x := s.chanAt c
    let ws := (List.range k).map fun j => s.qWord q (s.get F.QD_RD_RD q + x.pos + j)
    let ofs := if x.pos = 0 then 0 else if ls.headD 0 - x.pos < k then ls.headD 0 - x.pos else 0xFFFF
    let gone := wholeWords (x.pos + k) ls
    let body := le 2 0x5A44 ++ le 1 1 ++ le 1 (b2n x.first) ++ le 2 c ++
      le 2 (s.get F.ECH_IP_SOURCE_ID c) ++ le 4 (s.get F.ECH_STAT_DSEQ c) ++ le 2 k ++ le 2 ofs ++
      le 8 ((s.till t).chanHor c) ++ wordBytes ws
    s.boundTo q 2 c = true → s.portUp (c / 16) = true → (s.portAt (c / 16)).pause = none → (s.till t).chanTurn c = true → k ≠ 0 →
    Answers (.datagramSend t c) s fun n =>
      n.portAt (c / 16) = { s.portAt (c / 16) with
        sent := s.ethFrame c body, ident := ((s.portAt (c / 16)).ident + 1) % 65536, rr := c % 16 } ∧
      n.chanAt c = { first := false, pos := x.pos + k - gone, hor := (s.till t).chanHor c, last := (s.till t).t64 } ∧
      n.get F.ECH_STAT_DSEQ c = (s.get F.ECH_STAT_DSEQ c + 1) % 2 ^ F.ECH_STAT_DSEQ.w ∧
      n.get F.ETH_CNT_DGRAMS (c / 16) = (s.get F.ETH_CNT_DGRAMS (c / 16) + 1) % 2 ^ F.ETH_CNT_DGRAMS.w ∧
      n.get F.QD_RD_RD q = (if gone = 0 then s.get F.QD_RD_RD q
        else (s.get F.QD_RD_RD q + gone) % 2 ^ (s.qk q + 1) % 2 ^ F.QD_RD_RD.w) ∧
      SameBut s.portAt n.portAt [c / 16] ∧ SameBut s.chanAt n.chanAt [c] ∧ n.wait = s.wait ∧
      (s.ue = [] → s.ce = [] → n.store = s.store)) ∧
  (∀ (s : State) (c : Nat), s.on F.ECH_CFG_EN c = true → s.on F.ECH_STAT_ERR c = false → s.get F.ECH_CFG_HB_EXP c ≠ 0 →
    s.boundTo (s.get F.ECH_CFG_QUEUE c) 2 c = true → s.portUp (c / 16) = true → (s.portAt (c / 16)).pause = none →
    let due := (s.chanAt c).last + 2 ^ max 13 (min 47 (s.get F.ECH_CFG_HB_EXP c))
    let body := le 2 0x5A44 ++ le 1 1 ++ le 1 (b2n (s.chanAt c).first + 2) ++ le 2 c ++
      le 2 (s.get F.ECH_IP_SOURCE_ID c) ++ le 4 (s.get F.ECH_STAT_DSEQ c) ++ le 2 0 ++ le 2 0xFFFF ++
      le 8 ((s.till due).chanHor c)
    ((s.till due).chanTurn c = false → Answers (.heartbeat c) s fun n => n = s.till due) ∧
    ((s.till due).chanTurn c = true →
      Answers (.heartbeat c) s fun n =>
        n.portAt (c / 16) = { s.portAt (c / 16) with
          sent := s.ethFrame c body, ident := ((s.portAt (c / 16)).ident + 1) % 65536, rr := c % 16 } ∧
        n.chanAt c = { s.chanAt c with first := false, hor := (s.till due).chanHor c, last := (s.till due).t64 } ∧
        n.get F.ECH_STAT_DSEQ c = (s.get F.ECH_STAT_DSEQ c + 1) % 2 ^ F.ECH_STAT_DSEQ.w ∧
        SameBut s.portAt n.portAt [c / 16] ∧ SameBut s.chanAt n.chanAt [c] ∧
        n = { s.till due with regs := n.regs, port := n.port, chan := n.chan } ∧
        SameRegs s n [(.ECH_STAT, c), (.ETH_CNT, c / 16)]))

/-- R336 to R340, R342, R346: a link whose lanes have locked sends HELLO, again each millisecond; a HELLO of version 1
is answered with ACCEPT, any other with a BYE; ACCEPT sent and received attaches the partner in its entry; no attach
within 100 ms, or a BYE in discovery, ends it, and it restarts 1 s later; an attached partner is detached by a BYE, by
loss of signal, by 10 ms without a frame and by a frame that has waited too long for credits; KEEP carries credits and
PROGRESS, a T64 that the model maps to its own time (log entry 48); after the first BYE of the engine's two more go out,
10 µs apart, and the link is idle for 1 ms; a frame whose FSEQ is not the next counts a gap. -/
def Obligations.PartnersComeAndGo : Prop :=
  let gone := fun (s n : State) (l : Nat) =>
    n.dlp l = 1 ∧ n.attached (s.entryOf l) = false ∧
    n.get F.PT_STAT_GEN (s.entryOf l) = s.get F.PT_STAT_GEN (s.entryOf l) ∧ n.on F.LNK_GEVT_DETACH (l / 4) = true ∧
    n.on F.DLP_STAT_ENTRY_VALID l = false ∧ n.progAt (0x160 + s.entryOf l) = 0 ∧ (n.lnkAt l).out = [] ∧
    (n.lnkAt l).locked = false
  let alone := fun (s n : State) (l : Nat) => (n.lnkAt l).mbx = [] ∧ SameBut s.lnkAt n.lnkAt [l] ∧ n.store = s.store
  let quiet := fun (s : State) => s.pwr.fw = false ∧ s.on F.PWR_ENG_RECOVERING 0 = false
  let gaps := fun (s : State) (l : Nat) (f : Frame) =>
    match (s.lnkAt l).seqRx with | some k => k != f.seq % 2 ^ 32 | none => false
  let counts := fun (s n : State) (l : Nat) (f : Frame) =>
    n.get F.DLP_CNT_SEQ_GAP_CNT l =
      if gaps s l f then min (s.get F.DLP_CNT_SEQ_GAP_CNT l + 1) (2 ^ F.DLP_CNT_SEQ_GAP_CNT.w - 1)
      else s.get F.DLP_CNT_SEQ_GAP_CNT l
  (∀ (s : State) (t l : Nat), s.isLink l = true → s.on F.DLP_CFG_EN l = true → s.domOn 85 = true →
    s.grpAt (l / 4) = none → (s.lnkAt l).locked = false →
    let now := (s.till t).t64
    (((s.lnkAt l).retry.all fun r => decide (r ≤ now)) = true →
      Answers (.dlpLinkUp t l) s fun n =>
        n.dlp l = 2 ∧
        n.lnkAt l = { s.lnkAt l with
          locked := true, tu := now, hello := now + ms 1, sentA := false, rcvdA := false, desc := [], res := none
          retry := none, seqTx := 1, seqRx := none, cret := 0, ccret := 0, freeB := 0, freeC := 0, rx := now, tx := now
          bye := 0, crcs := [], sent := frameWords 1 0 0 0 s.myDescriptor } ∧
        SameBut s.lnkAt n.lnkAt [l] ∧ n = { s.till t with regs := n.regs, lnk := n.lnk } ∧
        SameRegs s n [(.DLP_STAT, l), (.LNK_GSTAT, l / 4), (.LNK_GEVT, l / 4)]) ∧
    (((s.lnkAt l).retry.all fun r => decide (r ≤ now)) = false →
      Answers (.dlpLinkUp t l) s fun n =>
        n.dlp l = 1 ∧ n.lnkAt l = { s.lnkAt l with locked := true } ∧
        SameBut s.lnkAt n.lnkAt [l] ∧ n = { s.till t with regs := n.regs, lnk := n.lnk } ∧
        SameRegs s n [(.DLP_STAT, l), (.LNK_GSTAT, l / 4), (.LNK_GEVT, l / 4)])) ∧
  (∀ (s : State) (l : Nat), s.dlp l = 2 →
    let x := s.lnkAt l
    (let now := (s.till x.hello).t64
     Answers (.helloRepeat l) s fun n =>
      n.lnkAt l = { x with hello := now + ms 1, seqTx := (x.seqTx + 1) % 2 ^ 32, tx := now
                           sent := frameWords 1 x.freeB x.freeC x.seqTx s.myDescriptor } ∧
      SameBut s.lnkAt n.lnkAt [l] ∧ n = { s.till x.hello with lnk := n.lnk }) ∧
    (let now := (s.till (x.tu + ms 100)).t64
     Answers (.discoveryTimeout l) s fun n =>
      n.dlp l = 1 ∧ (n.lnkAt l).retry = some (now + ms 1000) ∧ (n.lnkAt l).locked = false ∧
      n.on F.LNK_GEVT_HS_FAIL (l / 4) = true ∧
      n.get F.DLP_CNT_HS_FAIL_CNT l = min (s.get F.DLP_CNT_HS_FAIL_CNT l + 1) (2 ^ F.DLP_CNT_HS_FAIL_CNT.w - 1) ∧
      SameBut s.lnkAt n.lnkAt [l] ∧ n = { s.till (x.tu + ms 100) with regs := n.regs, lnk := n.lnk } ∧
      SameRegs s n [(.DLP_STAT, l), (.DLP_CNT, l), (.LNK_GSTAT, l / 4), (.LNK_GEVT, l / 4)])) ∧
  (∀ (s : State) (l r : Nat), (s.lnkAt l).retry = some r →
    (s.isLink l = true → s.on F.DLP_CFG_EN l = true → (s.lnkAt l).locked = true →
      Answers (.discoveryRestart l) s fun n =>
        n.dlp l = 2 ∧ (n.lnkAt l).retry = none ∧ (n.lnkAt l).tu = (s.till r).t64 ∧
        (n.lnkAt l).sent = frameWords 1 0 0 0 s.myDescriptor ∧ SameBut s.lnkAt n.lnkAt [l] ∧
        n = { s.till r with regs := n.regs, lnk := n.lnk } ∧ SameRegs s n [(.DLP_STAT, l)]) ∧
    (s.isLink l = true → s.on F.DLP_CFG_EN l = true → (s.lnkAt l).locked = false →
      Answers (.discoveryRestart l) s fun n =>
        n.dlp l = 1 ∧ n.lnkAt l = { s.lnkAt l with retry := none } ∧ SameBut s.lnkAt n.lnkAt [l] ∧
        n = { s.till r with regs := n.regs, lnk := n.lnk } ∧ SameRegs s n [(.DLP_STAT, l)]) ∧
    (s.isLink l = false ∨ s.on F.DLP_CFG_EN l = false →
      Answers (.discoveryRestart l) s fun n =>
        n.lnkAt l = { s.lnkAt l with retry := none } ∧ SameBut s.lnkAt n.lnkAt [l] ∧
        n = { s.till r with lnk := n.lnk })) ∧
  (∀ (s : State) (t l : Nat) (f : Frame), s.dlp l = 2 →
    let x := s.lnkAt l
    let now := (s.till t).t64
    let y := { x with seqRx := some ((f.seq + 1) % 2 ^ 32), rx := now }
    (∀ e, s.wf = true → f.ws.length = 4 → bits (payload f 0) 0 8 = 1 → x.res.or s.freeEntry = some e →
      (x.rcvdA = false →
        Answers (.hello t l f) s fun n =>
          n.dlp l = 2 ∧
          n.lnkAt l = { y with res := some e, desc := f.ws, sentA := true, seqTx := (x.seqTx + 1) % 2 ^ 32, tx := now
                               sent := frameWords 2 x.freeB x.freeC x.seqTx [w64 e] } ∧ counts s n l f ∧
          SameBut s.lnkAt n.lnkAt [l] ∧ n = { s.till t with regs := n.regs, lnk := n.lnk } ∧
          SameRegs s n [(.DLP_CNT, l)]) ∧
      (x.rcvdA = true → e < 32 → l < 64 →
        Answers (.hello t l f) s fun n =>
          n.dlp l = 3 ∧ n.attached e = true ∧ n.linkOf e = l ∧ n.entryOf l = e ∧
          n.reg .PT_ID0 e = f.ws.getD 1 0 ∧ n.reg .PT_ID1 e = f.ws.getD 2 0)) ∧
    (s.wf = true → f.ws.length = 4 → bits (payload f 0) 0 8 ≠ 1 ∨ x.res.or s.freeEntry = none →
      Answers (.hello t l f) s fun n =>
        n.dlp l = 4 ∧ (n.lnkAt l).retry = some (now + ms 1000) ∧ (n.lnkAt l).locked = false ∧ (n.lnkAt l).bye = 2 ∧
        (n.lnkAt l).sent = frameWords 3 x.freeB x.freeC x.seqTx [if bits (payload f 0) 0 8 ≠ 1 then 2 else 1] ∧
        SameBut s.lnkAt n.lnkAt [l] ∧ n = { s.till t with regs := n.regs, lnk := n.lnk } ∧
        SameRegs s n [(.DLP_CNT, l), (.DLP_STAT, l), (.LNK_GSTAT, l / 4), (.LNK_GEVT, l / 4)]) ∧
    (f.ws.length = 1 → x.sentA = false ∨ x.res = none →
      Answers (.accept t l f) s fun n =>
        n.dlp l = 2 ∧ n.lnkAt l = { y with rcvdA := true } ∧ counts s n l f ∧ SameBut s.lnkAt n.lnkAt [l] ∧
        n = { s.till t with regs := n.regs, lnk := n.lnk } ∧ SameRegs s n [(.DLP_CNT, l)]) ∧
    (∀ e, f.ws.length = 1 → x.sentA = true → x.res = some e → e < 32 → l < 64 →
      Answers (.accept t l f) s fun n =>
        n.dlp l = 3 ∧ n.attached e = true ∧ n.linkOf e = l ∧ n.entryOf l = e ∧
        n.on F.DLP_STAT_ENTRY_VALID l = true ∧ n.get F.PT_STAT_GEN e = (s.get F.PT_STAT_GEN e + 1) % 256 ∧
        n.reg .PT_ID0 e = x.desc.getD 1 0 ∧ n.reg .PT_ID1 e = x.desc.getD 2 0 ∧
        n.on F.LNK_GEVT_ATTACH (l / 4) = true ∧ (n.lnkAt l).res = none ∧ counts s n l f ∧
        n = { (s.till t).noted n with prog := n.prog } ∧
        NotedRegs s n [(.PT_STAT, e), (.PT_ID0, e), (.PT_ID1, e), (.PT_TIME, e), (.PT_CNT, e), (.DLP_STAT, l),
          (.DLP_CNT, l), (.LNK_GEVT, l / 4)]) ∧
    (f.ws.length = 1 →
      Answers (.bye t l f) s fun n =>
        n.dlp l = 1 ∧
        n.lnkAt l = { y with locked := false, sentA := false, rcvdA := false, desc := [], res := none, seqRx := none
                             retry := some (now + ms 1000) } ∧ counts s n l f ∧
        SameBut s.lnkAt n.lnkAt [l] ∧ n = { s.till t with regs := n.regs, lnk := n.lnk } ∧
        SameRegs s n [(.DLP_CNT, l), (.DLP_STAT, l), (.LNK_GSTAT, l / 4), (.LNK_GEVT, l / 4)])) ∧
  (∀ (s : State) (t l : Nat) (f : Frame), s.dlp l = 3 → l < 64 →
    (f.ws.length = 4 →
      Answers (.hello t l f) s fun n =>
        n.dlp l = 4 ∧ n.attached (s.entryOf l) = false ∧ n.on F.LNK_GEVT_DETACH (l / 4) = true ∧
        (n.lnkAt l).locked = false ∧ (n.lnkAt l).bye = 2 ∧ (n.lnkAt l).retry = some ((s.till t).t64 + us 20 + ms 1)) ∧
    (f.ws.length = 1 → Answers (.bye t l f) s fun n => gone s n l) ∧
    (f.ws.length = 1 → quiet s → (s.lnkAt l).out = [] → (s.lnkAt l).mbx = [] →
      (s.epAt (18 + s.entryOf l)).kept = [] → Answers (.bye t l f) s fun n => alone s n l) ∧
    (s.isLink l = true → (s.lnkAt l).locked = true →
      (Answers (.lossOfSignal t l) s fun n => gone s n l ∧ n.on F.LNK_GEVT_LOS (l / 4) = true) ∧
      (quiet s → Answers (.lossOfSignal t l) s fun n => alone s n l)) ∧
    ((s.lnkAt l).rx + ms 10 ≤ (s.till t).t64 →
      (Answers (.rxTimeout t l) s fun n => gone s n l) ∧
      (quiet s → Answers (.rxTimeout t l) s fun n => alone s n l)) ∧
    (((s.lnkAt l).waitT.toList ++ (s.lnkAt l).mbx.map (·.1)).any
        (fun w => decide (w + ms (max 1 (s.get F.DLP_CFG_CREDIT_TO l)) ≤ (s.till t).t64)) = true →
      (Answers (.creditTimeout t l) s fun n => gone s n l ∧ n.on F.LNK_GEVT_CREDIT_STALL (l / 4) = true) ∧
      (quiet s → Answers (.creditTimeout t l) s fun n => alone s n l))) ∧
  (∀ (s : State) (t l : Nat), s.dlp l ≠ 3 → s.isLink l = true → (s.lnkAt l).locked = true →
    Answers (.lossOfSignal t l) s fun n =>
      n.dlp l = 1 ∧ (n.lnkAt l).locked = false ∧ n.on F.LNK_GEVT_LOS (l / 4) = true ∧ SameBut s.lnkAt n.lnkAt [l] ∧
      n = { s.till t with regs := n.regs, lnk := n.lnk } ∧
      SameRegs s n [(.DLP_STAT, l), (.LNK_GSTAT, l / 4), (.LNK_GEVT, l / 4)]) ∧
  (∀ (s : State) (t l : Nat) (f : Frame), f.ws.length = 1 →
    let x := s.lnkAt l
    let keep := if payload f 0 = 0 then 0 else (s.till t).near (payload f 0)
    (s.dlp l = 3 →
      Answers (.keep t l f) s fun n =>
        (n.lnkAt l).seqRx = some ((f.seq + 1) % 2 ^ 32) ∧ (n.lnkAt l).rx = (s.till t).t64 ∧
        (n.lnkAt l).keepP = keep ∧ n.progAt (0x160 + s.entryOf l) = max x.hor keep ∧ counts s n l f) ∧
    (s.dlp l = 2 →
      Answers (.keep t l f) s fun n =>
        n.lnkAt l = { x with seqRx := some ((f.seq + 1) % 2 ^ 32), rx := (s.till t).t64 } ∧ counts s n l f ∧
        SameBut s.lnkAt n.lnkAt [l] ∧ n = { s.till t with regs := n.regs, lnk := n.lnk } ∧
        SameRegs s n [(.DLP_CNT, l)]) ∧
    (s.dlp l = 3 → x.out = [] → x.mbx = [] → (s.epAt (18 + s.entryOf l)).kept = [] →
      let b := (f.cret + 256 - x.cret % 256) % 256
      Answers (.keep t l f) s fun n =>
        n.lnkAt l = { x with
          seqRx := some ((f.seq + 1) % 2 ^ 32), rx := (s.till t).t64, cret := f.cret % 256, ccret := f.ccret % 8
          bTx := x.bTx + b, cTx := x.cTx + (f.ccret + 8 - x.ccret % 8) % 8, paid := x.paid + b, keepP := keep } ∧
        n.get F.DLP_STAT_TX_CRED l = min 65535 (x.bTx + b) ∧
        SameBut s.lnkAt n.lnkAt [l] ∧ SameBut s.progAt n.progAt [0x160 + s.entryOf l] ∧
        n = { s.till t with regs := n.regs, lnk := n.lnk, prog := n.prog } ∧
        SameRegs s n [(.DLP_STAT, l), (.DLP_CNT, l)])) ∧
  (∀ (s : State) (t l : Nat),
    let x := s.lnkAt l
    (s.dlp l = 2 ∨ s.dlp l = 3 →
      Answers (.keepSend t l) s fun n =>
        n.lnkAt l = { x with seqTx := (x.seqTx + 1) % 2 ^ 32, tx := (s.till t).t64
                             sent := frameWords 0 x.freeB x.freeC x.seqTx [0] } ∧
        SameBut s.lnkAt n.lnkAt [l] ∧ n = { s.till t with lnk := n.lnk }) ∧
    (s.dlp l ≠ 2 → s.dlp l ≠ 3 → x.bye ≠ 0 →
      let then_ := (s.till t).till (x.tx + us 10)
      Answers (.keepSend t l) s fun n =>
        n.lnkAt l = { x with seqTx := (x.seqTx + 1) % 2 ^ 32, tx := then_.t64, bye := x.bye - 1
                             sent := frameWords 3 x.freeB x.freeC x.seqTx [w64 x.reason] } ∧
        SameBut s.lnkAt n.lnkAt [l] ∧ n = { then_ with lnk := n.lnk }))

/-- R335, R336, R341, R343 to R345: frames of an attached partner: a BUNDLE the access table admits waits for placement
as the partner sent it, its times mapped to the model's (log entry 48), or for a buffer, and a malformed one is
aborted; an MBX frame of a MAILBOX client posts a slot or releases one; a TIME request is answered, a TIME response
gives offset and delay; of these, one that returns no credits changes nothing else; a frame that fails its CRC only
counts, and rewinds its bundle, until the failures of a millisecond detach; one that is discarded for its type or
length counts, with the gap before it where its FSEQ is given; the engine's own: the next bundle of the partner's
queues where its credits are held, and a TIME request. -/
def Obligations.PartnerFrames : Prop :=
  (∀ (s : State) (t l : Nat) (f : Frame), s.dlp l = 3 →
    let x := s.lnkAt l
    let e := s.entryOf l
    let now := (s.till t).t64
    let took := fun (n : State) => (n.lnkAt l).seqRx = some ((f.seq + 1) % 2 ^ 32) ∧ (n.lnkAt l).rx = now
    (let q := bits (payload f 0) 0 16
     let ws := f.ws.drop 1
     let k := ws.length
     let ok := s.active q = true ∧ s.grants (60 + e) (20 + q / 512) (q % 512) true = true
     let formed := 3 ≤ k ∧ bits (payload f 1) 56 8 = 0xF0 ∧ bits (payload f 1) 44 12 = k ∧ bits (payload f k) 56 8 = 0xF1
     let r : Rec := { t := (s.till t).near (payload f 2), ws := (ws.drop 2).take (k - 3) }
     let whole := s.open_.all (·.producer != 0x160 + e) = true
     (ok → formed → whole → s.back.any (·.1 == 0x160 + e) = false → s.canOpen (0x160 + e) q = true →
       Answers (.bundleFrame t l f) s fun n =>
        took n ∧ n.store = s.store ∧ ∃ b ∈ n.wait, b.q = q ∧ b.producer = 0x160 + e ∧ b.recs = [r]) ∧
     (ok → formed → whole → s.back.any (·.1 == 0x160 + e) = true ∨ s.canOpen (0x160 + e) q = false →
       Answers (.bundleFrame t l f) s fun n => took n ∧ n.store = s.store ∧ (0x160 + e, q, 0, r) ∈ n.back) ∧
     (ok → ¬formed →
       Answers (.bundleFrame t l f) s fun n =>
        took n ∧ (n.lnkAt l).freeB = x.freeB + bundleCost k ∧ n.on F.QD_FLAGS_ABORT q = true ∧ (n.queAt q).lost = true ∧
        n.get F.QD_CNT0_ABORT_CNT q = min (s.get F.QD_CNT0_ABORT_CNT q + 1) (2 ^ F.QD_CNT0_ABORT_CNT.w - 1)) ∧
     (¬ok →
       Answers (.bundleFrame t l f) s fun n =>
        took n ∧ (n.lnkAt l).freeB = x.freeB + bundleCost k ∧ n.wait = s.wait ∧ n.open_ = s.open_ ∧ n.back = s.back ∧
        n.get F.PT_CNT_DENIED_CNT e = min (s.get F.PT_CNT_DENIED_CNT e + 1) (2 ^ F.PT_CNT_DENIED_CNT.w - 1))) ∧
    (let w := payload f 0
     let sl := bits w 0 2
     bits w 4 60 = 0 → bit (s.get F.PT_STAT_CAPS e) 2 = true →
     let sk := slotKey (18 + e) sl
     (f.ws.length = 33 → bits w 2 2 = 0 →
      ((s.slotAt sk).st ≠ 1 → (s.slotAt sk).st ≠ 2 →
        Answers (.mbxCommand t l f) s fun n =>
          n.slotAt sk = { s.slotAt sk with
            st := 1, bytes := wordBytes (f.ws.drop 1), tag := field (wordBytes (f.ws.drop 1)) 2 2 } ∧
          SameBut s.slotAt n.slotAt [sk] ∧ took n ∧ (n.lnkAt l).freeC = x.freeC) ∧
      ((s.slotAt sk).st = 1 ∨ (s.slotAt sk).st = 2 →
        Answers (.mbxCommand t l f) s fun n => n.slot = s.slot ∧ took n ∧ (n.lnkAt l).freeC = x.freeC + 1)) ∧
     (f.ws.length = 1 → bits w 2 2 = 3 →
      Answers (.mbxRelease t l f) s fun n =>
        n.slotAt sk = (if (s.slotAt sk).st = 3 then { s.slotAt sk with st := 0 } else s.slotAt sk) ∧
        SameBut s.slotAt n.slotAt [sk] ∧ took n ∧ (n.lnkAt l).freeC = x.freeC + 1)) ∧
    (f.ws.length = 4 →
      (Answers (.timeRequest t l f) s fun n =>
        took n ∧ (n.lnkAt l).tx = now ∧ n.freeCnt = s.freeCnt + 1 ∧
        ∃ k, (n.lnkAt l).sent = frameWords 6 x.freeB x.freeC k [w64 1, f.ws.getD 1 0, w64 now,
          w64 (now + (Config.freeWord s.freeCnt).toNat % (us 20 + 1))]) ∧
      (let t1 : Int := payload f 1
       let t2 : Int := payload f 2
       let t3 : Int := payload f 3
       let t4 : Int := (now % 2 ^ 64 : Nat)
       Answers (.timeResponse t l f) s fun n =>
        took n ∧
        n.get F.PT_TIME_OFFSET e = sfield 40 (((t2 - t1) - (t4 - t3)) / 2) ∧
        n.get F.PT_TIME_DELAY e = (clampI 0 (2 ^ 24 - 1) (((t4 - t1) - (t3 - t2)) / 2)).toNat))) ∧
  (∀ (s : State) (t l : Nat) (f : Frame), s.dlp l = 3 → (s.lnkAt l).seqRx = some (f.seq % 2 ^ 32) →
    (s.lnkAt l).out = [] → (s.lnkAt l).mbx = [] → (s.epAt (18 + s.entryOf l)).kept = [] →
    f.cret = (s.lnkAt l).cret → f.ccret = (s.lnkAt l).ccret → f.cret < 256 → f.ccret < 8 →
    let x := s.lnkAt l
    let e := s.entryOf l
    let now := (s.till t).t64
    let y := { x with seqRx := some ((f.seq + 1) % 2 ^ 32), rx := now }
    (let w := payload f 0
     let sl := bits w 0 2
     bits w 4 60 = 0 → bit (s.get F.PT_STAT_CAPS e) 2 = true → e < 32 →
     (f.ws.length = 33 → bits w 2 2 = 0 → (s.slotAt (slotKey (18 + e) sl)).st ≠ 1 →
      (s.slotAt (slotKey (18 + e) sl)).st ≠ 2 →
      Answers (.mbxCommand t l f) s fun n =>
        n.lnkAt l = y ∧ n = { (s.till t).noted n with slot := n.slot } ∧ NotedRegs s n [(.DLP_STAT, l)]) ∧
     (f.ws.length = 1 → bits w 2 2 = 3 → (s.slotAt (slotKey (18 + e) sl)).st = 3 →
      Answers (.mbxRelease t l f) s fun n =>
        n.lnkAt l = { y with freeC := x.freeC + 1 } ∧
        n = { s.till t with regs := n.regs, slot := n.slot, lnk := n.lnk } ∧ SameRegs s n [(.DLP_STAT, l)])) ∧
    (f.ws.length = 4 →
      (Answers (.timeRequest t l f) s fun n =>
        n.lnkAt l = { y with
          seqTx := (x.seqTx + 1) % 2 ^ 32, tx := now
          sent := frameWords 6 x.freeB x.freeC x.seqTx [w64 1, f.ws.getD 1 0, w64 now,
            w64 (now + (Config.freeWord s.freeCnt).toNat % (us 20 + 1))] } ∧
        SameBut s.lnkAt n.lnkAt [l] ∧
        n = { s.till t with regs := n.regs, lnk := n.lnk, freeCnt := s.freeCnt + 1 } ∧
        SameRegs s n [(.DLP_STAT, l)]) ∧
      Answers (.timeResponse t l f) s fun n =>
        n.lnkAt l = y ∧ n = { s.till t with regs := n.regs, lnk := n.lnk } ∧
        SameRegs s n [(.DLP_STAT, l), (.PT_TIME, e)])) ∧
  (∀ (s : State) (t l : Nat), s.dlp l = 2 ∨ s.dlp l = 3 →
    let x := s.lnkAt l
    let now := (s.till t).t64
    let near := x.crcs.filter fun a => now < a + ms 1
    let storm := max 1 (s.get F.DLP_CFG_CRC_LIM l) ≤ near.length + 1
    (∀ rx, Answers (.frameDiscard t l true rx) s fun n =>
      n.get F.DLP_CNT_CRC_CNT l = min (s.get F.DLP_CNT_CRC_CNT l + 1) (2 ^ F.DLP_CNT_CRC_CNT.w - 1) ∧
      (storm → n.on F.LNK_GEVT_CRC_STORM (l / 4) = true ∧ (s.dlp l = 3 → n.dlp l = 1)) ∧
      (¬storm → (n.lnkAt l).crcs = near ++ [now] ∧ n.dlp l = s.dlp l) ∧
      ∀ q k, rx = some (q, k) → s.dlp l = 3 →
        (s.admits (s.entryOf l) q = true → n.on F.QD_FLAGS_ABORT q = true) ∧
        (s.admits (s.entryOf l) q = false → ¬storm →
          n.get F.PT_CNT_DENIED_CNT (s.entryOf l) =
            min (s.get F.PT_CNT_DENIED_CNT (s.entryOf l) + 1) (2 ^ F.PT_CNT_DENIED_CNT.w - 1))) ∧
    (¬storm →
      Answers (.frameDiscard t l true none) s fun n =>
        n.lnkAt l = { x with crcs := near ++ [now] } ∧ SameBut s.lnkAt n.lnkAt [l] ∧
        n = { s.till t with regs := n.regs, lnk := n.lnk } ∧ SameRegs s n [(.DLP_CNT, l)]) ∧
    let counted := fun (n : State) =>
      n.get F.DLP_CNT_BAD_FRAME_CNT l = min (s.get F.DLP_CNT_BAD_FRAME_CNT l + 1) (2 ^ F.DLP_CNT_BAD_FRAME_CNT.w - 1) ∧
      SameRegs s n [(.DLP_CNT, l)]
    (Answers (.frameDiscard t l false none) s fun n =>
      counted n ∧ n.get F.DLP_CNT_SEQ_GAP_CNT l = s.get F.DLP_CNT_SEQ_GAP_CNT l ∧
      n = { s.till t with regs := n.regs }) ∧
    (∀ seq k, Answers (.frameDiscard t l false (some (seq, k))) s fun n =>
      counted n ∧
      n.get F.DLP_CNT_SEQ_GAP_CNT l =
        (if x.seqRx = none ∨ x.seqRx = some (seq % 2 ^ 32) then s.get F.DLP_CNT_SEQ_GAP_CNT l
        else min (s.get F.DLP_CNT_SEQ_GAP_CNT l + 1) (2 ^ F.DLP_CNT_SEQ_GAP_CNT.w - 1)) ∧
      n.lnkAt l = { x with seqRx := some ((seq + 1) % 2 ^ 32), rx := now } ∧ SameBut s.lnkAt n.lnkAt [l] ∧
      n = { s.till t with regs := n.regs, lnk := n.lnk })) ∧
  (∀ (s : State) (t l : Nat), s.dlp l = 3 → s.on F.DLP_CFG_TIME_EN l = true →
    bit (s.get F.PT_STAT_CAPS (s.entryOf l)) 3 = true → (s.lnkAt l).timeT ≤ (s.till t).t64 →
    let x := s.lnkAt l
    let now := (s.till t).t64
    Answers (.timeRequestSend t l) s fun n =>
      n.lnkAt l = { x with timeT := now + ms 100, seqTx := (x.seqTx + 1) % 2 ^ 32, tx := now
                           sent := frameWords 6 x.freeB x.freeC x.seqTx [0, w64 now, 0, 0] } ∧
      SameBut s.lnkAt n.lnkAt [l] ∧ n = { s.till t with lnk := n.lnk }) ∧
  (∀ (s : State) (t e q : Nat), s.attached e = true →
    let qs := s.indices .QD_MARK fun v => F.QD_MARK_CONS_KIND.of v == 7 && F.QD_MARK_CONS_ID.of v == e
    let l := s.linkOf e
    let x := s.lnkAt l
    (qs.filter (x.rr < ·) ++ qs.filter (fun q => !(x.rr < q))).find? (fun q => (s.peek q (x.ahead q)).isSome) = some q →
    (∀ b, s.peek q (x.ahead q) = some (some b) → bundleCost b.len ≤ x.bTx →
      Answers (.partnerBundleSend t e) s fun n =>
        (n.lnkAt l).bTx = x.bTx - bundleCost b.len ∧ (n.lnkAt l).rr = q ∧ (n.lnkAt l).waitT = none ∧
        (n.lnkAt l).out = x.out ++ [(q, b.len, bundleCost b.len)] ∧
        (b.errs = [] →
          n.lnkAt l = { x with
            bTx := x.bTx - bundleCost b.len, out := x.out ++ [(q, b.len, bundleCost b.len)], rr := q, waitT := none
            seqTx := (x.seqTx + 1) % 2 ^ 32, tx := (s.till t).t64
            sent := frameWords 4 x.freeB x.freeC x.seqTx (w64 q :: b.words) } ∧
          SameBut s.lnkAt n.lnkAt [l] ∧ n = { s.till t with regs := n.regs, lnk := n.lnk } ∧
          SameRegs s n [(.DLP_STAT, l)])) ∧
    (∀ b, s.peek q (x.ahead q) = some (some b) → x.bTx < bundleCost b.len →
      Answers (.partnerBundleSend t e) s fun n =>
        n.lnkAt l = { x with waitT := some (x.waitT.getD (s.till t).t64) } ∧ SameBut s.lnkAt n.lnkAt [l] ∧
        n = { s.till t with lnk := n.lnk }) ∧
    (s.peek q (x.ahead q) = some none →
      Answers (.partnerBundleSend t e) s fun n =>
        n.on F.QD_CFG_CFG_ERR q = true ∧ n.lnkAt l = { x with rr := q } ∧ SameBut s.lnkAt n.lnkAt [l] ∧
        n = { s.till t with regs := n.regs, lnk := n.lnk } ∧ SameRegs s n [(.QD_CFG, q)]))

/-- R362, R363, R432: of the TAP, IDCODE reads the device's code; CHALLENGE draws a nonce and reads it with the
identity; UNLOCK opens a locked port where the key is the fuse's and the signature holds, and otherwise counts a
failure and draws a nonce; the rest acts only while the port is not locked: BYPASS captures 0, SAMPLE/PRELOAD and
EXTEST load the boundary register, from which EXTEST drives the balls, and DEBUG makes an access as master 93. -/
def Obligations.TapInstructions : Prop :=
  (∀ (s : State) (t : Nat),
    Answers (.idcode t) s fun n =>
      n = { s.till t with jtag := { s.jtag with
        ir := 1, dr := le 4 (2 ^ 28 + (if s.small then 0x9256 else 0x9512) * 2 ^ 12 + 0x7B3) } }) ∧
  (∀ (s : State) (t : Nat) (nonce : List Byte), nonce.length = 32 →
    Answers (.challenge t nonce) s fun n =>
      n = { s.till t with
        nonce := nonce, jtag := { s.jtag with ir := 2, dr := nonce ++ s.vaultBytes 0x1FF0000 16 } }) ∧
  (∀ (s : State) (t : Nat) (key sig nonce : List Byte),
    (s.fuse.secure = false ∨ s.on F.ACC_BOOT_DEBUG_UNLOCKED 0 = true ∨ 3 ≤ s.get F.ACC_BOOT_UNLOCK_FAILS 0 →
      Answers (.unlock t key sig nonce) s fun n =>
        n = { s.till t with jtag := { s.jtag with ir := 3, dr := [] } }) ∧
    (s.fuse.secure = true → s.on F.ACC_BOOT_DEBUG_UNLOCKED 0 = false → s.get F.ACC_BOOT_UNLOCK_FAILS 0 < 3 →
      nonce.length = 32 →
      let good := s.fuse.debugHash.any (· != 0) && Config.sha384 key == s.fuse.debugHash &&
        Config.ecdsaP384 key (Config.sha384 (fit 32 s.nonce ++ s.vaultBytes 0x1FF0000 16)) sig
      Answers (.unlock t key sig nonce) s fun n =>
        n.on F.ACC_BOOT_DEBUG_UNLOCKED 0 = good ∧
        n.get F.ACC_BOOT_UNLOCK_FAILS 0 = s.get F.ACC_BOOT_UNLOCK_FAILS 0 + (if good then 0 else 1) ∧
        n.nonce = (if good then s.nonce else nonce) ∧ n.jtag = { s.jtag with ir := 3, dr := [] } ∧
        n.errlog.length = (if good && s.pwr.fw then min 64 (s.errlog.length + 1) else s.errlog.length) ∧
        n = { (s.till t).noted n with jtag := n.jtag, nonce := n.nonce, errlog := n.errlog, freeCnt := n.freeCnt } ∧
        NotedRegs s n [(.ACC_BOOT, 0)])) ∧
  (∀ (s : State) (t : Nat) (pins : List Nat) (wr : Bool) (a : Nat) (v : Word),
    (s.on F.ACC_BOOT_SECURE_EN 0 = true → s.on F.ACC_BOOT_DEBUG_UNLOCKED 0 = false →
      Answers (.samplePreload t pins) s (fun n => n = s.till t) ∧ Answers (.extest t pins) s (fun n => n = s.till t) ∧
      Answers (.debug t wr a v) s (fun n => n = s.till t) ∧ Answers (.bypass t) s (fun n => n = s.till t) ∧
      Answers (.registerWrite t 93 a v) s (fun n =>
        n = { (s.till t).faulted n with shad := n.shad } ∧
        NotedRegs s n [(.ACC_VSTAT, 0), (.ACC_VCAP0, 0), (.ACC_VCAP1, 0), (.REG_ACNT, 0)] ∧
        (∀ x : Spot, s.eng ≠ .off → s.place 93 a = .spot x → s.domOn x.pd = true → x.tgt ≠ 255 →
          n.get F.ACC_VSTAT_VCNT 0 = min (s.get F.ACC_VSTAT_VCNT 0 + 1) (2 ^ F.ACC_VSTAT_VCNT.w - 1)))) ∧
    (s.on F.ACC_BOOT_SECURE_EN 0 = false ∨ s.on F.ACC_BOOT_DEBUG_UNLOCKED 0 = true →
      Answers (.bypass t) s (fun n => n = { s.till t with jtag := { s.jtag with ir := 15, dr := [0] } }) ∧
      Answers (.samplePreload t pins) s (fun n =>
        n = { s.till t with jtag := { s.jtag with ir := 4, scan := pins } }) ∧
      Answers (.extest t pins) s (fun n =>
        n = { s.till t with jtag := { s.jtag with ir := 5, scan := pins, drive := some s.jtag.scan } }) ∧
      Answers (.registerWrite t 93 a v) s (fun u =>
        Answers (.debug t true a v) s fun n => n = { u with jtag := { s.jtag with ir := 8, dr := [] } }) ∧
      Answers (.rcFieldRead t 93 a) s (fun u =>
        Answers (.debug t false a v) s fun n =>
          n = { u with jtag := { s.jtag with ir := 8, dr := le 8 (u.shadAt 93).data.toNat } })))

/-- R5, R127, R293, R366, R367, R384, R398: a write of PWR_DREQ in ACTIVE or during start-up that Table PWR-2 allows
stores REQ of every switchable domain of its word, 3 acting as 2, and lets every domain whose request differs change to
its new state, CHANGING meanwhile; one that breaks a condition is ignored and sets DOMAIN_ERR. A change that is
complete shows its state. What an OFF domain held is lost: the levels and ramps of a front end, the stamping circuits
and walk tables of a capture domain with the records of its lanes and its block's merge and the fast path's open
bundles (log entry 54), the gates, armed starts and statistics of the engines, a core's memory, the plaza's pipelines
and histograms; K3 is reset with its domain. A front end back ON takes its initial state from its inputs, a capture
domain back from OFF asks for its block's reset, engines start afresh under the words written, and a core that reaches
RETAIN while a source that targets it is pending wakes again. During a thermal trip a write is ignored (R398). Where a
ward is not in service its domains do not change (log entry 30). -/
def Obligations.DomainsChange : Prop :=
  (∀ (s : State) (t m i : Nat) (v : Word), i < 3 → s.domOn 0 = true → s.grants m 11 (0x40 + 8 * i) true = true →
    s.eng = .active ∨ s.eng = .starting →
    let raw := fun (d : Nat) => bits v.toNat (2 * (d % 32)) 2
    let all := ((List.range 32).map (32 * i + ·)).filter fun d =>
      domStates d ≠ [] && !s.domAbsent d && !s.domOut d
    let ds := all.filter fun d => min 2 (raw d) ≠ s.domGoal d
    (s.pwr.trip = true →
      Answers (.pwrDreqWrite t m i v) s fun n =>
        n = { s.till t with shad := n.shad } ∧ SameBut s.shadAt n.shadAt [m]) ∧
    (s.pwr.trip = false → (∀ d ∈ ds, s.domMay d (min 2 (raw d)) = true) →
      Answers (.pwrDreqWrite t m i v) s fun n =>
        (∀ d ∈ all, n.get ⟨.PWR_DREQ, 2 * (d % 32), 2⟩ i = raw d) ∧
        (∀ d : Fin 96, d.val ∈ ds → n.domGoal d = min 2 (raw d) ∧ (s.pwr.pend.all (·.1 != d) → n.dom d = 3)) ∧
        (∀ d : Fin 96, d.val ∉ ds → n.domGoal d = s.domGoal d ∧ n.dom d = s.dom d) ∧
        n = { s.till t with regs := n.regs, shad := n.shad, pwr := { s.pwr with pend := n.pwr.pend } } ∧
        SameRegs s n [(.PWR_DREQ, i), (.PWR_DSTAT, i)] ∧ SameBut s.shadAt n.shadAt [m]) ∧
    (s.pwr.trip = false → ∀ d ∈ ds, s.domMay d (min 2 (raw d)) = false →
      Answers (.pwrDreqWrite t m i v) s fun n =>
        n.on F.PWR_EVT_DOMAIN_ERR 0 = true ∧ n = { s.till t with regs := n.regs, shad := n.shad } ∧
        SameRegs s n [(.PWR_EVT, 0)] ∧ SameBut s.shadAt n.shadAt [m])) ∧
  (∀ (s : State) (t m i : Nat) (v : Word) (b : Nat), i < 3 → s.domOn 0 = true →
    s.grants m 11 (0x40 + 8 * i) true = true → s.eng = .active ∨ s.eng = .starting → b < 32 →
    s.blockAbsent b = false → s.wardFailed (b / 4) = false →
    s.pwr.trip = false → s.pwr.pend = [] → pdCapture b / 32 = i → s.dom (pdCapture b) = 2 → s.dom (pdFront b) ≠ 0 →
    bits v.toNat (2 * (pdCapture b % 32)) 2 < 2 →
    Answers (.pwrDreqWrite t m i v) s fun n =>
      n.on F.PWR_EVT_DOMAIN_ERR 0 = true ∧ n = { s.till t with regs := n.regs, shad := n.shad } ∧
      SameRegs s n [(.PWR_EVT, 0)] ∧ SameBut s.shadAt n.shadAt [m]) ∧
  (∀ (s : State) (t d x : Nat), s.pwr.pend.find? (·.1 == d) = some (d, x) → d < 96 →
    let old := x / 4
    let st := x % 4
    let pwr := { s.pwr with pend := s.pwr.pend.filter (·.1 != d) }
    let kept := fun (n : State) =>
      n.dom d = st ∧ n = { s.till t with regs := n.regs, pwr := pwr } ∧ SameRegs s n [(.PWR_DSTAT, d / 32)]
    let calls := fun (k : Nat) =>
      bit (s.get F.INT_SRC_TARGET k) (d - 81) && s.enabledSrc k && s.pendOf k && !s.heldNow k
    (old = st ∨ (d = 0 ∨ 80 < d) ∧ st = 2 → Answers (.domainChangeDone t d) s kept) ∧
    (st = 1 ∨ st = 3 → d < 81 ∨ 84 < d ∨ s.candidates.any calls = false → Answers (.domainChangeDone t d) s kept) ∧
    (old ≠ st → st = 1 → 81 ≤ d → d ≤ 84 → s.domOn 85 = true → s.candidates.any calls = true →
      Answers (.domainChangeDone t d) s fun n =>
        n.dom d = 3 ∧ (d, 6) ∈ n.pwr.pend ∧ (n.coreAt (d - 81)).wfi = false ∧
        n = { s.till t with regs := n.regs, core := n.core, pwr := { pwr with pend := n.pwr.pend } } ∧
        SameRegs s n [(.PWR_DSTAT, 2)]) ∧
    (old ≠ st → ∀ b : Nat, b < 32 →
      (d = pdFront b → st = 2 →
        Answers (.domainChangeDone t d) s fun n =>
          n.dom d = 2 ∧
          (∀ l ∈ lanesOf b, s.fre.any (·.1 == l) = true →
            (∀ k ∈ lanesOf b, s.fre.any (·.1 == k) = true → s.carrier k = s.carrier l → k = l) →
            let u := s.carrier l
            let cfg := (s.freAt l).cfg
            (∀ c, n.get (lvlFld c) u + n.get (unresFld c) u ≤ b2n (powersCircuit cfg c)) ∧
            n.get F.FRE_STAT_SPEED_A_EFF u = F.FRE_INCFG_SPEED_A.of cfg ∧
            n.get F.FRE_STAT_SPEED_B_EFF u = F.FRE_INCFG_SPEED_B.of cfg ∧
            n.get F.FRE_STAT_EN_EFF l =
              b2n ((s.freAt l).sw.isNone && F.FRE_INCFG_EN.of cfg == 1 && n.domOn d)) ∧
          SameRegs s n ((.PWR_DSTAT, d / 32) :: (unitsOf b).flatMap fun u => [(.FRE_STAT, u), (.FRE_EVT, u)]) ∧
          n = { s.till t with regs := n.regs, freeCnt := n.freeCnt, pwr := pwr }) ∧
      (d = pdFront b → st = 0 →
        Answers (.domainChangeDone t d) s fun n =>
          n.dom d = 0 ∧
          (∀ u ∈ unitsOf b, (n.freAt u).ramp = none ∧ (n.freAt u).ovl = false ∧ n.get F.FRE_STAT_RAMP_RUN u = 0 ∧
            ∀ c, n.get (lvlFld c) u = 0 ∧ n.get (unresFld c) u = 0 ∧
              (s.on (unresFld c) u = true → n.on F.FRE_EVT_RESOLVED u = true)) ∧
          (∀ l ∈ lanesOf b, n.get F.FRE_STAT_EN_EFF l = 0) ∧
          SameBut s.freAt n.freAt (unitsOf b) ∧ SameRegs s n ((.PWR_DSTAT, d / 32) ::
            (unitsOf b).flatMap fun u => [(.FRE_STAT, u), (.FRE_EVT, u)]) ∧
          n = { s.till t with regs := n.regs, fre := n.fre, pwr := pwr }) ∧
      (d = pdCapture b → st = 0 →
        Answers (.domainChangeDone t d) s fun n =>
          let lost := s.open_.filter (·.producer == b)
          n.dom d = 0 ∧ (∀ u ∈ unitsOf b, n.capHwAt u = {}) ∧ SameBut s.capHwAt n.capHwAt (unitsOf b) ∧
          (∀ l ∈ lanesOf b, n.capAt l =
            { s.capAt l with searches := [], early := [], held := [], buf := [], drop := none }) ∧
          SameBut s.capAt n.capAt (lanesOf b) ∧ n.mergeAt b = {} ∧ SameBut s.mergeAt n.mergeAt [b] ∧
          n.open_ = s.open_.filter (·.producer != b) ∧
          (∀ x ∈ lost, n.on F.QD_FLAGS_ABORT x.q = true ∧ (n.queAt x.q).lost = true) ∧
          SameBut s.queAt n.queAt (lost.map (·.q)) ∧
          (s.get F.QUE_STAT_POOL_USED 0 = n.get F.QUE_STAT_POOL_USED 0 →
            SameRegs s n ((.PWR_DSTAT, d / 32) :: (.QUE_STAT, 0) ::
              (lost.flatMap fun x => [(.QD_CNT0, x.q), (.QD_FLAGS, x.q)]) ++ (lanesOf b).flatMap fun l =>
                (List.range 128).map fun k => (.CAP_WALK, l * 128 + k))) ∧
          n = { s.till t with
            regs := n.regs, capHw := n.capHw, cap := n.cap, merge := n.merge, open_ := n.open_, que := n.que
            muOn := n.muOn, freeCnt := n.freeCnt, pwr := pwr }) ∧
      (d = pdCapture b → old = 0 → st = 2 → s.softRuns = false → s.pwr.blk.any (·.1 == b) = false →
        s.blockAbsent b = false →
        Answers (.domainChangeDone t d) s fun n =>
          n.dom d = 2 ∧ SameRegs s n [(.PWR_DSTAT, d / 32)] ∧
          n = { s.till t with
            regs := n.regs, pwr := { pwr with blk := s.pwr.blk ++ [(b, s.coarse (s.till t).t64)] } }) ∧
      (d = pdCapture b → old ≠ 0 → st = 2 → Answers (.domainChangeDone t d) s kept)) ∧
    (old ≠ st → ∀ w : Nat, w < 8 →
      (d = 10 * w + 9 → Answers (.domainChangeDone t d) s kept) ∧
      (d = pdEngines w → st = 0 → s.wf = true →
        Answers (.domainChangeDone t d) s fun n =>
          n.dom d = 0 ∧ n.t64 = (s.till t).t64 ∧ n.pwr = pwr ∧
          (∀ l ∈ lanesOfWard w, (n.cntAt l).on = false ∧ (n.cntAt l).gate = none ∧ (n.cntAt l).reqs = [] ∧
            (n.cntAt l).stat.on = false) ∧
          (∀ p ∈ (List.range 16).map (16 * w + ·),
            (n.pairAt p).armed = none ∧ (n.pairAt p).firstB = none ∧ (n.pairAt p).q = [] ∧ (n.pairAt p).stat = {} ∧
            (s.pair.any (·.1 == p) = true → n.get F.PAIR_STAT_ARMED p = 0)) ∧
          SameBut s.cntAt n.cntAt (lanesOfWard w) ∧
          n = { s.till t with regs := n.regs, cnt := n.cnt, pair := n.pair, pwr := pwr }) ∧
      (d = pdEngines w → st = 2 → s.wf = true →
        Answers (.domainChangeDone t d) s fun n =>
          n.dom d = 2 ∧ n.t64 = (s.till t).t64 ∧ n.pwr = pwr ∧
          (∀ l ∈ lanesOfWard w, F.CNT_CFG_EN.of (s.reg .CNT_CFG l) = 1 →
            (n.cntAt l).on = true ∧ (n.cntAt l).cfg = s.reg .CNT_CFG l ∧ (n.cntAt l).len = s.reg .CNT_LEN l ∧
            (n.cntAt l).count = s.reg .CNT_COUNT l ∧
            n.on F.CNT_STAT_CFG_ERR l = s.cntCfgBad l (s.reg .CNT_CFG l)) ∧
          (∀ p ∈ (List.range 16).map (16 * w + ·), F.PAIR_CFG_EN.of (s.pairAt p).cfg = 1 →
            F.PAIR_CFG_STAT_EN.of (s.pairAt p).cfg = 1 → (n.pairAt p).stat.on = true) ∧
          (∀ l, l / 64 ≠ w ∨ F.CNT_CFG_EN.of (s.reg .CNT_CFG l) = 0 → n.cntAt l = s.cntAt l))) ∧
    (old ≠ st → st = 0 →
      (81 ≤ d → d < 84 →
        Answers (.domainChangeDone t d) s fun n =>
          n.dom d = 0 ∧ (∀ a, n.guestAt a = if a / 2 ^ 18 = d - 81 then 0 else s.guestAt a) ∧
          SameRegs s n [(.PWR_DSTAT, d / 32)] ∧ n = { s.till t with regs := n.regs, guest := n.guest, pwr := pwr }) ∧
      (d = 84 → s.pwr.fw = false →
        Answers (.domainChangeDone t d) s fun n =>
          n.dom d = 0 ∧ n.coreAt 3 = {} ∧ n.on F.PWR_EVT_CORE_RESTART 0 = true ∧
          n.get F.PWR_REC_CORE_RST_CNT 0 =
            min (s.get F.PWR_REC_CORE_RST_CNT 0 + 1) (2 ^ F.PWR_REC_CORE_RST_CNT.w - 1) ∧
          (∀ a, n.guestAt a = if a / 2 ^ 18 = 3 then 0 else s.guestAt a) ∧ n.pwr = pwr ∧
          SameBut s.coreAt n.coreAt [3]) ∧
      (d = 84 → Answers (.domainChangeDone t d) s fun n =>
          n.on F.PWR_EVT_CORE_RESTART 0 = true ∧
          n.get F.PWR_REC_CORE_RST_CNT 0 =
            min (s.get F.PWR_REC_CORE_RST_CNT 0 + 1) (2 ^ F.PWR_REC_CORE_RST_CNT.w - 1)) ∧
      (d = 87 →
        Answers (.domainChangeDone t d) s fun n =>
          n.dom 87 = 0 ∧ n.flt = [] ∧ n.he = [] ∧ n.reg .FLT_CFG 3 = Reg.dflt (Reg.key .FLT_CFG 3) ∧
          n = { s.till t with regs := n.regs, flt := [], he := [], pwr := pwr }) ∧
      (d = 89 →
        Answers (.domainChangeDone t d) s fun n =>
          n.dom 89 = 0 ∧ (∀ i, n.reg .TIM_BAND0 i = Reg.dflt (Reg.key .TIM_BAND0 i)) ∧
          n = { s.till t with regs := n.regs, pwr := pwr })))

/-- R369 to R377: an armed entry begins once the PCI Express link is in L2 or down, with supervision disarmed, the
domain states noted and the running weavers stopped, and is abandoned after 1 s; the data path stops at the first
multiple of 16,384 after the weavers halt; WATCH keeps what Table PWR-1 says, with only the wake comparators powered,
in WATCH speed (R26), and DEEP_SLEEP nothing but PD0; the first wake source to act is latched, a wake from DEEP_SLEEP
runs start-up, and one from WATCH sets T64 from the keep-alive count and resumes 100 µs later: engines, outputs, groups,
weavers and the axis start again. The keep-alive count of a wake never goes back (log entry 43). -/
def Obligations.SleepAndWake : Prop :=
  (∀ (s : State) (t : Nat), s.get F.PWR_ENG_PHASE 0 = 1 → s.inL2 = true ∨ s.pwr.pcie = 0 ∨ s.pwr.perst = true →
    Answers (.engineEntryStart t) s fun n =>
      let run := s.indices .WEA_WSTAT fun v => F.WEA_WSTAT_RUNNING.of v == 1
      n.get F.PWR_ENG_PHASE 0 = 2 ∧ n.eng = s.eng ∧ n.vault = s.vault ∧ n.t64 = (s.till t).t64 ∧
      n.pwr = { s.pwr with
        ta := some (s.till t).t64, armed := false, weav := run, pcie := if s.inL2 then 2 else s.pwr.pcie
        doms := [s.reg .PWR_DSTAT 0, s.reg .PWR_DSTAT 1, s.reg .PWR_DSTAT 2], pend := n.pwr.pend } ∧
      (∀ w : Fin 34, s.on F.WEA_WSTAT_RUNNING w = true → s.on F.WEA_WCTRL_RUN w = true →
        n.on F.WEA_WSTAT_RUNNING w = false ∧ n.on F.WEA_WCTRL_RUN w = false ∧ (n.weavAt w).stop = true) ∧
      (∀ l : Fin 64, 16 ≤ l.val → n.dlp l ≠ 3)) ∧
  (∀ s : State, s.get F.PWR_ENG_PHASE 0 = 1 →
    Answers .entryAbandon s fun n =>
      n.get F.PWR_ENG_PHASE 0 = 0 ∧ n.on F.PWR_EVT_SLEEP_ABANDONED 0 = true ∧
      n = { (s.till (s.pwr.armT + ms 1000)).noted n with
        pwr := { s.pwr with target := 0, pend := n.pwr.pend }, freeCnt := n.freeCnt } ∧
      NotedRegs s n [(.PWR_ENG, 0), (.PWR_EVT, 0)]) ∧
  (∀ s : State, s.get F.PWR_ENG_PHASE 0 = 2 → s.pwr.tq = none → s.weav.all (fun (_, x) => !x.stop) = true →
    s.indices .WEA_WSTAT (fun v => F.WEA_WSTAT_RUNNING.of v == 1) = [] →
    Answers .dataPathStop s fun n =>
      let tq := (s.t64 / 16384 + 1) * 16384
      n.t64 = tq ∧ n.pwr = { s.pwr with tq := some tq, pend := n.pwr.pend } ∧
      n.eng = (if s.pwr.target = 1 then .watch else .deepSleep) ∧ n.vault = s.vault ∧
      ((s.epAt 16).log2n = 0 → n.store = s.store) ∧
      (∀ k : Fin 512, (n.cntAt k).on = false) ∧ (∀ u : Fin 544, (n.freAt u).sw = none) ∧
      (∀ b : Fin 32, s.blockAbsent b = false → n.get F.CAL_BSTAT_STEP b = 0) ∧ n.axis.ctlAt = none) ∧
  (∀ (s : State) (t : Nat), s.get F.PWR_ENG_PHASE 0 = 2 →
    (s.eng = .watch →
      Answers (.watchEntered t) s fun n =>
        n.get F.PWR_ENG_PHASE 0 = 0 ∧ n.eng = .watch ∧ n.t64 = (s.till t).t64 ∧ n.pwr.fw = false ∧ n.pwr.pend = [] ∧
        n.pwr.tq = s.pwr.tq ∧ n.pwr.wake = s.pwr.wake ∧
        (∀ d : Fin 96, n.dom d = if s.domAbsent d || s.domOut d then s.dom d else s.watchDom d) ∧
        (∀ p, (n.markAt p).level = false) ∧
        (∀ u, (n.freAt u).ramp = none ∧ (s.fre.any (·.1 == u) = true →
          n.get F.FRE_STAT_RAMP_RUN u = 0 ∧ n.get F.FRE_STAT_LVL_B u = 0 ∧ n.get F.FRE_STAT_UNRES_B u = 0 ∧
          n.get F.FRE_STAT_LVL_CMP u = 0 ∧ n.get F.FRE_STAT_UNRES_CMP u = 0 ∧
          (let wakes := u < 512 ∧ F.FRE_INCFG_MODE.of (s.freAt u).cfg = 0 ∧ s.on F.FRE_INCFG_WAKE_EN u = true ∧
            n.domOn (pdFront (u / 16)) = true
           (wakes → n.get F.FRE_STAT_SPEED_A_EFF u = 3) ∧
           (¬wakes → n.get F.FRE_STAT_LVL_A u = 0 ∧ n.get F.FRE_STAT_UNRES_A u = 0 ∧ (n.freAt u).ovl = false)))) ∧
        (s.activeQueues = [] → s.merge = [] → s.wait = [] → s.open_ = [] → s.back = [] → n.store = s.store)) ∧
    (s.eng = .watch → ∀ q tq : Nat, s.activeQueues = [q] → s.merge = [] → s.wait = [] → s.open_ = [] → s.back = [] →
      s.waiters = [] → s.pwr.tq = some tq →
      Answers (.watchEntered t) s fun n =>
        n.store = (((Work.start s).at t).sysBundle 0x141 q (genEvent 20 1 tq 0) |>.placeOut q).st.store ∧
        n.get F.QD_WR_CWR q = (((Work.start s).at t).sysBundle 0x141 q (genEvent 20 1 tq 0) |>.placeOut q).st.get
          F.QD_WR_CWR q) ∧
    (s.eng = .deepSleep → s.vaultQ = [] → s.vaultWr = none → s.pwr.wake = none →
      Answers (.deepSleepEntered t) s fun n =>
        n.get F.PWR_ENG_PHASE 0 = 0 ∧ n.eng = .deepSleep ∧ n.t64 = (s.till t).t64 ∧ n.pwr.fw = false ∧
        (∀ d : Fin 96, n.dom d =
          if s.domAbsent d || s.domOut d then s.dom d else if d.val = 0 then 2 else 0) ∧ n.guest = [] ∧
        (∀ r i, isTable (r.key i) = true → n.reg r i = Reg.dflt (r.key i)) ∧ n.vault = s.vault ∧ n.keep = s.keep) ∧
    (s.eng = .deepSleep → s.vaultQ = [] → s.vaultWr = none → s.pwr.wake ≠ none →
      Answers (.deepSleepEntered t) s fun n =>
        n.eng = .starting ∧ n.t64 = 0 ∧ n.get F.PWR_ENG_LAST_RESET 0 = 2 ∧ n.reg .PWR_WAKE 0 = s.reg .PWR_WAKE 0 ∧
        n.reg .PWR_ALARM 0 = s.reg .PWR_ALARM 0 ∧ n.vault = s.vault)) ∧
  (∀ (s : State) (t : Nat), s.on F.PWR_WAKE_ALARM_EN 0 = true → s.pwr.wake = none →
    (s.eng = .watch → (s.reg .PWR_ALARM 0).toNat ≤ (s.till t).t64 % 2 ^ 64 →
      Answers (.alarm t) s fun n =>
        n.pwr = { s.pwr with wake := some (2, 0, (s.till t).t64) } ∧ n.get F.PWR_ENG_LAST_WAKE 0 = 2 ∧
        n = { s.till t with regs := n.regs, pwr := n.pwr } ∧ SameRegs s n [(.PWR_ENG, 0)]) ∧
    (s.eng = .watch → (s.till t).t64 % 2 ^ 64 < (s.reg .PWR_ALARM 0).toNat →
      Answers (.alarm t) s fun n => n = s.till t) ∧
    (s.eng = .deepSleep → s.get F.PWR_ENG_PHASE 0 = 0 →
      Answers (.alarm t) s fun n =>
        n.eng = .starting ∧ n.t64 = 0 ∧ n.get F.PWR_ENG_LAST_RESET 0 = 2 ∧ n.reg .PWR_WAKE 0 = s.reg .PWR_WAKE 0 ∧
        n.reg .PWR_ALARM 0 = s.reg .PWR_ALARM 0 ∧ n.vault = s.vault)) ∧
  (∀ (s : State) (t : Nat), s.eng = .watch → s.get F.PWR_ENG_PHASE 0 = 0 → s.pwr.wake ≠ none →
    Answers (.wakeDomainsOn t) s fun n =>
      (∀ d : Fin 96, n.dom d =
        if s.domAbsent d || s.domOut d then s.dom d
        else if d.val = 89 ∨ (91 ≤ d.val ∧ d.val ≤ 93) then s.pwr.domAt d
        else if d.val = 84 ∧ s.dom 84 = 0 then 0 else 2) ∧
      n = { s.till t with regs := n.regs, pwr := { s.pwr with fw := true, pend := [] } } ∧
      SameRegs s n [(.PWR_DSTAT, 0), (.PWR_DSTAT, 1), (.PWR_DSTAT, 2)]) ∧
  (∀ (s : State) (ka : Nat), s.eng = .watch → s.domOn 88 = true → s.pwr.tl = none →
    let t := 16384 * max ka (s.t64 / 16384)
    Answers (.wakeTimebaseRestore ka) s fun n =>
      n.t64 = t ∧ n.phase = 0 ∧ n.tpll = 0 ∧
      n.pwr = { s.pwr with tl := some t, te := some (t + 163840000) } ∧
      n = { s with t64 := n.t64, phase := n.phase, regs := n.regs, tim := n.tim, pwr := n.pwr } ∧
      SameRegs s n [(.TIM_TSTAT, 0), (.TIM_FOFS, 0), (.TIM_SREM, 0)]) ∧
  (∀ (s : State) (te cause lane tw : Nat), s.eng = .watch → s.pwr.te = some te → s.pwr.wake = some (cause, lane, tw) →
    s.pwr.tl ≠ none →
    Answers .wakeResume s fun n =>
      n.eng = .active ∧ n.on F.PWR_EVT_WOKE 0 = true ∧ n.t64 = (s.till te).t64 ∧ n.get F.TIM_OSTAT_STATE 0 = 0 ∧
      n.pwr = { s.pwr with
        target := 0, ta := none, tq := none, wake := none, edges := [], doms := [], weav := [], tl := none, te := none
        hold := false, beats := List.replicate 5 te, armed := true, pend := n.pwr.pend, blk := n.pwr.blk
        wakeN := s.pwr.wakeN || (s.on F.PWR_WAKE_WAKE_N_EN 0 && s.pwr.pcie != 1) } ∧
      (s.on F.AXI_CTRL_EN 0 = true → n.axisState ≠ 0 ∨ n.on F.AXI_EVT_CFG_ERR 0 = true) ∧
      (∀ w ∈ s.pwr.weav, n.on F.WEA_WCTRL_RUN w = true) ∧
      (∀ g : Fin 16, s.grpMode g ≠ 0 → n.grpAt g = some te) ∧
      (∀ c : Fin 32, n.clkAt c = s.reg .TIM_OCLK c) ∧ n.tim.op = none ∧ n.tim.div = List.replicate 32 te ∧
      (s.wf = true → ∀ l : Fin 512, s.dom (pdEngines (l / 64)) = 2 → F.CNT_CFG_EN.of (s.reg .CNT_CFG l) = 1 →
        (n.cntAt l).on = true ∧ (n.cntAt l).cfg = s.reg .CNT_CFG l ∧
        n.on F.CNT_STAT_CFG_ERR l = s.cntCfgBad l (s.reg .CNT_CFG l)) ∧
      (∀ q : Nat, s.activeQueues = [q] → s.pwr.edges = [] → s.wait = [] → (s.epAt 16).log2n = 0 →
        let word := cause * 2 ^ 60 + lane * 2 ^ 51 + (if s.pwr.hold then 2 ^ 50 else 0) +
          s.pwr.tq.getD te / 16384 % 2 ^ 50
        n.store = (((Work.start s).at te).setEng .active |>.wakeQueue q te
          { genEvent 21 0 te (w64 word) with t := te }).st.store))

/-- R12, R102, R357, R359, R360, R378, R380, R387, R421: a rise of PWR_OK is a POWER reset; start-up turns the plaza's
domains ON, starts T64 from 0, lets the boot ROM pick an image, clears the store, brings the wards ON with the failed
wires of a link on its spares, but for those with more than 8 failed wires in a direction, whose units read FAILED
though their domains are OFF (log entry 30), starts Ongen on K0 to K2 with the access profile, loads the vault and the
configuration profile, and reaches READY; a fall of PWR_OK turns the engine OFF with the slot write in progress
complete, which a brown-out may lose. -/
def Obligations.StartUpReachesReady : Prop :=
  let may := fun (s : State) =>
    s.eng = .starting ∧ s.pwr.ok = true ∧ s.pwr.reset = false ∧ s.pwr.trip = false
  (∀ s : State, s.pwr.ok = false →
    Answers .pwrOkRise s fun n =>
      (∀ r i, (r, i) ≠ (.ACC_BOOT, 0) → n.reg r i = Reg.dflt (r.key i)) ∧
      n.on F.ACC_BOOT_SECURE_EN 0 = s.fuse.secure ∧
      n = { State.reset with
        regs := n.regs, freeCnt := s.freeCnt, small := s.small, vault := s.vault, store := s.store, ue := s.ue
        ce := s.ce, hostErr := s.hostErr, host := s.host, fuse := s.fuse, jtag := { s.jtag with drive := none }
        pending := s.pending
        pwr := { ok := true, perst := s.pwr.perst, reset := s.pwr.reset, other := s.pwr.other,
                 cool := s.pwr.cool || s.pwr.trip } }) ∧
  (∀ (s : State) (t : Nat),
    Answers (.pwrOkFall t) s (fun n => n.eng = .off ∧ n.vaultQ = [] ∧ n.vaultWr = none ∧
      n.pwr = { s.pwr with ok := false, fw := false, armed := false, pcie := 0 }) ∧
    Answers (.brownOut t) s (fun n => n.eng = .off ∧ n.vaultQ = [] ∧ n.vaultWr = none ∧
      n.pwr = { s.pwr with ok := false, fw := false, armed := false, pcie := 0 }) ∧
    (s.vaultWr = none →
      Answers (.pwrOkFall t) s (fun n => n.vault = s.vault ∧ n.eng = .off ∧ n.vaultQ = [] ∧ n.store = s.store ∧
        n.pwr = { s.pwr with ok := false, fw := false, armed := false, pcie := 0 } ∧
        (∀ p, (n.markAt p).level = false)) ∧
      Answers (.brownOut t) s (fun n => n.vault = s.vault ∧ n.eng = .off ∧ n.vaultQ = [] ∧ n.store = s.store ∧
        n.pwr = { s.pwr with ok := false, fw := false, armed := false, pcie := 0 })) ∧
    (∀ w : VaultWr, s.vaultWr = some w → w.data.length = 0x3084 → w.old.length = 4 →
      let a := slotAddr w.unit w.slot
      Answers (.pwrOkFall t) s (fun n =>
        n.vaultBytes a 0x3084 = w.data ∧ SameBut s.vaultAt n.vaultAt ((List.range 0x3084).map (a + ·)) ∧
        n.vaultWr = none ∧ n.eng = .off ∧ n.vaultQ = []) ∧
      Answers (.brownOut t) s (fun n =>
        (n.vaultBytes a 0x3084 = w.data ∨ n.vault = s.vault ∨ n.vaultBytes (a + 4) 4 = w.old) ∧
        SameBut s.vaultAt n.vaultAt ((List.range 0x3084).map (a + ·)) ∧ n.vaultWr = none ∧ n.eng = .off ∧
        n.vaultQ = []))) ∧
  (∀ s : State, may s → s.stage 0 = false → s.pwr.cool = false ∨ s.cooled = true →
    Answers .startDomainsOn s fun n =>
      (∀ d ∈ [81, 85, 88, 90, 94, 95], n.dom d = 2) ∧
      n = { s with
        regs := n.regs, pwr := { s.pwr with cool := false, stage := s.pwr.stage + 1 }
        pool := { khz := if Config.refin3Fast then 156250 else 100000 } } ∧ SameRegs s n [(.PWR_DSTAT, 2)]) ∧
  (∀ s : State, may s → s.stage 0 = true → s.stage 1 = false →
    Answers .t64Start s fun n =>
      n.t64 = 0 ∧ n.tpll = 0 ∧
      n = { s with
        t64 := 0, phase := 0, regs := n.regs, tim := n.tim, pwr := { s.pwr with stage := s.pwr.stage + 2, bootT := 0 } } ∧
      SameRegs s n [(.TIM_TSTAT, 0), (.TIM_FOFS, 0), (.TIM_SREM, 0)]) ∧
  (∀ (s : State) (t : Nat), s.domOn 81 = true → s.stage 0 = true → s.stage 2 = false → s.pwr.fw = false →
    s.pwr.lrT = none → s.romServes = false →
    let one := if s.pwr.other then 1 - s.preferred else s.preferred
    let pwr := { s.pwr with other := false, stage := s.pwr.stage + 4, bootT := (s.till t).t64 }
    let fail := fun (n : State) (i : Nat) => if i = 0 then n.get F.ACC_BOOT_FAIL_A 0 else n.get F.ACC_BOOT_FAIL_B 0
    let trial := fun (i : Nat) => i == s.preferred && s.vaultAt 0x1FF0011 != 0
    (s.imageFail one = 0 →
      Answers (.bootRomStart t) s fun n =>
        n.get F.ACC_BOOT_IMAGE 0 = one ∧ fail n one = 0 ∧ fail n (1 - one) = 0 ∧ n.on F.ACC_BOOT_TRIAL 0 = trial one ∧
        n.on F.ACC_BOOT_FALLBACK 0 = (s.imageFail s.preferred != 0) ∧ n.on F.REG_GSTAT_BOOT_FAIL 0 = false ∧
        n = { s.till t with regs := n.regs, pwr := pwr } ∧ SameRegs s n [(.ACC_BOOT, 0), (.REG_GSTAT, 0)]) ∧
    (s.imageFail one ≠ 0 → s.imageFail (1 - one) = 0 →
      Answers (.bootRomStart t) s fun n =>
        n.get F.ACC_BOOT_IMAGE 0 = 1 - one ∧ fail n one = s.imageFail one ∧ fail n (1 - one) = 0 ∧
        n.on F.ACC_BOOT_TRIAL 0 = trial (1 - one) ∧
        n.on F.ACC_BOOT_FALLBACK 0 = (s.imageFail s.preferred != 0) ∧ n.on F.REG_GSTAT_BOOT_FAIL 0 = false ∧
        n = { s.till t with regs := n.regs, pwr := pwr } ∧ SameRegs s n [(.ACC_BOOT, 0), (.REG_GSTAT, 0)]) ∧
    (s.imageFail one ≠ 0 → s.imageFail (1 - one) ≠ 0 →
      Answers (.bootRomStart t) s fun n =>
        n.on F.REG_GSTAT_BOOT_FAIL 0 = true ∧ n.on F.ACC_BOOT_FALLBACK 0 = true ∧ fail n one = s.imageFail one ∧
        fail n (1 - one) = s.imageFail (1 - one) ∧
        n = { s.till t with regs := n.regs, pwr := { s.pwr with other := false } } ∧
        SameRegs s n [(.ACC_BOOT, 0), (.REG_GSTAT, 0)])) ∧
  (∀ (s : State) (t : Nat), s.pwr.fw = true ∨ s.pwr.lrT ≠ none ∨ s.romServes = true →
    Answers (.bootRomStart t) s fun n => n = s.till t) ∧
  (∀ (s : State) (t : Nat), may s → s.stage 0 = true → s.stage 3 = false →
    Answers (.storeTrained t) s fun n =>
      n = { s.till t with store := [], ue := [], ce := [], regs := n.regs, pwr := { s.pwr with stage := s.pwr.stage + 8 } } ∧
      n.dom 86 = 2 ∧ SameRegs s n [(.PWR_DSTAT, 2)]) ∧
  (∀ (s : State) (t : Nat) (failed : List (Nat × Bool × Nat)), may s → s.stage 0 = true → s.stage 4 = false →
    let wires := fun (w : Nat) (up : Bool) =>
      ((failed.filter fun x => x.1 == w && x.2.1 == up).map (·.2.2)).eraseDups
    Answers (.wardLinksTrained t failed) s fun n =>
      (∀ w : Fin 8, (s.small = true → w.val < 4) →
        (8 < (wires w true).length ∨ 8 < (wires w false).length →
          (∀ j : Fin 10, n.dom (10 * w + 1 + j) = 0) ∧ n.wlinkAt w = { s.wlinkAt w with failed := true } ∧
          (∀ b : Fin 4, ∀ u ∈ unitsOf (4 * w + b), n.calState u = 4 ∧
            F.CAL_LSTAT_STATE.of (n.regWord 0 .CAL_LSTAT u) = 4) ∧ n.on F.REG_CAPS_WARD_FAIL 0 = true) ∧
        ((wires w true).length ≤ 8 → (wires w false).length ≤ 8 →
          (∀ j : Fin 10, n.dom (10 * w + 1 + j) = 2) ∧
          n.wlinkAt w = { s.wlinkAt w with spareUp := wires w true, spareDown := wires w false })) ∧
      n.pwr = { s.pwr with stage := s.pwr.stage + 16, pend := n.pwr.pend } ∧ n.t64 = (s.till t).t64 ∧
      n.store = (s.till t).store) ∧
  (∀ (s : State) (t : Nat), s.stage 2 = true → s.pwr.fw = false → s.domOn 81 = true → s.domOn 85 = true →
    let img := s.get F.ACC_BOOT_IMAGE 0
    ((∀ ws ∈ s.profileAt 255, ∀ x ∈ ws, profileKey true x.1 = true) → Answers (.ongenRunning t) s fun n =>
      n.pwr.fw = true ∧ n.stage 5 = true ∧ n.get F.PWR_REC_WARDEN 0 = 0 ∧
      n.reg .REG_FW 0 = w64 (s.imageField img 16 4 + 2 ^ 32 + img * 2 ^ 33)) ∧
    (s.eng = .starting → s.on F.PWR_ENG_RECOVERING 0 = false → s.profileAt 255 = none → s.stage 5 = false →
      Answers (.ongenRunning t) s fun n =>
        n.pwr = { s.pwr with fw := true, ongenT := (s.till t).t64, stage := s.pwr.stage + 32 } ∧
        n.get F.PWR_REC_WARDEN 0 = 0 ∧ n.reg .REG_FW 0 = w64 (s.imageField img 16 4 + 2 ^ 32 + img * 2 ^ 33) ∧
        (∀ c : Fin 3, n.coreAt c = { s.coreAt c with mie := true }) ∧ SameBut s.coreAt n.coreAt [0, 1, 2] ∧
        (∀ tgt ∈ accTargets,
          n.maskBit (16 * tgt) 0 false = true ∧ n.maskBit (16 * tgt) 93 false = true ∧
          (tgt ≠ 17 → n.maskBit (16 * tgt) 0 true = true) ∧
          (tgt ∉ [14, 16, 17] → n.maskBit (16 * tgt) 93 true = true) ∧
          (tgt ≤ 14 → n.maskBit (16 * tgt) 92 false = true) ∧
          (20 ≤ tgt → ∀ w : Fin 40, n.maskBit (16 * tgt) (20 + w) true = true)) ∧
        n = { s.till t with regs := n.regs, core := n.core, pwr := n.pwr }) ∧
    (s.eng ≠ .starting → s.jobs = [] → s.stage 5 = false →
      Answers (.ongenRunning t) s fun n =>
        n.pwr = { s.pwr with
          fw := true, ongenT := (s.till t).t64, beats := List.replicate 5 (s.till t).t64, armed := true
          stage := s.pwr.stage + 32 } ∧
        (s.pwr.lrT = none → n.on F.PWR_ENG_RECOVERING 0 = false) ∧ n.learn = [] ∧
        (∀ c : Fin 3, n.coreAt c = { s.coreAt c with mie := true }) ∧
        n = { s.till t with regs := n.regs, core := n.core, pwr := n.pwr, learn := [] } ∧
        SameRegs s n [(.REG_FW, 0), (.PWR_REC, 0), (.PWR_ENG, 0)])) ∧
  (∀ (s : State) (t : Nat), s.pwr.fw = true → s.stage 4 = true → s.stage 6 = false → s.domOn 95 = true →
    (s.lrBooted t = false → Answers (.vaultLoaded t) s fun n => n = s.till t) ∧
    (s.lrBooted t = true → Answers (.vaultLoaded t) s fun n =>
      n.stage 6 = true ∧ (s.eng = .active → n.on F.PWR_ENG_READY 0 = true ∧ n.on F.PWR_EVT_READY 0 = true ∧
        (s.pwr.lrT ≠ none → n.pwr.lrT = none ∧ n.on F.PWR_EVT_LR_RESTART 0 = true ∧ n.pwr.fault = s.pwr.trip)))) ∧
  (∀ (s : State) (t : Nat), s.pwr.fw = true → s.stage 4 = true → s.stage 6 = false → s.domOn 95 = true →
    s.lrBooted t = true → s.profileAt 0 = none → s.pwr.soft = false → s.on F.ACC_BOOT_TRIAL 0 = false →
    Answers (.vaultLoaded t) s fun n =>
      (∀ b : Fin 32, s.blockAbsent b = false → (s.wlinkAt (b / 4)).failed = false → ∀ u ∈ unitsOf b,
        (n.calAt u).tab = match s.slotSeq u 1, s.slotSeq u 2, s.slotSeq u 0 with
          | some a, some c, _ => slotTables (s.slotBytes u (if a < c then 2 else 1))
          | some _, none, _ => slotTables (s.slotBytes u 1)
          | none, some _, _ => slotTables (s.slotBytes u 2)
          | none, none, some _ => slotTables (s.slotBytes u 0)
          | none, none, none => (s.calAt u).tab) ∧
      n.pwr.stage = s.pwr.stage + 64 ∧ n.vault = s.vault ∧ n.t64 = (s.till t).t64 ∧ n.eng = s.eng ∧
      (s.eng = .active → n.on F.PWR_ENG_READY 0 = true)) ∧
  (∀ (s : State) (t : Nat), s.pwr.fw = true → s.pwr.stage % 128 = 127 → s.on F.PWR_ENG_READY 0 = false →
    s.lrBooted t = true →
    Answers (.ready t) s fun n =>
      n.on F.PWR_ENG_READY 0 = true ∧ n.on F.PWR_EVT_READY 0 = true ∧ n.pwr.armed = true ∧
      n.pwr.beats = List.replicate 5 (s.till t).t64 ∧ n.eng = (if s.eng = .starting then .active else s.eng)) ∧
  (∀ (s : State) (t : Nat), s.pwr.fw = true → s.pwr.stage % 128 = 127 → s.on F.PWR_ENG_READY 0 = false →
    s.pwr.soft = false → s.on F.ACC_BOOT_TRIAL 0 = false → s.pwr.lrT = none →
    Answers (.ready t) s fun n =>
      n.on F.PWR_ENG_READY 0 = true ∧ n.on F.PWR_EVT_READY 0 = true ∧
      n.pwr = { s.pwr with beats := List.replicate 5 (s.till t).t64, armed := true, other := false } ∧
      (s.eng = .starting → n.eng = .active ∧ (n.coreAt 3).mie = ((s.coreAt 3).mie || s.guestNamed)) ∧
        SameBut s.coreAt n.coreAt [3] ∧
      n = { s.till t with regs := n.regs, pwr := n.pwr, eng := n.eng, core := n.core } ∧
      SameRegs s n [(.PWR_ENG, 0), (.PWR_EVT, 0)]) ∧
  (∀ (s : State) (t : Nat), s.pwr.fw = true → s.pwr.stage % 128 = 127 → s.on F.PWR_ENG_READY 0 = false →
    s.on F.ACC_BOOT_TRIAL 0 = true → s.lrBooted t = true →
    Answers (.ready t) s fun n =>
      n.pwr.other = false ∧
      n.on F.ACC_BOOT_TRIAL 0 = false ∧ n.vaultAt 0x1FF0011 = 0 ∧ SameBut s.vaultAt n.vaultAt [0x1FF0011] ∧
      (s.pwr.soft = true → n.pwr.softT = some ((s.till t).coarse (s.till t).t64) ∧ n.on F.PWR_RST_PENDING 0 = false) ∧
      (s.pwr.lrT ≠ none → n.pwr.lrT = none ∧ n.on F.PWR_EVT_LR_RESTART 0 = true ∧ n.pwr.fault = s.pwr.trip))

/-- R327, R373, R380 to R382: RESET_N initialises every register but those of level POWER and every unit, with T64
from 0, the vault, fuses and tables kept; PERST_N, a hot reset and a link that goes down reset every function with its
rings, mailbox and vectors and nothing of the data path, a function-level reset one function, or all for PF0; with the
link up again WAKE_N is released. -/
def Obligations.ResetsFromOutside : Prop :=
  (∀ (s : State) (t : Nat), s.eng ≠ .off →
    Answers (.resetNAssert t) s fun n =>
      (∀ r i, r.level i = .power → r ∉ [.ACC_BOOT, .PWR_ENG, .PWR_REC, .REG_FW] → n.reg r i = s.reg r i) ∧
      (∀ r i, r.level i ≠ .power → r ≠ .MON_THERM_STAT → n.reg r i = Reg.dflt (r.key i)) ∧
      n.get F.PWR_ENG_LAST_RESET 0 = 1 ∧ n.on F.PWR_ENG_READY 0 = false ∧ n.get F.PWR_ENG_PHASE 0 = 0 ∧
      n.on F.ACC_BOOT_DEBUG_UNLOCKED 0 = false ∧ n.get F.ACC_BOOT_UNLOCK_FAILS 0 = 0 ∧
      n.on F.PWR_REC_LR_HALT 0 = false ∧ n.on F.REG_FW_FW_VALID 0 = false ∧
      n = { State.reset with
        regs := n.regs, freeCnt := s.freeCnt, small := s.small, vault := s.vault, store := s.store, ue := s.ue
        ce := s.ce, hostErr := s.hostErr, host := s.host, fuse := s.fuse, jtag := { s.jtag with drive := none }
        pending := s.pending
        pwr := { ok := s.pwr.ok, perst := s.pwr.perst, reset := true, other := s.pwr.other,
                 cool := s.pwr.cool || s.pwr.trip } }) ∧
  (∀ (s : State) (t : Nat), s.eng = .off →
    Answers (.resetNAssert t) s fun n => n = { s.till t with pwr := { s.pwr with reset := true } }) ∧
  (∀ s : State, Answers .resetNRelease s fun n => n = { s with pwr := { s.pwr with reset := false } }) ∧
  (∀ (s : State) (t f : Nat),
    let gone := fun (n : State) (f : Nat) =>
      n.fnAt f = {} ∧ n.epAt f = {} ∧ n.shadAt f = {} ∧ n.reg .REG_BANK f = 0 ∧ n.reg .REG_SCRATCH f = 0 ∧
      (∀ sl : Fin 4, n.slotAt (slotKey f sl) = {}) ∧ (∀ v : Fin 128, n.vecAt (128 * f + v) = {}) ∧
      (∀ j ∈ n.jobs, j.ep = f → j.gone = true ∧ j.slot = false) ∧
      (∀ r ∈ s.ringsOf f, n.on F.RING_CFG_EN r = false ∧ n.get F.RING_HEAD_HEAD r = 0 ∧ (n.ringCAt r).1 = 0)
    let only := fun (n : State) (pwr : PwrSt) =>
      n = { s.till t with
        regs := n.regs, fn := n.fn, ep := n.ep, shad := n.shad, slot := n.slot, vec := n.vec, jobs := n.jobs
        ringC := n.ringC, claimEp := n.claimEp, owner := n.owner, modT := n.modT, src := n.src, core := n.core, pwr := pwr }
    let perst := fun (n : State) (low : Bool) =>
      (∀ f : Fin 16, gone n f) ∧ (∀ g : Fin 4, n.on F.LNK_GSTAT_UP g = false) ∧
      only n { s.pwr with pcie := 0, perst := low, pend := n.pwr.pend } ∧
      SameBut s.epAt n.epAt (List.range 16) ∧ SameBut s.fnAt n.fnAt (List.range 16)
    Answers (.perstNAssert t) s (perst · true) ∧ Answers (.hotReset t) s (perst · s.pwr.perst) ∧
    Answers (.linkDown t) s (perst · s.pwr.perst) ∧
    (f < 16 → f ≠ 0 →
      Answers (.functionLevelReset t f) s fun n =>
        gone n f ∧ only n { s.pwr with pend := n.pwr.pend } ∧ SameBut s.fnAt n.fnAt [f] ∧ SameBut s.epAt n.epAt [f] ∧
        SameBut s.shadAt n.shadAt [f]) ∧
    (f = 0 → Answers (.functionLevelReset t f) s fun n =>
      (∀ f : Fin 16, gone n f) ∧ only n { s.pwr with pend := n.pwr.pend })) ∧
  (∀ (s : State) (t : Nat),
    (s.domOn 94 = true → s.pwr.perst = false →
      Answers (.linkUp t) s fun n =>
        (∀ g : Fin 4, n.on F.LNK_GSTAT_UP g = true ∧ n.get F.LNK_GSTAT_LOCK g = 15) ∧
        n = { s.till t with regs := n.regs, pwr := { s.pwr with pcie := 1, wakeN := false } } ∧
        SameRegs s n ((List.range 4).flatMap fun g => [(.LNK_GSTAT, g), (.LNK_GEVT, g)])) ∧
    Answers (.perstNRise t) s (fun n => n.pwr.perst = false ∧
      (s.pwr.wake = none → s.wakeable = true → s.on F.PWR_WAKE_PERST_EN 0 = true → s.pwr.perst = true →
        n.get F.PWR_ENG_LAST_WAKE 0 = 4 ∨ n.eng = .starting)) ∧
    (s.on F.PWR_WAKE_PERST_EN 0 = false ∨ s.wakeable = false →
      Answers (.perstNRise t) s fun n => n = { s.till t with pwr := { s.pwr with perst := false } }) ∧
    (s.on F.PWR_WAKE_PERST_EN 0 = true → s.pwr.perst = true → s.pwr.wake = none → s.eng = .watch →
      Answers (.perstNRise t) s fun n =>
        n.get F.PWR_ENG_LAST_WAKE 0 = 4 ∧ SameRegs s n [(.PWR_ENG, 0)] ∧
        n = { s.till t with
          regs := n.regs, pwr := { s.pwr with perst := false, wake := some (4, 0, (s.till t).t64) } }))

/-- R381 to R384: a SOFT_ENGINE reset is due at the first coarse boundary, or held with PENDING while READY is 0; it
initialises every register of its level with the lanes, queues and units, READY 0, and keeps the timebase and the
tables; a SOFT_CORE reset stops the control complex, once; a per-block reset acts at its boundary with a BLOCK_RESET
event last on the block's fast path and the block's registers at their reset values. -/
def Obligations.ResetsByRequest : Prop :=
  (∀ (s : State) (t m : Nat), s.domOn 0 = true → s.grants m 11 8 true = true →
    (s.pwr.softT = none → s.on F.PWR_ENG_READY 0 = true →
      Answers (.softEngine t m) s fun n =>
        n = { s.till t with
          shad := n.shad, pwr := { s.pwr with softT := some ((s.till t).coarse (s.till t).t64) } } ∧
        SameBut s.shadAt n.shadAt [m]) ∧
    (s.pwr.softT = none → s.on F.PWR_ENG_READY 0 = false →
      Answers (.softEngine t m) s fun n =>
        n.on F.PWR_RST_PENDING 0 = true ∧ SameRegs s n [(.PWR_RST, 0)] ∧ SameBut s.shadAt n.shadAt [m] ∧
        n = { s.till t with shad := n.shad, regs := n.regs, pwr := { s.pwr with soft := true } }) ∧
    (s.on F.PWR_REC_LR_HALT 0 = false → s.on F.PWR_ENG_RECOVERING 0 = false →
      Answers (.softCore t m) s fun n =>
        n.on F.PWR_ENG_RECOVERING 0 = true ∧ n.get F.PWR_ENG_LAST_RESET 0 = 4 ∧ n.on F.REG_FW_FW_VALID 0 = false ∧
        n.pwr.fw = false ∧ n.stage 2 = false ∧ n.stage 5 = false ∧ n.epAt 16 = {} ∧ n.vaultQ = [] ∧
        (∀ c : Fin 4, n.reg .CORE_CTRL c = Reg.dflt (Reg.CORE_CTRL.key c) ∧ n.reg .CORE_VBASE c =
          Reg.dflt (Reg.CORE_VBASE.key c) ∧ n.shadAt (16 + c) = {} ∧ n.coreAt c = {}) ∧
        (∀ r i, r.level i ≠ .softCore → r ∉ [.PWR_ENG, .REG_FW, .MBX_CFG, .MBX_CNT] → n.reg r i = s.reg r i) ∧
        n = { s.till t with
          regs := n.regs, pwr := n.pwr, core := n.core, ep := n.ep, slot := n.slot, shad := n.shad, jobs := n.jobs
          claimEp := n.claimEp, owner := n.owner, vaultQ := [] }) ∧
    (s.on F.PWR_REC_LR_HALT 0 = false → s.on F.PWR_ENG_RECOVERING 0 = true →
      Answers (.softCore t m) s fun n =>
        n = { s.till t with shad := n.shad } ∧ SameBut s.shadAt n.shadAt [m]) ∧
    (s.on F.PWR_REC_LR_HALT 0 = true →
      Answers (.softCore t m) s fun n =>
        n.on F.PWR_REC_LR_HALT 0 = false ∧ n.on F.PWR_ENG_RECOVERING 0 = true ∧ n.on F.PWR_ENG_READY 0 = false ∧
        n = { s.till t with
          shad := n.shad, regs := n.regs
          pwr := { s.pwr with lrT := some (s.till t).t64, lrTry := 2, armed := false, fault := true } } ∧
        SameRegs s n [(.PWR_REC, 0), (.PWR_ENG, 0)] ∧ SameBut s.shadAt n.shadAt [m])) ∧
  (∀ (s : State) (t b : Nat), s.pwr.softT = some b →
    Answers (.softEngineApply t) s fun n =>
      (∀ r i, r.level i = .softEngine → n.reg r i = Reg.dflt (r.key i)) ∧
      (∀ r i, r.level i = .power → r ≠ .PWR_ENG → n.reg r i = s.reg r i) ∧
      (∀ r i, r ∈ [.TIM_TCFG, .TIM_TSTAT, .TIM_OSTAT, .TIM_OCLK, .ACC_WRANGE, .ACC_WCTRL, .CORE_VBASE, .MON_ECC_CFG,
        .PWR_WAKE, .PWR_ALARM] → n.reg r i = s.reg r i) ∧
      n.on F.PWR_ENG_READY 0 = false ∧ n.get F.PWR_ENG_LAST_RESET 0 = 3 ∧ n.t64 = ((s.till t).till b).t64 ∧
      n.pwr = { s.pwr with softT := none, blk := [], stage := s.pwr.stage % 64, pend := n.pwr.pend } ∧
      n.fre = [] ∧ n.cap = [] ∧ n.cal = [] ∧ n.cnt = [] ∧ n.pair = [] ∧ n.merge = [] ∧ n.weav = [] ∧ n.axis = {} ∧
      n.mark = [] ∧ n.open_ = [] ∧ n.wait = [] ∧ n.que = [] ∧ n.flt = [] ∧ n.he = [] ∧ n.src = [] ∧ n.chan = [] ∧
      (∀ l : Fin 64, 16 ≤ l.val → n.dlp l ≠ 3) ∧ n.clk = s.clk ∧ n.vault = s.vault ∧ n.eng = s.eng ∧
      n.tim = (match s.tim.step with
        | some (d, _) => if s.axisState < 2 then s.tim
          else { s.tim with step := some (d, some (s.coarseUp (n.t64 + 2 ^ 15))) }
        | none => s.tim)) ∧
  (∀ (s : State) (t m : Nat) (v : Word), s.domOn 0 = true → s.grants m 11 0x10 true = true →
    (s.softRuns = false →
      Answers (.blockResetRequest t m v) s fun n =>
        let at_ := (s.till t).coarse (s.till t).t64
        let new := (List.range 32).filter fun b =>
          bit v.toNat b && !s.pwr.blk.any (·.1 == b) && !s.blockAbsent b
        n = { s.till t with shad := n.shad, pwr := { s.pwr with blk := s.pwr.blk ++ new.map (·, at_) } } ∧
        SameBut s.shadAt n.shadAt [m]) ∧
    (s.softRuns = true →
      Answers (.blockResetRequest t m v) s fun n =>
        n = { s.till t with shad := n.shad } ∧ SameBut s.shadAt n.shadAt [m])) ∧
  (∀ (s : State) (b tb : Nat), b < 32 → s.pwr.blk.find? (·.1 == b) = some (b, tb) →
    let blk := s.pwr.blk.filter (·.1 != b)
    (s.blockAbsent b = false →
      Answers (.blockReset b) s fun n =>
        let now := (s.till tb).t64
        n.t64 = now ∧ n.pwr = { s.pwr with blk := blk, pend := n.pwr.pend } ∧
        (∀ u ∈ unitsOf b, n.freAt u = {} ∧ n.capHwAt u = {} ∧
          ∀ r ∈ [Reg.FRE_INCFG, .FRE_THR, .FRE_RAMP, .FRE_EVT, .FRE_CNT, .CAP_LANECFG, .CAP_PICK, .CAP_BASE, .CAP_CNT0],
            n.reg r u = Reg.dflt (r.key u)) ∧
        (∀ l ∈ lanesOf b, n.reg .CNT_CFG l = Reg.dflt (Reg.CNT_CFG.key l) ∧
          n.reg .WEA_LMAP l = Reg.dflt (Reg.WEA_LMAP.key l) ∧ (n.cntAt l).on = false ∧ (n.capAt l).buf = []) ∧
        n.reg .WEA_WENTRY b = Reg.dflt (Reg.WEA_WENTRY.key b) ∧ n.get F.CAL_BSTAT_POS b = 31 ∧
        n.get F.CAL_BSTAT_STEP b = 0 ∧
        (∀ r i, r ∈ [.CAP_WALK, .WEA_PROG, .WEA_LOCAL, .CAL_BCFG] → n.reg r i = s.reg r i) ∧
        (n.mergeAt b).shut = some tb ∧
        ((n.mergeAt b).fb.getLast?.map fun r => (r.t, r.ws, r.ev)) =
          some (tb, (genEvent 18 b (s.stamp tb) 0).ws, true)))

/-- R360, R385 to R388, R399: only the core that a heartbeat register names beats it; an AGE of 10 ms sets WATCHDOG; a
silent core is reset, a silent warden core gives its role to the standby; a silent warden, or K0 and K1 both, start
the last-resort restart: SOFT_CORE after 1 µs, the boot ROM after 10 µs, and without READY for 2 s once more with the
other image first, and then LR_HALT; a trial boot that does not reach READY lets the next start try the other image
first. -/
def Obligations.RecoveryLadder : Prop :=
  (∀ (s : State) (t m c : Nat), c < 5 → s.domOn 0 = true → s.grants m 11 (0x60 + 8 * c) true = true →
    ((c < 4 ∧ m = 16 + c) ∨ (c = 4 ∧ (m = 16 ∨ m = 17)) →
      Answers (.beat t m c) s fun n =>
        n = { s.till t with shad := n.shad, pwr := { s.pwr with beats := s.pwr.beats.set c (s.till t).t64 } } ∧
        SameBut s.shadAt n.shadAt [m]) ∧
    (¬((c < 4 ∧ m = 16 + c) ∨ (c = 4 ∧ (m = 16 ∨ m = 17))) →
      Answers (.beat t m c) s fun n =>
        n = { s.till t with shad := n.shad } ∧ SameBut s.shadAt n.shadAt [m])) ∧
  (∀ (s : State) (t c : Nat), s.supervised c = true →
    (s.beatAt c + ms 10 ≤ (s.till t).t64 →
      Answers (.watchdog t c) s fun n =>
        n.on F.MON_EVT_WATCHDOG 0 = true ∧ n = (s.till t).faulted n ∧ NotedRegs s n [(.MON_EVT, 0)]) ∧
    ((s.till t).t64 < s.beatAt c + ms 10 → Answers (.watchdog t c) s fun n => n = s.till t)) ∧
  (∀ (s : State) (t c : Nat), s.pwr.armed = true → c < 4 → (c = 3 → s.on F.PWR_REC_HB3_EN 0 = true) →
    s.pwr.beats.length = 5 → s.beatAt c + ms 20 ≤ (s.till t).t64 →
    let now := (s.till t).t64
    let reset := fun (n : State) (mie : Bool) =>
      n.coreAt c = { mie := mie } ∧ n.shadAt (16 + c) = {} ∧ n.reg .CORE_VBASE c = Reg.dflt (Reg.CORE_VBASE.key c) ∧
      n.on F.PWR_EVT_HB_MISS 0 = true ∧ n.eng = s.eng ∧ n.t64 = now ∧ n.vault = s.vault ∧
      (∀ j ∈ n.jobs, j.slot = true → j ∈ s.jobs)
    let restart := fun (n : State) =>
      n.get F.PWR_REC_CORE_RST_CNT 0 =
        min (s.get F.PWR_REC_CORE_RST_CNT 0 + 1) (2 ^ F.PWR_REC_CORE_RST_CNT.w - 1) ∧
      n.on F.PWR_EVT_CORE_RESTART 0 = true ∧
      n.pwr = { s.pwr with beats := s.pwr.beats.set c now, pend := n.pwr.pend }
    let alone := c < 2 ∧ now < s.beatAt (1 - c) + ms 20
    (c = 3 ∨ c = 2 ∨ (alone ∧ c ≠ s.get F.PWR_REC_WARDEN 0) →
      Answers (.heartbeatSilence t c) s fun n =>
        n.on F.PWR_EVT_HB_MISS 0 = true ∧ n.on F.PWR_EVT_CORE_RESTART 0 = true ∧ n.beatAt c = now ∧
        n.get F.PWR_REC_CORE_RST_CNT 0 =
          min (s.get F.PWR_REC_CORE_RST_CNT 0 + 1) (2 ^ F.PWR_REC_CORE_RST_CNT.w - 1) ∧
        n.get F.PWR_REC_WARDEN 0 = s.get F.PWR_REC_WARDEN 0) ∧
    (alone ∧ c = s.get F.PWR_REC_WARDEN 0 →
      Answers (.heartbeatSilence t c) s fun n =>
        n.on F.PWR_EVT_HB_MISS 0 = true ∧ n.on F.PWR_EVT_TAKEOVER 0 = true ∧ n.beatAt c = now ∧ n.beatAt 4 = now ∧
        n.get F.PWR_REC_WARDEN 0 = 1 - c ∧ n.vaultQ = [] ∧
        n.get F.PWR_REC_TAKEOVER_CNT 0 =
          min (s.get F.PWR_REC_TAKEOVER_CNT 0 + 1) (2 ^ F.PWR_REC_TAKEOVER_CNT.w - 1)) ∧
    (c = 3 → s.pwr.fw = false → s.on F.PWR_ENG_RECOVERING 0 = false →
      Answers (.heartbeatSilence t c) s fun n =>
        reset n false ∧ restart n ∧ n.epAt 16 = {} ∧ SameBut s.coreAt n.coreAt [3]) ∧
    (c = 3 → s.pwr.fw = true →
      Answers (.heartbeatSilence t c) s fun n =>
        restart n ∧ n.on F.PWR_EVT_HB_MISS 0 = true ∧ n.errlog.length = min 64 (s.errlog.length + 1)) ∧
    (c = 2 ∨ (c < 2 ∧ c ≠ s.get F.PWR_REC_WARDEN 0 ∧ now < s.beatAt (1 - c) + ms 20) → s.pwr.fw = false →
      s.on F.PWR_ENG_RECOVERING 0 = false → s.jobs = [] →
      Answers (.heartbeatSilence t c) s fun n => reset n true ∧ restart n ∧ SameBut s.coreAt n.coreAt [c]) ∧
    (c < 2 → c = s.get F.PWR_REC_WARDEN 0 → now < s.beatAt (1 - c) + ms 20 → s.pwr.fw = false →
      s.on F.PWR_ENG_RECOVERING 0 = false → s.jobs = [] →
      Answers (.heartbeatSilence t c) s fun n =>
        reset n true ∧ n.get F.PWR_REC_WARDEN 0 = 1 - c ∧ n.on F.PWR_EVT_TAKEOVER 0 = true ∧ n.vaultQ = [] ∧
        n.get F.PWR_REC_TAKEOVER_CNT 0 =
          min (s.get F.PWR_REC_TAKEOVER_CNT 0 + 1) (2 ^ F.PWR_REC_TAKEOVER_CNT.w - 1) ∧
        n.pwr = { s.pwr with beats := (s.pwr.beats.set 4 now).set c now }) ∧
    (c < 2 → s.beatAt (1 - c) + ms 20 ≤ now →
      Answers (.heartbeatSilence t c) s fun n =>
        n.on F.PWR_EVT_HB_MISS 0 = true ∧ n = { s.till t with regs := n.regs } ∧ SameRegs s n [(.PWR_EVT, 0)])) ∧
  (∀ (s : State) (t : Nat), s.pwr.armed = true → s.pwr.lrT = none →
    let now := (s.till t).t64
    let warden := decide (s.beatAt 4 + ms 50 ≤ now)
    let both := decide (s.beatAt 0 + ms 20 ≤ now ∧ s.beatAt 1 + ms 20 ≤ now)
    (warden = true ∨ both = true →
      Answers (.lastResortTrigger t) s fun n =>
        n.get F.PWR_REC_LR_CAUSE 0 = (if warden then 0 else 1) ∧ n.reg .PWR_LRT 0 = w64 now ∧
        n.on F.PWR_EVT_HB_MISS 0 = true ∧ n.on F.PWR_ENG_RECOVERING 0 = true ∧ n.on F.PWR_ENG_READY 0 = false ∧
        n.get F.PWR_REC_LR_CNT 0 = min (s.get F.PWR_REC_LR_CNT 0 + 1) (2 ^ F.PWR_REC_LR_CNT.w - 1) ∧
        n = { s.till t with
          regs := n.regs, pwr := { s.pwr with lrT := some now, lrTry := 0, armed := false, fault := true } } ∧
        SameRegs s n [(.PWR_REC, 0), (.PWR_LRT, 0), (.PWR_EVT, 0), (.PWR_ENG, 0)]) ∧
    (warden = false → both = false → Answers (.lastResortTrigger t) s fun n => n = s.till t)) ∧
  (∀ (s : State) (a : Nat), s.pwr.lrT = some a →
    Answers .lrSoftCore s (fun n =>
      n.get F.PWR_ENG_LAST_RESET 0 = 5 ∧ n.pwr.fw = false ∧ n.stage 2 = false ∧ n.stage 5 = false ∧
      n.on F.REG_FW_FW_VALID 0 = false ∧ (∀ c : Fin 4, n.coreAt c = {} ∧ n.shadAt (16 + c) = {}) ∧ n.vaultQ = [] ∧
      (∀ r i, r.level i ≠ .softCore → r ∉ [.PWR_ENG, .REG_FW, .MBX_CFG, .MBX_CNT] → n.reg r i = s.reg r i) ∧
      n = { s.till (a + us 1) with
        regs := n.regs, pwr := n.pwr, core := n.core, ep := n.ep, slot := n.slot, shad := n.shad, jobs := n.jobs
        claimEp := n.claimEp, owner := n.owner, vaultQ := [] }) ∧
    (let one := if s.pwr.lrTry = 1 then 1 - s.preferred else s.preferred
     Answers .lrBoot s fun n =>
      (s.imageFail one = 0 → n.get F.ACC_BOOT_IMAGE 0 = one) ∧
      (s.imageFail one ≠ 0 → s.imageFail (1 - one) = 0 → n.get F.ACC_BOOT_IMAGE 0 = 1 - one) ∧
      (s.imageFail 0 = 0 ∨ s.imageFail 1 = 0 → n.stage 2 = true ∧ n.pwr.bootT = (s.till (a + us 10)).t64) ∧
      n.on F.REG_GSTAT_BOOT_FAIL 0 = (s.imageFail 0 != 0 && s.imageFail 1 != 0) ∧
      n.get F.PWR_REC_LR_IMAGE 0 = n.get F.ACC_BOOT_IMAGE 0 ∧
      n = { s.till (a + us 10) with
        regs := n.regs, pwr := { s.pwr with stage := n.pwr.stage, bootT := n.pwr.bootT } } ∧
      SameRegs s n [(.ACC_BOOT, 0), (.REG_GSTAT, 0), (.PWR_REC, 0)]) ∧
    (s.on F.PWR_ENG_READY 0 = false → s.pwr.lrTry = 0 →
      Answers .lrReadyTimeout s fun n =>
        n.get F.PWR_REC_LR_CNT 0 = min (s.get F.PWR_REC_LR_CNT 0 + 1) (2 ^ F.PWR_REC_LR_CNT.w - 1) ∧
        n.on F.PWR_ENG_RECOVERING 0 = true ∧
        n = { s.till (a + ms 2000) with
          regs := n.regs, pwr := { s.pwr with
            lrT := some (s.till (a + ms 2000)).t64, lrTry := 1, armed := false, fault := true } } ∧
        SameRegs s n [(.PWR_REC, 0), (.PWR_ENG, 0)]) ∧
    (s.on F.PWR_ENG_READY 0 = false → s.pwr.lrTry ≠ 0 →
      Answers .lrReadyTimeout s fun n =>
        n.on F.PWR_REC_LR_HALT 0 = true ∧ n.on F.PWR_ENG_RECOVERING 0 = false ∧ n.pwr.lrT = none ∧
        n.pwr.fault = s.pwr.fault ∧ n.pwr.fw = false ∧ n.t64 = (s.till (a + ms 2000)).t64 ∧
        (∀ c : Fin 4, n.coreAt c = {}) ∧ n.store = s.store ∧ n.fre = s.fre ∧ n.que = s.que ∧ n.weav = s.weav ∧
        n.cnt = s.cnt)) ∧
  (∀ (s : State) (t : Nat),
    (s.on F.ACC_BOOT_TRIAL 0 = true → s.on F.PWR_ENG_READY 0 = false → s.pwr.bootT + ms 2000 ≤ (s.till t).t64 →
      Answers (.trialTimeout t) s fun n => n = { s.till t with pwr := { s.pwr with other := true } }) ∧
    (s.on F.ACC_BOOT_TRIAL 0 = false ∨ s.on F.PWR_ENG_READY 0 = true ∨ (s.till t).t64 < s.pwr.bootT + ms 2000 →
      Answers (.trialTimeout t) s fun n => n = s.till t))

/-- R79, R393, R395, R397, R398, R435: a reading shows in MON_TEMP, and of a block's sensor in CAL_BSTAT; it sets WARN
and CRIT at their limits and clears each 2 °C below, with a flag and a notice at entry, and of the store's sensor sets
the refresh rate, double above 85 °C until below 83 °C (which sensor that is the spec does not say: log entry 37); one
that is out of range, or a sensor that is silent, sets SENSOR_FAULT and counts for no limit any more; a trip takes
every domain but PD0 OFF with the vault write in progress complete; the scrubber corrects a single-bit error and
reports a double-bit one; RESTART sets MIN and MAX to VALUE. -/
def Obligations.HealthOfTheEngine : Prop :=
  (∀ (s : State) (t k : Nat) (v : Int), s.sensorAbsent k = false →
    s.domOn (pdSensor k) = true ∨ s.on F.MON_THERM_STAT_TRIPPED 0 = true →
    let x := s.sensAt k
    let now := (s.till t).t64
    let read := { x with
      seen := true, val := v, at_ := now, hot := if 115 * 256 ≤ v then some (x.hot.getD now) else none }
    let temps := (Reg.MON_TEMP, k) :: if k < 32 then [(Reg.CAL_BSTAT, k)] else []
    let shown := fun (n : State) =>
      n.get F.MON_TEMP_TEMP k = sfield 16 v ∧
        (k < 32 → n.reg .CAL_BSTAT k = F.CAL_BSTAT_TEMP.put (s.reg .CAL_BSTAT k) (sfield 16 v))
    (s.sensorBad k = true →
      Answers (.sensorRead t k v) s fun n =>
        shown n ∧ n.sensAt k = read ∧ SameBut s.sensAt n.sensAt [k] ∧
        n = { s.till t with regs := n.regs, sens := n.sens } ∧ SameRegs s n temps) ∧
    (s.sensorBad k = false → v < -55 * 256 ∨ 150 * 256 < v →
      Answers (.sensorRead t k v) s fun n =>
        shown n ∧ n.sensorBad k = true ∧ n.on F.MON_EVT_SENSOR_FAULT 0 = true ∧
        n.sensAt k = { read with warn := false, crit := false } ∧ SameBut s.sensAt n.sensAt [k] ∧
        n = { (s.till t).faulted n with sens := n.sens } ∧
        NotedRegs s n (temps ++ [(.MON_THERM_STAT, 0), (.MON_EVT, 0)])) ∧
    (s.sensorBad k = false → -55 * 256 ≤ v → v ≤ 150 * 256 →
      let warnT := sval 16 (s.get F.MON_THERM_CFG_WARN_T 0)
      let critT := sval 16 (s.get F.MON_THERM_CFG_CRIT_T 0)
      let warn := decide ((if x.warn then warnT - 512 else warnT) ≤ v)
      let crit := decide ((if x.crit then critT - 512 else critT) ≤ v)
      Answers (.sensorRead t k v) s fun n =>
        shown n ∧ n.sensAt k = { read with warn := warn, crit := crit } ∧
        n.refresh = (if 32 ≤ k && Config.storeSensor k then
          decide (85 * 256 < v) || (s.refresh && decide (83 * 256 ≤ v)) else s.refresh) ∧
        SameBut s.sensAt n.sensAt [k] ∧
        n.on F.MON_THERM_STAT_WARN 0 = (n.sens.any fun (i, y) => y.warn && !s.sensorBad i) ∧
        n.on F.MON_THERM_STAT_CRIT 0 = (n.sens.any fun (i, y) => y.crit && !s.sensorBad i) ∧
        n.on F.MON_EVT_THERM_WARN 0 = (s.on F.MON_EVT_THERM_WARN 0 || (warn && !x.warn)) ∧
        n.on F.MON_EVT_THERM_CRIT 0 = (s.on F.MON_EVT_THERM_CRIT 0 || (crit && !x.crit)) ∧
        n.get F.MON_THERM_STAT_FAULT 0 = s.get F.MON_THERM_STAT_FAULT 0 ∧
        n = { (s.till t).noted n with sens := n.sens, refresh := n.refresh } ∧
        NotedRegs s n (temps ++ [(.MON_THERM_STAT, 0), (.MON_EVT, 0)])) ∧
    (now < x.at_ + ms 10 → Answers (.sensorFault t k) s fun n => n = s.till t) ∧
    (s.domOn (pdSensor k) = true → x.at_ + ms 10 ≤ now → Answers (.sensorFault t k) s fun n =>
      n.sensorBad k = true ∧ n.on F.MON_EVT_SENSOR_FAULT 0 = true ∧
      n.sensAt k = { x with warn := false, crit := false } ∧ SameBut s.sensAt n.sensAt [k] ∧
      n.on F.MON_THERM_STAT_WARN 0 = (n.sens.any fun (i, y) => y.warn && !n.sensorBad i) ∧
      n.on F.MON_THERM_STAT_CRIT 0 = (n.sens.any fun (i, y) => y.crit && !n.sensorBad i) ∧
      n = { (s.till t).faulted n with sens := n.sens } ∧ NotedRegs s n [(.MON_THERM_STAT, 0), (.MON_EVT, 0)])) ∧
  (∀ (s : State) (t k : Nat), (s.sensAt k).hot = none → Answers (.thermalTrip t k) s fun n => n = s.till t) ∧
  (∀ (s : State) (t k h : Nat), (s.sensAt k).hot = some h → max t s.t64 < h + ms 1 →
    Answers (.thermalTrip t k) s fun n => n = s.till t) ∧
  (∀ (s : State) (t k h : Nat), s.sensorAbsent k = false → s.sensorBad k = false → (s.sensAt k).hot = some h →
    h + ms 1 ≤ max t s.t64 → s.eng ≠ .off → s.pwr.trip = false →
    Answers (.thermalTrip t k) s fun n =>
      n.on F.MON_THERM_STAT_TRIPPED 0 = true ∧ n.eng = .starting ∧ n.on F.PWR_ENG_READY 0 = false ∧
      n.pwr = { s.pwr with
        fault := true, trip := true, armed := false, stage := 0, fw := false, pend := [] } ∧
      (∀ d : Fin 96, n.dom d = if s.domAbsent d || s.domOut d then s.dom d else if d.val = 0 then 2 else 0) ∧
      n.vaultWr = none ∧ n.vaultQ = [] ∧
      (s.vaultWr = none → n.vault = s.vault) ∧
      (∀ w : VaultWr, s.vaultWr = some w → w.data.length ≤ 0x4000 →
        n.vaultBytes (slotAddr w.unit w.slot) w.data.length = w.data) ∧
      n.t64 = (s.till t).t64 ∧ n.store = s.store ∧ n.host = s.host ∧ n.guest = [] ∧ n.fuse = s.fuse) ∧
  (∀ (s : State) (t a e : Nat), a < 2 ^ 30 → s.get F.MON_ECC_CFG_SCRUB_EXP 0 ≠ 0 → s.domOn 86 = true →
    (s.ue.contains a = false → s.ce.contains a = false → e = 0 → Answers (.scrub t a e) s fun n => n = s.till t) ∧
    (s.ue.contains a = false → e = 1 ∨ e = 0 ∧ s.ce.contains a = true →
      Answers (.scrub t a e) s fun n =>
        n.get F.MON_ECC_CNT_CE_CNT 0 = min (s.get F.MON_ECC_CNT_CE_CNT 0 + 1) (2 ^ F.MON_ECC_CNT_CE_CNT.w - 1) ∧
        n.on F.MON_CE_ADDR_VALID 0 = true ∧
        (s.on F.MON_CE_ADDR_VALID 0 = false → n.get F.MON_CE_ADDR_ADDR 0 = a) ∧
        (s.on F.MON_CE_ADDR_VALID 0 = true → n.reg .MON_CE_ADDR 0 = s.reg .MON_CE_ADDR 0) ∧
        n.on F.MON_EVT_STORE_CE 0 = (s.on F.MON_EVT_STORE_CE 0 ||
          n.get F.MON_ECC_CNT_CE_CNT 0 == max 1 (s.get F.MON_ECC_CFG_CE_LIMIT 0)) ∧
        n.ce.contains a = false ∧ n = (s.till t).faulted n ∧
        (s.get F.MON_EVT_IE 0 = 0 → n.store = s.store ∧ n.ue = s.ue ∧ n.ce = s.ce.filter (· ≠ a)) ∧
        NotedRegs s n [(.MON_ECC_CNT, 0), (.MON_CE_ADDR, 0), (.MON_EVT, 0)]) ∧
    (s.ue.contains a = true ∨ 2 ≤ e →
      Answers (.scrub t a e) s fun n =>
        n.get F.MON_ECC_CNT_UE_CNT 0 = min (s.get F.MON_ECC_CNT_UE_CNT 0 + 1) (2 ^ F.MON_ECC_CNT_UE_CNT.w - 1) ∧
        n.on F.MON_UE_ADDR_VALID 0 = true ∧
        (s.on F.MON_UE_ADDR_VALID 0 = false → n.get F.MON_UE_ADDR_ADDR 0 = a) ∧
        (s.on F.MON_UE_ADDR_VALID 0 = true → n.reg .MON_UE_ADDR 0 = s.reg .MON_UE_ADDR 0) ∧
        n.on F.MON_EVT_STORE_UE 0 = true ∧
        n = (s.till t).faulted n ∧
        (s.get F.MON_EVT_IE 0 = 0 → n.ce = s.ce ∧
          n.ue = (if s.ue.contains a then s.ue else s.ue ++ [a]) ∧ SameBut s.storeAt n.storeAt [a] ∧
          (n.storeAt a = s.storeAt a ↔ s.ue.contains a = true)) ∧
        NotedRegs s n [(.MON_ECC_CNT, 0), (.MON_UE_ADDR, 0), (.MON_EVT, 0)])) ∧
  (∀ (s : State) (t m h : Nat), s.domOn 85 = true → s.grants m 12 (0x40 * h + 0x10) true = true →
    Answers (.muRestart t m h) s fun n =>
      n.get F.MU_MINMAX_MIN h = s.get F.MU_STAT_VALUE h ∧ n.get F.MU_MINMAX_MAX h = s.get F.MU_STAT_VALUE h ∧
      n.muOnAt h = false ∧ SameBut s.muOnAt n.muOnAt [h] ∧ SameBut s.shadAt n.shadAt [m] ∧
      n = { s.till t with regs := n.regs, muOn := n.muOn, shad := n.shad } ∧ SameRegs s n [(.MU_MINMAX, h)])

/-- R5, R7, R194, R355, R356, R358, R396, R402 to R411: an 8-byte write of a word that its master reaches stores RW
bits, clears W1C bits that are written 1, sets W1S bits written 1 and keeps the rest, for every register whose write
has no effect beyond its field map; a read returns the word and clears its RC bits; an access to a domain that is not
ON only counts, a denied one counts and captures a violation, one to nothing does nothing, and of the guest core each
of these two, and a read of a double-bit error, is an access fault; a write of local data or WEA_TD of a weaver that
has a record in hand waits for its end; the store is written through its window; the registers with commands of their
own act as those. -/
def Obligations.WordsByAddress : Prop :=
  (∀ (s : State) (t m a : Nat) (v : Word) (r : Reg) (i : Nat), s.gets m a true r i = true →
    r ∉ [Reg.FRE_INCFG, .FRE_THR, .FRE_RAMP, .FRE_EVT, .FRE_IE, .CAP_LANECFG, .CAP_PICK, .CAP_BASE,
        .CAP_WALK, .CNT_CFG, .CNT_LEN, .CNT_COUNT, .PAIR_CFG, .PAIR_WIN, .PAIR_OFS, .AXI_CFG, .AXI_OFS,
        .AXI_GEN, .AXI_CTRL, .AXI_MARKDIR0, .AXI_MARKDIR1, .STAKE_MATCH, .STAKE_ACTION, .WEA_WCTRL, .WEA_LOCAL, .WEA_TD,
        .WEA_WCFG, .WEA_WENTRY, .FLT_CFG, .FLT_CTRL, .FLT_SEL, .FLT_SCFG, .FLT_GAIN, .FLT_OFFSET, .HE_CFG,
        .HE_CTRL, .HE_BIN, .TIM_TCFG, .TIM_TREFP, .TIM_REF, .TIM_SYNC, .TIM_OCTRL, .TIM_BAND0, .TIM_OCLK,
        .TIM_LOOP, .INT_SRC, .CORE_EOI, .CORE_CTRL, .MU_CFG, .MU_CTRL, .LNK_GRP, .DLP_CFG, .ECH_CFG,
        .PWR_RST, .PWR_BRST, .PWR_DREQ, .PWR_HB, .PWR_HBW, .ACC_RD_LO, .ACC_RD_HI, .ACC_WR_LO, .ACC_WR_HI,
        .ACC_K3WIN, .QD_CFG, .QD_RD, .QD_MARK, .QUE_POOL, .RING_CFG, .RING_TAIL, .MBX_DB, .MBX_NTAIL,
        .REG_BANK] →
    Answers (.registerWrite t m a v) s fun n =>
      (∀ k : Fin 64, (n.reg r i).getLsbD k =
        if (w64 r.desc.rw).getLsbD k then v.getLsbD k
        else if (w64 r.desc.w1c).getLsbD k then (s.reg r i).getLsbD k && !v.getLsbD k
        else if (w64 r.desc.w1s).getLsbD k then (s.reg r i).getLsbD k || v.getLsbD k
        else (s.reg r i).getLsbD k) ∧
      n = { s.till t with regs := n.regs, shad := n.shad } ∧ SameRegs s n [(r, i)] ∧ SameBut s.shadAt n.shadAt [m]) ∧
  (∀ (s : State) (t m a w : Nat) (v : Word) (r : Reg) (i : Nat), s.gets m a true r i = true →
    (r = .WEA_TD ∧ w = i / 8) ∨ (r = .WEA_LOCAL ∧ w = i / 512) →
    let x := v &&& w64 r.desc.rw
    ((s.weavAt w).slots.any (·.isSome) = false →
      Answers (.registerWrite t m a v) s fun n =>
        n.reg r i = x ∧ n = { s.till t with regs := n.regs, shad := n.shad } ∧ SameRegs s n [(r, i)] ∧
        SameBut s.shadAt n.shadAt [m]) ∧
    ((s.weavAt w).slots.any (·.isSome) = true →
      Answers (.registerWrite t m a v) s fun n =>
        n.weavAt w = { s.weavAt w with writes := (s.weavAt w).writes ++ [(r == .WEA_TD, i, x)] } ∧
        n = { s.till t with weav := n.weav, shad := n.shad } ∧ SameBut s.weavAt n.weavAt [w] ∧
        SameBut s.shadAt n.shadAt [m])) ∧
  (∀ (s : State) (t m a : Nat) (r : Reg) (i : Nat), s.gets m a false r i = true → r ≠ .PWR_CSTAT →
    Answers (.rcFieldRead t m a) s fun n =>
      (n.shadAt m).data = (s.till t).regWord m r i ∧
      (∀ k : Fin 64, (n.reg r i).getLsbD k = ((s.reg r i).getLsbD k && !(w64 r.desc.rc).getLsbD k)) ∧
      n = { s.till t with regs := n.regs, shad := n.shad } ∧ SameRegs s n [(r, i)] ∧ SameBut s.shadAt n.shadAt [m]) ∧
  (∀ (s : State) (t m a : Nat) (v : Word) (wr : Bool) (x : Spot), s.onBus m = true → 16 ≤ m ∨ a % 8 = 0 →
    s.place m a = .spot x →
    let does := fun (P : State → Prop) =>
      (wr = true → Answers (.registerWrite t m a v) s P) ∧ (wr = false → Answers (.rcFieldRead t m a) s P)
    (s.reach m x wr = 1 →
      does fun n =>
        n.get F.REG_ACNT_OFFDOM_CNT 0 = min (s.get F.REG_ACNT_OFFDOM_CNT 0 + 1) (2 ^ F.REG_ACNT_OFFDOM_CNT.w - 1) ∧
        (wr = false → (n.shadAt m).data = 0) ∧ n = { s.till t with regs := n.regs, shad := n.shad } ∧
        SameRegs s n [(.REG_ACNT, 0)] ∧ SameBut s.shadAt n.shadAt [m]) ∧
    (s.reach m x wr = 2 →
      does fun n =>
        n.get F.ACC_VSTAT_VCNT 0 = min (s.get F.ACC_VSTAT_VCNT 0 + 1) (2 ^ F.ACC_VSTAT_VCNT.w - 1) ∧
        n.on F.ACC_VSTAT_VALID 0 = true ∧
        (s.on F.ACC_VSTAT_VALID 0 = false →
          n.reg .ACC_VCAP0 0 = w64 (m % 128 + (if wr then 128 else 0) + x.tgt % 256 * 256) ∧
          n.reg .ACC_VCAP1 0 = w64 x.off) ∧
        (m = 19 → n.on F.MON_EVT_GUEST_FAULT 0 = true) ∧
        (wr = false → (n.shadAt m).data = 0) ∧ n = { (s.till t).faulted n with shad := n.shad } ∧
        NotedRegs s n ((.ACC_VSTAT, 0) :: (if m = 19 then [(.MON_EVT, 0)] else []) ++
          if s.on F.ACC_VSTAT_VALID 0 then [] else [(.ACC_VCAP0, 0), (.ACC_VCAP1, 0)]) ∧
        SameBut s.shadAt n.shadAt [m]) ∧
    (s.reach m x wr = 3 ∨ (s.reach m x wr = 0 ∧ x.cell = .rsv) →
      does fun n =>
        (wr = false → (n.shadAt m).data = 0) ∧ n = { s.till t with shad := n.shad } ∧
        SameBut s.shadAt n.shadAt [m])) ∧
  (∀ (s : State) (t m a : Nat) (v : Word),
    let nothing :=
      Answers (.registerWrite t m a v) s (fun n => n = s.till t) ∧
      Answers (.rcFieldRead t m a) s (fun n =>
        (n.shadAt m).data = 0 ∧ n = { s.till t with shad := n.shad } ∧ SameBut s.shadAt n.shadAt [m])
    let trapped := fun (n : State) =>
      n.on F.MON_EVT_GUEST_FAULT 0 = true ∧ n = { (s.till t).faulted n with shad := n.shad } ∧
        NotedRegs s n [(.MON_EVT, 0)]
    (s.place m a = .outside → nothing) ∧
    (m < 16 → a % 8 ≠ 0 → inSlots a 8 = false → nothing) ∧
    (s.place m a = .unmapped → (m ≠ 19 ∨ s.onBus m = false) → nothing) ∧
    (s.place m a = .unmapped → m = 19 → s.onBus m = true →
      Answers (.registerWrite t m a v) s (fun n => trapped n ∧ n.shad = s.shad) ∧
      Answers (.rcFieldRead t m a) s (fun n =>
        trapped n ∧ (n.shadAt m).data = 0 ∧ SameBut s.shadAt n.shadAt [m]))) ∧
  (∀ (s : State) (t m a w : Nat) (v : Word), s.onBus m = true → 16 ≤ m ∨ a % 8 = 0 → s.place m a = .store w →
    s.domOn 86 = true →
    (s.grants m 15 w true = true → w < 2 ^ 30 →
      Answers (.registerWrite t m a v) s fun n =>
        n.storeAt w = v ∧ SameBut s.storeAt n.storeAt [w] ∧ n.ue = s.ue.filter (· ≠ w) ∧
        n.ce = s.ce.filter (· ≠ w) ∧ n = { s.till t with store := n.store, ue := n.ue, ce := n.ce }) ∧
    (s.grants m 15 w false = true → s.ue.contains w = false → s.ce.contains w = false →
      Answers (.rcFieldRead t m a) s fun n =>
        n = { s.till t with shad := n.shad } ∧ (n.shadAt m).data = s.storeAt w ∧ SameBut s.shadAt n.shadAt [m]) ∧
    (s.grants m 15 w false = true → s.ue.contains w = false → s.ce.contains w = true →
      Answers (.rcFieldRead t m a) s fun n =>
        n.get F.MON_ECC_CNT_CE_CNT 0 = min (s.get F.MON_ECC_CNT_CE_CNT 0 + 1) (2 ^ F.MON_ECC_CNT_CE_CNT.w - 1) ∧
        n.on F.MON_CE_ADDR_VALID 0 = true ∧ n.ce.contains w = false ∧
        (w < 2 ^ 30 → s.on F.MON_CE_ADDR_VALID 0 = false → n.get F.MON_CE_ADDR_ADDR 0 = w) ∧
        (n.shadAt m).data = s.storeAt w ∧ n = { (s.till t).faulted n with shad := n.shad } ∧
        NotedRegs s n [(.MON_ECC_CNT, 0), (.MON_CE_ADDR, 0), (.MON_EVT, 0)] ∧ SameBut s.shadAt n.shadAt [m]) ∧
    (s.grants m 15 w false = true → s.ue.contains w = true →
      Answers (.rcFieldRead t m a) s fun n =>
        n.get F.MON_ECC_CNT_UE_CNT 0 = min (s.get F.MON_ECC_CNT_UE_CNT 0 + 1) (2 ^ F.MON_ECC_CNT_UE_CNT.w - 1) ∧
        n.on F.MON_EVT_STORE_UE 0 = true ∧ (m = 19 → n.on F.MON_EVT_GUEST_FAULT 0 = true) ∧
        (n.shadAt m).data = s.storeAt w ∧ n = { (s.till t).faulted n with shad := n.shad } ∧
        NotedRegs s n [(.MON_ECC_CNT, 0), (.MON_UE_ADDR, 0), (.MON_EVT, 0)] ∧ SameBut s.shadAt n.shadAt [m])) ∧
  (∀ (s : State) (t m a c o : Nat) (v : Word), s.onBus m = true → s.shutOut m = false → s.place m a = .core c o →
    s.domOn (81 + c) = true → o % 8 = 0 → o < 2 ^ 18 →
    Answers (.registerWrite t m a v) s (fun n =>
      (∀ k : Fin 8, n.guestAt (coreMem c + o + k) = BitVec.ofNat 8 (v.toNat / 256 ^ k.val)) ∧
      SameBut s.guestAt n.guestAt ((List.range 8).map (coreMem c + o + ·)) ∧ n = { s.till t with guest := n.guest }) ∧
    Answers (.rcFieldRead t m a) s (fun n =>
      (n.shadAt m).data = w64 (unle ((List.range 8).map fun k => s.guestAt (coreMem c + o + k))) ∧
      n = { s.till t with shad := n.shad } ∧ SameBut s.shadAt n.shadAt [m])) ∧
  (∀ (s : State) (t f k : Nat) (v : Word), f < 16 → s.domOn 94 = true →
    let as := fun (off : Nat) (v : Word) (does : (State → Prop) → Prop) =>
      Answers (.registerWrite t f (0x1000000 + off) v) s fun u => does fun n => n = u
    (k < 12 → as (0x50020 + 8 * k) v (Answers (.groupModeWrite t f (k + 4) v) s ·)) ∧
    as 0x60010 v (Answers (.blockResetRequest t f v) s ·) ∧
    (k < 3 → as (0x60040 + 8 * k) v (Answers (.pwrDreqWrite t f k v) s ·)) ∧
    as 0x60008 (w64 1) (Answers (.softEngine t f) s ·) ∧ as 0x60008 (w64 2) (Answers (.softCore t f) s ·) ∧
    (k < 5 → as (0x60060 + 8 * k) (w64 0x10000) (Answers (.beat t f k) s ·)) ∧
    (k < 64 → as (0x40010 + 0x40 * k) (w64 1) (Answers (.muRestart t f k) s ·)))

/-- R412 to R414: a read of the lower half clears the word's RC bits and latches the upper half, which a read of the
upper half directly after returns; a write of the lower half of a register is staged, and a write of the upper half
writes the whole word, with the present RW bits below where nothing is staged; a half of a store word is written at
once. -/
def Obligations.HalvesOfWords : Prop :=
  (∀ (s : State) (t m a : Nat) (r : Reg) (i : Nat), s.gets m (a / 8 * 8) false r i = true → r ≠ .PWR_CSTAT →
    16 ≤ m ∨ a % 4 = 0 →
    let k := s.wordAt m (a / 8 * 8)
    Answers (.lowerHalfRead t m a) s (fun n =>
      (n.shadAt m).data = (s.till t).regWord m r i &&& 0xFFFFFFFF ∧
      (n.shadAt m).rd = some (k, ((s.till t).regWord m r i >>> 32).toNat) ∧
      (∀ k : Fin 64, (n.reg r i).getLsbD k = ((s.reg r i).getLsbD k && !(w64 r.desc.rc).getLsbD k)) ∧
      n = { s.till t with regs := n.regs, shad := n.shad } ∧ SameRegs s n [(r, i)] ∧ SameBut s.shadAt n.shadAt [m]) ∧
    (∀ hi : Nat, (s.shadAt m).rd = some (k, hi) →
      Answers (.upperHalfRead t m a) s fun n =>
        (n.shadAt m).data = w64 hi ∧ (n.shadAt m).rd = none ∧ n = { s.till t with shad := n.shad } ∧
        SameBut s.shadAt n.shadAt [m]) ∧
    ((s.shadAt m).rd = none →
      Answers (.upperHalfRead t m a) s fun n =>
        (n.shadAt m).data = (s.till t).regWord m r i >>> 32 ∧
        (∀ k : Fin 64, (n.reg r i).getLsbD k =
          ((s.reg r i).getLsbD k && !(decide (32 ≤ k.val) && (w64 r.desc.rc).getLsbD k))) ∧
        n = { s.till t with regs := n.regs, shad := n.shad } ∧ SameRegs s n [(r, i)] ∧
        SameBut s.shadAt n.shadAt [m])) ∧
  (∀ (s : State) (t m a : Nat) (v : Word) (r : Reg) (i : Nat), s.gets m (a / 8 * 8) true r i = true →
    16 ≤ m ∨ a % 4 = 0 →
    let k := s.wordAt m (a / 8 * 8)
    Answers (.lowerHalfWrite t m a v) s (fun n =>
      (n.shadAt m).wr = some (k, v.toNat % 2 ^ 32) ∧ (n.shadAt m).rd = none ∧ n = { s.till t with shad := n.shad } ∧
      SameBut s.shadAt n.shadAt [m]) ∧
    (∀ lo : Nat, (s.shadAt m).wr = some (k, lo) →
      Answers (.registerWrite t m (a / 8 * 8) (w64 lo ||| (v <<< 32))) s fun u =>
        Answers (.upperHalfWrite t m a v) s fun n =>
          n = { u with shad := n.shad } ∧ (n.shadAt m).wr = none ∧ SameBut s.shadAt n.shadAt [m]) ∧
    ((s.shadAt m).wr = none →
      let low := (s.till t).regWord m r i &&& (Cell.reg r i).rw &&& 0xFFFFFFFF
      Answers (.registerWrite t m (a / 8 * 8) (low ||| (v <<< 32))) s fun u =>
        Answers (.upperHalfWrite t m a v) s fun n =>
          n = { u with shad := n.shad } ∧ (n.shadAt m).wr = none ∧ SameBut s.shadAt n.shadAt [m])) ∧
  (∀ (s : State) (t m a w : Nat) (v : Word), s.onBus m = true → s.place m (a / 8 * 8) = .store w → s.domOn 86 = true →
    s.grants m 15 w true = true → w < 2 ^ 30 → 16 ≤ m ∨ a % 4 = 0 →
    Answers (.lowerHalfWrite t m a v) s (fun n =>
      n.storeAt w = (s.storeAt w &&& 0xFFFFFFFF00000000) ||| (v &&& 0xFFFFFFFF) ∧ SameBut s.storeAt n.storeAt [w] ∧
      n = { s.till t with store := n.store, ue := n.ue, ce := n.ce }) ∧
    Answers (.upperHalfWrite t m a v) s (fun n =>
      n.storeAt w = (s.storeAt w &&& 0xFFFFFFFF) ||| (v <<< 32) ∧ SameBut s.storeAt n.storeAt [w] ∧
      n = { s.till t with store := n.store, ue := n.ue, ce := n.ce }))

/-- R373, R408, R417, R430: a direct write of the vault replaces its word, but not in an F slot, the preferred image's
slot or the identity area; a write transaction on I2C sets the window offset and writes bytes from it, and a read
returns bytes from the offset in force; ICTRL makes one access at IADDR as master 92, BUSY until it is done, and
DENIED where it is refused; a byte at 0xFFFF wakes. -/
def Obligations.VaultAndI2c : Prop :=
  (∀ (s : State) (t m a o : Nat) (v : Word), s.onBus m = true → s.place m a = .vault o → s.domOn 95 = true →
    s.grants m 16 o true = true → o % 8 = 0 →
    (s.vaultFixed o = false →
      Answers (.vaultWordWrite t m a v) s fun n =>
        (∀ k : Fin 8, n.vaultAt (o + k) = BitVec.ofNat 8 (v.toNat / 256 ^ k.val)) ∧
        SameBut s.vaultAt n.vaultAt ((List.range 8).map (o + ·)) ∧ (s.vaultWr = none → n.vaultWr = none) ∧
        n = { s.till t with vault := n.vault, vaultWr := n.vaultWr }) ∧
    (s.vaultFixed o = true → Answers (.vaultWordWrite t m a v) s fun n => n = s.till t)) ∧
  (∀ (s : State) (t off k : Nat) (bs : List Byte),
    (s.i2cOpen = true →
      Answers (.i2cWrite t off bs) s fun n => n.i2c.off = (off + bs.length) % 2 ^ 16) ∧
    (s.eng ≠ .off → s.i2c.off < 2 ^ 16 →
      Answers (.i2cRead t k) s fun n =>
        n.i2c.off = (s.i2c.off + k) % 2 ^ 16 ∧ n.i2c.out.length = k ∧ n.t64 = (s.till t).t64)) ∧
  (∀ (s : State) (t off : Nat) (b : Byte), s.i2cOpen = true → off < 0x10000 →
    Answers (.i2cWrite t off []) s (fun n => n = { s.till t with i2c := { s.i2c with off := off } }) ∧
    (0x1000 ≤ off → off < 0x1004 →
      Answers (.i2cWrite t off [b]) s fun n =>
        n.reg .I2C_IADDR 0 = (s.reg .I2C_IADDR 0 &&& ~~~((0xFF : Word) <<< (8 * (off - 0x1000)))) |||
          (b.setWidth 64 <<< (8 * (off - 0x1000))) ∧
        n = { s.till t with regs := n.regs, i2c := { s.i2c with off := off + 1 } } ∧ SameRegs s n [(.I2C_IADDR, 0)]) ∧
    (0x1008 ≤ off → off < 0x1010 →
      Answers (.i2cWrite t off [b]) s fun n =>
        n.reg .I2C_IDATA 0 = (s.reg .I2C_IDATA 0 &&& ~~~((0xFF : Word) <<< (8 * (off - 0x1008)))) |||
          (b.setWidth 64 <<< (8 * (off - 0x1008))) ∧
        n = { s.till t with regs := n.regs, i2c := { s.i2c with off := off + 1 } } ∧ SameRegs s n [(.I2C_IDATA, 0)]) ∧
    (off < 0x400 → (s.slotAt (slotKey 17 (off / 256))).st = 0 →
      Answers (.i2cWrite t off [b]) s fun n =>
        n.slotData 17 (off / 256) = (s.slotData 17 (off / 256)).set (off % 256) b ∧
        SameBut s.slotAt n.slotAt [slotKey 17 (off / 256)] ∧
        n = { s.till t with slot := n.slot, i2c := { s.i2c with off := off + 1 } }) ∧
    (off = 0x1010 →
      (b = 1 → Answers (.ictrlRead t) s fun u =>
        Answers (.i2cWrite t off [b]) s fun n => n = { u with i2c := { u.i2c with off := off + 1 } }) ∧
      (b = 2 → Answers (.ictrlWrite t) s fun u =>
        Answers (.i2cWrite t off [b]) s fun n => n = { u with i2c := { u.i2c with off := off + 1 } }))) ∧
  (∀ (s : State) (t : Nat) (b : Byte), s.eng ≠ .off →
    (s.on F.PWR_WAKE_I2C_EN 0 = true → s.eng = .watch → s.pwr.wake = none →
      Answers (.i2cWrite t 0xFFFF [b]) s fun n =>
        n.pwr = { s.pwr with wake := some (3, 0, (s.till t).t64) } ∧ n.get F.PWR_ENG_LAST_WAKE 0 = 3 ∧
        n = { s.till t with regs := n.regs, pwr := n.pwr, i2c := { s.i2c with off := 0 } } ∧
        SameRegs s n [(.PWR_ENG, 0)]) ∧
    (s.on F.PWR_WAKE_I2C_EN 0 = false →
      Answers (.i2cWrite t 0xFFFF [b]) s fun n => n = { s.till t with i2c := { s.i2c with off := 0 } })) ∧
  (∀ (s : State) (t : Nat),
    (s.eng = .watch → s.i2c.off = 0xFFFE →
      Answers (.i2cRead t 2) s fun n => n = { s.till t with i2c := { s.i2c with off := 0, out := [1, 0] } }) ∧
    (s.eng = .deepSleep → s.i2c.off = 0xFFFE →
      Answers (.i2cRead t 2) s fun n => n = { s.till t with i2c := { s.i2c with off := 0, out := [2, 0] } }) ∧
    (s.i2cOpen = true → s.i2c.off = 0x1008 →
      Answers (.i2cRead t 8) s fun n =>
        n = { s.till t with i2c := { s.i2c with off := 0x1010, out := le 8 (s.reg .I2C_IDATA 0).toNat } }) ∧
    (s.i2cOpen = true → s.i2c.off = 0x1011 →
      Answers (.i2cRead t 1) s fun n =>
        n = { s.till t with i2c := { s.i2c with
          off := 0x1012, out := [BitVec.ofNat 8 ((if s.i2c.busy = none then 0 else 1) +
            2 * s.get F.I2C_ISTAT_DENIED 0)] } })) ∧
  (∀ (s : State) (t a : Nat) (x : Spot) (r : Reg) (i : Nat), s.i2cOpen = true → s.i2c.busy = none →
    (s.reg .I2C_IADDR 0).toNat = a →
    (a % 8 = 0 → s.spot 92 a = some x → x.cell = .reg r i → r ≠ .PWR_CSTAT →
      (s.reach 92 x false = 0 →
        Answers (.rcFieldRead t 92 a) s fun u =>
          Answers (.ictrlRead t) s fun n =>
            n.reg .I2C_IDATA 0 = (u.shadAt 92).data ∧ n.on F.I2C_ISTAT_DENIED 0 = false ∧
            n = { u with regs := n.regs, shad := n.shad, i2c := { s.i2c with busy := some (false, (s.till t).t64) } } ∧
            SameRegs u n [(.I2C_IDATA, 0), (.I2C_ISTAT, 0)]) ∧
      (s.reach 92 x true = 0 →
        Answers (.registerWrite t 92 a (s.reg .I2C_IDATA 0)) s fun u =>
          Answers (.ictrlWrite t) s fun n =>
            n.on F.I2C_ISTAT_DENIED 0 = false ∧
            n = { u with regs := n.regs, i2c := { s.i2c with busy := some (true, (s.till t).t64) } } ∧
            SameRegs u n [(.I2C_ISTAT, 0)])) ∧
    (a % 8 ≠ 0 ∨ s.spot 92 a = none →
      Answers (.ictrlRead t) s (fun n =>
        n.on F.I2C_ISTAT_DENIED 0 = true ∧ n.reg .I2C_IDATA 0 = 0 ∧ n = { s.till t with regs := n.regs } ∧
        SameRegs s n [(.I2C_IDATA, 0), (.I2C_ISTAT, 0)]) ∧
      Answers (.ictrlWrite t) s (fun n =>
        n.on F.I2C_ISTAT_DENIED 0 = true ∧ n = { s.till t with regs := n.regs } ∧
        SameRegs s n [(.I2C_ISTAT, 0)]))) ∧
  (∀ (s : State) (t t0 : Nat) (wr : Bool), s.i2c.busy = some (wr, t0) →
    Answers (.indirectDone t) s fun n =>
      n = { s.till (min t (t0 + us 10)) with i2c := { s.i2c with busy := none } })
end

