-- ==== Sys2Proof/Laws/Tab.lean ====
section
/-!
SUPPORT. The laws of the sparse tables: a read after a write to the same key gives the value written, a write leaves every
other key alone, and every operation keeps the canonical form.
-/

namespace Sys2Proof.Machine

variable {α : Type}

theorem Tab.find_erase_same (t : Tab α) (k : Nat) : Tab.find (Tab.erase t k) k = none := by
  induction t with
  | nil => rfl
  | cons p t ih =>
    obtain ⟨j, v⟩ := p
    by_cases h : j = k <;> simp [Tab.erase, Tab.find, h, ih]

theorem Tab.find_erase_ne (t : Tab α) (k l : Nat) (h : l ≠ k) : Tab.find (Tab.erase t k) l = Tab.find t l := by
  induction t with
  | nil => rfl
  | cons p t ih =>
    obtain ⟨j, v⟩ := p
    by_cases hk : j = k
    · subst hk; simp [Tab.erase, Tab.find, ih, Ne.symm h]
    · simp [Tab.erase, Tab.find, hk, ih]

theorem Tab.find_place_same (t : Tab α) (k : Nat) (v : α) (h : Tab.find t k = none) :
    Tab.find (Tab.place t k v) k = some v := by
  induction t with
  | nil => simp [Tab.place, Tab.find]
  | cons p t ih =>
    obtain ⟨j, x⟩ := p
    by_cases hj : j = k
    · simp [Tab.find, hj] at h
    · simp only [Tab.find, hj, if_false] at h
      by_cases hk : k < j <;> simp [Tab.place, Tab.find, hk, hj, ih h]

theorem Tab.find_place_ne (t : Tab α) (k l : Nat) (v : α) (h : l ≠ k) :
    Tab.find (Tab.place t k v) l = Tab.find t l := by
  induction t with
  | nil => simp [Tab.place, Tab.find, Ne.symm h]
  | cons p t ih =>
    obtain ⟨j, x⟩ := p
    by_cases hk : k < j <;> simp [Tab.place, Tab.find, hk, Ne.symm h, ih]

/-- A read after a write to the same key gives the value written. -/
@[simp] theorem Tab.get_set_same [DecidableEq α] (d : Nat → α) (t : Tab α) (k : Nat) (v : α) :
    Tab.get d (Tab.set d t k v) k = v := by
  unfold Tab.get Tab.set
  split
  · next h => simp [Tab.find_erase_same, h]
  · simp [Tab.find_place_same _ _ _ (Tab.find_erase_same t k)]

/-- A write leaves every other key alone. -/
theorem Tab.get_set_ne [DecidableEq α] (d : Nat → α) (t : Tab α) (k l : Nat) (v : α) (h : l ≠ k) :
    Tab.get d (Tab.set d t k v) l = Tab.get d t l := by
  unfold Tab.get Tab.set
  split <;> simp [Tab.find_place_ne _ _ _ _ h, Tab.find_erase_ne _ _ _ h]

/-- A read after a write, both ways at once. -/
theorem Tab.get_set [DecidableEq α] (d : Nat → α) (t : Tab α) (k l : Nat) (v : α) :
    Tab.get d (Tab.set d t k v) l = if l = k then v else Tab.get d t l := by
  split
  · next h => subst h; simp
  · next h => exact Tab.get_set_ne d t k l v h

theorem Tab.find_keep (p : Nat → Bool) (t : Tab α) (k : Nat) :
    Tab.find (Tab.keep p t) k = if p k then Tab.find t k else none := by
  induction t with
  | nil => simp [Tab.keep, Tab.find]
  | cons q t ih =>
    obtain ⟨j, v⟩ := q
    by_cases hj : j = k
    · subst hj; by_cases hp : p j <;> simp [Tab.keep, Tab.find, hp, ih]
    · by_cases hp : p j <;> simp [Tab.keep, Tab.find, hp, ih, hj]

/-- What a reset that keeps only some keys leaves: those keys as they were, every other at its unlisted value. -/
theorem Tab.get_keep (d : Nat → α) (p : Nat → Bool) (t : Tab α) (k : Nat) :
    Tab.get d (Tab.keep p t) k = if p k then Tab.get d t k else d k := by
  unfold Tab.get; rw [Tab.find_keep]; split <;> simp

theorem Tab.above_erase (n : Nat) (t : Tab α) (k : Nat) (h : Tab.above n t = true) :
    Tab.above n (Tab.erase t k) = true := by
  induction t with
  | nil => rfl
  | cons p t ih =>
    obtain ⟨j, v⟩ := p
    simp only [Tab.above, Bool.and_eq_true, decide_eq_true_eq] at h
    by_cases hj : j = k <;> simp [Tab.erase, Tab.above, hj, ih h.2]
    omega

theorem Tab.above_place (n : Nat) (t : Tab α) (k : Nat) (v : α) (hk : n < k) (h : Tab.above n t = true) :
    Tab.above n (Tab.place t k v) = true := by
  induction t with
  | nil => simp [Tab.place, Tab.above, hk]
  | cons p t ih =>
    obtain ⟨j, x⟩ := p
    simp only [Tab.above, Bool.and_eq_true, decide_eq_true_eq] at h
    by_cases hj : k < j <;> simp [Tab.place, Tab.above, hj, hk, h.1, h.2, ih h.2]

theorem Tab.above_trans (m n : Nat) (t : Tab α) (hm : m < n) (h : Tab.above n t = true) : Tab.above m t = true := by
  induction t with
  | nil => rfl
  | cons p t ih =>
    obtain ⟨j, x⟩ := p
    simp only [Tab.above, Bool.and_eq_true, decide_eq_true_eq] at h
    simp [Tab.above, ih h.2]; omega

theorem Tab.above_keep (n : Nat) (p : Nat → Bool) (t : Tab α) (h : Tab.above n t = true) :
    Tab.above n (Tab.keep p t) = true := by
  induction t with
  | nil => rfl
  | cons q t ih =>
    obtain ⟨j, x⟩ := q
    simp only [Tab.above, Bool.and_eq_true, decide_eq_true_eq] at h
    by_cases hp : p j <;> simp [Tab.keep, Tab.above, hp, ih h.2, h.1]

theorem Tab.wf_erase [DecidableEq α] (d : Nat → α) (t : Tab α) (k : Nat) (h : Tab.wf d t = true) :
    Tab.wf d (Tab.erase t k) = true := by
  induction t with
  | nil => rfl
  | cons p t ih =>
    obtain ⟨j, v⟩ := p
    simp only [Tab.wf, Bool.and_eq_true] at h
    by_cases hj : j = k
    · simp [Tab.erase, hj, ih h.2]
    · simp only [Tab.erase, hj, if_false, Tab.wf, Bool.and_eq_true]
      exact ⟨⟨h.1.1, Tab.above_erase j t k h.1.2⟩, ih h.2⟩

theorem Tab.wf_place [DecidableEq α] (d : Nat → α) (t : Tab α) (k : Nat) (v : α) (hv : v ≠ d k)
    (hk : Tab.find t k = none) (h : Tab.wf d t = true) : Tab.wf d (Tab.place t k v) = true := by
  induction t with
  | nil => simp [Tab.place, Tab.wf, Tab.above, hv]
  | cons p t ih =>
    obtain ⟨j, x⟩ := p
    simp only [Tab.wf, Bool.and_eq_true] at h
    by_cases hj : j = k
    · simp [Tab.find, hj] at hk
    · simp only [Tab.find, hj, if_false] at hk
      by_cases hl : k < j
      · rw [Tab.place, if_pos hl]
        simp only [Tab.wf, Tab.above, Bool.and_eq_true, decide_eq_true_eq]
        exact ⟨⟨hv, hl, Tab.above_trans k j t hl h.1.2⟩, ⟨of_decide_eq_true h.1.1, h.1.2⟩, h.2⟩
      · rw [Tab.place, if_neg hl]
        simp only [Tab.wf, Bool.and_eq_true]
        exact ⟨⟨h.1.1, Tab.above_place j t k v (by omega) h.1.2⟩, ih hk h.2⟩

/-- A write keeps the canonical form. -/
theorem Tab.wf_set [DecidableEq α] (d : Nat → α) (t : Tab α) (k : Nat) (v : α) (h : Tab.wf d t = true) :
    Tab.wf d (Tab.set d t k v) = true := by
  unfold Tab.set
  split
  · exact Tab.wf_erase d t k h
  · next hv => exact Tab.wf_place d _ k v hv (Tab.find_erase_same t k) (Tab.wf_erase d t k h)

/-- A reset of entries keeps the canonical form. -/
theorem Tab.wf_keep [DecidableEq α] (d : Nat → α) (p : Nat → Bool) (t : Tab α) (h : Tab.wf d t = true) :
    Tab.wf d (Tab.keep p t) = true := by
  induction t with
  | nil => rfl
  | cons q t ih =>
    obtain ⟨j, v⟩ := q
    simp only [Tab.wf, Bool.and_eq_true] at h
    by_cases hp : p j
    · simp only [Tab.keep, hp, if_true, Tab.wf, Bool.and_eq_true]
      exact ⟨⟨h.1.1, Tab.above_keep j p t h.1.2⟩, ih h.2⟩
    · simp [Tab.keep, hp, ih h.2]

end Sys2Proof.Machine
end

