-- ==== Sys2Proof/Laws/State.lean ====
section
/-!
SUPPORT. What each named write does, said once: the field it writes, and that every other field is as it was (the lemmas
named `_rest`, one conjunct a field, which `simp` uses one by one); what a read gives after a write; and what every named
write keeps: the queue of waiting commands and the canonical form of every table.
-/

namespace Sys2Proof.Machine

variable {s₀ : State}

/-! ## All fields but one -/

/-- The fields up to `t64` are the same. -/
abbrev State.upTo_t64 (s t : State) : Prop := t.t64 = s.t64

/-- The fields up to `freeCnt` are the same. -/
abbrev State.upTo_freeCnt (s t : State) : Prop := State.upTo_t64 s t ∧ t.freeCnt = s.freeCnt

/-- The fields up to `phase` are the same. -/
abbrev State.upTo_phase (s t : State) : Prop := State.upTo_freeCnt s t ∧ t.phase = s.phase

/-- The fields up to `small` are the same. -/
abbrev State.upTo_small (s t : State) : Prop := State.upTo_phase s t ∧ t.small = s.small

/-- The fields up to `eng` are the same. -/
abbrev State.upTo_eng (s t : State) : Prop := State.upTo_small s t ∧ t.eng = s.eng

/-- The fields up to `regs` are the same. -/
abbrev State.upTo_regs (s t : State) : Prop := State.upTo_eng s t ∧ t.regs = s.regs

/-- The fields up to `fre` are the same. -/
abbrev State.upTo_fre (s t : State) : Prop := State.upTo_regs s t ∧ t.fre = s.fre

/-- The fields up to `capHw` are the same. -/
abbrev State.upTo_capHw (s t : State) : Prop := State.upTo_fre s t ∧ t.capHw = s.capHw

/-- The fields up to `cap` are the same. -/
abbrev State.upTo_cap (s t : State) : Prop := State.upTo_capHw s t ∧ t.cap = s.cap

/-- The fields up to `cal` are the same. -/
abbrev State.upTo_cal (s t : State) : Prop := State.upTo_cap s t ∧ t.cal = s.cal

/-- The fields up to `calBlk` are the same. -/
abbrev State.upTo_calBlk (s t : State) : Prop := State.upTo_cal s t ∧ t.calBlk = s.calBlk

/-- The fields up to `vault` are the same. -/
abbrev State.upTo_vault (s t : State) : Prop := State.upTo_calBlk s t ∧ t.vault = s.vault

/-- The fields up to `vaultQ` are the same. -/
abbrev State.upTo_vaultQ (s t : State) : Prop := State.upTo_vault s t ∧ t.vaultQ = s.vaultQ

/-- The fields up to `vaultWr` are the same. -/
abbrev State.upTo_vaultWr (s t : State) : Prop := State.upTo_vaultQ s t ∧ t.vaultWr = s.vaultWr

/-- The fields up to `cnt` are the same. -/
abbrev State.upTo_cnt (s t : State) : Prop := State.upTo_vaultWr s t ∧ t.cnt = s.cnt

/-- The fields up to `pair` are the same. -/
abbrev State.upTo_pair (s t : State) : Prop := State.upTo_cnt s t ∧ t.pair = s.pair

/-- The fields up to `axis` are the same. -/
abbrev State.upTo_axis (s t : State) : Prop := State.upTo_pair s t ∧ t.axis = s.axis

/-- The fields up to `tim` are the same. -/
abbrev State.upTo_tim (s t : State) : Prop := State.upTo_axis s t ∧ t.tim = s.tim

/-- The fields up to `clk` are the same. -/
abbrev State.upTo_clk (s t : State) : Prop := State.upTo_tim s t ∧ t.clk = s.clk

/-- The fields up to `mark` are the same. -/
abbrev State.upTo_mark (s t : State) : Prop := State.upTo_clk s t ∧ t.mark = s.mark

/-- The fields up to `merge` are the same. -/
abbrev State.upTo_merge (s t : State) : Prop := State.upTo_mark s t ∧ t.merge = s.merge

/-- The fields up to `prog` are the same. -/
abbrev State.upTo_prog (s t : State) : Prop := State.upTo_merge s t ∧ t.prog = s.prog

/-- The fields up to `back` are the same. -/
abbrev State.upTo_back (s t : State) : Prop := State.upTo_prog s t ∧ t.back = s.back

/-- The fields up to `weav` are the same. -/
abbrev State.upTo_weav (s t : State) : Prop := State.upTo_back s t ∧ t.weav = s.weav

/-- The fields up to `open_` are the same. -/
abbrev State.upTo_open_ (s t : State) : Prop := State.upTo_weav s t ∧ t.open_ = s.open_

/-- The fields up to `wait` are the same. -/
abbrev State.upTo_wait (s t : State) : Prop := State.upTo_open_ s t ∧ t.wait = s.wait

/-- The fields up to `granted` are the same. -/
abbrev State.upTo_granted (s t : State) : Prop := State.upTo_wait s t ∧ t.granted = s.granted

/-- The fields up to `waiters` are the same. -/
abbrev State.upTo_waiters (s t : State) : Prop := State.upTo_granted s t ∧ t.waiters = s.waiters

/-- The fields up to `que` are the same. -/
abbrev State.upTo_que (s t : State) : Prop := State.upTo_waiters s t ∧ t.que = s.que

/-- The fields up to `store` are the same. -/
abbrev State.upTo_store (s t : State) : Prop := State.upTo_que s t ∧ t.store = s.store

/-- The fields up to `ue` are the same. -/
abbrev State.upTo_ue (s t : State) : Prop := State.upTo_store s t ∧ t.ue = s.ue

/-- The fields up to `ce` are the same. -/
abbrev State.upTo_ce (s t : State) : Prop := State.upTo_ue s t ∧ t.ce = s.ce

/-- The fields up to `refresh` are the same. -/
abbrev State.upTo_refresh (s t : State) : Prop := State.upTo_ce s t ∧ t.refresh = s.refresh

/-- The fields up to `pool` are the same. -/
abbrev State.upTo_pool (s t : State) : Prop := State.upTo_refresh s t ∧ t.pool = s.pool

/-- The fields up to `flt` are the same. -/
abbrev State.upTo_flt (s t : State) : Prop := State.upTo_pool s t ∧ t.flt = s.flt

/-- The fields up to `he` are the same. -/
abbrev State.upTo_he (s t : State) : Prop := State.upTo_flt s t ∧ t.he = s.he

/-- The fields up to `muOn` are the same. -/
abbrev State.upTo_muOn (s t : State) : Prop := State.upTo_he s t ∧ t.muOn = s.muOn

/-- The fields up to `ringC` are the same. -/
abbrev State.upTo_ringC (s t : State) : Prop := State.upTo_muOn s t ∧ t.ringC = s.ringC

/-- The fields up to `dmaRr` are the same. -/
abbrev State.upTo_dmaRr (s t : State) : Prop := State.upTo_ringC s t ∧ t.dmaRr = s.dmaRr

/-- The fields up to `src` are the same. -/
abbrev State.upTo_src (s t : State) : Prop := State.upTo_dmaRr s t ∧ t.src = s.src

/-- The fields up to `modT` are the same. -/
abbrev State.upTo_modT (s t : State) : Prop := State.upTo_src s t ∧ t.modT = s.modT

/-- The fields up to `core` are the same. -/
abbrev State.upTo_core (s t : State) : Prop := State.upTo_modT s t ∧ t.core = s.core

/-- The fields up to `vec` are the same. -/
abbrev State.upTo_vec (s t : State) : Prop := State.upTo_core s t ∧ t.vec = s.vec

/-- The fields up to `fn` are the same. -/
abbrev State.upTo_fn (s t : State) : Prop := State.upTo_vec s t ∧ t.fn = s.fn

/-- The fields up to `host` are the same. -/
abbrev State.upTo_host (s t : State) : Prop := State.upTo_fn s t ∧ t.host = s.host

/-- The fields up to `hostErr` are the same. -/
abbrev State.upTo_hostErr (s t : State) : Prop := State.upTo_host s t ∧ t.hostErr = s.hostErr

/-- The fields up to `guest` are the same. -/
abbrev State.upTo_guest (s t : State) : Prop := State.upTo_hostErr s t ∧ t.guest = s.guest

/-- The fields up to `ep` are the same. -/
abbrev State.upTo_ep (s t : State) : Prop := State.upTo_guest s t ∧ t.ep = s.ep

/-- The fields up to `slot` are the same. -/
abbrev State.upTo_slot (s t : State) : Prop := State.upTo_ep s t ∧ t.slot = s.slot

/-- The fields up to `jobs` are the same. -/
abbrev State.upTo_jobs (s t : State) : Prop := State.upTo_slot s t ∧ t.jobs = s.jobs

/-- The fields up to `learn` are the same. -/
abbrev State.upTo_learn (s t : State) : Prop := State.upTo_jobs s t ∧ t.learn = s.learn

/-- The fields up to `claimEp` are the same. -/
abbrev State.upTo_claimEp (s t : State) : Prop := State.upTo_learn s t ∧ t.claimEp = s.claimEp

/-- The fields up to `owner` are the same. -/
abbrev State.upTo_owner (s t : State) : Prop := State.upTo_claimEp s t ∧ t.owner = s.owner

/-- The fields up to `alloc` are the same. -/
abbrev State.upTo_alloc (s t : State) : Prop := State.upTo_owner s t ∧ t.alloc = s.alloc

/-- The fields up to `lastEp` are the same. -/
abbrev State.upTo_lastEp (s t : State) : Prop := State.upTo_alloc s t ∧ t.lastEp = s.lastEp

/-- The fields up to `errlog` are the same. -/
abbrev State.upTo_errlog (s t : State) : Prop := State.upTo_lastEp s t ∧ t.errlog = s.errlog

/-- The fields up to `wlink` are the same. -/
abbrev State.upTo_wlink (s t : State) : Prop := State.upTo_errlog s t ∧ t.wlink = s.wlink

/-- The fields up to `grp` are the same. -/
abbrev State.upTo_grp (s t : State) : Prop := State.upTo_wlink s t ∧ t.grp = s.grp

/-- The fields up to `port` are the same. -/
abbrev State.upTo_port (s t : State) : Prop := State.upTo_grp s t ∧ t.port = s.port

/-- The fields up to `chan` are the same. -/
abbrev State.upTo_chan (s t : State) : Prop := State.upTo_port s t ∧ t.chan = s.chan

/-- The fields up to `lnk` are the same. -/
abbrev State.upTo_lnk (s t : State) : Prop := State.upTo_chan s t ∧ t.lnk = s.lnk

/-- The fields up to `sens` are the same. -/
abbrev State.upTo_sens (s t : State) : Prop := State.upTo_lnk s t ∧ t.sens = s.sens

/-- The fields up to `fuse` are the same. -/
abbrev State.upTo_fuse (s t : State) : Prop := State.upTo_sens s t ∧ t.fuse = s.fuse

/-- The fields up to `nonce` are the same. -/
abbrev State.upTo_nonce (s t : State) : Prop := State.upTo_fuse s t ∧ t.nonce = s.nonce

/-- The fields up to `jtag` are the same. -/
abbrev State.upTo_jtag (s t : State) : Prop := State.upTo_nonce s t ∧ t.jtag = s.jtag

/-- The fields up to `shad` are the same. -/
abbrev State.upTo_shad (s t : State) : Prop := State.upTo_jtag s t ∧ t.shad = s.shad

/-- The fields up to `i2c` are the same. -/
abbrev State.upTo_i2c (s t : State) : Prop := State.upTo_shad s t ∧ t.i2c = s.i2c

/-- The fields up to `keep` are the same. -/
abbrev State.upTo_keep (s t : State) : Prop := State.upTo_i2c s t ∧ t.keep = s.keep

/-- The fields up to `pwr` are the same. -/
abbrev State.upTo_pwr (s t : State) : Prop := State.upTo_keep s t ∧ t.pwr = s.pwr

/-- The fields up to `pending` are the same. -/
abbrev State.upTo_pending (s t : State) : Prop := State.upTo_pwr s t ∧ t.pending = s.pending

/-- The fields from `pending` on are the same. -/
abbrev State.from_pending (s t : State) : Prop := t.pending = s.pending

/-- The fields from `pwr` on are the same. -/
abbrev State.from_pwr (s t : State) : Prop := t.pwr = s.pwr ∧ State.from_pending s t

/-- The fields from `keep` on are the same. -/
abbrev State.from_keep (s t : State) : Prop := t.keep = s.keep ∧ State.from_pwr s t

/-- The fields from `i2c` on are the same. -/
abbrev State.from_i2c (s t : State) : Prop := t.i2c = s.i2c ∧ State.from_keep s t

/-- The fields from `shad` on are the same. -/
abbrev State.from_shad (s t : State) : Prop := t.shad = s.shad ∧ State.from_i2c s t

/-- The fields from `jtag` on are the same. -/
abbrev State.from_jtag (s t : State) : Prop := t.jtag = s.jtag ∧ State.from_shad s t

/-- The fields from `nonce` on are the same. -/
abbrev State.from_nonce (s t : State) : Prop := t.nonce = s.nonce ∧ State.from_jtag s t

/-- The fields from `fuse` on are the same. -/
abbrev State.from_fuse (s t : State) : Prop := t.fuse = s.fuse ∧ State.from_nonce s t

/-- The fields from `sens` on are the same. -/
abbrev State.from_sens (s t : State) : Prop := t.sens = s.sens ∧ State.from_fuse s t

/-- The fields from `lnk` on are the same. -/
abbrev State.from_lnk (s t : State) : Prop := t.lnk = s.lnk ∧ State.from_sens s t

/-- The fields from `chan` on are the same. -/
abbrev State.from_chan (s t : State) : Prop := t.chan = s.chan ∧ State.from_lnk s t

/-- The fields from `port` on are the same. -/
abbrev State.from_port (s t : State) : Prop := t.port = s.port ∧ State.from_chan s t

/-- The fields from `grp` on are the same. -/
abbrev State.from_grp (s t : State) : Prop := t.grp = s.grp ∧ State.from_port s t

/-- The fields from `wlink` on are the same. -/
abbrev State.from_wlink (s t : State) : Prop := t.wlink = s.wlink ∧ State.from_grp s t

/-- The fields from `errlog` on are the same. -/
abbrev State.from_errlog (s t : State) : Prop := t.errlog = s.errlog ∧ State.from_wlink s t

/-- The fields from `lastEp` on are the same. -/
abbrev State.from_lastEp (s t : State) : Prop := t.lastEp = s.lastEp ∧ State.from_errlog s t

/-- The fields from `alloc` on are the same. -/
abbrev State.from_alloc (s t : State) : Prop := t.alloc = s.alloc ∧ State.from_lastEp s t

/-- The fields from `owner` on are the same. -/
abbrev State.from_owner (s t : State) : Prop := t.owner = s.owner ∧ State.from_alloc s t

/-- The fields from `claimEp` on are the same. -/
abbrev State.from_claimEp (s t : State) : Prop := t.claimEp = s.claimEp ∧ State.from_owner s t

/-- The fields from `learn` on are the same. -/
abbrev State.from_learn (s t : State) : Prop := t.learn = s.learn ∧ State.from_claimEp s t

/-- The fields from `jobs` on are the same. -/
abbrev State.from_jobs (s t : State) : Prop := t.jobs = s.jobs ∧ State.from_learn s t

/-- The fields from `slot` on are the same. -/
abbrev State.from_slot (s t : State) : Prop := t.slot = s.slot ∧ State.from_jobs s t

/-- The fields from `ep` on are the same. -/
abbrev State.from_ep (s t : State) : Prop := t.ep = s.ep ∧ State.from_slot s t

/-- The fields from `guest` on are the same. -/
abbrev State.from_guest (s t : State) : Prop := t.guest = s.guest ∧ State.from_ep s t

/-- The fields from `hostErr` on are the same. -/
abbrev State.from_hostErr (s t : State) : Prop := t.hostErr = s.hostErr ∧ State.from_guest s t

/-- The fields from `host` on are the same. -/
abbrev State.from_host (s t : State) : Prop := t.host = s.host ∧ State.from_hostErr s t

/-- The fields from `fn` on are the same. -/
abbrev State.from_fn (s t : State) : Prop := t.fn = s.fn ∧ State.from_host s t

/-- The fields from `vec` on are the same. -/
abbrev State.from_vec (s t : State) : Prop := t.vec = s.vec ∧ State.from_fn s t

/-- The fields from `core` on are the same. -/
abbrev State.from_core (s t : State) : Prop := t.core = s.core ∧ State.from_vec s t

/-- The fields from `modT` on are the same. -/
abbrev State.from_modT (s t : State) : Prop := t.modT = s.modT ∧ State.from_core s t

/-- The fields from `src` on are the same. -/
abbrev State.from_src (s t : State) : Prop := t.src = s.src ∧ State.from_modT s t

/-- The fields from `dmaRr` on are the same. -/
abbrev State.from_dmaRr (s t : State) : Prop := t.dmaRr = s.dmaRr ∧ State.from_src s t

/-- The fields from `ringC` on are the same. -/
abbrev State.from_ringC (s t : State) : Prop := t.ringC = s.ringC ∧ State.from_dmaRr s t

/-- The fields from `muOn` on are the same. -/
abbrev State.from_muOn (s t : State) : Prop := t.muOn = s.muOn ∧ State.from_ringC s t

/-- The fields from `he` on are the same. -/
abbrev State.from_he (s t : State) : Prop := t.he = s.he ∧ State.from_muOn s t

/-- The fields from `flt` on are the same. -/
abbrev State.from_flt (s t : State) : Prop := t.flt = s.flt ∧ State.from_he s t

/-- The fields from `pool` on are the same. -/
abbrev State.from_pool (s t : State) : Prop := t.pool = s.pool ∧ State.from_flt s t

/-- The fields from `refresh` on are the same. -/
abbrev State.from_refresh (s t : State) : Prop := t.refresh = s.refresh ∧ State.from_pool s t

/-- The fields from `ce` on are the same. -/
abbrev State.from_ce (s t : State) : Prop := t.ce = s.ce ∧ State.from_refresh s t

/-- The fields from `ue` on are the same. -/
abbrev State.from_ue (s t : State) : Prop := t.ue = s.ue ∧ State.from_ce s t

/-- The fields from `store` on are the same. -/
abbrev State.from_store (s t : State) : Prop := t.store = s.store ∧ State.from_ue s t

/-- The fields from `que` on are the same. -/
abbrev State.from_que (s t : State) : Prop := t.que = s.que ∧ State.from_store s t

/-- The fields from `waiters` on are the same. -/
abbrev State.from_waiters (s t : State) : Prop := t.waiters = s.waiters ∧ State.from_que s t

/-- The fields from `granted` on are the same. -/
abbrev State.from_granted (s t : State) : Prop := t.granted = s.granted ∧ State.from_waiters s t

/-- The fields from `wait` on are the same. -/
abbrev State.from_wait (s t : State) : Prop := t.wait = s.wait ∧ State.from_granted s t

/-- The fields from `open_` on are the same. -/
abbrev State.from_open_ (s t : State) : Prop := t.open_ = s.open_ ∧ State.from_wait s t

/-- The fields from `weav` on are the same. -/
abbrev State.from_weav (s t : State) : Prop := t.weav = s.weav ∧ State.from_open_ s t

/-- The fields from `back` on are the same. -/
abbrev State.from_back (s t : State) : Prop := t.back = s.back ∧ State.from_weav s t

/-- The fields from `prog` on are the same. -/
abbrev State.from_prog (s t : State) : Prop := t.prog = s.prog ∧ State.from_back s t

/-- The fields from `merge` on are the same. -/
abbrev State.from_merge (s t : State) : Prop := t.merge = s.merge ∧ State.from_prog s t

/-- The fields from `mark` on are the same. -/
abbrev State.from_mark (s t : State) : Prop := t.mark = s.mark ∧ State.from_merge s t

/-- The fields from `clk` on are the same. -/
abbrev State.from_clk (s t : State) : Prop := t.clk = s.clk ∧ State.from_mark s t

/-- The fields from `tim` on are the same. -/
abbrev State.from_tim (s t : State) : Prop := t.tim = s.tim ∧ State.from_clk s t

/-- The fields from `axis` on are the same. -/
abbrev State.from_axis (s t : State) : Prop := t.axis = s.axis ∧ State.from_tim s t

/-- The fields from `pair` on are the same. -/
abbrev State.from_pair (s t : State) : Prop := t.pair = s.pair ∧ State.from_axis s t

/-- The fields from `cnt` on are the same. -/
abbrev State.from_cnt (s t : State) : Prop := t.cnt = s.cnt ∧ State.from_pair s t

/-- The fields from `vaultWr` on are the same. -/
abbrev State.from_vaultWr (s t : State) : Prop := t.vaultWr = s.vaultWr ∧ State.from_cnt s t

/-- The fields from `vaultQ` on are the same. -/
abbrev State.from_vaultQ (s t : State) : Prop := t.vaultQ = s.vaultQ ∧ State.from_vaultWr s t

/-- The fields from `vault` on are the same. -/
abbrev State.from_vault (s t : State) : Prop := t.vault = s.vault ∧ State.from_vaultQ s t

/-- The fields from `calBlk` on are the same. -/
abbrev State.from_calBlk (s t : State) : Prop := t.calBlk = s.calBlk ∧ State.from_vault s t

/-- The fields from `cal` on are the same. -/
abbrev State.from_cal (s t : State) : Prop := t.cal = s.cal ∧ State.from_calBlk s t

/-- The fields from `cap` on are the same. -/
abbrev State.from_cap (s t : State) : Prop := t.cap = s.cap ∧ State.from_cal s t

/-- The fields from `capHw` on are the same. -/
abbrev State.from_capHw (s t : State) : Prop := t.capHw = s.capHw ∧ State.from_cap s t

/-- The fields from `fre` on are the same. -/
abbrev State.from_fre (s t : State) : Prop := t.fre = s.fre ∧ State.from_capHw s t

/-- The fields from `regs` on are the same. -/
abbrev State.from_regs (s t : State) : Prop := t.regs = s.regs ∧ State.from_fre s t

/-- The fields from `eng` on are the same. -/
abbrev State.from_eng (s t : State) : Prop := t.eng = s.eng ∧ State.from_regs s t

/-- The fields from `small` on are the same. -/
abbrev State.from_small (s t : State) : Prop := t.small = s.small ∧ State.from_eng s t

/-- The fields from `phase` on are the same. -/
abbrev State.from_phase (s t : State) : Prop := t.phase = s.phase ∧ State.from_small s t

/-- The fields from `freeCnt` on are the same. -/
abbrev State.from_freeCnt (s t : State) : Prop := t.freeCnt = s.freeCnt ∧ State.from_phase s t

/-- The fields from `t64` on are the same. -/
abbrev State.from_t64 (s t : State) : Prop := t.t64 = s.t64 ∧ State.from_freeCnt s t

/-! ## The named writes -/

@[simp] theorem Work.setT64_t64 (w : Work s₀) (x : Nat) : (w.setT64 x).st.t64 = x := rfl

@[simp] theorem Work.setT64_rest (w : Work s₀) (x : Nat) :
    State.from_freeCnt w.st (w.setT64 x).st := by
  repeat' apply And.intro
  all_goals rfl

@[simp] theorem Work.setFreeCnt_freeCnt (w : Work s₀) (x : Nat) : (w.setFreeCnt x).st.freeCnt = x := rfl

@[simp] theorem Work.setFreeCnt_rest (w : Work s₀) (x : Nat) :
    State.upTo_t64 w.st (w.setFreeCnt x).st ∧
    State.from_phase w.st (w.setFreeCnt x).st := by
  repeat' apply And.intro
  all_goals rfl

@[simp] theorem Work.setPhase_phase (w : Work s₀) (x : Nat) : (w.setPhase x).st.phase = x := rfl

@[simp] theorem Work.setPhase_rest (w : Work s₀) (x : Nat) :
    State.upTo_freeCnt w.st (w.setPhase x).st ∧
    State.from_small w.st (w.setPhase x).st := by
  repeat' apply And.intro
  all_goals rfl

@[simp] theorem Work.setSmall_small (w : Work s₀) (x : Bool) : (w.setSmall x).st.small = x := rfl

@[simp] theorem Work.setSmall_rest (w : Work s₀) (x : Bool) :
    State.upTo_phase w.st (w.setSmall x).st ∧
    State.from_eng w.st (w.setSmall x).st := by
  repeat' apply And.intro
  all_goals rfl

@[simp] theorem Work.setEng_eng (w : Work s₀) (x : Eng) : (w.setEng x).st.eng = x := rfl

@[simp] theorem Work.setEng_rest (w : Work s₀) (x : Eng) :
    State.upTo_small w.st (w.setEng x).st ∧
    State.from_regs w.st (w.setEng x).st := by
  repeat' apply And.intro
  all_goals rfl

@[simp] theorem Work.setRegs_regs (w : Work s₀) (k : Nat) (x : Word) : (w.setRegs k x).st.regs = Tab.set Reg.dflt w.st.regs k x := rfl

@[simp] theorem Work.setRegs_rest (w : Work s₀) (k : Nat) (x : Word) :
    State.upTo_eng w.st (w.setRegs k x).st ∧
    State.from_fre w.st (w.setRegs k x).st := by
  repeat' apply And.intro
  all_goals rfl

@[simp] theorem Work.keepRegs_regs (w : Work s₀) (p : Nat → Bool) : (w.keepRegs p).st.regs = Tab.keep p w.st.regs := rfl

@[simp] theorem Work.keepRegs_rest (w : Work s₀) (p : Nat → Bool) :
    State.upTo_eng w.st (w.keepRegs p).st ∧
    State.from_fre w.st (w.keepRegs p).st := by
  repeat' apply And.intro
  all_goals rfl

@[simp] theorem Work.setFre_fre (w : Work s₀) (k : Nat) (x : FreUnit) : (w.setFre k x).st.fre = Tab.set (fun _ => ({} : FreUnit)) w.st.fre k x := rfl

@[simp] theorem Work.setFre_rest (w : Work s₀) (k : Nat) (x : FreUnit) :
    State.upTo_regs w.st (w.setFre k x).st ∧
    State.from_capHw w.st (w.setFre k x).st := by
  repeat' apply And.intro
  all_goals rfl

@[simp] theorem Work.keepFre_fre (w : Work s₀) (p : Nat → Bool) : (w.keepFre p).st.fre = Tab.keep p w.st.fre := rfl

@[simp] theorem Work.keepFre_rest (w : Work s₀) (p : Nat → Bool) :
    State.upTo_regs w.st (w.keepFre p).st ∧
    State.from_capHw w.st (w.keepFre p).st := by
  repeat' apply And.intro
  all_goals rfl

@[simp] theorem Work.setCapHw_capHw (w : Work s₀) (k : Nat) (x : CapHw) : (w.setCapHw k x).st.capHw = Tab.set (fun _ => ({} : CapHw)) w.st.capHw k x := rfl

@[simp] theorem Work.setCapHw_rest (w : Work s₀) (k : Nat) (x : CapHw) :
    State.upTo_fre w.st (w.setCapHw k x).st ∧
    State.from_cap w.st (w.setCapHw k x).st := by
  repeat' apply And.intro
  all_goals rfl

@[simp] theorem Work.keepCapHw_capHw (w : Work s₀) (p : Nat → Bool) : (w.keepCapHw p).st.capHw = Tab.keep p w.st.capHw := rfl

@[simp] theorem Work.keepCapHw_rest (w : Work s₀) (p : Nat → Bool) :
    State.upTo_fre w.st (w.keepCapHw p).st ∧
    State.from_cap w.st (w.keepCapHw p).st := by
  repeat' apply And.intro
  all_goals rfl

@[simp] theorem Work.setCap_cap (w : Work s₀) (k : Nat) (x : LaneCap) : (w.setCap k x).st.cap = Tab.set (fun _ => ({} : LaneCap)) w.st.cap k x := rfl

@[simp] theorem Work.setCap_rest (w : Work s₀) (k : Nat) (x : LaneCap) :
    State.upTo_capHw w.st (w.setCap k x).st ∧
    State.from_cal w.st (w.setCap k x).st := by
  repeat' apply And.intro
  all_goals rfl

@[simp] theorem Work.keepCap_cap (w : Work s₀) (p : Nat → Bool) : (w.keepCap p).st.cap = Tab.keep p w.st.cap := rfl

@[simp] theorem Work.keepCap_rest (w : Work s₀) (p : Nat → Bool) :
    State.upTo_capHw w.st (w.keepCap p).st ∧
    State.from_cal w.st (w.keepCap p).st := by
  repeat' apply And.intro
  all_goals rfl

@[simp] theorem Work.setCal_cal (w : Work s₀) (k : Nat) (x : CalUnit) : (w.setCal k x).st.cal = Tab.set (fun _ => ({} : CalUnit)) w.st.cal k x := rfl

@[simp] theorem Work.setCal_rest (w : Work s₀) (k : Nat) (x : CalUnit) :
    State.upTo_cap w.st (w.setCal k x).st ∧
    State.from_calBlk w.st (w.setCal k x).st := by
  repeat' apply And.intro
  all_goals rfl

@[simp] theorem Work.keepCal_cal (w : Work s₀) (p : Nat → Bool) : (w.keepCal p).st.cal = Tab.keep p w.st.cal := rfl

@[simp] theorem Work.keepCal_rest (w : Work s₀) (p : Nat → Bool) :
    State.upTo_cap w.st (w.keepCal p).st ∧
    State.from_calBlk w.st (w.keepCal p).st := by
  repeat' apply And.intro
  all_goals rfl

@[simp] theorem Work.setCalBlk_calBlk (w : Work s₀) (k : Nat) (x : CalBlk) : (w.setCalBlk k x).st.calBlk = Tab.set (fun _ => ({} : CalBlk)) w.st.calBlk k x := rfl

@[simp] theorem Work.setCalBlk_rest (w : Work s₀) (k : Nat) (x : CalBlk) :
    State.upTo_cal w.st (w.setCalBlk k x).st ∧
    State.from_vault w.st (w.setCalBlk k x).st := by
  repeat' apply And.intro
  all_goals rfl

@[simp] theorem Work.keepCalBlk_calBlk (w : Work s₀) (p : Nat → Bool) : (w.keepCalBlk p).st.calBlk = Tab.keep p w.st.calBlk := rfl

@[simp] theorem Work.keepCalBlk_rest (w : Work s₀) (p : Nat → Bool) :
    State.upTo_cal w.st (w.keepCalBlk p).st ∧
    State.from_vault w.st (w.keepCalBlk p).st := by
  repeat' apply And.intro
  all_goals rfl

@[simp] theorem Work.setVault_vault (w : Work s₀) (k : Nat) (x : Byte) : (w.setVault k x).st.vault = Tab.set (fun _ => (0 : Byte)) w.st.vault k x := rfl

@[simp] theorem Work.setVault_rest (w : Work s₀) (k : Nat) (x : Byte) :
    State.upTo_calBlk w.st (w.setVault k x).st ∧
    State.from_vaultQ w.st (w.setVault k x).st := by
  repeat' apply And.intro
  all_goals rfl

@[simp] theorem Work.keepVault_vault (w : Work s₀) (p : Nat → Bool) : (w.keepVault p).st.vault = Tab.keep p w.st.vault := rfl

@[simp] theorem Work.keepVault_rest (w : Work s₀) (p : Nat → Bool) :
    State.upTo_calBlk w.st (w.keepVault p).st ∧
    State.from_vaultQ w.st (w.keepVault p).st := by
  repeat' apply And.intro
  all_goals rfl

@[simp] theorem Work.setVaultQ_vaultQ (w : Work s₀) (x : List Nat) : (w.setVaultQ x).st.vaultQ = x := rfl

@[simp] theorem Work.setVaultQ_rest (w : Work s₀) (x : List Nat) :
    State.upTo_vault w.st (w.setVaultQ x).st ∧
    State.from_vaultWr w.st (w.setVaultQ x).st := by
  repeat' apply And.intro
  all_goals rfl

@[simp] theorem Work.setVaultWr_vaultWr (w : Work s₀) (x : Option VaultWr) : (w.setVaultWr x).st.vaultWr = x := rfl

@[simp] theorem Work.setVaultWr_rest (w : Work s₀) (x : Option VaultWr) :
    State.upTo_vaultQ w.st (w.setVaultWr x).st ∧
    State.from_cnt w.st (w.setVaultWr x).st := by
  repeat' apply And.intro
  all_goals rfl

@[simp] theorem Work.setCnt_cnt (w : Work s₀) (k : Nat) (x : CntUnit) : (w.setCnt k x).st.cnt = Tab.set (fun _ => ({} : CntUnit)) w.st.cnt k x := rfl

@[simp] theorem Work.setCnt_rest (w : Work s₀) (k : Nat) (x : CntUnit) :
    State.upTo_vaultWr w.st (w.setCnt k x).st ∧
    State.from_pair w.st (w.setCnt k x).st := by
  repeat' apply And.intro
  all_goals rfl

@[simp] theorem Work.keepCnt_cnt (w : Work s₀) (p : Nat → Bool) : (w.keepCnt p).st.cnt = Tab.keep p w.st.cnt := rfl

@[simp] theorem Work.keepCnt_rest (w : Work s₀) (p : Nat → Bool) :
    State.upTo_vaultWr w.st (w.keepCnt p).st ∧
    State.from_pair w.st (w.keepCnt p).st := by
  repeat' apply And.intro
  all_goals rfl

@[simp] theorem Work.setPair_pair (w : Work s₀) (k : Nat) (x : PairSt) : (w.setPair k x).st.pair = Tab.set (fun _ => ({} : PairSt)) w.st.pair k x := rfl

@[simp] theorem Work.setPair_rest (w : Work s₀) (k : Nat) (x : PairSt) :
    State.upTo_cnt w.st (w.setPair k x).st ∧
    State.from_axis w.st (w.setPair k x).st := by
  repeat' apply And.intro
  all_goals rfl

@[simp] theorem Work.keepPair_pair (w : Work s₀) (p : Nat → Bool) : (w.keepPair p).st.pair = Tab.keep p w.st.pair := rfl

@[simp] theorem Work.keepPair_rest (w : Work s₀) (p : Nat → Bool) :
    State.upTo_cnt w.st (w.keepPair p).st ∧
    State.from_axis w.st (w.keepPair p).st := by
  repeat' apply And.intro
  all_goals rfl

@[simp] theorem Work.setAxis_axis (w : Work s₀) (x : AxisSt) : (w.setAxis x).st.axis = x := rfl

@[simp] theorem Work.setAxis_rest (w : Work s₀) (x : AxisSt) :
    State.upTo_pair w.st (w.setAxis x).st ∧
    State.from_tim w.st (w.setAxis x).st := by
  repeat' apply And.intro
  all_goals rfl

@[simp] theorem Work.setTim_tim (w : Work s₀) (x : TimSt) : (w.setTim x).st.tim = x := rfl

@[simp] theorem Work.setTim_rest (w : Work s₀) (x : TimSt) :
    State.upTo_axis w.st (w.setTim x).st ∧
    State.from_clk w.st (w.setTim x).st := by
  repeat' apply And.intro
  all_goals rfl

@[simp] theorem Work.setClk_clk (w : Work s₀) (k : Nat) (x : Word) : (w.setClk k x).st.clk = Tab.set (fun _ => (0x40 : Word)) w.st.clk k x := rfl

@[simp] theorem Work.setClk_rest (w : Work s₀) (k : Nat) (x : Word) :
    State.upTo_tim w.st (w.setClk k x).st ∧
    State.from_mark w.st (w.setClk k x).st := by
  repeat' apply And.intro
  all_goals rfl

@[simp] theorem Work.keepClk_clk (w : Work s₀) (p : Nat → Bool) : (w.keepClk p).st.clk = Tab.keep p w.st.clk := rfl

@[simp] theorem Work.keepClk_rest (w : Work s₀) (p : Nat → Bool) :
    State.upTo_tim w.st (w.keepClk p).st ∧
    State.from_mark w.st (w.keepClk p).st := by
  repeat' apply And.intro
  all_goals rfl

@[simp] theorem Work.setMark_mark (w : Work s₀) (k : Nat) (x : MarkSt) : (w.setMark k x).st.mark = Tab.set (fun _ => ({} : MarkSt)) w.st.mark k x := rfl

@[simp] theorem Work.setMark_rest (w : Work s₀) (k : Nat) (x : MarkSt) :
    State.upTo_clk w.st (w.setMark k x).st ∧
    State.from_merge w.st (w.setMark k x).st := by
  repeat' apply And.intro
  all_goals rfl

@[simp] theorem Work.keepMark_mark (w : Work s₀) (p : Nat → Bool) : (w.keepMark p).st.mark = Tab.keep p w.st.mark := rfl

@[simp] theorem Work.keepMark_rest (w : Work s₀) (p : Nat → Bool) :
    State.upTo_clk w.st (w.keepMark p).st ∧
    State.from_merge w.st (w.keepMark p).st := by
  repeat' apply And.intro
  all_goals rfl

@[simp] theorem Work.setMerge_merge (w : Work s₀) (k : Nat) (x : MergeSt) : (w.setMerge k x).st.merge = Tab.set (fun _ => ({} : MergeSt)) w.st.merge k x := rfl

@[simp] theorem Work.setMerge_rest (w : Work s₀) (k : Nat) (x : MergeSt) :
    State.upTo_mark w.st (w.setMerge k x).st ∧
    State.from_prog w.st (w.setMerge k x).st := by
  repeat' apply And.intro
  all_goals rfl

@[simp] theorem Work.keepMerge_merge (w : Work s₀) (p : Nat → Bool) : (w.keepMerge p).st.merge = Tab.keep p w.st.merge := rfl

@[simp] theorem Work.keepMerge_rest (w : Work s₀) (p : Nat → Bool) :
    State.upTo_mark w.st (w.keepMerge p).st ∧
    State.from_prog w.st (w.keepMerge p).st := by
  repeat' apply And.intro
  all_goals rfl

@[simp] theorem Work.setProg_prog (w : Work s₀) (k : Nat) (x : Nat) : (w.setProg k x).st.prog = Tab.set (fun _ => (0 : Nat)) w.st.prog k x := rfl

@[simp] theorem Work.setProg_rest (w : Work s₀) (k : Nat) (x : Nat) :
    State.upTo_merge w.st (w.setProg k x).st ∧
    State.from_back w.st (w.setProg k x).st := by
  repeat' apply And.intro
  all_goals rfl

@[simp] theorem Work.keepProg_prog (w : Work s₀) (p : Nat → Bool) : (w.keepProg p).st.prog = Tab.keep p w.st.prog := rfl

@[simp] theorem Work.keepProg_rest (w : Work s₀) (p : Nat → Bool) :
    State.upTo_merge w.st (w.keepProg p).st ∧
    State.from_back w.st (w.keepProg p).st := by
  repeat' apply And.intro
  all_goals rfl

@[simp] theorem Work.setBack_back (w : Work s₀) (x : List (Nat × Nat × Nat × Rec)) : (w.setBack x).st.back = x := rfl

@[simp] theorem Work.setBack_rest (w : Work s₀) (x : List (Nat × Nat × Nat × Rec)) :
    State.upTo_prog w.st (w.setBack x).st ∧
    State.from_weav w.st (w.setBack x).st := by
  repeat' apply And.intro
  all_goals rfl

@[simp] theorem Work.setWeav_weav (w : Work s₀) (k : Nat) (x : WeavSt) : (w.setWeav k x).st.weav = Tab.set (fun _ => ({} : WeavSt)) w.st.weav k x := rfl

@[simp] theorem Work.setWeav_rest (w : Work s₀) (k : Nat) (x : WeavSt) :
    State.upTo_back w.st (w.setWeav k x).st ∧
    State.from_open_ w.st (w.setWeav k x).st := by
  repeat' apply And.intro
  all_goals rfl

@[simp] theorem Work.keepWeav_weav (w : Work s₀) (p : Nat → Bool) : (w.keepWeav p).st.weav = Tab.keep p w.st.weav := rfl

@[simp] theorem Work.keepWeav_rest (w : Work s₀) (p : Nat → Bool) :
    State.upTo_back w.st (w.keepWeav p).st ∧
    State.from_open_ w.st (w.keepWeav p).st := by
  repeat' apply And.intro
  all_goals rfl

@[simp] theorem Work.setOpen__open_ (w : Work s₀) (x : List Bundle) : (w.setOpen_ x).st.open_ = x := rfl

@[simp] theorem Work.setOpen__rest (w : Work s₀) (x : List Bundle) :
    State.upTo_weav w.st (w.setOpen_ x).st ∧
    State.from_wait w.st (w.setOpen_ x).st := by
  repeat' apply And.intro
  all_goals rfl

@[simp] theorem Work.setWait_wait (w : Work s₀) (x : List Bundle) : (w.setWait x).st.wait = x := rfl

@[simp] theorem Work.setWait_rest (w : Work s₀) (x : List Bundle) :
    State.upTo_open_ w.st (w.setWait x).st ∧
    State.from_granted w.st (w.setWait x).st := by
  repeat' apply And.intro
  all_goals rfl

@[simp] theorem Work.setGranted_granted (w : Work s₀) (x : List Nat) : (w.setGranted x).st.granted = x := rfl

@[simp] theorem Work.setGranted_rest (w : Work s₀) (x : List Nat) :
    State.upTo_wait w.st (w.setGranted x).st ∧
    State.from_waiters w.st (w.setGranted x).st := by
  repeat' apply And.intro
  all_goals rfl

@[simp] theorem Work.setWaiters_waiters (w : Work s₀) (x : List Nat) : (w.setWaiters x).st.waiters = x := rfl

@[simp] theorem Work.setWaiters_rest (w : Work s₀) (x : List Nat) :
    State.upTo_granted w.st (w.setWaiters x).st ∧
    State.from_que w.st (w.setWaiters x).st := by
  repeat' apply And.intro
  all_goals rfl

@[simp] theorem Work.setQue_que (w : Work s₀) (k : Nat) (x : QueSt) : (w.setQue k x).st.que = Tab.set (fun _ => ({} : QueSt)) w.st.que k x := rfl

@[simp] theorem Work.setQue_rest (w : Work s₀) (k : Nat) (x : QueSt) :
    State.upTo_waiters w.st (w.setQue k x).st ∧
    State.from_store w.st (w.setQue k x).st := by
  repeat' apply And.intro
  all_goals rfl

@[simp] theorem Work.keepQue_que (w : Work s₀) (p : Nat → Bool) : (w.keepQue p).st.que = Tab.keep p w.st.que := rfl

@[simp] theorem Work.keepQue_rest (w : Work s₀) (p : Nat → Bool) :
    State.upTo_waiters w.st (w.keepQue p).st ∧
    State.from_store w.st (w.keepQue p).st := by
  repeat' apply And.intro
  all_goals rfl

@[simp] theorem Work.setStore_store (w : Work s₀) (k : Nat) (x : Word) : (w.setStore k x).st.store = Tab.set (fun _ => (0 : Word)) w.st.store k x := rfl

@[simp] theorem Work.setStore_rest (w : Work s₀) (k : Nat) (x : Word) :
    State.upTo_que w.st (w.setStore k x).st ∧
    State.from_ue w.st (w.setStore k x).st := by
  repeat' apply And.intro
  all_goals rfl

@[simp] theorem Work.keepStore_store (w : Work s₀) (p : Nat → Bool) : (w.keepStore p).st.store = Tab.keep p w.st.store := rfl

@[simp] theorem Work.keepStore_rest (w : Work s₀) (p : Nat → Bool) :
    State.upTo_que w.st (w.keepStore p).st ∧
    State.from_ue w.st (w.keepStore p).st := by
  repeat' apply And.intro
  all_goals rfl

@[simp] theorem Work.setUe_ue (w : Work s₀) (x : List Nat) : (w.setUe x).st.ue = x := rfl

@[simp] theorem Work.setUe_rest (w : Work s₀) (x : List Nat) :
    State.upTo_store w.st (w.setUe x).st ∧
    State.from_ce w.st (w.setUe x).st := by
  repeat' apply And.intro
  all_goals rfl

@[simp] theorem Work.setCe_ce (w : Work s₀) (x : List Nat) : (w.setCe x).st.ce = x := rfl

@[simp] theorem Work.setCe_rest (w : Work s₀) (x : List Nat) :
    State.upTo_ue w.st (w.setCe x).st ∧
    State.from_refresh w.st (w.setCe x).st := by
  repeat' apply And.intro
  all_goals rfl

@[simp] theorem Work.setRefresh_refresh (w : Work s₀) (x : Bool) : (w.setRefresh x).st.refresh = x := rfl

@[simp] theorem Work.setRefresh_rest (w : Work s₀) (x : Bool) :
    State.upTo_ce w.st (w.setRefresh x).st ∧
    State.from_pool w.st (w.setRefresh x).st := by
  repeat' apply And.intro
  all_goals rfl

@[simp] theorem Work.setPool_pool (w : Work s₀) (x : PoolPll) : (w.setPool x).st.pool = x := rfl

@[simp] theorem Work.setPool_rest (w : Work s₀) (x : PoolPll) :
    State.upTo_refresh w.st (w.setPool x).st ∧
    State.from_flt w.st (w.setPool x).st := by
  repeat' apply And.intro
  all_goals rfl

@[simp] theorem Work.setFlt_flt (w : Work s₀) (k : Nat) (x : FltSt) : (w.setFlt k x).st.flt = Tab.set (fun _ => ({} : FltSt)) w.st.flt k x := rfl

@[simp] theorem Work.setFlt_rest (w : Work s₀) (k : Nat) (x : FltSt) :
    State.upTo_pool w.st (w.setFlt k x).st ∧
    State.from_he w.st (w.setFlt k x).st := by
  repeat' apply And.intro
  all_goals rfl

@[simp] theorem Work.keepFlt_flt (w : Work s₀) (p : Nat → Bool) : (w.keepFlt p).st.flt = Tab.keep p w.st.flt := rfl

@[simp] theorem Work.keepFlt_rest (w : Work s₀) (p : Nat → Bool) :
    State.upTo_pool w.st (w.keepFlt p).st ∧
    State.from_he w.st (w.keepFlt p).st := by
  repeat' apply And.intro
  all_goals rfl

@[simp] theorem Work.setHe_he (w : Work s₀) (k : Nat) (x : HeSt) : (w.setHe k x).st.he = Tab.set (fun _ => ({} : HeSt)) w.st.he k x := rfl

@[simp] theorem Work.setHe_rest (w : Work s₀) (k : Nat) (x : HeSt) :
    State.upTo_flt w.st (w.setHe k x).st ∧
    State.from_muOn w.st (w.setHe k x).st := by
  repeat' apply And.intro
  all_goals rfl

@[simp] theorem Work.keepHe_he (w : Work s₀) (p : Nat → Bool) : (w.keepHe p).st.he = Tab.keep p w.st.he := rfl

@[simp] theorem Work.keepHe_rest (w : Work s₀) (p : Nat → Bool) :
    State.upTo_flt w.st (w.keepHe p).st ∧
    State.from_muOn w.st (w.keepHe p).st := by
  repeat' apply And.intro
  all_goals rfl

@[simp] theorem Work.setMuOn_muOn (w : Work s₀) (k : Nat) (x : Bool) : (w.setMuOn k x).st.muOn = Tab.set (fun _ => (false : Bool)) w.st.muOn k x := rfl

@[simp] theorem Work.setMuOn_rest (w : Work s₀) (k : Nat) (x : Bool) :
    State.upTo_he w.st (w.setMuOn k x).st ∧
    State.from_ringC w.st (w.setMuOn k x).st := by
  repeat' apply And.intro
  all_goals rfl

@[simp] theorem Work.keepMuOn_muOn (w : Work s₀) (p : Nat → Bool) : (w.keepMuOn p).st.muOn = Tab.keep p w.st.muOn := rfl

@[simp] theorem Work.keepMuOn_rest (w : Work s₀) (p : Nat → Bool) :
    State.upTo_he w.st (w.keepMuOn p).st ∧
    State.from_ringC w.st (w.keepMuOn p).st := by
  repeat' apply And.intro
  all_goals rfl

@[simp] theorem Work.setRingC_ringC (w : Work s₀) (k : Nat) (x : Nat × Nat) : (w.setRingC k x).st.ringC = Tab.set (fun _ => ((0, 0) : Nat × Nat)) w.st.ringC k x := rfl

@[simp] theorem Work.setRingC_rest (w : Work s₀) (k : Nat) (x : Nat × Nat) :
    State.upTo_muOn w.st (w.setRingC k x).st ∧
    State.from_dmaRr w.st (w.setRingC k x).st := by
  repeat' apply And.intro
  all_goals rfl

@[simp] theorem Work.keepRingC_ringC (w : Work s₀) (p : Nat → Bool) : (w.keepRingC p).st.ringC = Tab.keep p w.st.ringC := rfl

@[simp] theorem Work.keepRingC_rest (w : Work s₀) (p : Nat → Bool) :
    State.upTo_muOn w.st (w.keepRingC p).st ∧
    State.from_dmaRr w.st (w.keepRingC p).st := by
  repeat' apply And.intro
  all_goals rfl

@[simp] theorem Work.setDmaRr_dmaRr (w : Work s₀) (x : Nat) : (w.setDmaRr x).st.dmaRr = x := rfl

@[simp] theorem Work.setDmaRr_rest (w : Work s₀) (x : Nat) :
    State.upTo_ringC w.st (w.setDmaRr x).st ∧
    State.from_src w.st (w.setDmaRr x).st := by
  repeat' apply And.intro
  all_goals rfl

@[simp] theorem Work.setSrc_src (w : Work s₀) (k : Nat) (x : SrcSt) : (w.setSrc k x).st.src = Tab.set (fun _ => ({} : SrcSt)) w.st.src k x := rfl

@[simp] theorem Work.setSrc_rest (w : Work s₀) (k : Nat) (x : SrcSt) :
    State.upTo_dmaRr w.st (w.setSrc k x).st ∧
    State.from_modT w.st (w.setSrc k x).st := by
  repeat' apply And.intro
  all_goals rfl

@[simp] theorem Work.keepSrc_src (w : Work s₀) (p : Nat → Bool) : (w.keepSrc p).st.src = Tab.keep p w.st.src := rfl

@[simp] theorem Work.keepSrc_rest (w : Work s₀) (p : Nat → Bool) :
    State.upTo_dmaRr w.st (w.keepSrc p).st ∧
    State.from_modT w.st (w.keepSrc p).st := by
  repeat' apply And.intro
  all_goals rfl

@[simp] theorem Work.setModT_modT (w : Work s₀) (k : Nat) (x : Option Nat) : (w.setModT k x).st.modT = Tab.set (fun _ => (none : Option Nat)) w.st.modT k x := rfl

@[simp] theorem Work.setModT_rest (w : Work s₀) (k : Nat) (x : Option Nat) :
    State.upTo_src w.st (w.setModT k x).st ∧
    State.from_core w.st (w.setModT k x).st := by
  repeat' apply And.intro
  all_goals rfl

@[simp] theorem Work.keepModT_modT (w : Work s₀) (p : Nat → Bool) : (w.keepModT p).st.modT = Tab.keep p w.st.modT := rfl

@[simp] theorem Work.keepModT_rest (w : Work s₀) (p : Nat → Bool) :
    State.upTo_src w.st (w.keepModT p).st ∧
    State.from_core w.st (w.keepModT p).st := by
  repeat' apply And.intro
  all_goals rfl

@[simp] theorem Work.setCore_core (w : Work s₀) (k : Nat) (x : CoreSt) : (w.setCore k x).st.core = Tab.set (fun _ => ({} : CoreSt)) w.st.core k x := rfl

@[simp] theorem Work.setCore_rest (w : Work s₀) (k : Nat) (x : CoreSt) :
    State.upTo_modT w.st (w.setCore k x).st ∧
    State.from_vec w.st (w.setCore k x).st := by
  repeat' apply And.intro
  all_goals rfl

@[simp] theorem Work.keepCore_core (w : Work s₀) (p : Nat → Bool) : (w.keepCore p).st.core = Tab.keep p w.st.core := rfl

@[simp] theorem Work.keepCore_rest (w : Work s₀) (p : Nat → Bool) :
    State.upTo_modT w.st (w.keepCore p).st ∧
    State.from_vec w.st (w.keepCore p).st := by
  repeat' apply And.intro
  all_goals rfl

@[simp] theorem Work.setVec_vec (w : Work s₀) (k : Nat) (x : VecSt) : (w.setVec k x).st.vec = Tab.set (fun _ => ({} : VecSt)) w.st.vec k x := rfl

@[simp] theorem Work.setVec_rest (w : Work s₀) (k : Nat) (x : VecSt) :
    State.upTo_core w.st (w.setVec k x).st ∧
    State.from_fn w.st (w.setVec k x).st := by
  repeat' apply And.intro
  all_goals rfl

@[simp] theorem Work.keepVec_vec (w : Work s₀) (p : Nat → Bool) : (w.keepVec p).st.vec = Tab.keep p w.st.vec := rfl

@[simp] theorem Work.keepVec_rest (w : Work s₀) (p : Nat → Bool) :
    State.upTo_core w.st (w.keepVec p).st ∧
    State.from_fn w.st (w.keepVec p).st := by
  repeat' apply And.intro
  all_goals rfl

@[simp] theorem Work.setFn_fn (w : Work s₀) (k : Nat) (x : FnSt) : (w.setFn k x).st.fn = Tab.set (fun _ => ({} : FnSt)) w.st.fn k x := rfl

@[simp] theorem Work.setFn_rest (w : Work s₀) (k : Nat) (x : FnSt) :
    State.upTo_vec w.st (w.setFn k x).st ∧
    State.from_host w.st (w.setFn k x).st := by
  repeat' apply And.intro
  all_goals rfl

@[simp] theorem Work.keepFn_fn (w : Work s₀) (p : Nat → Bool) : (w.keepFn p).st.fn = Tab.keep p w.st.fn := rfl

@[simp] theorem Work.keepFn_rest (w : Work s₀) (p : Nat → Bool) :
    State.upTo_vec w.st (w.keepFn p).st ∧
    State.from_host w.st (w.keepFn p).st := by
  repeat' apply And.intro
  all_goals rfl

@[simp] theorem Work.setHost_host (w : Work s₀) (k : Nat) (x : Byte) : (w.setHost k x).st.host = Tab.set (fun _ => (0 : Byte)) w.st.host k x := rfl

@[simp] theorem Work.setHost_rest (w : Work s₀) (k : Nat) (x : Byte) :
    State.upTo_fn w.st (w.setHost k x).st ∧
    State.from_hostErr w.st (w.setHost k x).st := by
  repeat' apply And.intro
  all_goals rfl

@[simp] theorem Work.keepHost_host (w : Work s₀) (p : Nat → Bool) : (w.keepHost p).st.host = Tab.keep p w.st.host := rfl

@[simp] theorem Work.keepHost_rest (w : Work s₀) (p : Nat → Bool) :
    State.upTo_fn w.st (w.keepHost p).st ∧
    State.from_hostErr w.st (w.keepHost p).st := by
  repeat' apply And.intro
  all_goals rfl

@[simp] theorem Work.setHostErr_hostErr (w : Work s₀) (x : List Nat) : (w.setHostErr x).st.hostErr = x := rfl

@[simp] theorem Work.setHostErr_rest (w : Work s₀) (x : List Nat) :
    State.upTo_host w.st (w.setHostErr x).st ∧
    State.from_guest w.st (w.setHostErr x).st := by
  repeat' apply And.intro
  all_goals rfl

@[simp] theorem Work.setGuest_guest (w : Work s₀) (k : Nat) (x : Byte) : (w.setGuest k x).st.guest = Tab.set (fun _ => (0 : Byte)) w.st.guest k x := rfl

@[simp] theorem Work.setGuest_rest (w : Work s₀) (k : Nat) (x : Byte) :
    State.upTo_hostErr w.st (w.setGuest k x).st ∧
    State.from_ep w.st (w.setGuest k x).st := by
  repeat' apply And.intro
  all_goals rfl

@[simp] theorem Work.keepGuest_guest (w : Work s₀) (p : Nat → Bool) : (w.keepGuest p).st.guest = Tab.keep p w.st.guest := rfl

@[simp] theorem Work.keepGuest_rest (w : Work s₀) (p : Nat → Bool) :
    State.upTo_hostErr w.st (w.keepGuest p).st ∧
    State.from_ep w.st (w.keepGuest p).st := by
  repeat' apply And.intro
  all_goals rfl

@[simp] theorem Work.setEp_ep (w : Work s₀) (k : Nat) (x : EpSt) : (w.setEp k x).st.ep = Tab.set (fun _ => ({} : EpSt)) w.st.ep k x := rfl

@[simp] theorem Work.setEp_rest (w : Work s₀) (k : Nat) (x : EpSt) :
    State.upTo_guest w.st (w.setEp k x).st ∧
    State.from_slot w.st (w.setEp k x).st := by
  repeat' apply And.intro
  all_goals rfl

@[simp] theorem Work.keepEp_ep (w : Work s₀) (p : Nat → Bool) : (w.keepEp p).st.ep = Tab.keep p w.st.ep := rfl

@[simp] theorem Work.keepEp_rest (w : Work s₀) (p : Nat → Bool) :
    State.upTo_guest w.st (w.keepEp p).st ∧
    State.from_slot w.st (w.keepEp p).st := by
  repeat' apply And.intro
  all_goals rfl

@[simp] theorem Work.setSlot_slot (w : Work s₀) (k : Nat) (x : SlotSt) : (w.setSlot k x).st.slot = Tab.set (fun _ => ({} : SlotSt)) w.st.slot k x := rfl

@[simp] theorem Work.setSlot_rest (w : Work s₀) (k : Nat) (x : SlotSt) :
    State.upTo_ep w.st (w.setSlot k x).st ∧
    State.from_jobs w.st (w.setSlot k x).st := by
  repeat' apply And.intro
  all_goals rfl

@[simp] theorem Work.keepSlot_slot (w : Work s₀) (p : Nat → Bool) : (w.keepSlot p).st.slot = Tab.keep p w.st.slot := rfl

@[simp] theorem Work.keepSlot_rest (w : Work s₀) (p : Nat → Bool) :
    State.upTo_ep w.st (w.keepSlot p).st ∧
    State.from_jobs w.st (w.keepSlot p).st := by
  repeat' apply And.intro
  all_goals rfl

@[simp] theorem Work.setJobs_jobs (w : Work s₀) (x : List Job) : (w.setJobs x).st.jobs = x := rfl

@[simp] theorem Work.setJobs_rest (w : Work s₀) (x : List Job) :
    State.upTo_slot w.st (w.setJobs x).st ∧
    State.from_learn w.st (w.setJobs x).st := by
  repeat' apply And.intro
  all_goals rfl

@[simp] theorem Work.setLearn_learn (w : Work s₀) (x : List Learn) : (w.setLearn x).st.learn = x := rfl

@[simp] theorem Work.setLearn_rest (w : Work s₀) (x : List Learn) :
    State.upTo_jobs w.st (w.setLearn x).st ∧
    State.from_claimEp w.st (w.setLearn x).st := by
  repeat' apply And.intro
  all_goals rfl

@[simp] theorem Work.setClaimEp_claimEp (w : Work s₀) (x : Option Nat) : (w.setClaimEp x).st.claimEp = x := rfl

@[simp] theorem Work.setClaimEp_rest (w : Work s₀) (x : Option Nat) :
    State.upTo_learn w.st (w.setClaimEp x).st ∧
    State.from_owner w.st (w.setClaimEp x).st := by
  repeat' apply And.intro
  all_goals rfl

@[simp] theorem Work.setOwner_owner (w : Work s₀) (k : Nat) (x : Option Nat) : (w.setOwner k x).st.owner = Tab.set (fun _ => (none : Option Nat)) w.st.owner k x := rfl

@[simp] theorem Work.setOwner_rest (w : Work s₀) (k : Nat) (x : Option Nat) :
    State.upTo_claimEp w.st (w.setOwner k x).st ∧
    State.from_alloc w.st (w.setOwner k x).st := by
  repeat' apply And.intro
  all_goals rfl

@[simp] theorem Work.keepOwner_owner (w : Work s₀) (p : Nat → Bool) : (w.keepOwner p).st.owner = Tab.keep p w.st.owner := rfl

@[simp] theorem Work.keepOwner_rest (w : Work s₀) (p : Nat → Bool) :
    State.upTo_claimEp w.st (w.keepOwner p).st ∧
    State.from_alloc w.st (w.keepOwner p).st := by
  repeat' apply And.intro
  all_goals rfl

@[simp] theorem Work.setAlloc_alloc (w : Work s₀) (k : Nat) (x : Nat) : (w.setAlloc k x).st.alloc = Tab.set (fun _ => (0 : Nat)) w.st.alloc k x := rfl

@[simp] theorem Work.setAlloc_rest (w : Work s₀) (k : Nat) (x : Nat) :
    State.upTo_owner w.st (w.setAlloc k x).st ∧
    State.from_lastEp w.st (w.setAlloc k x).st := by
  repeat' apply And.intro
  all_goals rfl

@[simp] theorem Work.keepAlloc_alloc (w : Work s₀) (p : Nat → Bool) : (w.keepAlloc p).st.alloc = Tab.keep p w.st.alloc := rfl

@[simp] theorem Work.keepAlloc_rest (w : Work s₀) (p : Nat → Bool) :
    State.upTo_owner w.st (w.keepAlloc p).st ∧
    State.from_lastEp w.st (w.keepAlloc p).st := by
  repeat' apply And.intro
  all_goals rfl

@[simp] theorem Work.setLastEp_lastEp (w : Work s₀) (x : Nat) : (w.setLastEp x).st.lastEp = x := rfl

@[simp] theorem Work.setLastEp_rest (w : Work s₀) (x : Nat) :
    State.upTo_alloc w.st (w.setLastEp x).st ∧
    State.from_errlog w.st (w.setLastEp x).st := by
  repeat' apply And.intro
  all_goals rfl

@[simp] theorem Work.setErrlog_errlog (w : Work s₀) (x : List (List Byte)) : (w.setErrlog x).st.errlog = x := rfl

@[simp] theorem Work.setErrlog_rest (w : Work s₀) (x : List (List Byte)) :
    State.upTo_lastEp w.st (w.setErrlog x).st ∧
    State.from_wlink w.st (w.setErrlog x).st := by
  repeat' apply And.intro
  all_goals rfl

@[simp] theorem Work.setWlink_wlink (w : Work s₀) (k : Nat) (x : WLink) : (w.setWlink k x).st.wlink = Tab.set (fun _ => ({} : WLink)) w.st.wlink k x := rfl

@[simp] theorem Work.setWlink_rest (w : Work s₀) (k : Nat) (x : WLink) :
    State.upTo_errlog w.st (w.setWlink k x).st ∧
    State.from_grp w.st (w.setWlink k x).st := by
  repeat' apply And.intro
  all_goals rfl

@[simp] theorem Work.keepWlink_wlink (w : Work s₀) (p : Nat → Bool) : (w.keepWlink p).st.wlink = Tab.keep p w.st.wlink := rfl

@[simp] theorem Work.keepWlink_rest (w : Work s₀) (p : Nat → Bool) :
    State.upTo_errlog w.st (w.keepWlink p).st ∧
    State.from_grp w.st (w.keepWlink p).st := by
  repeat' apply And.intro
  all_goals rfl

@[simp] theorem Work.setGrp_grp (w : Work s₀) (k : Nat) (x : Option Nat) : (w.setGrp k x).st.grp = Tab.set (fun _ => (none : Option Nat)) w.st.grp k x := rfl

@[simp] theorem Work.setGrp_rest (w : Work s₀) (k : Nat) (x : Option Nat) :
    State.upTo_wlink w.st (w.setGrp k x).st ∧
    State.from_port w.st (w.setGrp k x).st := by
  repeat' apply And.intro
  all_goals rfl

@[simp] theorem Work.keepGrp_grp (w : Work s₀) (p : Nat → Bool) : (w.keepGrp p).st.grp = Tab.keep p w.st.grp := rfl

@[simp] theorem Work.keepGrp_rest (w : Work s₀) (p : Nat → Bool) :
    State.upTo_wlink w.st (w.keepGrp p).st ∧
    State.from_port w.st (w.keepGrp p).st := by
  repeat' apply And.intro
  all_goals rfl

@[simp] theorem Work.setPort_port (w : Work s₀) (k : Nat) (x : PortSt) : (w.setPort k x).st.port = Tab.set (fun _ => ({} : PortSt)) w.st.port k x := rfl

@[simp] theorem Work.setPort_rest (w : Work s₀) (k : Nat) (x : PortSt) :
    State.upTo_grp w.st (w.setPort k x).st ∧
    State.from_chan w.st (w.setPort k x).st := by
  repeat' apply And.intro
  all_goals rfl

@[simp] theorem Work.keepPort_port (w : Work s₀) (p : Nat → Bool) : (w.keepPort p).st.port = Tab.keep p w.st.port := rfl

@[simp] theorem Work.keepPort_rest (w : Work s₀) (p : Nat → Bool) :
    State.upTo_grp w.st (w.keepPort p).st ∧
    State.from_chan w.st (w.keepPort p).st := by
  repeat' apply And.intro
  all_goals rfl

@[simp] theorem Work.setChan_chan (w : Work s₀) (k : Nat) (x : ChanSt) : (w.setChan k x).st.chan = Tab.set (fun _ => ({} : ChanSt)) w.st.chan k x := rfl

@[simp] theorem Work.setChan_rest (w : Work s₀) (k : Nat) (x : ChanSt) :
    State.upTo_port w.st (w.setChan k x).st ∧
    State.from_lnk w.st (w.setChan k x).st := by
  repeat' apply And.intro
  all_goals rfl

@[simp] theorem Work.keepChan_chan (w : Work s₀) (p : Nat → Bool) : (w.keepChan p).st.chan = Tab.keep p w.st.chan := rfl

@[simp] theorem Work.keepChan_rest (w : Work s₀) (p : Nat → Bool) :
    State.upTo_port w.st (w.keepChan p).st ∧
    State.from_lnk w.st (w.keepChan p).st := by
  repeat' apply And.intro
  all_goals rfl

@[simp] theorem Work.setLnk_lnk (w : Work s₀) (k : Nat) (x : LnkSt) : (w.setLnk k x).st.lnk = Tab.set (fun _ => ({} : LnkSt)) w.st.lnk k x := rfl

@[simp] theorem Work.setLnk_rest (w : Work s₀) (k : Nat) (x : LnkSt) :
    State.upTo_chan w.st (w.setLnk k x).st ∧
    State.from_sens w.st (w.setLnk k x).st := by
  repeat' apply And.intro
  all_goals rfl

@[simp] theorem Work.keepLnk_lnk (w : Work s₀) (p : Nat → Bool) : (w.keepLnk p).st.lnk = Tab.keep p w.st.lnk := rfl

@[simp] theorem Work.keepLnk_rest (w : Work s₀) (p : Nat → Bool) :
    State.upTo_chan w.st (w.keepLnk p).st ∧
    State.from_sens w.st (w.keepLnk p).st := by
  repeat' apply And.intro
  all_goals rfl

@[simp] theorem Work.setSens_sens (w : Work s₀) (k : Nat) (x : SensSt) : (w.setSens k x).st.sens = Tab.set (fun _ => ({} : SensSt)) w.st.sens k x := rfl

@[simp] theorem Work.setSens_rest (w : Work s₀) (k : Nat) (x : SensSt) :
    State.upTo_lnk w.st (w.setSens k x).st ∧
    State.from_fuse w.st (w.setSens k x).st := by
  repeat' apply And.intro
  all_goals rfl

@[simp] theorem Work.keepSens_sens (w : Work s₀) (p : Nat → Bool) : (w.keepSens p).st.sens = Tab.keep p w.st.sens := rfl

@[simp] theorem Work.keepSens_rest (w : Work s₀) (p : Nat → Bool) :
    State.upTo_lnk w.st (w.keepSens p).st ∧
    State.from_fuse w.st (w.keepSens p).st := by
  repeat' apply And.intro
  all_goals rfl

@[simp] theorem Work.setFuse_fuse (w : Work s₀) (x : FuseSt) : (w.setFuse x).st.fuse = x := rfl

@[simp] theorem Work.setFuse_rest (w : Work s₀) (x : FuseSt) :
    State.upTo_sens w.st (w.setFuse x).st ∧
    State.from_nonce w.st (w.setFuse x).st := by
  repeat' apply And.intro
  all_goals rfl

@[simp] theorem Work.setNonce_nonce (w : Work s₀) (x : List Byte) : (w.setNonce x).st.nonce = x := rfl

@[simp] theorem Work.setNonce_rest (w : Work s₀) (x : List Byte) :
    State.upTo_fuse w.st (w.setNonce x).st ∧
    State.from_jtag w.st (w.setNonce x).st := by
  repeat' apply And.intro
  all_goals rfl

@[simp] theorem Work.setJtag_jtag (w : Work s₀) (x : JtagSt) : (w.setJtag x).st.jtag = x := rfl

@[simp] theorem Work.setJtag_rest (w : Work s₀) (x : JtagSt) :
    State.upTo_nonce w.st (w.setJtag x).st ∧
    State.from_shad w.st (w.setJtag x).st := by
  repeat' apply And.intro
  all_goals rfl

@[simp] theorem Work.setShad_shad (w : Work s₀) (k : Nat) (x : ShadSt) : (w.setShad k x).st.shad = Tab.set (fun _ => ({} : ShadSt)) w.st.shad k x := rfl

@[simp] theorem Work.setShad_rest (w : Work s₀) (k : Nat) (x : ShadSt) :
    State.upTo_jtag w.st (w.setShad k x).st ∧
    State.from_i2c w.st (w.setShad k x).st := by
  repeat' apply And.intro
  all_goals rfl

@[simp] theorem Work.keepShad_shad (w : Work s₀) (p : Nat → Bool) : (w.keepShad p).st.shad = Tab.keep p w.st.shad := rfl

@[simp] theorem Work.keepShad_rest (w : Work s₀) (p : Nat → Bool) :
    State.upTo_jtag w.st (w.keepShad p).st ∧
    State.from_i2c w.st (w.keepShad p).st := by
  repeat' apply And.intro
  all_goals rfl

@[simp] theorem Work.setI2c_i2c (w : Work s₀) (x : I2cSt) : (w.setI2c x).st.i2c = x := rfl

@[simp] theorem Work.setI2c_rest (w : Work s₀) (x : I2cSt) :
    State.upTo_shad w.st (w.setI2c x).st ∧
    State.from_keep w.st (w.setI2c x).st := by
  repeat' apply And.intro
  all_goals rfl

@[simp] theorem Work.setKeep_keep (w : Work s₀) (k : Nat) (x : Word) : (w.setKeep k x).st.keep = Tab.set (fun _ => (0 : Word)) w.st.keep k x := rfl

@[simp] theorem Work.setKeep_rest (w : Work s₀) (k : Nat) (x : Word) :
    State.upTo_i2c w.st (w.setKeep k x).st ∧
    State.from_pwr w.st (w.setKeep k x).st := by
  repeat' apply And.intro
  all_goals rfl

@[simp] theorem Work.keepKeep_keep (w : Work s₀) (p : Nat → Bool) : (w.keepKeep p).st.keep = Tab.keep p w.st.keep := rfl

@[simp] theorem Work.keepKeep_rest (w : Work s₀) (p : Nat → Bool) :
    State.upTo_i2c w.st (w.keepKeep p).st ∧
    State.from_pwr w.st (w.keepKeep p).st := by
  repeat' apply And.intro
  all_goals rfl

@[simp] theorem Work.setPwr_pwr (w : Work s₀) (x : PwrSt) : (w.setPwr x).st.pwr = x := rfl

@[simp] theorem Work.setPwr_rest (w : Work s₀) (x : PwrSt) :
    State.upTo_keep w.st (w.setPwr x).st ∧
    State.from_pending w.st (w.setPwr x).st := by
  repeat' apply And.intro
  all_goals rfl

/-! ## Reads after writes -/

theorem Work.freAt_set (w : Work s₀) (k j : Nat) (x : FreUnit) :
    (w.setFre k x).st.freAt j = if j = k then x else w.st.freAt j :=
  Tab.get_set _ _ _ _ _

@[simp] theorem Work.freAt_set_same (w : Work s₀) (k : Nat) (x : FreUnit) :
    (w.setFre k x).st.freAt k = x :=
  Tab.get_set_same _ _ _ _

theorem Work.capHwAt_set (w : Work s₀) (k j : Nat) (x : CapHw) :
    (w.setCapHw k x).st.capHwAt j = if j = k then x else w.st.capHwAt j :=
  Tab.get_set _ _ _ _ _

@[simp] theorem Work.capHwAt_set_same (w : Work s₀) (k : Nat) (x : CapHw) :
    (w.setCapHw k x).st.capHwAt k = x :=
  Tab.get_set_same _ _ _ _

theorem Work.capAt_set (w : Work s₀) (k j : Nat) (x : LaneCap) :
    (w.setCap k x).st.capAt j = if j = k then x else w.st.capAt j :=
  Tab.get_set _ _ _ _ _

@[simp] theorem Work.capAt_set_same (w : Work s₀) (k : Nat) (x : LaneCap) :
    (w.setCap k x).st.capAt k = x :=
  Tab.get_set_same _ _ _ _

theorem Work.calAt_set (w : Work s₀) (k j : Nat) (x : CalUnit) :
    (w.setCal k x).st.calAt j = if j = k then x else w.st.calAt j :=
  Tab.get_set _ _ _ _ _

@[simp] theorem Work.calAt_set_same (w : Work s₀) (k : Nat) (x : CalUnit) :
    (w.setCal k x).st.calAt k = x :=
  Tab.get_set_same _ _ _ _

theorem Work.calBlkAt_set (w : Work s₀) (k j : Nat) (x : CalBlk) :
    (w.setCalBlk k x).st.calBlkAt j = if j = k then x else w.st.calBlkAt j :=
  Tab.get_set _ _ _ _ _

@[simp] theorem Work.calBlkAt_set_same (w : Work s₀) (k : Nat) (x : CalBlk) :
    (w.setCalBlk k x).st.calBlkAt k = x :=
  Tab.get_set_same _ _ _ _

theorem Work.vaultAt_set (w : Work s₀) (k j : Nat) (x : Byte) :
    (w.setVault k x).st.vaultAt j = if j = k then x else w.st.vaultAt j :=
  Tab.get_set _ _ _ _ _

@[simp] theorem Work.vaultAt_set_same (w : Work s₀) (k : Nat) (x : Byte) :
    (w.setVault k x).st.vaultAt k = x :=
  Tab.get_set_same _ _ _ _

theorem Work.cntAt_set (w : Work s₀) (k j : Nat) (x : CntUnit) :
    (w.setCnt k x).st.cntAt j = if j = k then x else w.st.cntAt j :=
  Tab.get_set _ _ _ _ _

@[simp] theorem Work.cntAt_set_same (w : Work s₀) (k : Nat) (x : CntUnit) :
    (w.setCnt k x).st.cntAt k = x :=
  Tab.get_set_same _ _ _ _

theorem Work.pairAt_set (w : Work s₀) (k j : Nat) (x : PairSt) :
    (w.setPair k x).st.pairAt j = if j = k then x else w.st.pairAt j :=
  Tab.get_set _ _ _ _ _

@[simp] theorem Work.pairAt_set_same (w : Work s₀) (k : Nat) (x : PairSt) :
    (w.setPair k x).st.pairAt k = x :=
  Tab.get_set_same _ _ _ _

theorem Work.clkAt_set (w : Work s₀) (k j : Nat) (x : Word) :
    (w.setClk k x).st.clkAt j = if j = k then x else w.st.clkAt j :=
  Tab.get_set _ _ _ _ _

@[simp] theorem Work.clkAt_set_same (w : Work s₀) (k : Nat) (x : Word) :
    (w.setClk k x).st.clkAt k = x :=
  Tab.get_set_same _ _ _ _

theorem Work.markAt_set (w : Work s₀) (k j : Nat) (x : MarkSt) :
    (w.setMark k x).st.markAt j = if j = k then x else w.st.markAt j :=
  Tab.get_set _ _ _ _ _

@[simp] theorem Work.markAt_set_same (w : Work s₀) (k : Nat) (x : MarkSt) :
    (w.setMark k x).st.markAt k = x :=
  Tab.get_set_same _ _ _ _

theorem Work.mergeAt_set (w : Work s₀) (k j : Nat) (x : MergeSt) :
    (w.setMerge k x).st.mergeAt j = if j = k then x else w.st.mergeAt j :=
  Tab.get_set _ _ _ _ _

@[simp] theorem Work.mergeAt_set_same (w : Work s₀) (k : Nat) (x : MergeSt) :
    (w.setMerge k x).st.mergeAt k = x :=
  Tab.get_set_same _ _ _ _

theorem Work.progAt_set (w : Work s₀) (k j : Nat) (x : Nat) :
    (w.setProg k x).st.progAt j = if j = k then x else w.st.progAt j :=
  Tab.get_set _ _ _ _ _

@[simp] theorem Work.progAt_set_same (w : Work s₀) (k : Nat) (x : Nat) :
    (w.setProg k x).st.progAt k = x :=
  Tab.get_set_same _ _ _ _

theorem Work.weavAt_set (w : Work s₀) (k j : Nat) (x : WeavSt) :
    (w.setWeav k x).st.weavAt j = if j = k then x else w.st.weavAt j :=
  Tab.get_set _ _ _ _ _

@[simp] theorem Work.weavAt_set_same (w : Work s₀) (k : Nat) (x : WeavSt) :
    (w.setWeav k x).st.weavAt k = x :=
  Tab.get_set_same _ _ _ _

theorem Work.queAt_set (w : Work s₀) (k j : Nat) (x : QueSt) :
    (w.setQue k x).st.queAt j = if j = k then x else w.st.queAt j :=
  Tab.get_set _ _ _ _ _

@[simp] theorem Work.queAt_set_same (w : Work s₀) (k : Nat) (x : QueSt) :
    (w.setQue k x).st.queAt k = x :=
  Tab.get_set_same _ _ _ _

theorem Work.storeAt_set (w : Work s₀) (k j : Nat) (x : Word) :
    (w.setStore k x).st.storeAt j = if j = k then x else w.st.storeAt j :=
  Tab.get_set _ _ _ _ _

@[simp] theorem Work.storeAt_set_same (w : Work s₀) (k : Nat) (x : Word) :
    (w.setStore k x).st.storeAt k = x :=
  Tab.get_set_same _ _ _ _

theorem Work.fltAt_set (w : Work s₀) (k j : Nat) (x : FltSt) :
    (w.setFlt k x).st.fltAt j = if j = k then x else w.st.fltAt j :=
  Tab.get_set _ _ _ _ _

@[simp] theorem Work.fltAt_set_same (w : Work s₀) (k : Nat) (x : FltSt) :
    (w.setFlt k x).st.fltAt k = x :=
  Tab.get_set_same _ _ _ _

theorem Work.heAt_set (w : Work s₀) (k j : Nat) (x : HeSt) :
    (w.setHe k x).st.heAt j = if j = k then x else w.st.heAt j :=
  Tab.get_set _ _ _ _ _

@[simp] theorem Work.heAt_set_same (w : Work s₀) (k : Nat) (x : HeSt) :
    (w.setHe k x).st.heAt k = x :=
  Tab.get_set_same _ _ _ _

theorem Work.muOnAt_set (w : Work s₀) (k j : Nat) (x : Bool) :
    (w.setMuOn k x).st.muOnAt j = if j = k then x else w.st.muOnAt j :=
  Tab.get_set _ _ _ _ _

@[simp] theorem Work.muOnAt_set_same (w : Work s₀) (k : Nat) (x : Bool) :
    (w.setMuOn k x).st.muOnAt k = x :=
  Tab.get_set_same _ _ _ _

theorem Work.ringCAt_set (w : Work s₀) (k j : Nat) (x : Nat × Nat) :
    (w.setRingC k x).st.ringCAt j = if j = k then x else w.st.ringCAt j :=
  Tab.get_set _ _ _ _ _

@[simp] theorem Work.ringCAt_set_same (w : Work s₀) (k : Nat) (x : Nat × Nat) :
    (w.setRingC k x).st.ringCAt k = x :=
  Tab.get_set_same _ _ _ _

theorem Work.srcAt_set (w : Work s₀) (k j : Nat) (x : SrcSt) :
    (w.setSrc k x).st.srcAt j = if j = k then x else w.st.srcAt j :=
  Tab.get_set _ _ _ _ _

@[simp] theorem Work.srcAt_set_same (w : Work s₀) (k : Nat) (x : SrcSt) :
    (w.setSrc k x).st.srcAt k = x :=
  Tab.get_set_same _ _ _ _

theorem Work.modTAt_set (w : Work s₀) (k j : Nat) (x : Option Nat) :
    (w.setModT k x).st.modTAt j = if j = k then x else w.st.modTAt j :=
  Tab.get_set _ _ _ _ _

@[simp] theorem Work.modTAt_set_same (w : Work s₀) (k : Nat) (x : Option Nat) :
    (w.setModT k x).st.modTAt k = x :=
  Tab.get_set_same _ _ _ _

theorem Work.coreAt_set (w : Work s₀) (k j : Nat) (x : CoreSt) :
    (w.setCore k x).st.coreAt j = if j = k then x else w.st.coreAt j :=
  Tab.get_set _ _ _ _ _

@[simp] theorem Work.coreAt_set_same (w : Work s₀) (k : Nat) (x : CoreSt) :
    (w.setCore k x).st.coreAt k = x :=
  Tab.get_set_same _ _ _ _

theorem Work.vecAt_set (w : Work s₀) (k j : Nat) (x : VecSt) :
    (w.setVec k x).st.vecAt j = if j = k then x else w.st.vecAt j :=
  Tab.get_set _ _ _ _ _

@[simp] theorem Work.vecAt_set_same (w : Work s₀) (k : Nat) (x : VecSt) :
    (w.setVec k x).st.vecAt k = x :=
  Tab.get_set_same _ _ _ _

theorem Work.fnAt_set (w : Work s₀) (k j : Nat) (x : FnSt) :
    (w.setFn k x).st.fnAt j = if j = k then x else w.st.fnAt j :=
  Tab.get_set _ _ _ _ _

@[simp] theorem Work.fnAt_set_same (w : Work s₀) (k : Nat) (x : FnSt) :
    (w.setFn k x).st.fnAt k = x :=
  Tab.get_set_same _ _ _ _

theorem Work.hostAt_set (w : Work s₀) (k j : Nat) (x : Byte) :
    (w.setHost k x).st.hostAt j = if j = k then x else w.st.hostAt j :=
  Tab.get_set _ _ _ _ _

@[simp] theorem Work.hostAt_set_same (w : Work s₀) (k : Nat) (x : Byte) :
    (w.setHost k x).st.hostAt k = x :=
  Tab.get_set_same _ _ _ _

theorem Work.guestAt_set (w : Work s₀) (k j : Nat) (x : Byte) :
    (w.setGuest k x).st.guestAt j = if j = k then x else w.st.guestAt j :=
  Tab.get_set _ _ _ _ _

@[simp] theorem Work.guestAt_set_same (w : Work s₀) (k : Nat) (x : Byte) :
    (w.setGuest k x).st.guestAt k = x :=
  Tab.get_set_same _ _ _ _

theorem Work.epAt_set (w : Work s₀) (k j : Nat) (x : EpSt) :
    (w.setEp k x).st.epAt j = if j = k then x else w.st.epAt j :=
  Tab.get_set _ _ _ _ _

@[simp] theorem Work.epAt_set_same (w : Work s₀) (k : Nat) (x : EpSt) :
    (w.setEp k x).st.epAt k = x :=
  Tab.get_set_same _ _ _ _

theorem Work.slotAt_set (w : Work s₀) (k j : Nat) (x : SlotSt) :
    (w.setSlot k x).st.slotAt j = if j = k then x else w.st.slotAt j :=
  Tab.get_set _ _ _ _ _

@[simp] theorem Work.slotAt_set_same (w : Work s₀) (k : Nat) (x : SlotSt) :
    (w.setSlot k x).st.slotAt k = x :=
  Tab.get_set_same _ _ _ _

theorem Work.ownerAt_set (w : Work s₀) (k j : Nat) (x : Option Nat) :
    (w.setOwner k x).st.ownerAt j = if j = k then x else w.st.ownerAt j :=
  Tab.get_set _ _ _ _ _

@[simp] theorem Work.ownerAt_set_same (w : Work s₀) (k : Nat) (x : Option Nat) :
    (w.setOwner k x).st.ownerAt k = x :=
  Tab.get_set_same _ _ _ _

theorem Work.allocAt_set (w : Work s₀) (k j : Nat) (x : Nat) :
    (w.setAlloc k x).st.allocAt j = if j = k then x else w.st.allocAt j :=
  Tab.get_set _ _ _ _ _

@[simp] theorem Work.allocAt_set_same (w : Work s₀) (k : Nat) (x : Nat) :
    (w.setAlloc k x).st.allocAt k = x :=
  Tab.get_set_same _ _ _ _

theorem Work.wlinkAt_set (w : Work s₀) (k j : Nat) (x : WLink) :
    (w.setWlink k x).st.wlinkAt j = if j = k then x else w.st.wlinkAt j :=
  Tab.get_set _ _ _ _ _

@[simp] theorem Work.wlinkAt_set_same (w : Work s₀) (k : Nat) (x : WLink) :
    (w.setWlink k x).st.wlinkAt k = x :=
  Tab.get_set_same _ _ _ _

theorem Work.grpAt_set (w : Work s₀) (k j : Nat) (x : Option Nat) :
    (w.setGrp k x).st.grpAt j = if j = k then x else w.st.grpAt j :=
  Tab.get_set _ _ _ _ _

@[simp] theorem Work.grpAt_set_same (w : Work s₀) (k : Nat) (x : Option Nat) :
    (w.setGrp k x).st.grpAt k = x :=
  Tab.get_set_same _ _ _ _

theorem Work.portAt_set (w : Work s₀) (k j : Nat) (x : PortSt) :
    (w.setPort k x).st.portAt j = if j = k then x else w.st.portAt j :=
  Tab.get_set _ _ _ _ _

@[simp] theorem Work.portAt_set_same (w : Work s₀) (k : Nat) (x : PortSt) :
    (w.setPort k x).st.portAt k = x :=
  Tab.get_set_same _ _ _ _

theorem Work.chanAt_set (w : Work s₀) (k j : Nat) (x : ChanSt) :
    (w.setChan k x).st.chanAt j = if j = k then x else w.st.chanAt j :=
  Tab.get_set _ _ _ _ _

@[simp] theorem Work.chanAt_set_same (w : Work s₀) (k : Nat) (x : ChanSt) :
    (w.setChan k x).st.chanAt k = x :=
  Tab.get_set_same _ _ _ _

theorem Work.lnkAt_set (w : Work s₀) (k j : Nat) (x : LnkSt) :
    (w.setLnk k x).st.lnkAt j = if j = k then x else w.st.lnkAt j :=
  Tab.get_set _ _ _ _ _

@[simp] theorem Work.lnkAt_set_same (w : Work s₀) (k : Nat) (x : LnkSt) :
    (w.setLnk k x).st.lnkAt k = x :=
  Tab.get_set_same _ _ _ _

theorem Work.sensAt_set (w : Work s₀) (k j : Nat) (x : SensSt) :
    (w.setSens k x).st.sensAt j = if j = k then x else w.st.sensAt j :=
  Tab.get_set _ _ _ _ _

@[simp] theorem Work.sensAt_set_same (w : Work s₀) (k : Nat) (x : SensSt) :
    (w.setSens k x).st.sensAt k = x :=
  Tab.get_set_same _ _ _ _

theorem Work.shadAt_set (w : Work s₀) (k j : Nat) (x : ShadSt) :
    (w.setShad k x).st.shadAt j = if j = k then x else w.st.shadAt j :=
  Tab.get_set _ _ _ _ _

@[simp] theorem Work.shadAt_set_same (w : Work s₀) (k : Nat) (x : ShadSt) :
    (w.setShad k x).st.shadAt k = x :=
  Tab.get_set_same _ _ _ _

theorem Work.keepAt_set (w : Work s₀) (k j : Nat) (x : Word) :
    (w.setKeep k x).st.keepAt j = if j = k then x else w.st.keepAt j :=
  Tab.get_set _ _ _ _ _

@[simp] theorem Work.keepAt_set_same (w : Work s₀) (k : Nat) (x : Word) :
    (w.setKeep k x).st.keepAt k = x :=
  Tab.get_set_same _ _ _ _

@[simp] theorem Work.start_st (s : State) : (Work.start s).st = s := rfl

/-! ## What every named write keeps -/

/-- No named write touches the queue of waiting commands. -/
theorem Write.pending_eq {s t : State} (h : Write s t) : t.pending = s.pending := by
  cases h <;> rfl

/-- Neither does a command, but for the step that takes it. -/
theorem Reach.pending_eq {s t : State} (h : Reach s t) : t.pending = s.pending := by
  induction h with
  | refl => rfl
  | tail _ hw ih => exact hw.pending_eq.trans ih

theorem Reach.trans {r s t : State} (h : Reach r s) (g : Reach s t) : Reach r t := by
  induction g with
  | refl => exact h
  | tail _ hw ih => exact .tail ih hw

end Sys2Proof.Machine
end

