-- ==== Sys2Proof/Laws/Ops.lean ====
section
/-!
SUPPORT. What the shared operations do, said once each: registers and their fields after a write, time, the free values,
conditional and repeated work.
-/

namespace Sys2Proof.Machine

variable {s₀ : State}

/-! ## Keys of the register table -/

theorem Reg.ctorIdx_lt (r : Reg) : r.ctorIdx < 256 := by
  cases r <;> decide

theorem Reg.ofNat_ctorIdx' (r : Reg) : Reg.ofNat r.ctorIdx = r := by
  cases r <;> rfl

theorem Reg.ctorIdx_inj {r q : Reg} (h : r.ctorIdx = q.ctorIdx) : r = q := by
  rw [← Reg.ofNat_ctorIdx' r, h, Reg.ofNat_ctorIdx' q]

/-- Two registers share an entry only where they are one register at one index. -/
theorem Reg.key_inj {r q : Reg} {i j : Nat} : Reg.key r i = Reg.key q j ↔ r = q ∧ i = j := by
  constructor
  · intro h
    have hr := Reg.ctorIdx_lt r
    have hq := Reg.ctorIdx_lt q
    unfold Reg.key at h
    exact ⟨Reg.ctorIdx_inj (by omega), by omega⟩
  · rintro ⟨rfl, rfl⟩; rfl

/-! ## Whole words -/

/-- A register after a write of a register. -/
theorem Work.reg_wreg (w : Work s₀) (r q : Reg) (i j : Nat) (v : Word) :
    (w.wreg r i v).st.reg q j = if q = r ∧ j = i then v else w.st.reg q j := by
  unfold Work.wreg State.reg
  rw [Work.setRegs_regs, Tab.get_set]
  simp only [Reg.key_inj]

@[simp] theorem Work.reg_wreg_same (w : Work s₀) (r : Reg) (i : Nat) (v : Word) :
    (w.wreg r i v).st.reg r i = v := by simp [Work.reg_wreg]

theorem Work.reg_wreg_ne (w : Work s₀) (r q : Reg) (i j : Nat) (v : Word) (h : ¬(q = r ∧ j = i)) :
    (w.wreg r i v).st.reg q j = w.st.reg q j := by simp [Work.reg_wreg, h]

/-- A register write leaves everything but the registers. -/
@[simp] theorem Work.wreg_rest (w : Work s₀) (r : Reg) (i : Nat) (v : Word) :
    State.upTo_eng w.st (w.wreg r i v).st ∧ State.from_fre w.st (w.wreg r i v).st :=
  Work.setRegs_rest w _ v

/-! ## Fields of words -/

theorem bits_lt (n lo w : Nat) : bits n lo w < 2 ^ w := Nat.mod_lt _ (Nat.two_pow_pos w)

/-- A number as its part above a field, the field, and its part below. -/
theorem bits_split (n lo w : Nat) :
    n = n / 2 ^ (lo + w) * 2 ^ (lo + w) + bits n lo w * 2 ^ lo + n % 2 ^ lo := by
  have h1 := Nat.div_add_mod n (2 ^ lo)
  have h2 := Nat.div_add_mod (n / 2 ^ lo) (2 ^ w)
  rw [Nat.div_div_eq_div_mul, ← Nat.pow_add] at h2
  unfold bits
  generalize n / 2 ^ (lo + w) = q at *
  generalize n / 2 ^ lo % 2 ^ w = b at *
  rw [← h2] at h1
  rw [Nat.pow_add]
  calc n = 2 ^ lo * (2 ^ w * q + b) + n % 2 ^ lo := h1.symm
    _ = _ := by rw [Nat.mul_add, ← Nat.mul_assoc, Nat.mul_comm (2 ^ lo * 2 ^ w) q, Nat.mul_comm (2 ^ lo) b]

theorem Fld.toNat_put (f : Fld) (v : Word) (x : Nat) (h : f.lo + f.w ≤ 64) :
    (f.put v x).toNat = v.toNat / 2 ^ (f.lo + f.w) * 2 ^ (f.lo + f.w) + x % 2 ^ f.w * 2 ^ f.lo + v.toNat % 2 ^ f.lo := by
  have hs := bits_split v.toNat f.lo f.w
  have hv := v.isLt
  have hb := bits_lt v.toNat f.lo f.w
  have hx : x % 2 ^ f.w < 2 ^ f.w := Nat.mod_lt _ (Nat.two_pow_pos _)
  have hl : v.toNat % 2 ^ f.lo < 2 ^ f.lo := Nat.mod_lt _ (Nat.two_pow_pos _)
  unfold Fld.put w64
  simp only [BitVec.toNat_ofNat]
  have e : v.toNat - bits v.toNat f.lo f.w * 2 ^ f.lo + x % 2 ^ f.w * 2 ^ f.lo =
      v.toNat / 2 ^ (f.lo + f.w) * 2 ^ (f.lo + f.w) + x % 2 ^ f.w * 2 ^ f.lo + v.toNat % 2 ^ f.lo := by
    omega
  rw [e]
  apply Nat.mod_eq_of_lt
  have hq : v.toNat / 2 ^ (f.lo + f.w) < 2 ^ (64 - (f.lo + f.w)) := by
    apply Nat.div_lt_of_lt_mul
    rw [← Nat.pow_add]
    have : f.lo + f.w + (64 - (f.lo + f.w)) = 64 := by omega
    rw [this]; exact hv
  have h64 : (2 : Nat) ^ 64 = 2 ^ (64 - (f.lo + f.w)) * 2 ^ (f.lo + f.w) := by
    rw [← Nat.pow_add]; congr 1; omega
  have hm : x % 2 ^ f.w * 2 ^ f.lo + v.toNat % 2 ^ f.lo < 2 ^ (f.lo + f.w) := by
    have : (x % 2 ^ f.w + 1) * 2 ^ f.lo ≤ 2 ^ f.w * 2 ^ f.lo := Nat.mul_le_mul_right _ hx
    rw [Nat.pow_add, Nat.mul_comm (2 ^ f.lo)]
    rw [Nat.add_mul] at this
    omega
  have hq' : (v.toNat / 2 ^ (f.lo + f.w) + 1) * 2 ^ (f.lo + f.w) ≤ 2 ^ (64 - (f.lo + f.w)) * 2 ^ (f.lo + f.w) :=
    Nat.mul_le_mul_right _ hq
  rw [Nat.add_mul] at hq'
  omega

/-- A field reads as what was put there, modulo its width. -/
theorem Fld.of_put_same (f : Fld) (v : Word) (x : Nat) (h : f.lo + f.w ≤ 64) : f.of (f.put v x) = x % 2 ^ f.w := by
  unfold Fld.of bits
  rw [Fld.toNat_put f v x h]
  have hl : v.toNat % 2 ^ f.lo < 2 ^ f.lo := Nat.mod_lt _ (Nat.two_pow_pos _)
  have e : v.toNat / 2 ^ (f.lo + f.w) * 2 ^ (f.lo + f.w) + x % 2 ^ f.w * 2 ^ f.lo + v.toNat % 2 ^ f.lo =
      (v.toNat / 2 ^ (f.lo + f.w) * 2 ^ f.w + x % 2 ^ f.w) * 2 ^ f.lo + v.toNat % 2 ^ f.lo := by
    rw [Nat.add_mul, Nat.mul_assoc, ← Nat.pow_add, Nat.add_comm f.w f.lo]
  rw [e, Nat.add_comm, Nat.add_mul_div_right _ _ (Nat.two_pow_pos _), Nat.div_eq_of_lt hl, Nat.zero_add,
    Nat.add_comm, Nat.add_mul_mod_self_right, Nat.mod_mod]

/-- A field above the one that was put reads as before. -/
theorem Fld.of_put_above (f g : Fld) (v : Word) (x : Nat) (h : f.lo + f.w ≤ 64) (hg : f.lo + f.w ≤ g.lo) :
    g.of (f.put v x) = g.of v := by
  have hx : x % 2 ^ f.w < 2 ^ f.w := Nat.mod_lt _ (Nat.two_pow_pos _)
  have hl : v.toNat % 2 ^ f.lo < 2 ^ f.lo := Nat.mod_lt _ (Nat.two_pow_pos _)
  have hm : x % 2 ^ f.w * 2 ^ f.lo + v.toNat % 2 ^ f.lo < 2 ^ (f.lo + f.w) := by
    have : (x % 2 ^ f.w + 1) * 2 ^ f.lo ≤ 2 ^ f.w * 2 ^ f.lo := Nat.mul_le_mul_right _ hx
    rw [Nat.pow_add, Nat.mul_comm (2 ^ f.lo)]
    rw [Nat.add_mul] at this
    omega
  unfold Fld.of bits
  rw [Fld.toNat_put f v x h]
  obtain ⟨k, hk⟩ := Nat.le.dest hg
  rw [← hk, Nat.pow_add 2 (f.lo + f.w) k, ← Nat.div_div_eq_div_mul, ← Nat.div_div_eq_div_mul, Nat.add_assoc,
    Nat.add_comm, Nat.add_mul_div_right _ _ (Nat.two_pow_pos _), Nat.div_eq_of_lt hm, Nat.zero_add]

/-- A field below the one that was put reads as before. -/
theorem Fld.of_put_below (f g : Fld) (v : Word) (x : Nat) (h : f.lo + f.w ≤ 64) (hg : g.lo + g.w ≤ f.lo) :
    g.of (f.put v x) = g.of v := by
  have key : ∀ n m : Nat, n % 2 ^ f.lo = m % 2 ^ f.lo → n / 2 ^ g.lo % 2 ^ g.w = m / 2 ^ g.lo % 2 ^ g.w := by
    intro n m e
    have e' : n % 2 ^ (g.lo + g.w) = m % 2 ^ (g.lo + g.w) := by
      have d : 2 ^ (g.lo + g.w) ∣ 2 ^ f.lo := Nat.pow_dvd_pow 2 hg
      rw [← Nat.mod_mod_of_dvd n d, e, Nat.mod_mod_of_dvd m d]
    rw [Nat.pow_add] at e'
    rw [← Nat.mod_mul_right_div_self, ← Nat.mod_mul_right_div_self, e']
  unfold Fld.of bits
  apply key
  rw [Fld.toNat_put f v x h]
  have d : 2 ^ f.lo ∣ v.toNat / 2 ^ (f.lo + f.w) * 2 ^ (f.lo + f.w) + x % 2 ^ f.w * 2 ^ f.lo :=
    Nat.dvd_add (Nat.dvd_mul_left_of_dvd (Nat.pow_dvd_pow 2 (Nat.le_add_right _ _)) _) (Nat.dvd_mul_left _ _)
  obtain ⟨c, hc⟩ := d
  rw [hc, Nat.mul_add_mod, Nat.mod_mod]

/-- A field after a field was put in a register. -/
theorem Work.get_put (w : Work s₀) (f g : Fld) (i j x : Nat) :
    (w.put f i x).st.get g j =
      if g.reg = f.reg ∧ j = i then g.of (f.put (w.st.reg f.reg i) x) else w.st.get g j := by
  unfold Work.put State.get
  rw [Work.reg_wreg]
  split
  · rfl
  · rfl

theorem Work.get_put_same (w : Work s₀) (f : Fld) (i x : Nat) (h : f.lo + f.w ≤ 64) :
    (w.put f i x).st.get f i = x % 2 ^ f.w := by
  simp [Work.get_put, Fld.of_put_same f _ x h]

theorem Work.get_put_reg_ne (w : Work s₀) (f g : Fld) (i j x : Nat) (h : ¬(g.reg = f.reg ∧ j = i)) :
    (w.put f i x).st.get g j = w.st.get g j := by
  simp [Work.get_put, h]

/-- A field of the same register beside the one that was put reads as before. -/
theorem Work.get_put_beside (w : Work s₀) (f g : Fld) (i j x : Nat) (h : f.lo + f.w ≤ 64)
    (hg : f.lo + f.w ≤ g.lo ∨ g.lo + g.w ≤ f.lo) : (w.put f i x).st.get g j = w.st.get g j := by
  rw [Work.get_put]
  split
  · next e =>
    obtain ⟨e, rfl⟩ := e
    unfold State.get
    rw [e]
    rcases hg with hg | hg
    · exact Fld.of_put_above f g _ x h hg
    · exact Fld.of_put_below f g _ x h hg
  · rfl

theorem Work.reg_put (w : Work s₀) (f : Fld) (q : Reg) (i j x : Nat) :
    (w.put f i x).st.reg q j = if q = f.reg ∧ j = i then f.put (w.st.reg f.reg i) x else w.st.reg q j := by
  unfold Work.put; rw [Work.reg_wreg]

/-- Putting a field leaves everything but the registers. -/
@[simp] theorem Work.put_rest (w : Work s₀) (f : Fld) (i x : Nat) :
    State.upTo_eng w.st (w.put f i x).st ∧ State.from_fre w.st (w.put f i x).st :=
  Work.wreg_rest w _ _ _

@[simp] theorem Work.flag_rest (w : Work s₀) (f : Fld) (i : Nat) :
    State.upTo_eng w.st (w.flag f i).st ∧ State.from_fre w.st (w.flag f i).st :=
  Work.put_rest w f i 1

@[simp] theorem Work.count_rest (w : Work s₀) (f : Fld) (i n : Nat) :
    State.upTo_eng w.st (w.count f i n).st ∧ State.from_fre w.st (w.count f i n).st :=
  Work.put_rest w f i _

@[simp] theorem Work.wrap_rest (w : Work s₀) (f : Fld) (i n : Nat) :
    State.upTo_eng w.st (w.wrap f i n).st ∧ State.from_fre w.st (w.wrap f i n).st :=
  Work.put_rest w f i _

/-! ## Time and free values -/

/-- Outside WATCH every instant is an instant of T64. -/
@[simp] theorem State.tick_of (s : State) (t : Nat) (h : (s.eng == .watch) = false) : s.tick t = t := by
  simp [State.tick, h]

@[simp] theorem Work.at_t64 (w : Work s₀) (t : Nat) : (w.at t).st.t64 = max w.st.t64 (w.st.tick t) := rfl

/-- The passing of time alone leaves everything but T64. -/
@[simp] theorem Work.at_rest (w : Work s₀) (t : Nat) : State.from_freeCnt w.st (w.at t).st :=
  Work.setT64_rest w _

@[simp] theorem Work.at_reg (w : Work s₀) (t : Nat) (r : Reg) (i : Nat) : (w.at t).st.reg r i = w.st.reg r i := rfl

@[simp] theorem Work.at_get (w : Work s₀) (t : Nat) (f : Fld) (i : Nat) : (w.at t).st.get f i = w.st.get f i := rfl

@[simp] theorem Work.at_on (w : Work s₀) (t : Nat) (f : Fld) (i : Nat) : (w.at t).st.on f i = w.st.on f i := rfl

/-- A free value is the word at the counter, and the counter goes on. -/
theorem Work.fresh_eq (w : Work s₀) :
    w.fresh = (w.setFreeCnt (w.st.freeCnt + 1), Config.freeWord w.st.freeCnt) := rfl

/-! ## Conditional and repeated work -/

@[simp] theorem Work.when_true (w : Work s₀) (g : Work s₀ → Work s₀) : w.when true g = g w := rfl

@[simp] theorem Work.when_false (w : Work s₀) (g : Work s₀ → Work s₀) : w.when false g = w := rfl

/-- What one round keeps, any number of rounds keeps. -/
theorem Work.each_keeps {α : Type} (P : Work s₀ → Prop) (g : Work s₀ → α → Work s₀) (h : ∀ w a, P w → P (g w a))
    (w : Work s₀) (xs : List α) (hw : P w) : P (w.each xs g) := by
  induction xs generalizing w with
  | nil => exact hw
  | cons a xs ih => exact ih (g w a) (h w a hw)

end Sys2Proof.Machine
end

