-- ==== Sys2Proof/Laws/Notices.lean ====
section
/-!
SUPPORT. What a notification can change (chapters 11 and 12): raising a source of the EIC, a message of a vector, a notice
and an answer in a mailbox slot reach only the interrupt logic, the memories and links of the endpoints, the waking of
cores, and the registers that count or show these. Everything else is as it was.
-/

namespace Sys2Proof.Machine

variable {s₀ : State}

/-- `n` comes from `s` by notifications. -/
def NoteFrame (s n : State) : Prop := n = s.noted n ∧ ∀ r i, noteReg r = false → n.reg r i = s.reg r i

theorem NoteFrame.refl (s : State) : NoteFrame s s := ⟨rfl, fun _ _ _ => rfl⟩

theorem NoteFrame.trans {s n m : State} (h : NoteFrame s n) (g : NoteFrame n m) : NoteFrame s m := by
  have e : n.noted m = (s.noted n).noted m := congrArg (fun x : State => x.noted m) h.1
  exact ⟨g.1.trans e, fun r i hr => (g.2 r i hr).trans (h.2 r i hr)⟩

/-- Work that only notifies. -/
abbrev Work.Notes (w v : Work s₀) : Prop := NoteFrame w.st v.st

theorem Work.notes_each {α : Type} (g : Work s₀ → α → Work s₀) (h : ∀ w a, Work.Notes w (g w a)) (w : Work s₀) (xs : List α) :
    w.Notes (w.each xs g) :=
  Work.each_keeps (fun v => w.Notes v) g (fun v a hv => hv.trans (h v a)) w xs (NoteFrame.refl _)

theorem Work.notes_when (w : Work s₀) (c : Bool) (g : Work s₀ → Work s₀) (h : ∀ v, Work.Notes v (g v)) :
    w.Notes (w.when c g) := by
  cases c
  · exact NoteFrame.refl _
  · exact h w

theorem Work.notes_put (w : Work s₀) (f : Fld) (i x : Nat) (h : noteReg f.reg = true) : w.Notes (w.put f i x) := by
  refine ⟨rfl, fun r j hr => ?_⟩
  rw [Work.reg_put, if_neg]
  rintro ⟨rfl, _⟩
  rw [h] at hr; cases hr

theorem Work.notes_setVec (w : Work s₀) (k : Nat) (x : VecSt) : w.Notes (w.setVec k x) := ⟨rfl, fun _ _ _ => rfl⟩
theorem Work.notes_setSrc (w : Work s₀) (k : Nat) (x : SrcSt) : w.Notes (w.setSrc k x) := ⟨rfl, fun _ _ _ => rfl⟩
theorem Work.notes_setModT (w : Work s₀) (k : Nat) (x : Option Nat) : w.Notes (w.setModT k x) :=
  ⟨rfl, fun _ _ _ => rfl⟩
theorem Work.notes_setCore (w : Work s₀) (k : Nat) (x : CoreSt) : w.Notes (w.setCore k x) := ⟨rfl, fun _ _ _ => rfl⟩
theorem Work.notes_setHost (w : Work s₀) (k : Nat) (x : Byte) : w.Notes (w.setHost k x) := ⟨rfl, fun _ _ _ => rfl⟩
theorem Work.notes_setGuest (w : Work s₀) (k : Nat) (x : Byte) : w.Notes (w.setGuest k x) := ⟨rfl, fun _ _ _ => rfl⟩
theorem Work.notes_setStore (w : Work s₀) (k : Nat) (x : Word) : w.Notes (w.setStore k x) := ⟨rfl, fun _ _ _ => rfl⟩
theorem Work.notes_setUe (w : Work s₀) (x : List Nat) : w.Notes (w.setUe x) := ⟨rfl, fun _ _ _ => rfl⟩
theorem Work.notes_setCe (w : Work s₀) (x : List Nat) : w.Notes (w.setCe x) := ⟨rfl, fun _ _ _ => rfl⟩
theorem Work.notes_setEp (w : Work s₀) (k : Nat) (x : EpSt) : w.Notes (w.setEp k x) := ⟨rfl, fun _ _ _ => rfl⟩
theorem Work.notes_setLnk (w : Work s₀) (k : Nat) (x : LnkSt) : w.Notes (w.setLnk k x) := ⟨rfl, fun _ _ _ => rfl⟩

/-! ## Messages of vectors -/

theorem Work.notes_hostWrite (w : Work s₀) (f a : Nat) (bs : List Byte) : w.Notes (w.hostWrite f a bs) :=
  Work.notes_each _ (fun (v : Work s₀) _ => Work.notes_setHost v _ _) w _

theorem Work.notes_vecFire (w : Work s₀) (v : Nat) : w.Notes (w.vecFire v) := by
  unfold Work.vecFire Work.modVec Work.wrap
  refine NoteFrame.trans ?_ (Work.notes_put _ _ _ _ (by rfl))
  refine NoteFrame.trans ?_ (Work.notes_hostWrite _ _ _ _)
  exact Work.notes_setVec _ _ _

theorem Work.notes_vecSend (w : Work s₀) (v : Nat) : w.Notes (w.vecSend v) := by
  unfold Work.vecSend Work.modVec
  dsimp only
  split
  · refine NoteFrame.trans ?_ (Work.notes_setVec _ _ _)
    refine NoteFrame.trans ?_ (Work.notes_setVec _ _ _)
    refine NoteFrame.trans ?_ (Work.notes_put _ _ _ _ (by rfl))
    exact Work.notes_put _ _ _ _ (by rfl)
  · refine NoteFrame.trans ?_ (Work.notes_vecFire _ _)
    refine NoteFrame.trans ?_ (Work.notes_setVec _ _ _)
    refine NoteFrame.trans ?_ (Work.notes_put _ _ _ _ (by rfl))
    exact Work.notes_put _ _ _ _ (by rfl)

theorem Work.notes_vecStart (w : Work s₀) (v : Nat) : w.Notes (w.vecStart v) := by
  unfold Work.vecStart Work.modVec Work.flag
  refine Work.notes_when _ _ _ fun y => ?_
  refine NoteFrame.trans ?_ (Work.notes_put _ _ _ _ (by rfl))
  exact Work.notes_setVec _ _ _

/-- A notification event of a vector (R295, R296). -/
theorem Work.notes_notify (w : Work s₀) (f v : Nat) : w.Notes (w.notify f v) := by
  unfold Work.notify Work.count
  split
  · exact Work.notes_put _ _ _ _ (by rfl)
  · dsimp only
    split
    · refine NoteFrame.trans ?_ (Work.notes_vecSend _ _)
      refine NoteFrame.trans ?_ (Work.notes_when _ _ _ fun x => Work.notes_vecStart _ _)
      exact Work.notes_put _ _ _ _ (by rfl)
    · refine NoteFrame.trans ?_ (Work.notes_when _ _ _ fun x => Work.notes_vecStart _ _)
      exact Work.notes_put _ _ _ _ (by rfl)

/-! ## Sources of the EIC -/

theorem Work.notes_wakeFor (w : Work s₀) (k : Nat) : w.Notes (w.wakeFor k) := by
  unfold Work.wakeFor Work.setDom
  split
  · refine Work.notes_each _ (fun (v : Work s₀) c => Work.notes_when _ _ _ fun x => ?_) _ _
    refine NoteFrame.trans (Work.notes_when x (x.core c).wfi (fun y => y.setCore c { y.core c with wfi := false })
      fun y => Work.notes_setCore y c _) ?_
    refine Work.notes_when _ _ _ fun y => ?_
    refine NoteFrame.trans (Work.notes_put y ⟨.PWR_DSTAT, 2 * ((81 + c) % 32), 2⟩ ((81 + c) / 32) 3 (by rfl)) ?_
    exact ⟨rfl, fun _ _ _ => rfl⟩
  · exact NoteFrame.refl _

theorem Work.notes_modClose (w : Work s₀) (u : Nat) : w.Notes (w.modClose u) :=
  Work.notes_when _ _ _ fun _ => Work.notes_put _ _ _ _ (by rfl)

theorem Work.notes_modOpen (w : Work s₀) (u : Nat) : w.Notes (w.modOpen u) := by
  unfold Work.modOpen Work.flag Work.wrap
  dsimp only
  refine NoteFrame.trans ?_ (Work.notes_modClose _ u)
  refine NoteFrame.trans ?_ (Work.notes_each _ (fun (v : Work s₀) k => Work.notes_wakeFor v k) _ _)
  refine NoteFrame.trans ?_ (Work.notes_put _ _ _ _ (by rfl))
  refine NoteFrame.trans ?_ (Work.notes_put _ _ _ _ (by rfl))
  refine NoteFrame.trans ?_ (Work.notes_setModT _ _ _)
  refine NoteFrame.trans ?_ (Work.notes_put _ _ _ _ (by rfl))
  refine NoteFrame.trans ?_ (Work.notes_put _ _ _ _ (by rfl))
  exact Work.notes_each _ (fun (v : Work s₀) k => Work.notes_setSrc _ _ _) _ _

theorem Work.notes_modEvent (w : Work s₀) (k : Nat) : w.Notes (w.modEvent k) := by
  unfold Work.modEvent
  split
  · exact NoteFrame.refl _
  · split
    · exact NoteFrame.refl _
    · dsimp only
      refine NoteFrame.trans ?_ (Work.notes_when _ _ _ fun v => Work.notes_modOpen _ _)
      refine NoteFrame.trans ?_ (Work.notes_when _ _ _ fun v =>
        (Work.notes_setModT _ _ _).trans (Work.notes_put _ _ _ _ (by rfl)))
      exact (Work.notes_setSrc _ _ _).trans (Work.notes_put _ _ _ _ (by rfl))

/-- An event of a source (R284, R295). -/
theorem Work.notes_srcEvent (w : Work s₀) (k : Nat) : w.Notes (w.srcEvent k) := by
  unfold Work.srcEvent
  dsimp only
  refine NoteFrame.trans ?_ (Work.notes_wakeFor _ _)
  refine NoteFrame.trans ?_ (Work.notes_when _ _ _ fun v => Work.notes_notify _ _ _)
  exact Work.notes_modEvent _ _

theorem Work.notes_srcEdge (w : Work s₀) (k : Nat) : w.Notes (w.srcEdge k) :=
  NoteFrame.trans (Work.notes_setSrc _ _ _) (Work.notes_srcEvent _ _)

/-! ## Notices and answers -/

theorem Work.notes_mbxSend (w : Work s₀) (e : Nat) (ws : List Word) : w.Notes (w.mbxSend e ws) := by
  unfold Work.mbxSend Work.frameSend Work.modLnk
  dsimp only
  split
  · exact NoteFrame.refl _
  · split
    · exact (Work.notes_setLnk _ _ _).trans (Work.notes_setLnk _ _ _)
    · exact Work.notes_setLnk _ _ _

theorem Work.notes_storeByte (w : Work s₀) (a : Nat) (b : Byte) : w.Notes (w.storeByte a b) := by
  unfold Work.storeByte Work.storeWrite
  refine NoteFrame.trans ?_ (Work.notes_setStore _ _ _)
  exact (Work.notes_when _ _ _ fun v => Work.notes_setUe _ _).trans (Work.notes_when _ _ _ fun v => Work.notes_setCe _ _)

theorem Work.notes_epWrite (w : Work s₀) (e a : Nat) (bs : List Byte) : w.Notes (w.epWrite e a bs) := by
  unfold Work.epWrite Work.coreWrite
  split
  · exact Work.notes_hostWrite _ _ _ _
  · split
    · exact Work.notes_each _ (fun (v : Work s₀) p => Work.notes_storeByte _ _ _) _ _
    · exact Work.notes_each _ (fun (v : Work s₀) p => Work.notes_setGuest _ _ _) _ _

theorem Work.notes_noteWrite (w : Work s₀) (e : Nat) (bs : List Byte) : w.Notes (w.noteWrite e bs) := by
  unfold Work.noteWrite
  dsimp only
  split
  · exact Work.notes_setEp _ _ _
  · split
    · exact Work.notes_mbxSend _ _ _
    · unfold Work.modEp
      split
      · refine NoteFrame.trans ?_ (Work.notes_notify _ _ _)
        refine NoteFrame.trans ?_ (Work.notes_setEp _ _ _)
        refine NoteFrame.trans ?_ (Work.notes_epWrite _ _ _ _)
        exact Work.notes_epWrite _ _ _ _
      · refine NoteFrame.trans ?_ (Work.notes_srcEdge _ _)
        refine NoteFrame.trans ?_ (Work.notes_setEp _ _ _)
        refine NoteFrame.trans ?_ (Work.notes_epWrite _ _ _ _)
        exact Work.notes_epWrite _ _ _ _

theorem Work.notes_noteFlush (w : Work s₀) (e n : Nat) : w.Notes (w.noteFlush e n) := by
  induction n generalizing w with
  | zero => exact NoteFrame.refl _
  | succ n ih =>
    unfold Work.noteFlush
    split
    · exact NoteFrame.refl _
    · split
      · exact NoteFrame.refl _
      · dsimp only
        split
        · exact ((Work.notes_setEp _ _ _).trans (Work.notes_noteWrite _ _ _)).trans (ih _)
        · exact (((Work.notes_setEp _ _ _).trans (Work.notes_setEp _ _ _)).trans (Work.notes_noteWrite _ _ _)).trans (ih _)

theorem Work.notes_noteLose (w : Work s₀) (e n : Nat) : w.Notes (w.noteLose e n) := by
  unfold Work.noteLose Work.count
  exact (Work.notes_put _ F.MBX_CNT_NLOST e _ (by rfl)).trans (Work.notes_setEp _ _ _)

theorem Work.notes_noteMark (w : Work s₀) (e : Nat) : w.Notes (w.noteMark e) := by
  unfold Work.noteMark Work.modEp
  split
  · exact NoteFrame.refl _
  · split
    · exact NoteFrame.refl _
    · exact Work.notes_setEp _ _ _

theorem Work.notes_noteTo (w : Work s₀) (e cls ntype tag status opcode : Nat) (data : List Byte) :
    w.Notes (w.noteTo e cls ntype tag status opcode data) := by
  unfold Work.noteTo
  split
  · exact NoteFrame.refl _
  · have ready : w.Notes ((w.noteFlush e (w.ep e).kept.length).when (ntype == 1) fun s => s.noteMark e) :=
      (Work.notes_noteFlush _ _ _).trans (Work.notes_when _ _ _ fun v => Work.notes_noteMark _ _)
    unfold Work.modEp
    split
    · refine NoteFrame.trans ?_ (Work.notes_noteFlush _ _ _)
      refine NoteFrame.trans ?_ (Work.notes_setEp _ _ _)
      exact ready.trans (Work.notes_setEp _ _ _)
    · dsimp only
      split
      · refine NoteFrame.trans ?_ (Work.notes_noteWrite _ _ _)
        exact ready.trans (Work.notes_setEp _ _ _)
      · refine NoteFrame.trans ?_ (Work.notes_noteLose _ _ _)
        exact ready.trans (Work.notes_setEp _ _ _)

/-- A notice to the endpoints (R312). -/
theorem Work.notes_notice (w : Work s₀) (cls ntype : Nat) (data : List Byte) : w.Notes (w.notice cls ntype data) := by
  unfold Work.notice
  split
  · exact Work.notes_each _ (fun (v : Work s₀) e => Work.notes_noteTo _ _ _ _ _ _ _ _) _ _
  · split
    · exact Work.notes_each _ (fun (v : Work s₀) e => Work.notes_when _ _ _ fun x =>
        (Work.notes_setEp _ _ _).trans (Work.notes_noteLose _ _ _)) _ _
    · exact NoteFrame.refl _

end Sys2Proof.Machine
end

