-- ==== Sys2Proof/Laws/Safety.lean ====
section
/-!
SUPPORT. Every named write keeps the canonical form of the state's tables; so does whatever is made of named writes.
-/

namespace Sys2Proof.Machine

/-- A named write keeps the canonical form. -/
theorem Write.wf {s t : State} (h : Write s t) (hs : s.wf = true) : t.wf = true := by
  simp only [State.wf, Bool.and_eq_true, and_assoc] at hs ⊢
  cases h <;> simp only [hs, Tab.wf_set, Tab.wf_keep, and_self]

/-- Whatever is made of named writes keeps it. -/
theorem Reach.wf {s t : State} (h : Reach s t) (hs : s.wf = true) : t.wf = true := by
  induction h with
  | refl => exact hs
  | tail _ hw ih => exact hw.wf ih

/-- The work of a command keeps the canonical form. -/
theorem Work.wf_st {s : State} (w : Work s) (hs : s.wf = true) : w.st.wf = true := w.ok.wf hs

/-- The work of a command leaves the queue of waiting commands. -/
theorem Work.pending_st {s : State} (w : Work s) : w.st.pending = s.pending := w.ok.pending_eq

end Sys2Proof.Machine
end

