-- ==== Sys2Proof/WellFormed.lean ====
section
/-!
DEFINITION. When a command is well formed: its operands name things that the engine has. What an ill-formed command does
means nothing; no sender can form one.
-/

namespace Sys2Proof

/-- A DLP frame whose header fields fit their places and whose payload is at most 4,096 words (Table LNK-4). -/
def Frame.wf (f : Frame) : Bool := f.seq < 2 ^ 32 && f.cret < 256 && f.ccret < 8 && f.ws.length ≤ 4096

/-- Whether the operands of a command lie in their ranges: master IDs (Table ACC-1), lanes, units, blocks, weavers,
queues, links, endpoints and slots as the engine has them. -/
def Instr.wf : Instr → Bool
  | .registerWrite _ m _ _ | .shadowBankWrite _ m _ _ | .lowerHalfWrite _ m _ _ | .upperHalfWrite _ m _ _
    | .vaultWordWrite _ m _ _ => m < 94
  | .rcFieldRead _ m _ | .blockResetRequest _ m _ | .lowerHalfRead _ m _ | .upperHalfRead _ m _ => m < 94
  | .wardLinkFrame _ w _ _ => w < 8
  | .replayPersist _ w => w < 8
  | .edge _ u _ _ _ => u < 544
  | .overload _ u _ => u < 544
  | .thresholdApply u | .rampTimeout u | .rampClamp u | .rampRecoveryEnd u | .switchBlankStart u
    | .switchCircuitsOff u => u < 544
  | .switchingWrite _ m n _ => m < 94 && n < 512
  | .switchDone u _ _ _ | .gapEnd u _ _ _ => u < 544
  | .partnerWindowExpiry n | .recordHoldRelease n | .capConfigApply n | .baselineUpdate n
    | .fixedLengthRequest n | .maximumLengthRequest n | .timeBoundedClose n | .cntConfigApply n => n < 512
  | .calTakeUnit _ b | .skewAgreed _ b | .cleanOverlap _ b | .blockMergeTake _ b | .loopbackStart _ b
    | .loopbackEnd _ b => b < 32
  | .reliefSettled b _ _ _ => b < 32
  | .overlapTimeout b | .handover b | .laneOffline b | .handback b | .reliefReleased b | .cycleEnd b
    | .tempModelUpdate b | .blockReset b => b < 32
  | .staticRunsDone _ b _ _ | .codeDensityRunDone _ b _ _ => b < 32
  | .sensorRead _ k _ => k < 40
  | .baselineApertureEnd n _ => n < 512
  | .vaultSlotWrite _ | .stepEdge _ | .stakeIssue _ | .timebaseLock _ | .returnMeasurementEnd _ | .slewEnd _
    | .opllLossOfLock _ | .dividerResetRestart _ | .bufferGrant _ | .route _ | .commandTake _ | .trialTimeout _
    | .idcode _ | .bypass _ | .engineEntryStart _ | .watchEntered _ | .deepSleepEntered _ | .alarm _
    | .wakeDomainsOn _ | .wakeTimebaseRestore _ | .pwrOkFall _ | .bootRomStart _ | .storeTrained _
    | .ongenRunning _ | .vaultLoaded _ | .ready _ | .resetNAssert _ | .perstNAssert _ | .perstNRise _
    | .hotReset _ | .linkDown _ | .softEngineApply _ | .lastResortTrigger _ | .brownOut _ | .ictrlRead _
    | .ictrlWrite _ | .indirectDone _ | .linkUp _ | .opllOpTimeout _ => true
  | .vaultWriteDone _ _ | .syncIn0Edge _ _ | .syncIn1Edge _ _ | .challenge _ _ | .samplePreload _ _
    | .extest _ _ | .i2cRead _ _ => true
  | .wardLinksTrained _ failed => failed.all fun (w, _, k) => w < 8 && k < 256
  | .iwinExpiry p | .pairConfigApply p => p < 192
  | .xpBundleClose _ x q => x < 64 && q < 2 ^ 16
  | .markEdge _ k _ => k < 96
  | .generatedStep | .axisEnableApply | .axisDisableApply | .coastEntry | .synthesisedStep | .gateOpen
    | .gateClose | .engineClose | .calQuiet | .bankSwap | .axisRecord | .histKey | .weaverSignal | .rampStart
    | .timebaseStep | .lostRetry | .bundleAgeForce | .entryAbandon | .dataPathStop | .wakeResume | .pwrOkRise
    | .startDomainsOn | .t64Start | .resetNRelease | .lrSoftCore | .lrBoot | .lrReadyTimeout => true
  | .markOut p | .markPulseEnd p => p < 96
  | .stakeMatchWrite _ m i _ => m < 94 && i < 2 ^ 12
  | .commit _ m | .arm0 _ m | .arm1 _ m | .sw1 _ m | .softEngine _ m | .softCore _ m => m < 94
  | .fastPathFlush _ b q => b < 32 && q < 2 ^ 16
  | .weaverRecordLoad w | .weaverRetire w => w < 40
  | .add w sl | .sub w sl | .andOp w sl | .orOp w sl | .xorOp w sl | .shl w sl | .shr w sl | .sar w sl
    | .mul w sl | .minu w sl | .maxu w sl | .sltu w sl | .slt w sl | .seq w sl | .addi w sl | .andi w sl
    | .ori w sl | .xori w sl | .shli w sl | .shri w sl | .sari w sl | .ldih w sl | .ext w sl | .exts w sl
    | .ins w sl | .beq w sl | .bne w sl | .bltu w sl | .bgeu w sl | .blt w sl | .bge w sl | .bbs w sl
    | .bbc w sl | .j w sl | .beqi w sl | .bnei w sl | .ld w sl | .st w sl | .lut w sl | .rds w sl | .rdl w sl
    | .emit w sl | .emiti w sl | .drop w sl | .yield w sl | .signal w sl => w < 40 && sl < 4
  | .weaverFlush _ w q => w < 40 && q < 2 ^ 16
  | .signalEntry _ w | .plazaBundleTake _ w | .bundleEnd _ w | .inputRelease _ w | .halted _ w => w < 40
  | .weaverRunStart _ m w | .weaverRunStop _ m w => m < 94 && w < 40
  | .fltRecord _ p => p < 64
  | .fltBundleFlush p => p < 64
  | .fltCtrlReset _ m p => m < 94 && p < 64
  | .fltCtrlSwap _ m p _ => m < 94 && p < 64
  | .heRecord _ h | .histRecordWritten _ h => h < 64
  | .heOpSnapshot _ m h | .heOpSnapshotReset _ m h | .heOpReset _ m h | .muRestart _ m h => m < 94 && h < 64
  | .histOpApply h | .periodicSnapshot h => h < 64
  | .refinEdge _ k _ | .freqCheck _ k _ => k < 4
  | .refLos _ k | .qualified _ k => k < 4
  | .opllSearch _ m e | .opllHop _ m e | .opllOff _ m e => m < 94 && e < 16
  | .opllLock _ _ _ => true
  | .bandEntryWrite _ m e _ => m < 94 && e < 16
  | .oclkChangeApply _ c => c < 32
  | .bundlePlace _ q => q < 2 ^ 16
  | .holdExpiry q => q < 2 ^ 16
  | .queueEnSet _ m q _ | .queueEnClear _ m q _ => m < 94 && q < 2 ^ 16
  | .pop _ m q rd => m < 94 && q < 2 ^ 16 && rd < 2 ^ 27
  | .ringCopy _ r | .ringWriteback _ r => r < 2 ^ 10
  | .tailWrite _ f r _ => f < 16 && r < 2 ^ 10
  | .sourceInput _ k _ => k < 2 ^ 10
  | .intSetEn _ m w _ | .intClrEn _ m w _ | .intSetPend _ m w _ | .intClrPend _ m w _ => m < 94 && w < 16
  | .moderationTimer u => u < 128
  | .claim _ c | .frameRestoreDone _ c => c < 4
  | .mret _ c => c < 8
  | .coreEoi _ c k => c < 4 && k < 2 ^ 10
  | .stackReset _ m c => m < 94 && c < 4
  | .vectorTimer v => v < 2 ^ 11
  | .vectorUnmask _ f v => f < 16 && v < 128
  | .functionSleepEntry _ f | .functionWake _ f | .functionLevelReset _ f => f < 16
  | .post _ ep slot | .release _ ep slot | .complete _ ep slot => ep < 50 && slot < 4
  | .mbxNtail _ ep _ => ep < 50
  | .responseDeadline ep slot => ep < 50 && slot < 4
  | .sysIdentify _ ep sl | .sysPing _ ep sl | .sysNoticeSet _ ep sl | .sysAbort _ ep sl | .sysTime _ ep sl
    | .sysEngineReset _ ep sl | .sysReady _ ep sl | .laneSet _ ep sl | .laneGet _ ep sl | .laneStatus _ ep sl
    | .laneCounters _ ep sl | .walkLoad _ ep sl | .walkRead _ ep sl | .walkLearn _ ep sl
    | .walkLearnDone _ ep sl | .engineSet _ ep sl | .engineGet _ ep sl | .engineCounters _ ep sl
    | .pairAlloc _ ep sl | .pairSet _ ep sl | .pairGet _ ep sl | .pairFree _ ep sl | .axisSet _ ep sl
    | .axisEnable _ ep sl | .axisStatus _ ep sl | .stakesLoad _ ep sl | .lgLoad _ ep sl | .axisCommit _ ep sl
    | .markdirSet _ ep sl | .qhitRead _ ep sl | .weaveLoad _ ep sl | .weaveStart _ ep sl | .weaveStop _ ep sl
    | .weaveStatus _ ep sl | .weaveCfg _ ep sl | .weaveData _ ep sl | .weavePin _ ep sl | .calUnitStatus _ ep sl
    | .calBlockSet _ ep sl | .calBlockStatus _ ep sl | .calPrioritise _ ep sl | .calReinstate _ ep sl
    | .calExport _ ep sl | .filtSet _ ep sl | .filtBankLoad _ ep sl | .filtSwap _ ep sl | .filtReset _ ep sl
    | .filtStatus _ ep sl | .histSet _ ep sl | .histOp _ ep sl | .histStatus _ ep sl | .tpllSet _ ep sl
    | .tpllStatus _ ep sl | .sync0Arm _ ep sl | .bandSet _ ep sl | .opllOp _ ep sl | .outSet _ ep sl
    | .sync1 _ ep sl | .loopSet _ ep sl | .opllStatus _ ep sl | .queueAlloc _ ep sl | .queueFree _ ep sl
    | .queueEnable _ ep sl | .queueBind _ ep sl | .queueRoute _ ep sl | .queueFastpath _ ep sl
    | .queueRingSet _ ep sl | .queueStatus _ ep sl | .queueFlagsClear _ ep sl | .queuePoolSet _ ep sl
    | .linkAssign _ ep sl | .linkEthSet _ ep sl | .linkDlpSet _ ep sl | .linkStatus _ ep sl
    | .linkPartners _ ep sl | .linkEgressBind _ ep sl | .accWindowSet _ ep sl | .accWindowGet _ ep sl
    | .accGrant _ ep sl | .accRevoke _ ep sl | .accViolations _ ep sl | .accUnlock _ ep sl
    | .pwrStateSet _ ep sl | .pwrDomainSet _ ep sl | .pwrWakeCfg _ ep sl | .pwrStatus _ ep sl | .monSet _ ep sl
    | .monRead _ ep sl | .monTemps _ ep sl | .monErrlog _ ep sl | .nvmSave _ ep sl | .nvmProfileSave _ ep sl
    | .nvmProfileLoad _ ep sl | .nvmImageWrite _ ep sl | .nvmImageActivate _ ep sl | .nvmStatus _ ep sl => ep < 50 && sl < 4
  | .groupModeWrite _ m g _ => m < 94 && g < 16
  | .groupTrain g => g < 16
  | .datagramSend _ e => e < 192
  | .heartbeat e => e < 192
  | .pause _ p q => p < 12 && q < 2 ^ 16
  | .rxDisc _ p => p < 12
  | .dlpLinkUp _ l | .lossOfSignal _ l | .rxTimeout _ l | .creditTimeout _ l | .keepSend _ l
    | .timeRequestSend _ l => l < 64
  | .helloRepeat l | .discoveryTimeout l | .discoveryRestart l => l < 64
  | .keep _ l f | .hello _ l f | .accept _ l f | .bye _ l f | .bundleFrame _ l f | .mbxCommand _ l f
    | .mbxRelease _ l f | .timeRequest _ l f | .timeResponse _ l f => l < 64 && f.wf
  | .frameDiscard _ l _ _ => l < 64
  | .partnerBundleSend _ e => e < 32
  | .unlock _ _ _ _ | .debug _ _ _ _ => true
  | .pwrDreqWrite _ m i _ => m < 94 && i < 3
  | .domainChangeDone _ d => d < 96
  | .beat _ m c => m < 94 && c < 5
  | .watchdog _ c | .heartbeatSilence _ c => c < 5
  | .scrub _ a _ => a < 2 ^ 30
  | .sensorFault _ k | .thermalTrip _ k => k < 40
  | .i2cWrite _ off _ => off < 2 ^ 16
  | .upChg _ p _ => p < 12
  | .pauseExpiry p => p < 12

end Sys2Proof
end

