-- ==== Sys2Proof/Tests/Slice0.lean ====
section
/-!
SUPPORT. The model's own tests: commands that are not well formed, single steps and addresses from the worked examples
of the manual, and for every statement of Certificates/Slice0/Obligations.lean that has hypotheses a state and operands
that meet them (`wit_…`, one conjunct per clause; clauses that share their hypotheses share a conjunct).
The theorems are checked one after the other: each waits for the kernel, and hundreds waiting at once are hundreds of
threads.
-/

set_option Elab.async false

namespace Sys2Proof.Tests
open Sys2Proof.Machine

/-- A state with register fields written: field, index, value. -/
def mk (fs : List (Fld × Nat × Nat)) (b : State := State.reset) : State :=
  (fs.foldl (fun (w : Work b) (x : Fld × Nat × Nat) => w.put x.1 x.2.1 x.2.2) (Work.start b)).st

/-- The engine ACTIVE and ready, with firmware running and every domain ON. -/
def up : State :=
  mk [(F.PWR_ENG_READY, 0, 1)]
    { State.reset with eng := .active, t64 := 10000, pwr := { State.reset.pwr with fw := true, ok := true } }

end Sys2Proof.Tests

namespace Sys2Proof.Tests

open Sys2Proof.Machine

/-! ## Ill-formed commands: one for each kind of check, which the check refuses -/

/-- A frame of no words. -/
def noFrame : Frame := { seq := 0, cret := 0, ccret := 0, ws := [] }

theorem test_wf_accepts :
    (Instr.edge 0 543 .a 2048 none).wf = true ∧ (Instr.add 39 3).wf = true ∧ (Instr.keep 0 63 noFrame).wf = true := by
  decide

theorem test_wf_refuses_master : (Instr.registerWrite 0 94 0 0).wf = false := by decide
theorem test_wf_refuses_ward : (Instr.replayPersist 0 8).wf = false := by decide
theorem test_wf_refuses_unit : (Instr.edge 0 544 .a 2048 none).wf = false := by decide
theorem test_wf_refuses_lane : (Instr.partnerWindowExpiry 512).wf = false := by decide
theorem test_wf_refuses_block : (Instr.handover 32).wf = false := by decide
theorem test_wf_refuses_weaver : (Instr.add 40 0).wf = false ∧ (Instr.add 0 4).wf = false := by decide
theorem test_wf_refuses_pairing_unit : (Instr.iwinExpiry 192).wf = false := by decide
theorem test_wf_refuses_port : (Instr.markOut 96).wf = false ∧ (Instr.pauseExpiry 12).wf = false := by decide
theorem test_wf_refuses_queue : (Instr.bundlePlace 0 65536).wf = false := by decide
theorem test_wf_refuses_ring : (Instr.ringCopy 0 1024).wf = false := by decide
theorem test_wf_refuses_source : (Instr.sourceInput 0 1024 true).wf = false := by decide
theorem test_wf_refuses_core : (Instr.claim 0 4).wf = false ∧ (Instr.watchdog 0 5).wf = false := by decide
theorem test_wf_refuses_moderation_unit : (Instr.moderationTimer 128).wf = false := by decide
theorem test_wf_refuses_vector : (Instr.vectorTimer 2048).wf = false := by decide
theorem test_wf_refuses_endpoint : (Instr.sysPing 0 50 0).wf = false ∧ (Instr.sysPing 0 0 4).wf = false := by decide
theorem test_wf_refuses_link : (Instr.keep 0 64 noFrame).wf = false := by decide
theorem test_wf_refuses_frame : (Instr.keep 0 1 { noFrame with cret := 256 }).wf = false := by decide
theorem test_wf_refuses_channel : (Instr.datagramSend 0 192).wf = false := by decide
theorem test_wf_refuses_entry : (Instr.partnerBundleSend 0 32).wf = false := by decide
theorem test_wf_refuses_domain : (Instr.domainChangeDone 0 96).wf = false := by decide
theorem test_wf_refuses_sensor : (Instr.sensorFault 0 40).wf = false := by decide
theorem test_wf_refuses_store_word : (Instr.scrub 0 (2 ^ 30) 1).wf = false := by decide

/-! ## Steps -/

/-- The PCI Express link in L0. -/
def hostUp : PwrSt := { State.reset.pwr with fw := true, ok := true, pcie := 1, perst := false }

theorem reset_wf : State.reset.wf = true := by decide +kernel

/-- On an empty queue the block idles. -/
theorem test_idle : step State.reset = .next State.reset := rfl

/-- The front command leaves the queue and is executed. -/
theorem test_front (s : State) (u : Nat) :
    step { s with pending := [.thresholdApply u, .thresholdApply 7] } =
      exec (.thresholdApply u) { s with pending := [.thresholdApply 7] } := rfl

/-- Chapter 17, worked example 1: FRE_INCFG of L7 lies at register-space offset 0x10_01C0. -/
theorem test_fre_incfg_of_L7 : (State.reset.spot 16 0x1001C0).map (·.cell) = some (.reg .FRE_INCFG 7) := by
  decide +kernel

/-- The same example: PF0 writes 0xA5 at BAR0 offset 0x0110_01C0. -/
theorem test_write_of_fre_incfg :
    (match exec (.registerWrite 10000 0 0x11001C0 0xA5)
        (mk [(⟨.ACC_WR_LO, 0, 1⟩, 0, 1)] { up with pwr := hostUp }) with
      | .next n => n.reg .FRE_INCFG 7
      | _ => 0) = 0xA5 := by
  decide +kernel

/-- Example 2: QD_WR of Q2 lies at BAR0 offset 0x0180_0090. -/
theorem test_qd_wr_of_Q2 : (up.spot 0 (0x1800090 - 0x1000000)).map (·.cell) = some (.reg .QD_WR 2) := by
  decide +kernel

/-- Example 3: with SWIN_BLK 12, BAR0 offset 0x0200_0010 is store word 0x0180_0002. -/
theorem test_store_window : (mk [(F.REG_BANK_SWIN_BLK, 0, 12)] up).place 0 0x2000010 = .store 0x1800002 := by
  decide +kernel

/-- Example 4: slot A of L37 lies at 0x201C_0000 of the internal map. -/
theorem test_slot_of_L37 : up.place 16 0x201C0000 = .vault (slotAddr 37 1) := by
  decide +kernel

/-! ## Witnesses for the statements about the whole block -/

theorem wit_stepRunsTheFrontCommand :
    (∃ (s : State) (c : Instr) (rest : List Instr), s.pending = c :: rest) ∧ ∃ s : State, s.pending = [] :=
  ⟨⟨{ State.reset with pending := [.thresholdApply 3] }, .thresholdApply 3, [], rfl⟩, State.reset, rfl⟩

theorem wit_wellFormedStatesStay : ∃ s t : State, s.wf = true ∧ step s = .next t :=
  ⟨State.reset, State.reset, reset_wf, rfl⟩

theorem wit_registerMap :
    (∃ s : State, s.small = false) ∧ ∃ k i j : Nat, k < 12 ∧ i < 32 ∧ j < 17 :=
  ⟨⟨State.reset, rfl⟩, 11, 31, 16, by decide⟩

theorem wit_addressWindows :
    (∃ f r : Nat, f < 16 ∧ r < 1024) ∧ (∃ f a : Nat, f < 16 ∧ 0x3000000 ≤ a) ∧
    (∃ f a : Nat, f < 16 ∧ a < 0x1000000) ∧ (∃ m c a : Nat, m ∈ [16, 17, 18, 93] ∧ c < 4 ∧ a < 0x40000) ∧
    (∃ m a : Nat, m ∈ [16, 17, 18, 19, 93] ∧ 0x41000000 ≤ a ∧ a < 0x80000000) :=
  ⟨⟨15, 1023, by decide⟩, ⟨0, 0x3000000, by decide⟩, ⟨15, 0xFFFFFF, by decide⟩, ⟨93, 3, 0x3FFFF, by decide⟩,
    93, 0x7FFFFFFF, by decide⟩

end Sys2Proof.Tests

namespace Sys2Proof.Tests.FrontEnd

open Sys2Proof.Machine Sys2Proof.Tests

def fr (x : FreUnit) (xs : List (Fld × Nat × Nat) := []) (s : State := up) : State := mk xs { s with
      fre := [(3, x)],
      cnt := [(3, { on := true, gate := some { cfg := 1, idle := false, idx := 1, t0 := 5, topen := 5 } })] }

theorem wit_thresholdsAndRamps :
    (∃ (s : State) (u T : Nat), (s.freAt u).thrAt = some T) ∧
    (∃ (s : State) (u : Nat) (vp vn : Int), (vp < -2048 * 1300000 ∨ 2048 * 1700000 < vp ∨ vn < -2048 * 1300000 ∨ 2048 *
      1700000 < vn ∨ 2048 * 1250000 < (vp - vn).natAbs) ∧ (s.laneOfUnit u).isSome = true ∧ s.domOn (pdFront (blockOf
      u)) = true ∧ F.FRE_INCFG_MODE.of (s.feCfg u) = 0 ∧ s.looped u = false) ∧
    (∃ (vp vn : Int), (¬(vp < -2048 * 1300000 ∨ 2048 * 1700000 < vp ∨ vn < -2048 * 1300000 ∨ 2048 * 1700000 < vn ∨ 2048
      * 1250000 < (vp - vn).natAbs))) ∧
    (∃ (s : State) (u : Nat) (r : Ramp), (s.freAt u).ramp = some r ∧ r.recEnd = none) ∧
    (∃ (s : State) (u : Nat) (r : Ramp), (s.freAt u).ramp = some r ∧ r.recEnd = none ∧ r.clamped = false) ∧
    (∃ (s : State) (u T : Nat) (r : Ramp), (s.freAt u).ramp = some r ∧ r.recEnd = some T) :=
  ⟨⟨fr { cfg := 0xA1, thrAt := some 10240 } [(⟨.FRE_THR,0,16⟩,3,77), (F.FRE_STAT_EN_EFF,3,1)], 3, 10240,
        by decide +kernel⟩,
    ⟨fr { cfg := 0xA1, thrAt := some 10240 } [(⟨.FRE_THR,0,16⟩,3,77), (F.FRE_STAT_EN_EFF,3,1)], 3, 2048 * 1700000 +
        1, 2048 * 1700000, by decide +kernel⟩,
    ⟨2048 * 1700000, 2048 * 450000, by decide +kernel⟩,
    ⟨fr { ramp := some ⟨9000,1000,true,5000,false,none⟩ } [(F.FRE_STAT_RAMP_RUN,3,1)], 3,
        ⟨9000,1000,true,5000,false,none⟩, by decide +kernel⟩,
    ⟨fr { ramp := some ⟨9000,1000,true,5000,false,none⟩ } [(F.FRE_STAT_RAMP_RUN,3,1)], 3,
        ⟨9000,1000,true,5000,false,none⟩, by decide +kernel⟩,
    ⟨fr { ramp := some ⟨9000,1000,true,5000,false,some 18096⟩ } [(F.FRE_STAT_RAMP_RUN,3,1)], 3, 18096,
        ⟨9000,1000,true,5000,false,some 18096⟩, by decide +kernel⟩⟩

theorem wit_switchingSequence :
    (∃ (s : State) (m n : Nat) (v : Word), n < 512 ∧ s.domOn (pdLogic (wardOf n)) = true ∧ s.laneAbsent n = false ∧
      s.grants m 0 (n * 64) true = true ∧ v &&& 4095 ≠ s.reg Reg.FRE_INCFG n &&& 4095) ∧
    (∃ (s : State) (u : Nat) (q : SwSeq), u < 512 ∧ (s.freAt u).sw = some q ∧ q.stage = 0) ∧
    (∃ (s : State) (u : Nat) (q : SwSeq), (s.freAt u).sw = some q ∧ q.stage = 1) ∧
    (∃ (s : State) (u : Nat) (q : SwSeq), (s.freAt u).sw = some q ∧ q.stage = 2) :=
  ⟨⟨fr {} [(F.FRE_STAT_EN_EFF,3,1)], 16, 3, 0xA1, by decide +kernel⟩,
    ⟨fr { sw := some ⟨0xA1,10240,10240,0⟩ }, 3, ⟨0xA1,10240,10240,0⟩, by decide +kernel⟩,
    ⟨fr { sw := some ⟨0xA1,10240,10240,1⟩ }, 3, ⟨0xA1,10240,10240,1⟩, by decide +kernel⟩,
    ⟨fr { sw := some ⟨0xA1,10240,10240,2⟩, cfg := 0xA1 }, 3, ⟨0xA1,10240,10240,2⟩, by decide +kernel⟩⟩

end Sys2Proof.Tests.FrontEnd

namespace Sys2Proof.Tests.Capture

open Sys2Proof.Machine Sys2Proof.Tests

def fr (x : FreUnit) (xs : List (Fld × Nat × Nat) := []) (s : State := up) : State := mk xs { s with fre := [(3, x)] }
def live : State := fr { cfg := 0xA1 } [(F.FRE_INCFG_EN,3,1), (F.FRE_STAT_EN_EFF,3,1)]
def cp (c : LaneCap) (s : State := up) : State := { s with cap := [(3, c)] }
def big : Rec := { t := 8000, ws := List.replicate 64 1, lane := some 3 }

theorem wit_edgesAreTakenAndRecorded :
    (∃ (s : State) (t u : Nat) (v : Int), u < 512 ∧ s.eng = Eng.watch ∧ s.newLevel u t Circuit.a v = some true ∧
      s.domOn (pdFront (blockOf u)) = true ∧ F.FRE_INCFG_MODE.of (s.freAt u).cfg = 0 ∧ s.on F.FRE_INCFG_WAKE_EN u =
      true ∧ (∀ (e : Nat × Nat), e ∈ s.pwr.edges → e.fst ≠ u)) ∧
    (∃ (s : State) (t u l : Nat) (c : Circuit) (v : Int) (lv : Bool), s.laneOfUnit u = some l ∧ s.eng ≠ Eng.watch ∧
      (s.till t).circuitLive u c = true ∧ s.unsettled l u = false ∧ s.newLevel u t c v = some lv ∧ (u < 512 ∨
      s.overlapOf l = none)) ∧
    (∃ (s : State) (t l : Nat) (v : Int) (lv : Bool), l < 512 ∧ s.eng = Eng.active ∧ (s.till t).circuitLive l Circuit.a
      = true ∧ s.unsettled l l = false ∧ s.overlapOf l = none ∧ s.newLevel l t Circuit.a v = some lv ∧ s.domOn
      (pdCapture (blockOf l)) = true ∧ s.watchSpeed l Circuit.a = false ∧ F.CAP_LANECFG_PICK.of (s.capAt l).cfg = 0 ∧
      F.CAP_LANECFG_EDGE_SEL.of (s.capAt l).cfg ≠ 0 ∧ (lv = true → F.CAP_LANECFG_EDGE_SEL.of (s.capAt l).cfg ≠ 2) ∧ (lv
      = false → 2 ≤ F.CAP_LANECFG_EDGE_SEL.of (s.capAt l).cfg) ∧ (s.capAt l).pres = 0 ∧ Option.all (fun x => decide (x
      + 1024 ≤ t)) (s.capHwAt l).fullA = true) :=
  ⟨⟨fr { cfg := 0xA1 } [(F.FRE_INCFG_WAKE_EN,3,1)]
        { up with eng := .watch, pwr := { up.pwr with edges := [(2, 100)], tq := some 5000 } }, 20000, 3, 1,
        by decide +kernel⟩,
    ⟨mk [(⟨.PWR_DSTAT,10,2⟩,0,0)] live, 20000, 3, 3, .a, 1, true, by decide +kernel⟩,
    ⟨{ live with cap := [(3, { cfg := 0x123 })], capHw := [(3, { fullA := some 18976 })] }, 20000, 3, 1, true,
        by decide +kernel⟩⟩

theorem wit_recordsLeaveTheLane :
    (∃ (s : State) (l : Nat), (s.capAt l).searches ≠ [] ∧ (∀ (x : Search), x ∈ (s.capAt l).searches → x.pick < 4)) ∧
    (∃ (s : State) (l : Nat) (h : Held) (rest : List Held), (s.capAt l).held = h :: rest ∧ (∀ (e : CntIn), e ∈ (s.cntAt
      l).wait → h.r.t < e.at) ∧ s.gateDue l h.r.t = false ∧ (h.r.ev = true ∨ recWords (List.filter (fun x => !x.ev)
      (s.capAt l).buf) + h.r.ws.length ≤ 64)) ∧
    (∃ (s : State) (l : Nat) (h : Held) (rest : List Held), (s.capAt l).held = h :: rest ∧ (∀ (e : CntIn), e ∈ (s.cntAt
      l).wait → h.r.t < e.at) ∧ s.gateDue l h.r.t = false ∧ h.r.ev = false ∧ 64 < recWords (List.filter (fun x =>
      !x.ev) (s.capAt l).buf) + h.r.ws.length) ∧
    (∃ (s : State) (l T : Nat), (s.capAt l).pendAt = some T) :=
  ⟨⟨cp {
          searches := [{ tA := 9000, q := 1, pick := 1, win := 500, k := 3, kOk := true, bank := 0, unit := 3 },
              { tA := 9100, q := 1, pick := 1, win := 500, k := 3, kOk := true, bank := 0, unit := 3 }] }, 3,
        by decide +kernel⟩,
    ⟨cp { held := [⟨1, 9000, { t := 9000, ws := [1,2], lane := some 3 }⟩] }, 3, ⟨1, 9000,
        { t := 9000, ws := [1,2], lane := some 3 }⟩, [], by decide +kernel⟩,
    ⟨cp { held := [⟨1, 9000, { t := 9000, ws := [1,2], lane := some 3 }⟩], buf := [big] }, 3, ⟨1, 9000,
        { t := 9000, ws := [1,2], lane := some 3 }⟩, [], by decide +kernel⟩,
    ⟨mk [(⟨.CAP_LANECFG,0,16⟩,3,0x55), (⟨.CAP_PICK,0,16⟩,3,0x55), (F.CAP_BASE_BASE,3,0x55), (F.CAP_STAT_PEND,3,1)]
        (cp { pendAt := some 10240, pendCfg := true, held := [⟨1, 9000, big⟩] }), 3, 10240, by decide +kernel⟩⟩

end Sys2Proof.Tests.Capture

namespace Sys2Proof.Tests.Gates

open Sys2Proof.Machine Sys2Proof.Tests

def ct (c : CntUnit) (xs : List (Fld × Nat × Nat) := []) (s : State := up) : State := mk xs { s with cnt := [(3, c)] }
def cfgE (est : Nat) : Word := (F.CNT_CFG_REC_EN.put (F.CNT_CFG_CL_FIXED.put (F.CNT_CFG_EST.put 0x30000401 est) 1) 1)
def gE (est : Nat) : Gate := { cfg := cfgE est, idx := 5, idle := false, topen := 5000, t0 := 5120, n := 9 }
def xb : Bundle :=
    { q := 4, producer := xpProducer 129, recs := [], floor := 9000, horizon := 0, openT := 9000, openH := 9000 }
def fb : Bundle := { q := 4, producer := 0, recs := [], floor := 9000, horizon := 0, openT := 9000, openH := 9000 }
def pr (x : PairSt) (xs : List (Fld × Nat × Nat) := []) (s : State := up) : State := mk xs { s with pair := [(3, x)] }

theorem wit_gatesCloseAtTheirBoundaries :
    (∃ (s : State) (l : Nat), (s.cntAt l).on = true ∧ (F.CNT_CFG_CL_FIXED.of (s.cntAt l).cfg = 1 ∨ estOf (s.cntAt
      l).cfg = 5)) ∧
    (∃ (s : State) (l : Nat) (g : Gate), (s.cntAt l).gate = some g ∧ g.maxed = false) ∧
    (∃ (s : State) (l : Nat) (r : Req), r ∈ (s.cntAt l).reqs ∧ (∀ (x : Req), x ∈ (s.cntAt l).reqs → s.bound r ≤ s.bound
      x) ∧ timeBounded (estOf (s.cntAt l).cfgOf) = true ∧ (s.cntAt l).change = none ∧ s.gateDue l (s.bound r) = false ∧
      (s.cntAt l).wait = []) ∧
    (∃ (s : State) (l : Nat) (r : Req) (g : Gate), (s.cntAt l).reqs = [r] ∧ r.n = 1 ∧ r.idle = none ∧ (s.cntAt
      l).change = none ∧ (s.cntAt l).recfg = none ∧ (s.cntAt l).wait = [] ∧ (s.cntAt l).gate = some g ∧ estOf g.cfg = 2
      ∧ F.CNT_CFG_REC_EN.of g.cfg = 1 ∧ g.t0 ≠ s.bound r ∧ g.idle = false ∧ g.uncal = false ∧ g.disc = false ∧ g.limit
      = false ∧ g.rel = false ∧ s.laneBad l = false ∧ (s.cntAt l).stat.on = false ∧ s.gateDue l (s.bound r) = false) :=
  ⟨⟨ct { on := true, cfg := cfgE 2, len := 0x400, nextFix := 10240, reqs := [{ tb := 9728 }] }, 3, by decide +kernel⟩,
    ⟨ct { on := true, cfg := cfgE 2, len := 0x400, nextFix := 20240, gate := some (gE 2) }, 3, gE 2,
        by decide +kernel⟩,
    ⟨ct {
          on := true, cfg := cfgE 2, len := 0x400, nextFix := 20240, gate := some (gE 2),
          reqs := [{ tb := 9728 }, { tb := 30000 }] } [(F.CAL_LSTAT_STATE,3,1)], 3, { tb := 9728 },
        by decide +kernel⟩,
    ⟨ct { on := true, cfg := cfgE 2, len := 0x400, nextFix := 20240, gate := some (gE 2), reqs := [{ tb := 9728 }] }
        [(F.CAL_LSTAT_STATE,3,1)], 3, { tb := 9728 }, gE 2, by decide +kernel⟩⟩

theorem wit_countingConfigTakesEffect :
    (∃ (s : State) (l T : Nat), (s.cntAt l).pendAt = some T ∧ s.gateDue l T = false ∧ F.CNT_CFG_EN.of (s.reg
      Reg.CNT_CFG l) = 1 ∧ s.domOn (pdEngines (wardOf l)) = true) ∧
    (∃ (s : State) (l T : Nat), (s.cntAt l).pendAt = some T ∧ s.gateDue l T = false ∧ F.CNT_CFG_EN.of (s.reg
      Reg.CNT_CFG l) = 0) ∧
    (∃ (s : State) (p : Nat) (a : PEvt), (s.pairAt p).armed = some a ∧ F.PAIR_CFG_KIND.of (s.pairAt p).cfg % 3 = 0 ∧
      (s.pairAt p).q = []) ∧
    (∃ (s : State) (p : Nat) (e : PairCfg) (rest : List PairCfg), (s.pairAt p).pend = e :: rest) :=
  ⟨⟨ct { pendAt := some 10240 } [(F.CNT_CFG_EN,3,1), (F.CNT_CFG_CL_FIXED,3,1), (⟨.CNT_LEN,0,16⟩,3,0x400)], 3, 10240,
        by decide +kernel⟩,
    ⟨ct { on := true, gate := some (gE 2), reqs := [{ tb := 9728 }], pendAt := some 10240 } [(F.CNT_STAT_OPEN,3,1)],
        3, 10240, by decide +kernel⟩,
    ⟨pr { armed := some ⟨9000, false, false, 9000⟩, cfg := 1 } [(F.PAIR_STAT_ARMED,3,1)], 3, ⟨9000, false, false,
        9000⟩, by decide +kernel⟩,
    ⟨pr { pend := [⟨10240, 1, 2, 3, []⟩, ⟨12288, 0, 2, 3, []⟩] } [(F.PAIR_CFG_EN,3,1), (F.PAIR_STAT_SEQ,3,7)], 3,
        ⟨10240, 1, 2, 3, []⟩, [⟨12288, 0, 2, 3, []⟩], by decide +kernel⟩⟩

end Sys2Proof.Tests.Gates

namespace Sys2Proof.Tests.Records

open Sys2Proof.Machine Sys2Proof.Tests

def rc : Rec := { t := 8000, ws := [w64 (0x1 * 2^60 + 3 * 2^51), 5], lane := some 3 }
def bd : Bundle := {
      q := 4, producer := 0, recs := [{ t := 7000, ws := [1,2] }], floor := 7000, horizon := 0, openT := 7000,
      openH := 7000 }
def mg (xs : List (Fld × Nat × Nat)) (s : State := up) : State := mk xs { s with cap := [(3, { buf := [rc] })] }
def fb : Bundle := { q := 4, producer := 0, recs := [], floor := 9000, horizon := 0, openT := 9000, openH := 9000 }

theorem wit_recordsReachTheirBundles :
    (∃ (s : State) (t b l : Nat) (r : Rec) (drop : Bool), b < 32 ∧ l / 16 = b ∧ ((∀ (x : Bundle), x ∈ s.open_ → x.cut =
      none) ∧ (s.mergeAt b).shut = none ∧ ∀ (p : Nat), p ∈ List.map (fun x => 16 * (b / 4) + x) (List.range 16) →
      (s.pairAt p).q = [] ∧ (s.pairAt p).stat.due = []) ∧ (s.mergeAt b).fb = [] ∧ (s.mergeAt b).evs = [] ∧ (s.weavAt
      b).intake.length < 64 ∧ (s.till t).laneOffer b l = some (r, drop) ∧ (∀ (k : Nat), k ∈ lanesOf b → ∀ (o : Rec ×
      Bool), o ∈ (s.till t).laneOffer b k → (o.fst.ev = true → r.ev = true) ∧ (o.fst.ev = r.ev → (l + 15 * ((s.mergeAt
      b).rr + 1)) % 16 ≤ (k + 15 * ((s.mergeAt b).rr + 1)) % 16))) ∧
    (∃ (s : State) (t b : Nat) (r : Rec), b < 32 ∧ ((∀ (x : Bundle), x ∈ s.open_ → x.cut = none) ∧ (s.mergeAt b).shut =
      none ∧ ∀ (p : Nat), p ∈ List.map (fun x => 16 * (b / 4) + x) (List.range 16) → (s.pairAt p).q = [] ∧ (s.pairAt
      p).stat.due = []) ∧ (s.mergeAt b).fb = [] ∧ (s.weavAt b).intake.length < 64 ∧ List.find? ((s.till t).axisReady b)
      (s.mergeAt b).evs = some r) ∧
    (∃ (s : State) (b : Nat) (r : Rec) (rest : List Rec), b < 32 ∧ ((∀ (x : Bundle), x ∈ s.open_ → x.cut = none) ∧
      (s.mergeAt b).shut = none ∧ ∀ (p : Nat), p ∈ List.map (fun x => 16 * (b / 4) + x) (List.range 16) → (s.pairAt
      p).q = [] ∧ (s.pairAt p).stat.due = []) ∧ (s.mergeAt b).fb = r :: rest ∧ s.waiters = [] ∧ s.poolUsed +
      s.granted.length + (s.recQueues b r).length ≤ s.poolBufs) ∧
    (∃ (s : State) (t b l q : Nat) (r : Rec) (x : Bundle), b < 32 ∧ l / 16 = b ∧ ((∀ (x : Bundle), x ∈ s.open_ → x.cut
      = none) ∧ (s.mergeAt b).shut = none ∧ ∀ (p : Nat), p ∈ List.map (fun x => 16 * (b / 4) + x) (List.range 16) →
      (s.pairAt p).q = [] ∧ (s.pairAt p).stat.due = []) ∧ (s.mergeAt b).fb = [] ∧ (s.mergeAt b).evs = [] ∧ (s.weavAt
      b).stop = false ∧ (s.capAt l).buf = [r] ∧ (s.capAt l).drop = none ∧ (∀ (k : Nat), k ∈ lanesOf b → k ≠ l →
      (s.capAt k).buf = [] ∧ (s.capAt k).drop = none) ∧ s.weaved l = false ∧ r.dest = none ∧ (∀ (x : Nat), x ∈ (s.till
      t).axisActs l → r.t < x) ∧ r.lane = some l ∧ (s.weavAt b).intake.length < 80 ∧ s.mapped l (recClass (r.ws.headD
      0)) = [q] ∧ r.close = false ∧ s.openOf b q = some x ∧ x.dead = false ∧ x.len + r.ws.length ≤ s.fpMax b ∧ 3 +
      r.ws.length ≤ s.fpMax b) ∧
    (∃ (s : State) (t x q : Nat) (b : Bundle), (∀ (y : Bundle), y ∈ s.open_ → y.cut = none) ∧ (s.pairAt (128 + x)).q =
      [] ∧ (s.pairAt (128 + x)).stat.due = [] ∧ s.openOf (xpProducer (128 + x)) q = some b ∧ b.dead = false ∧ (b.openH
      + if s.get F.WEA_FPCFG_FP_FLUSH_EXP (F.PAIR_CFG_LANE_A.of (s.pairAt (128 + x)).cfg / 16) = 0 then 2 ^ 30 else min
      (2 ^ 30) (2 ^ max 13 (min 47 (s.get F.WEA_FPCFG_FP_FLUSH_EXP (F.PAIR_CFG_LANE_A.of (s.pairAt (128 + x)).cfg /
      16))))) < (s.till t).pairProgress (128 + x)) ∧
    (∃ (s : State) (t b q e : Nat) (x : Bundle), (∀ (y : Bundle), y ∈ s.open_ → y.cut = none) ∧ b < 32 ∧ s.openOf b q =
      some x ∧ x.dead = false ∧ flushExp (s.get F.WEA_FPCFG_FP_FLUSH_EXP b) = some e ∧ x.openH + 2 ^ e < (s.till
      t).mergeHor b) :=
  ⟨⟨mg [(F.WEA_WSTAT_RUNNING,0,1)] { up with weav := [(0, { cfg := 0x3FFC00FFFF })] }, 20000, 0, 3, rc, false,
        by decide +kernel⟩,
    ⟨mk [(F.WEA_WSTAT_RUNNING,0,1)] { up with
          weav := [(0, { cfg := 0x3FFC00FFFF })],
          merge := [(0, { evs := [{ rc with mask := 8, lane := none }] })] }, 20000, 0,
        { rc with mask := 8, lane := none }, by decide +kernel⟩,
    ⟨{ up with merge := [(0, { fb := [{ rc with dest := some [] }] })] }, 0, { rc with dest := some [] }, [],
        by decide +kernel⟩,
    ⟨mg [(F.WEA_LMAP_EN,3,1), (F.WEA_LMAP_QA,3,4), (F.WEA_LMAP_AMASK,3,15), (F.WEA_FPCFG_FP_BMAX,0,40)]
        { up with open_ := [bd] }, 20000, 0, 3, 4, rc, bd, by decide +kernel⟩,
    ⟨{ up with
          open_ := [{
                q := 4, producer := xpProducer 129, recs := [], floor := 9000, horizon := 0, openT := 9000,
                openH := 9000 }], t64 := 2^40, pair := [(129, { cfg := 0x1 })] }, 1, 1, 4, {
          q := 4, producer := xpProducer 129, recs := [], floor := 9000, horizon := 0, openT := 9000,
          openH := 9000 }, by decide +kernel⟩,
    ⟨mk [(F.WEA_FPCFG_FP_FLUSH_EXP,0,20)] { up with open_ := [fb], t64 := 2^40 }, 1, 0, 4, 20, fb, by decide +kernel⟩⟩

end Sys2Proof.Tests.Records

namespace Sys2Proof.Tests.Queues

open Sys2Proof.Machine Sys2Proof.Tests

def bq (xs : List (Fld × Nat × Nat)) (s : State := up) : State := mk ([(F.QD_CFG_EN,4,1), (F.QD_CFG_SIZE_LOG2,4,10),
    (F.QD_CFG_BASE,4,1024)] ++ xs) s
def rr : Rec := { t := 7000, ws := [1,2] }
def wb : Bundle := {
      q := 4, producer := 3, recs := [rr], floor := 7000, horizon := 9000, openT := 7000, openH := 7000,
      closedT := 9500 }
def ob : Bundle := { q := 4, producer := 3, recs := [rr], floor := 7000, horizon := 0, openT := 7000, openH := 7000 }
def ob5 : Bundle := { q := 5, producer := 3, recs := [rr], floor := 7000, horizon := 0, openT := 7000, openH := 7000 }

theorem wit_queuesOpenAndPop :
    (∃ (s : State) (m q : Nat) (v : Word), s.domOn 85 = true ∧ s.grants m 8 (64 * q) true = true ∧ s.on F.QD_CFG_EN q =
      false ∧ F.QD_CFG_EN.of v = 1 ∧ geometryOk v = true) ∧
    (∃ (s : State) (m q : Nat) (v : Word), s.domOn 85 = true ∧ s.grants m 8 (64 * q) true = true ∧ s.on F.QD_CFG_EN q =
      false ∧ F.QD_CFG_EN.of v = 1 ∧ geometryOk v = false) ∧
    (∃ (s : State) (m q : Nat) (v : Word), s.domOn 85 = true ∧ s.grants m 8 (64 * q) true = true ∧ s.on F.QD_CFG_EN q =
      true ∧ F.QD_CFG_EN.of v = 0) ∧
    (∃ (s : State) (t m q rd : Nat), s.domOn 85 = true ∧ s.grants m 8 (64 * q + 8) true = true ∧ (s.get
      F.QD_MARK_CONS_KIND q = 0 ∨ s.get F.QD_MARK_CONS_KIND q = 6 ∧ m = 19) ∧ (s.get F.QD_MARK_CONS_KIND q = 6 →
      s.headerAt q = true) ∧ s.qk q ≤ 26 ∧ ((s.till t).cycleStart q).snd < ((s.till t).cycleStart q).fst ∧ s.qdiff q rd
      (s.get F.QD_RD_RD q) ≤ ((s.till t).cycleStart q).fst - ((s.till t).cycleStart q).snd) ∧
    (∃ (s : State) (t m q rd : Nat), s.domOn 85 = true ∧ s.grants m 8 (64 * q + 8) true = true ∧ (s.get
      F.QD_MARK_CONS_KIND q = 0 ∨ s.get F.QD_MARK_CONS_KIND q = 6 ∧ m = 19) ∧ (((s.till t).cycleStart q).fst ≤ ((s.till
      t).cycleStart q).snd ∨ ((s.till t).cycleStart q).fst - ((s.till t).cycleStart q).snd < s.qdiff q rd (s.get
      F.QD_RD_RD q))) ∧
    (∃ (s : State) (m q : Nat), s.domOn 85 = true ∧ s.grants m 8 (64 * q + 8) true = true ∧ (¬(s.get
      F.QD_MARK_CONS_KIND q = 0 ∨ s.get F.QD_MARK_CONS_KIND q = 6 ∧ m = 19))) :=
  ⟨⟨up, 16, 4, (F.QD_CFG_EN.put (F.QD_CFG_SIZE_LOG2.put (F.QD_CFG_BASE.put 0 1024) 10) 1), by decide +kernel⟩,
    ⟨up, 16, 4, (F.QD_CFG_EN.put (F.QD_CFG_SIZE_LOG2.put (F.QD_CFG_BASE.put 0 1025) 10) 1), by decide +kernel⟩,
    ⟨bq [] { up with open_ := [ob, ob5], wait := [wb] }, 16, 4, 0, by decide +kernel⟩,
    ⟨bq [(F.QD_WR_CWR,4,7)], 20000, 16, 4, 4, by decide +kernel⟩,
    ⟨bq [(F.QD_WR_CWR,4,7)], 20000, 16, 4, 9, by decide +kernel⟩,
    ⟨bq [(F.QD_WR_CWR,4,7), (F.QD_MARK_CONS_KIND,4,6)], 16, 4, by decide +kernel⟩⟩

theorem wit_bundlesArePlaced :
    (∃ (s : State) (t q : Nat), (s.queAt q).evts = [] ∧ (∀ (b : Bundle), b ∈ s.wait → b.q = q → b.splitter = none) ∧
      (s.wait.zipIdx.any fun x => x.fst.q == q && (s.till t).placeable q x.snd x.fst) = true) ∧
    (∃ (s : State) (q : Nat), (s.queAt q).evts = [] ∧ (∀ (b : Bundle), b ∈ s.wait → b.q = q → b.splitter = none) ∧
      (s.wait.any fun x => x.q == q) = true ∧ s.eng ≠ Eng.watch) ∧
    (∃ (s : State) (t q : Nat) (b : Bundle), s.wait = [b] ∧ b.q = q ∧ b.producer < 256 ∧ b.splitter = none ∧ (s.queAt
      q).evts = [] ∧ s.qk q ≤ 26 ∧ s.get F.QD_CFG_BASE q + 2 ^ s.qk q ≤ 2 ^ 30 ∧ (s.till t).placeable q 0 b = true ∧
      (s.till t).epochFor q b = none ∧ s.ue = [] ∧ s.depth q + b.len ≤ 2 ^ s.qk q ∧ b.len < 2 ^ s.qk q) ∧
    (∃ (s : State) (q : Nat) (b : Bundle), s.wait = [b] ∧ b.q = q ∧ b.producer < 256 ∧ b.splitter = none ∧ (s.queAt
      q).evts = [] ∧ s.qk q ≤ 26 ∧ (s.till (b.closedT + 2 ^ s.holdExp)).epochFor q b = none ∧ s.depth q + b.len ≤ 2 ^
      s.qk q ∧ b.len < 2 ^ s.qk q ∧ s.eng ≠ Eng.watch) :=
  ⟨⟨bq [(F.QD_WR_CWR,4,7)] { up with t64 := 2^40, wait := [wb], que := [(4, { epoch := some 5000 })] }, 4, 4,
        by decide +kernel⟩,
    ⟨bq [(F.QD_WR_CWR,4,7)] { up with t64 := 2^40, wait := [ob5, wb], que := [(4, { epoch := some 5000 })] }, 4,
        by decide +kernel⟩,
    ⟨bq [(F.QD_WR_CWR,4,7)] { up with t64 := 2^40, wait := [wb], que := [(4, { epoch := some 5000 })] }, 4, 4, wb,
        by decide +kernel⟩,
    ⟨bq [(F.QD_WR_CWR,4,7)] { up with t64 := 2^40, wait := [wb], que := [(4, { epoch := some 5000 })] }, 4, wb,
        by decide +kernel⟩⟩

theorem wit_poolForcesAndGrants :
    (∃ (s : State) (b : Bundle), b ∈ s.open_ ∧ b.buf = true ∧ b.dead = false ∧ (∀ (x : Bundle), x ∈ s.open_ → x.buf =
      true → x = b ∨ b.openT < x.openT)) ∧
    (∃ (s : State) (p : Nat) (rest : List Nat), s.waiters = p :: rest ∧ s.poolUsed + s.granted.length < s.poolBufs ∧ (∀
      (x : Nat × Nat × Nat × Rec), x ∈ s.back → x.fst ≠ p)) ∧
    (∃ (s : State) (p : Nat) (rest : List Nat) (x : Nat × Nat × Nat × Rec), s.waiters = p :: rest ∧ s.poolUsed +
      s.granted.length < s.poolBufs ∧ List.filter (fun x => x.fst == p) s.back = [x]) :=
  ⟨⟨{ up with open_ := [ob, { ob5 with openT := 7001 }] }, ob, by decide +kernel⟩,
    ⟨mk [(F.QUE_POOL_POOL_BUFS,0,6)] { up with waiters := [3, 9] }, 3, [9], by decide +kernel⟩,
    ⟨mk [(F.QUE_POOL_POOL_BUFS,0,6)] { up with waiters := [3, 9], back := [(3, 4, 0, rr)] }, 3, [9], (3, 4, 0, rr),
        by decide +kernel⟩⟩

end Sys2Proof.Tests.Queues

namespace Sys2Proof.Tests.Calibration

open Sys2Proof.Machine Sys2Proof.Tests

def c6a : State := mk [(F.CAL_BCFG_RUN,1,1), (F.CAL_BSTAT_POS,1,31), (F.CAL_LSTAT_STATE,513,1),
    (F.CAL_LSTAT_STATE,16,1), (F.CAL_LSTAT_STATE,18,1),
    (F.CAL_LSTAT_CARRY_POS,513,31)] { up with fre := [(18, { cfg := 1 })], calBlk := [(1, { next := 2 })] }
def ov1 (s : State) (k : CalBlk) : State := { s with calBlk := [(1, k)] }
def c6b : State := mk [(F.CAL_BSTAT_POS,1,2), (F.CAL_BSTAT_STEP,1,1), (F.CAL_LACT_M_SKEW,18,0xFFFFFFF0)] c6a
def tb : CalTables := { tc := [1,2,3], dly := some (1,2,3) }
def c6c : State := mk [(F.CAL_BSTAT_STEP,1,3), (F.CAL_LSTAT_CARRY_POS,513,2), (F.FRE_STAT_CARRIED,18,1),
    (F.CAL_LSTAT_STATE,18,2), (F.CAL_LSTAT_STATE,513,2)] c6b
def o1 : Overlap := { back := false, t0 := 4, start := some 7, n := 300, sums := (50, 50), cnts := (5, 5) }
def o2 : Overlap := { back := false, t0 := 4, start := some 7, n := 300, sums := (50000, 50), cnts := (5, 5) }
def o3 : Overlap := { back := false, t0 := 4, start := some 7, n := 30, sums := (50, 50), cnts := (5, 5) }
def o4 : Overlap := { back := true, t0 := 4, start := some 7, n := 30, sums := (50, 50), cnts := (5, 5) }
def runA : CalRun :=
  { dly := (100, 200, 301), tc := [1,2,3], offUv := [], offs := [], dacUv := [], dac := [], gain := 0, lat := 0 }
def runB : CalRun :=
  { dly := (903, 200, 302), tc := [1,2,6], offUv := [], offs := [], dacUv := [], dac := [], gain := 0, lat := 0 }
def c6g : State := { mk [(F.CAL_BSTAT_STEP,1,2)] c6b with cal := [(18, { gapG := some 5000, gapE := some 16384 })] }
def c6v : State :=
  let a := slotAddr 18 1
  { up with
    vaultQ := [18, 5]
    vault := [(a, 1), (a + 2, 18), (a + 4, 0xFE), (a + 5, 0xFF), (a + 6, 0xFF), (a + 7, 0xFF), (a + 0x3080, 0x36),
      (a + 0x3081, 0x84), (a + 0x3082, 0xC8), (a + 0x3083, 0xD5)] }

theorem wit_overlapsAgreeOnSkew :
    (∃ (s : State) (t b p : Nat), s.pwr.fw = true ∧ s.on F.PWR_ENG_READY 0 = true ∧ s.on F.TIM_LOOP_ACTIVE b = false ∧
      s.on F.CAL_BCFG_RUN b = true ∧ s.domOn (pdCapture b) = true ∧ s.domOn (pdFront b) = true ∧ s.blockAbsent b =
      false ∧ s.get F.CAL_BSTAT_POS b = 31 ∧ b < 32 ∧ p < 17 ∧ (Option.map (fun x => x.fst) (s.calBlkAt b).reinst =
      some (unitAt b p) ∨ (s.calBlkAt b).reinst = none ∧ s.nextUnit b = some p ∧ (∀ (x : Nat), x ∈ (s.calBlkAt
      b).pauseT → x ≤ t) ∧ (s.calState (512 + b) = 3 ∨ s.calState (512 + b) = 4 → s.get F.CAL_BCFG_POLICY b ≠ 0))) ∧
    (∃ (s : State) (t b p : Nat), s.pwr.fw = true ∧ s.on F.PWR_ENG_READY 0 = true ∧ s.on F.TIM_LOOP_ACTIVE b = false ∧
      s.on F.CAL_BCFG_RUN b = true ∧ s.domOn (pdCapture b) = true ∧ s.domOn (pdFront b) = true ∧ s.blockAbsent b =
      false ∧ s.get F.CAL_BSTAT_POS b = 31 ∧ (s.calBlkAt b).reinst = none ∧ (∀ (x : Nat), x ∈ (s.calBlkAt b).pauseT → x
      ≤ t) ∧ s.calState (512 + b) = 1 ∧ s.carried b = none ∧ b < 32 ∧ s.nextUnit b = some p ∧ p < 16 ∧
      F.FRE_INCFG_EN.of (s.freAt (16 * b + p)).cfg = 1) ∧
    (∃ (s : State) (b : Nat) (o : Overlap), (s.calBlkAt b).ov = some o ∧ o.start = none) ∧
    (∃ (s : State) (t b st co ce : Nat) (so se : Int) (o : Overlap), (s.calBlkAt b).ov = some o ∧ o.back = false ∧
      o.start = some st ∧ o.sums = (so, se) ∧ o.cnts = (co, ce) ∧ (s.calBlkAt b).bound = none ∧ st + us 200 ≤ t ∧ 256 ≤
      o.n ∧ (s.till t).unmet b o = false ∧ (so * ↑ce - se * ↑co).natAbs * 100000 ≤ 33554432 * co * ce) ∧
    (∃ (s : State) (t b st co ce : Nat) (so se : Int) (o : Overlap), (s.calBlkAt b).ov = some o ∧ o.back = false ∧
      o.start = some st ∧ o.sums = (so, se) ∧ o.cnts = (co, ce) ∧ (s.calBlkAt b).bound = none ∧ st + us 200 ≤ t ∧ 256 ≤
      o.n ∧ (s.till t).unmet b o = false ∧ 33554432 * co * ce < (so * ↑ce - se * ↑co).natAbs * 100000 ∧ (s.calBlkAt
      b).disK < 2) ∧
    (∃ (s : State) (t b st co ce : Nat) (so se : Int) (o : Overlap), (s.calBlkAt b).ov = some o ∧ o.back = false ∧
      o.start = some st ∧ o.sums = (so, se) ∧ o.cnts = (co, ce) ∧ (s.calBlkAt b).bound = none ∧ st + us 200 ≤ t ∧ 256 ≤
      o.n ∧ (s.till t).unmet b o = false ∧ 33554432 * co * ce < (so * ↑ce - se * ↑co).natAbs * 100000 ∧ (s.calBlkAt
      b).disK = 2) ∧
    (∃ (s : State) (b st : Nat) (o : Overlap), (s.calBlkAt b).ov = some o ∧ o.back = false ∧ o.start = some st ∧
      (s.calBlkAt b).bound = none ∧ o.n < 256 ∧ (s.till (st + ms 2)).unmet b o = false ∧ (s.calAt (s.unitInHand
      b)).skewOk = true ∧ s.tempFar (s.unitInHand b) = false) ∧
    (∃ (s : State) (b st : Nat) (o : Overlap), (s.calBlkAt b).ov = some o ∧ o.back = false ∧ o.start = some st ∧
      (s.calBlkAt b).bound = none ∧ o.n < 256 ∧ (s.till (st + ms 2)).unmet b o = false ∧ ((s.calAt (s.unitInHand
      b)).skewOk = false ∨ s.tempFar (s.unitInHand b) = true)) :=
  ⟨⟨c6a, 10000, 1, 2, by decide +kernel⟩,
    ⟨c6a, 10000, 1, 2, by decide +kernel⟩,
    ⟨{ (mk [(F.CAL_BSTAT_POS,1,2)] c6a) with calBlk := [(1, {ov := some { back := false, t0 := 4}})] }, 1,
        { back := false, t0 := 4}, by decide +kernel⟩,
    ⟨ov1 c6b { ov := some o1 }, 328000000, 1, 7, 5, 5, 50, 50, o1, by decide +kernel⟩,
    ⟨ov1 c6b { ov := some o2, disK := 1 }, 328000000, 1, 7, 5, 5, 50000, 50, o2, by decide +kernel⟩,
    ⟨ov1 c6b { ov := some o2, disK := 2 }, 328000000, 1, 7, 5, 5, 50000, 50, o2, by decide +kernel⟩,
    ⟨ov1 { c6b with cal := [(18, { skewOk := true })] } { ov := some o3 }, 1, 7, o3, by decide +kernel⟩,
    ⟨ov1 c6b { ov := some o3 }, 1, 7, o3, by decide +kernel⟩⟩

theorem wit_handoverAndHandback :
    (∃ (s : State) (b p h : Nat), (s.calBlkAt b).bound = some h ∧ s.get F.CAL_BSTAT_STEP b = 1 ∧ s.carried b = none ∧
      s.get F.CAL_BSTAT_POS b = p ∧ p < 16 ∧ b < 32 ∧ s.wardFailed (b / 4) = false) ∧
    (∃ (s : State) (b h : Nat), (s.calBlkAt b).bound = some h ∧ s.get F.CAL_BSTAT_STEP b = 1 ∧ (s.carried b).isSome =
      true) ∧
    (∃ (s : State) (t b st : Nat) (o : Overlap), (s.calBlkAt b).ov = some o ∧ o.back = true ∧ o.start = some st ∧
      (s.calBlkAt b).bound = none ∧ st + us 200 ≤ t ∧ (s.till t).unmet b o = false) ∧
    (∃ (s : State) (b p h : Nat) (tab : CalTables), (s.calBlkAt b).bound = some h ∧ s.get F.CAL_BSTAT_STEP b = 3 ∧
      s.get F.CAL_BSTAT_POS b = p ∧ p < 16 ∧ b < 32 ∧ s.carried b = some (16 * b + p) ∧ s.wardFailed (b / 4) = false ∧
      (s.calBlkAt b).new = some tab) ∧
    (∃ (s : State) (b h : Nat), (s.calBlkAt b).bound = some h ∧ s.get F.CAL_BSTAT_STEP b = 3 ∧ s.carried b = none) :=
  ⟨⟨ov1 c6b { bound := some 512 }, 1, 2, 512, by decide +kernel⟩,
    ⟨ov1 (mk [(F.CAL_LSTAT_CARRY_POS,513,2)] c6b) {bound := some 16384, kept := true, skew := -3}, 1, 16384,
        by decide +kernel⟩,
    ⟨ov1 c6c { ov := some o4 }, 328000000, 1, 7, o4, by decide +kernel⟩,
    ⟨ov1 c6c { bound := some 16384, new := some tb, hits1 := List.replicate 3072 4096, stepN := 3, stepD := 10 }, 1,
        2, 16384, tb, by decide +kernel⟩,
    ⟨ov1 (mk [(F.CAL_LSTAT_CARRY_POS,513,31)] c6c) {bound := some 16384}, 1, 16384, by decide +kernel⟩⟩

theorem wit_offlineMeasurements :
    (∃ (s : State) (b : Nat) (r1 r2 : CalRun), (s.get F.CAL_BSTAT_STEP b = 2 ∨ s.get F.CAL_BSTAT_STEP b = 4) ∧
      (s.calBlkAt b).statOk = false ∧ (s.calBlkAt b).bound = none ∧ runsAgree r1 r2 (decide (F.FRE_INCFG_MODE.of
      (s.feCfg (s.unitInHand b)) = 1)) = true) ∧
    (∃ (s : State) (b : Nat) (r1 r2 : CalRun), (s.get F.CAL_BSTAT_STEP b = 2 ∨ s.get F.CAL_BSTAT_STEP b = 4) ∧
      (s.calBlkAt b).statOk = false ∧ (s.calBlkAt b).bound = none ∧ runsAgree r1 r2 (decide (F.FRE_INCFG_MODE.of
      (s.feCfg (s.unitInHand b)) = 1)) = false ∧ s.get F.CAL_LSTAT_DISAGREE (s.unitInHand b) < 2) ∧
    (∃ (s : State) (b : Nat) (r1 r2 : CalRun), (s.get F.CAL_BSTAT_STEP b = 2 ∨ s.get F.CAL_BSTAT_STEP b = 4) ∧
      (s.calBlkAt b).statOk = false ∧ (s.calBlkAt b).bound = none ∧ runsAgree r1 r2 (decide (F.FRE_INCFG_MODE.of
      (s.feCfg (s.unitInHand b)) = 1)) = false ∧ 2 ≤ s.get F.CAL_LSTAT_DISAGREE (s.unitInHand b) ∧ s.reinstNow b = none
      ∧ b < 32 ∧ s.get F.CAL_BSTAT_POS b ≤ 16 ∧ s.wardFailed (b / 4) = false) ∧
    (∃ (s : State) (b : Nat), (s.get F.CAL_BSTAT_STEP b = 2 ∨ s.get F.CAL_BSTAT_STEP b = 4) ∧ (s.calBlkAt b).statOk =
      true ∧ (s.calBlkAt b).bound = none ∧ (s.calBlkAt b).runs = 0) ∧
    (∃ (s : State) (b : Nat) (w : List Nat), (s.get F.CAL_BSTAT_STEP b = 2 ∨ s.get F.CAL_BSTAT_STEP b = 4) ∧
      (s.calBlkAt b).statOk = true ∧ (s.calBlkAt b).bound = none ∧ (s.calBlkAt b).runs ≠ 0 ∧ (s.calBlkAt b).laps = true
      ∧ hitsAgree (s.calBlkAt b).hits1 w = true) ∧
    (∃ (s : State) (b : Nat) (w : List Nat), (s.get F.CAL_BSTAT_STEP b = 2 ∨ s.get F.CAL_BSTAT_STEP b = 4) ∧
      (s.calBlkAt b).statOk = true ∧ (s.calBlkAt b).bound = none ∧ (s.calBlkAt b).runs ≠ 0 ∧ (s.calBlkAt b).laps =
      false ∧ hitsAgree (s.calBlkAt b).hits1 w = true) ∧
    (∃ (s : State) (b : Nat) (w : List Nat), (s.get F.CAL_BSTAT_STEP b = 2 ∨ s.get F.CAL_BSTAT_STEP b = 4) ∧
      (s.calBlkAt b).statOk = true ∧ (s.calBlkAt b).bound = none ∧ (s.calBlkAt b).runs ≠ 0 ∧ hitsAgree (s.calBlkAt
      b).hits1 w = false ∧ s.get F.CAL_LSTAT_DISAGREE (s.unitInHand b) < 2) ∧
    (∃ (s : State) (b p h : Nat) (tab : CalTables), (s.calBlkAt b).bound = some h ∧ s.get F.CAL_BSTAT_STEP b = 2 ∧
      (s.calBlkAt b).laps = false ∧ s.get F.CAL_BSTAT_POS b = p ∧ p < 17 ∧ b < 32 ∧ (s.calBlkAt b).new = some tab ∧
      s.wardFailed (b / 4) = false) ∧
    (∃ (s : State) (u g e : Nat), u < 512 ∧ (s.calAt u).gapG = some g ∧ (s.calAt u).gapE = some e ∧ (s.get
      F.CAL_BSTAT_STEP (u / 16) ≠ 4 ∨ s.unitInHand (u / 16) ≠ u ∧ s.unitInHand (u / 16) ≠ 512 + u / 16)) ∧
    (∃ (s : State) (b p g e h : Nat) (tab : CalTables), p < 16 ∧ b < 32 ∧ (s.calAt (16 * b + p)).gapG = some g ∧
      (s.calAt (16 * b + p)).gapE = some e ∧ s.get F.CAL_BSTAT_STEP b = 4 ∧ s.get F.CAL_BSTAT_POS b = p ∧ (s.calBlkAt
      b).bound = some h ∧ (s.calBlkAt b).new = some tab ∧ s.wardFailed (b / 4) = false) :=
  ⟨⟨ov1 (mk [(F.CAL_BSTAT_STEP,1,2), (F.CAL_LSTAT_DISAGREE,18,1)] c6b) {}, 1, {
          dly := (100, 200, 301), tc := [1,2,3], offUv := [], offs := [], dacUv := [], dac := [], gain := 0,
          lat := 0 }, {
          dly := (100, 200, 301), tc := [1,2,3], offUv := [], offs := [], dacUv := [], dac := [], gain := 0,
          lat := 0 }, by decide +kernel⟩,
    ⟨ov1 (mk [(F.CAL_BSTAT_STEP,1,2), (F.CAL_LSTAT_DISAGREE,18,1)] c6b) {}, 1, {
          dly := (100, 200, 301), tc := [1,2,3], offUv := [], offs := [], dacUv := [], dac := [], gain := 0,
          lat := 0 }, {
          dly := (903, 200, 302), tc := [1,2,6], offUv := [], offs := [], dacUv := [], dac := [], gain := 0,
          lat := 0 }, by decide +kernel⟩,
    ⟨ov1 (mk [(F.CAL_BSTAT_STEP,1,2), (F.CAL_LSTAT_DISAGREE,18,2)] c6b) {}, 1, runA, runB, by decide +kernel⟩,
    ⟨ov1 (mk [(F.CAL_BSTAT_STEP,1,4)] c6b) {statOk := true, runs := 0}, 1, by decide +kernel⟩,
    ⟨ov1 (mk [(F.CAL_BSTAT_STEP,1,4)] c6b)
        {statOk := true, runs := 1, hits1 := List.replicate 3072 2048, laps := true, new := some tb}, 1,
        List.replicate 3072 2040, by decide +kernel⟩,
    ⟨ov1 (mk [(F.CAL_BSTAT_STEP,1,4)] c6b)
        { statOk := true, runs := 1, hits1 := List.replicate 3072 2048, new := some tb }, 1, List.replicate 3072
        2040, by decide +kernel⟩,
    ⟨ov1 (mk [(F.CAL_BSTAT_STEP,1,4)] c6b)
        { statOk := true, runs := 1, hits1 := List.replicate 3072 2048, new := some tb }, 1, List.replicate 3072
        1, by decide +kernel⟩,
    ⟨ov1 (mk [(F.CAL_BSTAT_STEP,1,2)] c6b)
        { bound := some 16384, new := some tb, hits1 := List.replicate 3072 4096 }, 1, 2, 16384, tb,
        by decide +kernel⟩,
    ⟨ov1 c6g { bound := some 16384, new := some tb, hits1 := List.replicate 3072 4096 }, 18, 5000, 16384,
        by decide +kernel⟩,
    ⟨ov1 (mk [(F.CAL_BSTAT_STEP,1,4)] c6g) { bound := some 5512, new := some tb, hits1 := List.replicate 3072 4096 },
        1, 2, 5000, 16384, 5512, tb, by decide +kernel⟩⟩

theorem wit_temperatureAndSlots :
    (∃ (s : State) (b : Nat), s.modelled b = true ∧ b < 32) ∧
    (∃ (s : State) (u o : Nat), (s.calAt u).quietAt = some o ∧ s.tracks u = true) ∧
    (∃ (s : State) (u o : Nat) (v : Int), (s.calAt u).quietAt = some o ∧ (s.calAt u).sample = some v ∧ s.shortClose u o
      = false ∧ (s.calAt u).hit = false) ∧
    (∃ (s : State) (u o : Nat) (v : Int), (s.calAt u).quietAt = some o ∧ (s.calAt u).sample = some v ∧ s.shortClose u o
      = false ∧ (s.calAt u).hit = true) ∧
    (∃ (s : State) (u : Nat) (rest : List Nat), s.vaultQ = u :: rest ∧ s.vaultWr = none ∧ s.pwr.ok = true ∧ s.domOn 95
      = true ∧ max ((s.slotSeq u 1).getD 0) ((s.slotSeq u 2).getD 0) + 1 ≠ 4294967295) ∧
    (∃ (s : State) (w : VaultWr), s.vaultWr = some w) :=
  ⟨⟨(mk [(F.CAL_LSTAT_STATE,513,0), (F.CAL_BSTAT_TEMP,1,700), (F.CAL_LSTAT_STATE,18,3)]
        { c6b with cal := [(18,{ tab := tb})] }), 1, by decide +kernel⟩,
    ⟨(mk [(F.FRE_INCFG_BASE_TRK,18,1)] { c6b with cal := [(18,{ quietAt := some 5000 })] }), 18, 5000,
        by decide +kernel⟩,
    ⟨(mk [(F.FRE_INCFG_BASE_TRK,18,1), (F.CAP_BASE_BASE_EFF,18,16380)]
        { c6b with cal := [(18,{ quietAt := some 5000, sample := some (-300) })] }), 18, 5000, -300,
        by decide +kernel⟩,
    ⟨(mk [(F.FRE_INCFG_BASE_TRK,18,1), (F.CAL_LBASE_DEFER_RUN,18,63)]
        { c6b with cal := [(18,{ quietAt := some 5000, hit := true, sample := some (-300) })] }), 18, 5000,
        -300, by decide +kernel⟩,
    ⟨{ c6b with vaultQ := [18, 19], cal := [(18,{ tab := tb})] }, 18, [19], by decide +kernel⟩,
    ⟨{ c6b with vaultQ := [18, 19], vaultWr := some ⟨18, 2, [1,2,3,4,5], [0,0,0,1]⟩ }, ⟨18, 2, [1,2,3,4,5],
        [0,0,0,1]⟩, by decide +kernel⟩⟩

/-- `f`, its argument evaluated first: the kernel would else carry the unevaluated one along. -/
def strict (f : Nat → Nat) : Nat → Nat
  | 0 => f 0
  | c + 1 => f (c + 1)

theorem strict_eq (f : Nat → Nat) (c : Nat) : strict f c = f c := by cases c <;> rfl

/-- CRC-32C over 2^k bytes of zero. -/
def zeros : Nat → Nat → Nat
  | 0, c => crcByte c 0
  | k + 1, c => strict (zeros k) (zeros k c)

theorem zeros_eq (k c : Nat) : zeros k c = (List.replicate (2 ^ k) 0).foldl crcByte c := by
  induction k generalizing c with
  | zero => rfl
  | succ k ih =>
    rw [zeros, strict_eq, ih, ih, ← List.foldl_append, List.replicate_append_replicate, Nat.pow_succ, Nat.mul_two]

/-- The first eight bytes of slot A of unit 18 in `c6v`, and its CHECK. -/
def c6h : List Byte := [1, 0, 18, 0, 0xFE, 0xFF, 0xFF, 0xFF]
def c6t : List Byte := [0x36, 0x84, 0xC8, 0xD5]

theorem c6v_zero (i : Nat) (hi : i < 12408) : c6v.vaultAt (slotAddr 18 1 + (8 + i)) = 0 := by
  have hv : c6v.vault = [(0xDC000, 1), (0xDC002, 18), (0xDC004, 0xFE), (0xDC005, 0xFF), (0xDC006, 0xFF),
      (0xDC007, 0xFF), (0xDF080, 0x36), (0xDF081, 0x84), (0xDF082, 0xC8), (0xDF083, 0xD5)] := by decide +kernel
  rw [State.vaultAt, hv, slotAddr, Tab.get]
  simp only [Tab.find]
  repeat rw [if_neg (by omega)]
  rfl

theorem c6v_bytes : c6v.slotBytes 18 1 = c6h ++ (List.replicate 12408 0 ++ c6t) := by
  rw [State.slotBytes, State.vaultBytes, show 0x3084 = 8 + (12408 + 4) from rfl, List.range_add, List.range_add]
  simp only [List.map_append, List.map_map]
  have hh : (List.range 8).map (fun i => c6v.vaultAt (slotAddr 18 1 + i)) = c6h := by decide +kernel
  have hz : (List.range 12408).map ((fun i => c6v.vaultAt (slotAddr 18 1 + i)) ∘ fun x => 8 + x) =
      List.replicate 12408 0 := by
    refine List.eq_replicate_iff.2 ⟨by simp only [List.length_map, List.length_range], fun b hb => ?_⟩
    obtain ⟨i, hi, rfl⟩ := List.mem_map.1 hb
    exact c6v_zero i (List.mem_range.1 hi)
  rw [hh, hz]
  exact congrArg (fun x => c6h ++ (List.replicate 12408 0 ++ x)) (by decide +kernel)

theorem slotValid_of (u : Nat) (bs b : List Byte) (h : bs.take 0x3080 = b) : slotValid u bs =
    (field bs 0 2 = 1 && field bs 2 2 = u && field bs 4 4 != 0 && field bs 4 4 != 0xFFFFFFFF &&
      field bs 0x3080 4 = crc32c b : Bool) := by
  rw [← h]
  rfl

theorem c6v_crc : crc32c (c6h ++ List.replicate 12408 0) = 0xD5C88436 := by
  have h : List.replicate 12408 (0 : Byte) = List.replicate (2 ^ 13) 0 ++ (List.replicate (2 ^ 12) 0 ++
      (List.replicate (2 ^ 6) 0 ++ (List.replicate (2 ^ 5) 0 ++ (List.replicate (2 ^ 4) 0 ++
      List.replicate (2 ^ 3) 0)))) :=
    (congrArg (List.replicate · (0 : Byte))
      (by decide : 12408 = 2 ^ 13 + (2 ^ 12 + (2 ^ 6 + (2 ^ 5 + (2 ^ 4 + 2 ^ 3)))))).trans
      (by simp only [List.replicate_append_replicate])
  rw [crc32c, h]
  simp only [List.foldl_append, ← zeros_eq]
  decide +kernel

theorem wit_temperatureAndSlots_seq :
    ∃ (s : State) (u : Nat) (rest : List Nat), s.vaultQ = u :: rest ∧ s.vaultWr = none ∧ s.pwr.ok = true ∧
      s.domOn 95 = true ∧ max ((s.slotSeq u 1).getD 0) ((s.slotSeq u 2).getD 0) + 1 = 4294967295 := by
  refine ⟨c6v, 18, [5], rfl, rfl, by decide +kernel, by decide +kernel, ?_⟩
  have h1 : c6v.slotSeq 18 1 = some 0xFFFFFFFE := by
    have ht : (c6h ++ (List.replicate 12408 0 ++ c6t)).take 0x3080 = c6h ++ List.replicate 12408 0 := by
      rw [← List.append_assoc]
      exact List.take_left' (by rw [List.length_append, List.length_replicate, show c6h.length = 8 from rfl])
    rw [State.slotSeq, c6v_bytes]
    simp only [slotValid_of 18 _ _ ht, c6v_crc]
    decide +kernel
  have h2 : c6v.slotSeq 18 2 = none := by decide +kernel
  rw [h1, h2]
  rfl

end Sys2Proof.Tests.Calibration

namespace Sys2Proof.Tests.Axis

open Sys2Proof.Machine Sys2Proof.Tests

def c7w (f : AxisSt → AxisSt) (s : State) : State := { s with axis := f s.axis }
def run7 : State := mk [(F.AXI_POS_STATE,0,2), (F.AXI_POS_SLOT,0,3), (F.AXI_POS_TURN,0,9), (F.STAKE_MATCH_EN,7,1),
    (F.STAKE_MATCH_SLOT,7,4), (F.STAKE_ACTION_DELAY,7,70), (F.STAKE_MATCH_EN,9,1), (F.STAKE_MATCH_ANY,9,1),
    (F.STAKE_ACTION_ACTION,9,11), (F.AXI_PERIOD_P,0,2^36)] (c7w (fun x => { x with
      cfg := F.AXI_CFG_STEP_SRC.put (F.AXI_CFG_MARK_SRC.put (F.AXI_CFG_S_M1.put (F.AXI_CFG_COAST_EN.put 0 1) 5) 127) 3,
      placed := true, last := some 5000, real := some 5000 }) up)
def fst (k u a : Nat) (ts : Nat := 20000) (lg : List Word := []) : Fired := {
      idx := 7,
      act := F.STAKE_ACTION_ACTION.put (F.STAKE_ACTION_UNIT.put (F.STAKE_ACTION_ARG.put
        (F.STAKE_ACTION_DELAY.put 0 300000) a) u) k,
      ts := ts, step := 1000, pos := 77, last := 60000, lg := lg }
def iss (f : Fired) (s : State := run7) : State := c7w (fun x => { x with issued := [f] }) s
def g5 : List Word := [32]
def st7 (k u a : Nat) (lg : List Word := []) (s : State := run7) : State := iss (fst k u a 20000 lg) s
def m7 (p : Nat) : State :=
  c7w (fun x => { x with cfg := F.AXI_CFG_MARK_SRC.put (F.AXI_CFG_POLICY.put x.cfg p) 5, marks := [9000] }) run7

theorem wit_axisEnableAndDisable :
    (∃ (s : State) (e : Nat), s.axis.ctlAt = some (e, true)) ∧
    (∃ (s : State) (e : Nat), s.axis.ctlAt = some (e, false) ∧ s.axisState ≠ 0) :=
  ⟨⟨mk [(F.AXI_CFG_STEP_SRC,0,3), (F.AXI_CFG_MARK_SRC,0,9), (F.AXI_POS_SLOT,0,3)] (c7w (fun x =>
        { x with ctlAt := some (20480, true) }) up), 20480, by decide +kernel⟩,
    ⟨c7w (fun x => { x with ctlAt := some (20480, false), fired := [fst 0 0 0] })
        { run7 with cal := [(4, { quietAt := some 500 })] }, 20480, by decide +kernel⟩⟩

theorem wit_axisFollowsItsSteps :
    (∃ (s : State) (t : Nat), (s.stepSrc < 100 ∧ s.running = true ∧ (s.stepSrc < 96 → s.markOut s.stepSrc = false) ∧
      s.markSrc ≠ s.stepSrc) ∧ s.axisState = 2 ∧ s.axis.placed = true ∧ (∀ (m : Nat), m ∈ s.axis.marks → ↑(s.plazaStamp
      s.stepSrc t) < ↑m + s.markOfs) ∧ (∀ (l : Nat), l ∈ s.axis.last → l + 8192 ≤ s.plazaStamp s.stepSrc t)) ∧
    (∃ (s : State) (t l : Nat), (s.stepSrc < 100 ∧ s.running = true ∧ (s.stepSrc < 96 → s.markOut s.stepSrc = false) ∧
      s.markSrc ≠ s.stepSrc) ∧ s.axisState ≠ 0 ∧ s.axis.last = some l ∧ s.plazaStamp s.stepSrc t < l + 8192) ∧
    (∃ (s : State), s.axisState = 2 ∧ s.stepSrc = 100 ∧ s.axis.placed = true ∧ (∀ (m : Nat), m ∈ s.axis.marks → ↑(rnd
      ((s.axis.tg * 2 ^ 16 + s.axis.gk * max (2 ^ 29) (F.AXI_GEN_GEN_PERIOD.of s.axis.gen) : Nat) : Int) (2 ^
      16)).toNat < ↑m + s.markOfs)) ∧
    (∃ (s : State) (l : Nat), s.axisState = 2 ∧ s.axis.last = some l ∧ F.AXI_CFG_COAST_EN.of s.axis.cfg = 1 ∧ s.stepSrc
      ≠ 100 ∧ s.get F.AXI_PERIOD_P 0 ≠ 0 ∧ s.on F.AXI_PERIOD_PVALID 0 = true ∧ s.axis.placed = true ∧ (∀ (m : Nat), m ∈
      s.axis.marks → ↑(s.coastAt l 1) < ↑m + s.markOfs)) ∧
    (∃ (s : State) (l : Nat), s.axisState = 2 ∧ s.axis.last = some l ∧ F.AXI_CFG_COAST_EN.of s.axis.cfg = 1 ∧ s.stepSrc
      ≠ 100 ∧ s.get F.AXI_PERIOD_P 0 ≠ 0 ∧ s.on F.AXI_PERIOD_PVALID 0 = false ∧ s.axis.stall = false) ∧
    (∃ (s : State), s.axisState = 3 ∧ s.axis.placed = true ∧ (∀ (m : Nat), m ∈ s.axis.marks → ↑(s.coastAt
      (s.axis.real.getD 0) s.axis.coastK) < ↑m + s.markOfs)) :=
  ⟨⟨run7, 20000, by decide +kernel⟩,
    ⟨run7, 5000, 5000, by decide +kernel⟩,
    ⟨c7w (fun x => { x with cfg := F.AXI_CFG_STEP_SRC.put x.cfg 100, tg := 4000, gk := 2 }) run7, by decide +kernel⟩,
    ⟨mk [(F.AXI_PERIOD_PVALID,0,1)] run7, 5000, by decide +kernel⟩,
    ⟨run7, 5000, by decide +kernel⟩,
    ⟨mk [(F.AXI_POS_STATE,0,3)] (c7w (fun x => { x with coastK := 4, synth := 3, cfg := F.AXI_CFG_S_M1.put x.cfg 3 })
        run7), by decide +kernel⟩⟩

theorem wit_marksAreJudged :
    (∃ (s : State) (t k : Nat), s.markOut k = false ∧ k < 96 ∧ s.running = true ∧ (∀ (f : Nat), f ∈ (s.markAt k).full →
      f + 8192 ≤ t)) ∧
    (∃ (s : State) (k : Nat), s.markOut k = false ∧ k < 96 ∧ s.running = true) ∧
    (∃ (s : State) (t m : Nat), s.axisState = 2 ∧ s.stepSrc < 96 ∧ s.running = true ∧ s.markOut s.stepSrc = false ∧
      s.markSrc ≠ s.stepSrc ∧ s.axis.placed = true ∧ s.axis.marks = [m] ∧ ↑m + s.markOfs ≤ ↑(s.plazaStamp s.stepSrc t)
      ∧ (∀ (l : Nat), l ∈ s.axis.last → l + 8192 ≤ s.plazaStamp s.stepSrc t) ∧ s.get F.AXI_POS_SLOT 0 + 1 < s.slots ∧
      s.axisPolicy = 1) ∧
    (∃ (s : State) (t m : Nat), s.axisState = 2 ∧ s.stepSrc < 96 ∧ s.running = true ∧ s.markOut s.stepSrc = false ∧
      s.markSrc ≠ s.stepSrc ∧ s.axis.placed = true ∧ s.axis.marks = [m] ∧ ↑m + s.markOfs ≤ ↑(s.plazaStamp s.stepSrc t)
      ∧ (∀ (l : Nat), l ∈ s.axis.last → l + 8192 ≤ s.plazaStamp s.stepSrc t) ∧ s.get F.AXI_POS_SLOT 0 + 1 < s.slots ∧
      s.axisPolicy = 0) :=
  ⟨⟨c7w (fun x => { x with cfg := F.AXI_CFG_MARK_SRC.put x.cfg 5 }) run7, 20000, 5, by decide +kernel⟩,
    ⟨c7w (fun x => { x with cfg := F.AXI_CFG_MARK_SRC.put x.cfg 5 }) run7, 5, by decide +kernel⟩,
    ⟨m7 1, 20000, 9000, by decide +kernel⟩,
    ⟨m7 0, 20000, 9000, by decide +kernel⟩⟩

theorem wit_stakesAct_1 :
    (∃ (s : State) (t : Nat) (f : Fired) (rest : List Fired), s.axis.fired = f :: rest ∧ s.axis.issueAt ≤ (s.till
      t).t64 ∧ (s.till t).t64 ≤ f.last ∧ s.axis.issued.length < 1024 ∧ f.badUnit = false) ∧
    (∃ (s : State) (t : Nat) (f : Fired) (rest : List Fired), s.axis.fired = f :: rest ∧ s.axis.issueAt ≤ (s.till
      t).t64 ∧ (s.till t).t64 ≤ f.last ∧ s.axis.issued.length < 1024 ∧ f.badUnit = true) ∧
    (∃ (s : State) (t : Nat) (f : Fired) (rest : List Fired), s.axis.fired = f :: rest ∧ s.axis.issueAt ≤ (s.till
      t).t64 ∧ (f.last < (s.till t).t64 ∨ 1024 ≤ s.axis.issued.length)) ∧
    (∃ (s : State) (f : Fired), firstFired (List.filter (fun x => x.kind != 5) s.axis.issued) = some f ∧ s.unissued f =
      false ∧ f.kind = 0) ∧
    (∃ (s : State) (f : Fired), firstFired (List.filter (fun x => x.kind != 5) s.axis.issued) = some f ∧ s.unissued f =
      false ∧ f.kind = 1) ∧
    (∃ (s : State) (f : Fired), firstFired (List.filter (fun x => x.kind != 5) s.axis.issued) = some f ∧ s.unissued f =
      false ∧ f.kind = 2) :=
  ⟨⟨c7w (fun x => { x with fired := [fst 0 0 0] }) run7, 5000, fst 0 0 0, [], by decide +kernel⟩,
    ⟨c7w (fun x => { x with fired := [fst 5 200 0] }) run7, 5000, fst 5 200 0, [], by decide +kernel⟩,
    ⟨c7w (fun x => { x with fired := [fst 0 0 0] }) run7, 70000, fst 0 0 0, [], by decide +kernel⟩,
    ⟨st7 0 0 0 g5 { run7 with cnt := [(5, { on := true, cfg := F.CNT_CFG_CL_STAKE.put 0 1 })] }, fst 0 0 0 20000 g5,
        by decide +kernel⟩,
    ⟨st7 1 0 0 g5 { run7 with
          cnt := [(5, { on := true, cfg := F.CNT_CFG_CL_STAKE.put 0 1 })],
          pair := [(3, { cfg := F.PAIR_CFG_EN.put (F.PAIR_CFG_KIND.put (F.PAIR_CFG_LANE_A.put 0 5) 2) 1 })] },
        fst 1 0 0 20000 g5, by decide +kernel⟩,
    ⟨st7 2 0 0 g5 { run7 with cnt := [(5, { on := true, cfg := F.CNT_CFG_CL_STAKE.put 0 1 })] }, fst 2 0 0 20000 g5,
        by decide +kernel⟩⟩

theorem wit_stakesAct_2 :
    (∃ (s : State) (f : Fired), firstFired (List.filter (fun x => x.kind != 5) s.axis.issued) = some f ∧ s.unissued f =
      false ∧ f.kind = 3) ∧
    (∃ (s : State) (f : Fired), firstFired (List.filter (fun x => x.kind != 5) s.axis.issued) = some f ∧ s.unissued f =
      false ∧ f.kind = 9) ∧
    (∃ (s : State) (f : Fired), firstFired (List.filter (fun x => x.kind != 5) s.axis.issued) = some f ∧ s.unissued f =
      false ∧ f.kind = 4) ∧
    (∃ (s : State) (f : Fired), firstFired (List.filter (fun x => x.kind != 5) s.axis.issued) = some f ∧ s.unissued f =
      false ∧ f.kind = 7) ∧
    (∃ (s : State) (f : Fired), firstFired (List.filter (fun x => x.kind != 5) s.axis.issued) = some f ∧ s.unissued f =
      false ∧ f.kind = 8) ∧
    (∃ (s : State) (f : Fired), firstFired (List.filter (fun x => x.kind != 5) s.axis.issued) = some f ∧ s.unissued f =
      false ∧ f.kind = 6) :=
  ⟨⟨st7 3 0 1 g5, fst 3 0 1 20000 g5, by decide +kernel⟩,
    ⟨st7 9 0 0 g5 (mk [(F.FRE_RAMP_SRC_STAKE,5,1), (F.FRE_RAMP_SLOPE,5,7)]
        { run7 with fre := [(5, {cfg := F.FRE_INCFG_EN.put (F.FRE_INCFG_B_EN.put 0 1) 1})] }), fst 9 0 0 20000
        g5, by decide +kernel⟩,
    ⟨st7 4 65 0, fst 4 65 0, by decide +kernel⟩,
    ⟨st7 7 65 (4096*2+5), fst 7 65 (4096*2+5), by decide +kernel⟩,
    ⟨st7 8 3 9 [] (mk [(F.WEA_WSTAT_RUNNING,3,1)] { run7 with weav := [(3, { cfg := F.WEA_WCFG_SIG_EN.put 0 1 })] }),
        fst 8 3 9, by decide +kernel⟩,
    ⟨st7 6 3 3 [0xFFFF00000001], fst 6 3 3 20000 [0xFFFF00000001], by decide +kernel⟩⟩

theorem wit_markPortsAndStakeTable :
    (∃ (s : State) (p : Nat) (f : Fired), firstFired (List.filter (fun x => x.kind == 5 && x.unit == p) s.axis.issued)
      = some f ∧ s.markOut p = true) ∧
    (∃ (s : State) (p : Nat) (f : Fired), firstFired (List.filter (fun x => x.kind == 5 && x.unit == p) s.axis.issued)
      = some f ∧ s.markOut p = false) ∧
    (∃ (s : State) (p e : Nat), (s.markAt p).pulse = some e) ∧
    (∃ (s : State) (m i : Nat), s.domOn 85 = true ∧ s.grants m 4 (65536 + 16 * i) true = true) ∧
    (∃ (s : State) (m : Nat), s.domOn 85 = true ∧ s.grants m 4 32 true = true ∧ s.axisState ≤ 1 ∧ s.wf = true) ∧
    (∃ (s : State) (m : Nat), s.domOn 85 = true ∧ s.grants m 4 32 true = true ∧ 1 < s.axisState) :=
  ⟨⟨st7 5 3 9 [] (mk [(F.AXI_MARKDIR0_DIR,0,8)] run7), 3, fst 5 3 9, by decide +kernel⟩,
    ⟨st7 5 3 9, 3, fst 5 3 9, by decide +kernel⟩,
    ⟨{ run7 with mark := [(3, { level := true, pulse := some 20000})] }, 3, 20000, by decide +kernel⟩,
    ⟨c7w (fun x => { x with shadow := [(7, 99)] }) run7, 16, 7, by decide +kernel⟩,
    ⟨mk [(F.AXI_POS_STATE,0,1), (⟨.STG_MATCH,0,64⟩,7,55), (⟨.STG_ACTION,0,64⟩,8,66), (⟨.STG_LG,0,64⟩,2,67),
        (⟨.AXI_LG,0,64⟩,5,67)] run7, 16, by decide +kernel⟩,
    ⟨c7w (fun x => { x with shadow := [(7, 99)] }) run7, 16, by decide +kernel⟩⟩

end Sys2Proof.Tests.Axis

namespace Sys2Proof.Tests.Weavers

open Sys2Proof.Machine Sys2Proof.Tests

def wr (t : Nat := 500) (seq : Nat := 4) : WRec := {
      kind := 0, h := [0x1000000000000055, 2, 3, 4], words := 1, lane := some 49, close := false, input := 0,
      time := t, hor := 900, seq := seq, src := { t := t, ws := [0x1000000000000055]} }
def sl0 : WSlot := {
      r := wr, pc := 17, g := [11, 0xFFFFFFFFFFFFFFF0, 3, 4, 5, 6, 7], h := [0x1000000000000055, 2, 3, 4], count := 5,
      emits := [], ended := false }
def sl1 : WSlot :=
    { r := wr 800 6, pc := 18, g := [0,0,0,0,0,0,0], h := [1, 2, 3, 4], count := 0, emits := [], ended := false }
def w3 : WeavSt := {
      slots := [some sl1, none, some sl0, none], shared := [101,102,103,104,105,106,107,108],
      cfg := F.WEA_WCFG_SIG_EN.put 0 1 }
def W (i : Nat) (w : Nat := 3) (v : WeavSt := w3) : State := mk [(⟨.WEA_PROG,0,64⟩, 1024*w+17, i), (⟨.WEA_LOCAL,0,64⟩,
    512*w+5, 55)] { up with weav := [(w, v)] }
def RI (f rd ra rb : Nat) := 1*2^26 + rd * 2^21 + ra * 2^16 + rb * 2^11 + f
def I (op rd ra k : Nat) := op*2^26 + rd * 2^21 + ra * 2^16 + k
def pq : State := mk [(F.WEA_WSTAT_RUNNING,33,1), (F.WEA_PIN_QUEUE,9,4), (F.WEA_PIN_EN,9,1),
    (F.QD_MARK_CONS_KIND,4,5), (F.QD_MARK_CONS_ID,4,9), (F.QD_CFG_EN,4,1), (F.QD_CFG_SIZE_LOG2,4,10),
    (F.QD_WR_CWR,4,4), (F.WEA_PCFG_BEND_EN,33,1)] (W 0 33 { w3 with ahead := [0,0,0,0,0,0,0,0]})
def pq1 : State := { pq with store := [(0, 0xF000400000000000), (1,700), (2,0x1000000000000055), (3,0)] }
def ob4 : Bundle := { q := 4, producer := 0x23, recs := [], floor := 9, horizon := 0, openT := 1, openH := 2 }
def em4 : WSlot :=
  { sl0 with ended := true, emits := [{ q := 4, ws := [0x1000000000000055], o := false, c := false }] }
def W4 (x : WSlot) (os : List Bundle) : State :=
  { W 0 3 { w3 with cfg := F.WEA_WCFG_BMAX.put w3.cfg 30, slots := [some sl1, none, some x, none] } with open_ := os }
def q4 (s : State) : State :=
  mk [(F.QD_CFG_EN,4,1), (F.QD_CFG_SIZE_LOG2,4,10), (F.ACC_WCTRL_EN,320,1), (F.ACC_WRANGE_LIMIT,320,500),
    (⟨.ACC_WR_LO,0,64⟩,320,2^23)] { s with que := [(4, {})] }

theorem wit_weaverComputes :
    ∃ (s : State) (w sl i : Nat) (x : WSlot), s.atWord w sl x i WOp.j :=
  ⟨W (0x18*2^26 + 77), 3, 2, 0x18*2^26 + 77, sl0, by decide +kernel⟩

theorem wit_weaverReadsWritesAndEmits_1 :
    (∃ (s : State) (w sl i : Nat) (x : WSlot), s.atWord w sl x i WOp.ld) ∧
    (∃ (s : State) (w sl i : Nat) (x : WSlot), s.atWord w sl x i WOp.st) ∧
    (∃ (s : State) (w sl i : Nat) (x : WSlot), s.atWord w sl x i WOp.lut) ∧
    (∃ (s : State) (w sl i : Nat) (x : WSlot), s.atWord w sl x i WOp.rds) ∧
    (∃ (s : State) (w sl i : Nat) (x : WSlot), s.atWord w sl x i WOp.rdl) ∧
    (∃ (s : State) (w sl i : Nat) (x : WSlot), s.atWord w sl x i WOp.signal) :=
  ⟨⟨W (I 0x24 2 1 0xFFFA), 3, 2, I 0x24 2 1 0xFFFA, sl0, by decide +kernel⟩,
    ⟨W (I 0x25 2 1 0xFFFA), 3, 2, I 0x25 2 1 0xFFFA, sl0, by decide +kernel⟩,
    ⟨mk [(F.WEA_TD_BASE,26,3), (F.WEA_TD_SIZE_LOG2,26,4), (F.WEA_TD_ISHIFT,26,1)] (W (I 0x26 9 1 2)), 3, 2, I 0x26 9
        1 2, sl0, by decide +kernel⟩,
    ⟨W (I 0x28 2 0 0), 3, 2, I 0x28 2 0 0, sl0, by decide +kernel⟩,
    ⟨mk [(⟨.CAL_LSTAT,0,64⟩,11,77)] (W (I 0x29 2 1 1)), 3, 2, I 0x29 2 1 1, sl0, by decide +kernel⟩,
    ⟨W (0x3E*2^26+6), 3, 2, 0x3E*2^26+6, sl0, by decide +kernel⟩⟩

theorem wit_weaverReadsWritesAndEmits_2 :
    (∃ (s : State) (w sl i : Nat) (x : WSlot) (ws : List Word), s.atWord w sl x i WOp.emit ∧ emitWords x (bits i 18 3)
      = some ws ∧ s.autoSplit w = true ∧ s.grants (weavMaster w) (20 + BitVec.toNat (s.wregOf w x (fRd i)) % 2 ^ 16 /
      512) (BitVec.toNat (s.wregOf w x (fRd i)) % 2 ^ 16 % 512) true = true) ∧
    (∃ (s : State) (w sl i : Nat) (x : WSlot) (ws : List Word), s.atWord w sl x i WOp.emiti ∧ emitWords x (bits i 19 3)
      = some ws ∧ s.autoSplit w = true ∧ bit i 24 = false ∧ s.grants (weavMaster w) (20 + fImm i / 512) (fImm i % 512)
      true = true) ∧
    (∃ (s : State) (w sl i : Nat) (x : WSlot) (ws : List Word) (l : Nat), s.atWord w sl x i WOp.emiti ∧ emitWords x
      (bits i 19 3) = some ws ∧ s.autoSplit w = true ∧ bit i 24 = true ∧ w < 32 ∧ x.r.lane = some l ∧ (∀ (q : Nat), q ∈
      s.mapped l (recClass (x.h.getD 0 0)) true → s.grants (weavMaster w) (20 + q / 512) (q % 512) true = true)) ∧
    (∃ (s : State) (w sl i : Nat) (x : WSlot), s.atWord w sl x i WOp.yield) ∧
    (∃ (s : State) (w sl i : Nat) (x : WSlot), s.atWord w sl x i WOp.drop) :=
  ⟨⟨mk [(F.ACC_WCTRL_EN,320,1), (F.ACC_WRANGE_LIMIT,320,500), (⟨.ACC_WR_LO,0,64⟩,320,2^23)] (W (0x30*2^26 +
        3*2^21+1*2^18+2^17) 3 { w3 with cfg := F.WEA_WCFG_AUTO_SPLIT.put w3.cfg 1}), 3, 2, 0x30*2^26 +
        3*2^21+1*2^18+2^17, sl0, [0x1000000000000055], by decide +kernel⟩,
    ⟨mk [(F.ACC_WCTRL_EN,336,1), (F.ACC_WRANGE_LIMIT,336,500), (⟨.ACC_WR_LO,0,64⟩,336,2^23)] (W (0x31*2^26 + 2^25 +
        2^22+1*2^19+ 515) 3 { w3 with cfg := F.WEA_WCFG_AUTO_SPLIT.put w3.cfg 1}), 3, 2, 0x31*2^26 + 2^25 +
        2^22+1*2^19+ 515, sl0, [0x1000000000000055], by decide +kernel⟩,
    ⟨mk ([(⟨.WEA_LMAP,0,64⟩,49,0x10)] ++ (List.range 2).flatMap fun g => [(F.ACC_WCTRL_EN,320+16*g,1),
        (F.ACC_WRANGE_LIMIT,320+16*g,511), (⟨.ACC_WR_LO,0,64⟩,320+16*g,2^23)]) (W (0x31*2^26 + 2^24 +
        2^22+1*2^19) 3 { w3 with cfg := F.WEA_WCFG_AUTO_SPLIT.put w3.cfg 1}), 3, 2, 0x31*2^26 + 2^24 +
        2^22+1*2^19, sl0, [0x1000000000000055], 49, by decide +kernel⟩,
    ⟨W (0x3D*2^26), 3, 2, 0x3D*2^26, sl0, by decide +kernel⟩,
    ⟨W (0x3C*2^26), 3, 2, 0x3C*2^26, sl0, by decide +kernel⟩⟩

theorem wit_weaverFaults :
    (∃ (s : State) (w sl : Nat) (x : WSlot), s.slotOf w sl = some x ∧ x.ended = false ∧ s.oldest w sl = true ∧ x.pc <
      1024 ∧ wdecode (BitVec.toNat (s.reg Reg.WEA_PROG (1024 * w + x.pc)) % 2 ^ 32) = none ∧ x.count < if
      F.WEA_WCFG_BUDGET.of (s.weavAt w).cfg = 0 then 1024 else F.WEA_WCFG_BUDGET.of (s.weavAt w).cfg) ∧
    (∃ (s : State) (w sl : Nat) (x : WSlot), s.slotOf w sl = some x ∧ x.ended = false ∧ s.oldest w sl = true ∧ x.pc <
      1024 ∧ (if F.WEA_WCFG_BUDGET.of (s.weavAt w).cfg = 0 then 1024 else F.WEA_WCFG_BUDGET.of (s.weavAt w).cfg) ≤
      x.count) :=
  ⟨⟨W 0 3, 3, 2, sl0, by decide +kernel⟩,
    ⟨{ (W 0 3 { w3 with cfg := F.WEA_WCFG_BUDGET.put w3.cfg 5, sigs := [(1,2)], intake := [wr 900 7]}) with
          open_ := [ob4] }, 3, 2, sl0, by decide +kernel⟩⟩

theorem wit_weaverTakesStartsAndStops :
    (∃ (s : State) (w sl : Nat) (r : WRec) (rest : List WRec), (s.weavAt w).intake = r :: rest ∧ List.find? (fun i =>
      (s.slotOf w i).isNone) (List.range 4) = some sl) ∧
    (∃ (s : State) (w sl : Nat) (x : WSlot), List.find? (s.oldest w) (List.range 4) = some sl ∧ s.slotOf w sl = some x
      ∧ x.ended = true ∧ x.emits = []) ∧
    (∃ (s : State) (w sl : Nat) (x : WSlot) (q : Nat) (ws : List Word) (b : Bundle), List.find? (s.oldest w)
      (List.range 4) = some sl ∧ s.slotOf w sl = some x ∧ x.ended = true ∧ x.emits =
      [{ q := q, ws := ws, o := false, c := false }] ∧ ws ≠ [] ∧ (∀ (b : Bundle), b ∈ s.open_ → b.producer =
      weavProducer w → b.cut = none) ∧ (s.weavAt w).writes = [] ∧ F.WEA_WCFG_FLUSH_EXP.of (s.weavAt w).cfg = 0 ∧ 3 +
      ws.length ≤ s.weavMax w ∧ s.openOf (weavProducer w) q = some b ∧ b.dead = false ∧ b.len + ws.length ≤ s.weavMax
      w) ∧
    (∃ (s : State) (w sl : Nat) (x : WSlot) (q : Nat) (ws : List Word), List.find? (s.oldest w) (List.range 4) = some
      sl ∧ s.slotOf w sl = some x ∧ x.ended = true ∧ x.emits = [{ q := q, ws := ws, o := false, c := false }] ∧ ws ≠ []
      ∧ (∀ (b : Bundle), b ∈ s.open_ → b.producer = weavProducer w → b.cut = none) ∧ (s.weavAt w).writes = [] ∧
      F.WEA_WCFG_FLUSH_EXP.of (s.weavAt w).cfg = 0 ∧ 3 + ws.length ≤ s.weavMax w ∧ w < 40 ∧ s.openOf (weavProducer w) q
      = none ∧ s.canOpen (weavProducer w) q = true ∧ s.active q = true ∧ (List.filter (fun x => x.producer ==
      weavProducer w) s.open_).length < 8) ∧
    (∃ (s : State) (t w ts arg : Nat) (rest : List (Nat × Nat)), (s.weavAt w).sigs = (ts, arg) :: rest ∧ ts ≤ (s.till
      t).weavHor w ∧ (s.weavAt w).intake.length < 64 ∧ (s.weavAt w).feed = []) ∧
    (∃ (s : State) (t w q e : Nat) (b : Bundle), s.openOf (weavProducer w) q = some b ∧ b.dead = false ∧ (∀ (b :
      Bundle), b ∈ s.open_ → b.producer = weavProducer w → b.cut = none) ∧ flushExp (F.WEA_WCFG_FLUSH_EXP.of (s.weavAt
      w).cfg) = some e ∧ b.openH + 2 ^ e < (s.till t).weavHor w) ∧
    (∃ (s : State) (m w : Nat), s.domOn (weavPd w) = true ∧ s.grants m 5 (weavArea w + 280) true = true ∧ s.weavAbsent
      w = false ∧ s.on F.WEA_WCTRL_RUN w = false) ∧
    (∃ (s : State) (m w : Nat), s.domOn (weavPd w) = true ∧ s.grants m 5 (weavArea w + 280) true = true) ∧
    (∃ (s : State) (w : Nat), (s.weavAt w).stop = true ∧ (s.weavAt w).unretired = []) :=
  ⟨⟨W 0 3 { w3 with intake := [wr 901 8, wr 902 9] }, 3, 1, wr 901 8, [wr 902 9], by decide +kernel⟩,
    ⟨W4 { em4 with emits := [] } [ob4], 3, 2, { em4 with emits := [] }, by decide +kernel⟩,
    ⟨W4 em4 [ob4], 3, 2, em4, 4, [0x1000000000000055], ob4, by decide +kernel⟩,
    ⟨q4 (W4 em4 []), 3, 2, em4, 4, [0x1000000000000055], by decide +kernel⟩,
    ⟨W 0 3 { w3 with sigs := [(500, 77)] }, 3, 3, 500, 77, [], by decide +kernel⟩,
    ⟨{ W 0 3 { cfg := F.WEA_WCFG_FLUSH_EXP.put 0 14 } with open_ := [ob4] }, 40000, 3, 4, 14, ob4, by decide +kernel⟩,
    ⟨W 0 3, 16, 3, by decide +kernel⟩,
    ⟨mk [(F.WEA_WCTRL_RUN,3,1), (F.WEA_WSTAT_RUNNING,3,1)] (W 0 3 { w3 with sigs := [(500, 77)] }), 16, 3,
        by decide +kernel⟩,
    ⟨{ W 0 3 { stop := true } with open_ := [ob4] }, 3, by decide +kernel⟩⟩

theorem wit_plazaWeaverInputs :
    (∃ (s : State) (w i : Nat), 32 ≤ w ∧ s.on F.WEA_WSTAT_RUNNING w = true ∧ (s.back.any fun x => x.fst == weavProducer
      w) = false ∧ s.nextPin w = some i ∧ s.peek (s.pinQueue w i) ((s.weavAt w).ahead.getD i 0) = none) ∧
    (∃ (s : State) (w i : Nat) (b : QBundle), 32 ≤ w ∧ s.on F.WEA_WSTAT_RUNNING w = true ∧ (s.back.any fun x => x.fst
      == weavProducer w) = false ∧ s.nextPin w = some i ∧ s.peek (s.pinQueue w i) ((s.weavAt w).ahead.getD i 0) = some
      (some b) ∧ (s.on F.WEA_PCFG_HIST_EN w = false ∨ ∀ (r : List Word), r ∈ b.recs → bits (BitVec.toNat (r.getD 0 0))
      60 4 ≠ 10)) ∧
    (∃ (s : State) (w i k h seq : Nat) (hd tr : Word) (rest : List (Nat × Nat × Nat × Word × Word × Nat)), (s.weavAt
      w).ends = (i, k, h, hd, tr, seq) :: rest ∧ ((s.weavAt w).unretired.any fun x => decide (x.seq < seq)) = false) ∧
    (∃ (s : State) (w i k h : Nat) (a b : List (Nat × Nat × Nat × List Nat)), (s.weavAt w).unrel = a ++ (i, k, h, [])
      :: b ∧ (∀ (x : Nat × Nat × Nat × List Nat), x ∈ a → x.fst ≠ i ∧ x.snd.snd.snd ≠ []) ∧ s.qk (s.pinQueue w i) ≤
      26) :=
  ⟨⟨mk [(F.QD_WR_CWR,4,0)] pq1, 33, 1, by decide +kernel⟩,
    ⟨pq1, 33, 1, (((match pq1.peek 4 0 with | some (some b) => [b] | _ => []))[0]'(by decide +kernel)),
        by decide +kernel⟩,
    ⟨W 0 33 { w3 with ends := [(1, 7, 700, 5, 6, 3)] }, 33, 1, 7, 700, 3, 5, 6, [], by decide +kernel⟩,
    ⟨{ W 0 33 { w3 with unrel := [(1, 7, 700, [])] } with que := [(0,{})] }, 33, 1, 7, 700, [], [], by decide +kernel⟩⟩

/-- A word for each of the instructions that write a register. -/
theorem wit_weaverComputes_registers :
    ∀ x ∈ ([(RI 0 2 1 2, .add), (RI 1 2 1 9, .sub), (RI 2 8 1 9, .and), (RI 3 2 1 9, .or), (RI 4 2 1 9, .xor),
      (RI 5 2 2 3, .shl), (RI 6 2 2 3, .shr), (RI 7 0 2 3, .sar), (RI 8 2 2 3, .mul), (RI 9 2 2 3, .minu),
      (RI 10 16 2 3, .maxu), (RI 11 2 2 3, .sltu), (RI 12 17 2 3, .slt), (RI 13 2 2 2, .seq), (I 2 2 2 0xFFFE, .addi),
      (I 3 2 2 0xFFFE, .andi), (I 4 2 2 0xFFFE, .ori), (I 5 2 2 0xFFFE, .xori), (I 6 2 2 5, .shli), (I 7 2 2 5,
      .shri), (I 8 2 2 5, .sari), (I 9 2 2 0xFFFE, .ldih), (I 10 1 2 (5*64+3), .ext), (I 11 1 2 (5*64+3), .exts),
      (I 12 2 1 (5*64+3), .ins)] : List (Nat × WOp)), (W x.1).atWord 3 2 sl0 x.1 x.2 := by
  decide +kernel

/-- The instruction stands at the slot, its target is inside the program, and its condition is `b`. -/
abbrev branchAt (op : WOp) (k : Nat) (i : Nat) (b : Bool) (c : Word → Word → Bool) : Prop :=
  (W i).atWord 3 2 sl0 i op ∧ c ((W i).wregOf 3 sl0 (fRd i)) ((W i).wregOf 3 sl0 (fRa i)) = b ∧
    0 ≤ (sl0.pc : Int) + sval k (bits i 0 k) ∧ (sl0.pc : Int) + sval k (bits i 0 k) ≤ 1023

/-- Each conditional branch, once taken and once not. -/
theorem wit_weaverComputes_branches :
    (branchAt .beq 16 (I 0x10 2 2 0xFFFE) true (· == ·) ∧ branchAt .beq 16 (I 0x10 2 3 0xFFFE) false (· == ·)) ∧
    (branchAt .bne 16 (I 0x11 2 3 7) true (· != ·) ∧ branchAt .bne 16 (I 0x11 2 2 7) false (· != ·)) ∧
    (branchAt .bltu 16 (I 0x12 3 2 7) true (·.toNat < ·.toNat) ∧
      branchAt .bltu 16 (I 0x12 2 3 7) false (·.toNat < ·.toNat)) ∧
    (branchAt .bgeu 16 (I 0x13 2 3 7) true (·.toNat ≥ ·.toNat) ∧
      branchAt .bgeu 16 (I 0x13 3 2 7) false (·.toNat ≥ ·.toNat)) ∧
    (branchAt .blt 16 (I 0x14 2 3 7) true (·.toInt < ·.toInt) ∧
      branchAt .blt 16 (I 0x14 3 2 7) false (·.toInt < ·.toInt)) ∧
    (branchAt .bge 16 (I 0x15 3 2 7) true (·.toInt ≥ ·.toInt) ∧
      branchAt .bge 16 (I 0x15 2 3 7) false (·.toInt ≥ ·.toInt)) := by
  refine ⟨⟨?_, ?_⟩, ⟨?_, ?_⟩, ⟨?_, ?_⟩, ⟨?_, ?_⟩, ⟨?_, ?_⟩, ?_, ?_⟩ <;> decide +kernel

/-- The four branches on a bit or an immediate, each once taken and once not (g1 holds 11). -/
theorem wit_weaverComputes_bitBranches :
    (branchAt .bbs 15 (0x16*2^26 + 1*2^21 + 3*2^15 + 5) true (fun x _ => bit x.toNat 3) ∧
      branchAt .bbs 15 (0x16*2^26 + 1*2^21 + 2*2^15 + 5) false (fun x _ => bit x.toNat 2)) ∧
    (branchAt .bbc 15 (0x17*2^26 + 1*2^21 + 2*2^15 + 5) true (fun x _ => !bit x.toNat 2) ∧
      branchAt .bbc 15 (0x17*2^26 + 1*2^21 + 3*2^15 + 5) false (fun x _ => !bit x.toNat 3)) ∧
    (branchAt .beqi 13 (0x19*2^26 + 1*2^21 + 11*2^13 + 5) true (fun x _ => x.toNat == 11) ∧
      branchAt .beqi 13 (0x19*2^26 + 1*2^21 + 12*2^13 + 5) false (fun x _ => x.toNat == 12)) ∧
    (branchAt .bnei 13 (0x1A*2^26 + 1*2^21 + 12*2^13 + 5) true (fun x _ => x.toNat != 12) ∧
      branchAt .bnei 13 (0x1A*2^26 + 1*2^21 + 11*2^13 + 5) false (fun x _ => x.toNat != 11)) := by
  refine ⟨⟨?_, ?_⟩, ⟨?_, ?_⟩, ⟨?_, ?_⟩, ?_, ?_⟩ <;> decide +kernel

end Sys2Proof.Tests.Weavers

namespace Sys2Proof.Tests.Filters

open Sys2Proof.Machine Sys2Proof.Tests

def fw (id : Nat) (f t : Nat) : List Word := [w64 (5*2^60 + id*2^50 + 1*2^48 + t), w64 f, 0, 0]
def fq (kind id : Nat) (ws : List Word) (s : State := up) : State := mk [(F.QD_MARK_CONS_KIND,4,kind),
    (F.QD_MARK_CONS_ID,4,id), (F.QD_CFG_EN,4,1), (F.QD_CFG_SIZE_LOG2,4,10), (F.QD_CFG_EN,6,1),
    (F.QUE_POOL_POOL_BUFS,0,5), (F.QD_WR_CWR,4,3+ws.length)]
    { s with store := [(0, w64 (0xF0*2^56 + (3+ws.length)*2^44)), (1,700)] ++ (ws.zipIdx.map fun (w,i) => (2+i,w)) }
def f5 : FltSt := {
      on := true, cfg := 0, sel := F.FLT_SEL_TYPE.put (F.FLT_SEL_ID.put 0 9) 5, xref := 3, tofs := 0xFFFFFFFFFFFE,
      io := F.FLT_IO_IN_Q.put (F.FLT_IO_OUT_Q.put (F.FLT_IO_BMAX.put 0 40) 6) 4 }
def fa : State := mk [(F.FLT_GAIN_GAIN,40,0x28000),
    (⟨.FLT_OFFSET,0,64⟩,40,7)] { fq 3 5 (fw 9 100 50000) with flt := [(5, f5)] }
def fb : State := { fq 3 5 (fw 8 100 50000) with flt := [(5, f5)] }
def hb : State := mk [(F.HE_CFG_EN,5,1), (F.HE_CFG_IN_Q,5,4),
    (⟨.FLT_SEL,0,64⟩,69,(F.FLT_SEL_TYPE.put (F.FLT_SEL_ID.put 0 9) 5).toNat), (F.HE_CFG_KSHIFT,5,2),
    (⟨.HE_KOFS,0,64⟩,5,20)] (fq 4 5 (fw 9 100 50000))
def qbOf (s : State) : List QBundle := (s.peek 4 0).join.toList
def fx : Bundle := { q := 6, producer := 0x85, recs := [], floor := 9, horizon := 0, openT := 1, openH := 2 }
def fc : State :=
  { up with flt := [(5, { f5 with io := F.FLT_IO_FLUSH_EXP.put f5.io 13 })], prog := [(0x85, 90000)], open_ := [fx] }

theorem wit_filterTakesRecords :
    (∃ (s : State) (p : Nat) (b : QBundle) (r : List Word), (s.fltAt p).on = true ∧ s.on F.FLT_STAT_CFG_ERR p = false ∧
      (s.fltAt p).inp.busy = false ∧ (s.fltAt p).rsts = [] ∧ (s.back.any fun x => x.fst == fltProducer p) = false ∧
      b.errs = [] ∧ b.recs = [r] ∧ s.boundTo (F.FLT_IO_IN_Q.of (s.fltAt p).io) 3 p = true ∧ s.peek (F.FLT_IO_IN_Q.of
      (s.fltAt p).io) 0 = some (some b) ∧ s.qk (F.FLT_IO_IN_Q.of (s.fltAt p).io) ≤ 26 ∧ selects (s.fltAt p).sel
      (s.epochOf (F.FLT_IO_IN_Q.of (s.fltAt p).io) ((s.fltAt p).inp.start b).next.fst.ep) r = none) ∧
    (∃ (s : State) (t p : Nat) (b : QBundle) (r : List Word) (smp : Sample), (s.fltAt p).on = true ∧ s.on
      F.FLT_STAT_CFG_ERR p = false ∧ (s.fltAt p).inp.busy = false ∧ (s.fltAt p).rsts = [] ∧ (s.back.any fun x => x.fst
      == fltProducer p) = false ∧ b.errs = [] ∧ b.recs = [r] ∧ s.boundTo (F.FLT_IO_IN_Q.of (s.fltAt p).io) 3 p = true ∧
      s.peek (F.FLT_IO_IN_Q.of (s.fltAt p).io) 0 = some (some b) ∧ s.qk (F.FLT_IO_IN_Q.of (s.fltAt p).io) ≤ 26 ∧
      selects (s.fltAt p).sel (s.epochOf (F.FLT_IO_IN_Q.of (s.fltAt p).io) ((s.fltAt p).inp.start b).next.fst.ep) r =
      some smp ∧ smp.q ≤ 2 ∧ (∀ (k : Nat × Nat), k ∈ smp.seq → ∀ (a : Nat), a ∈ (s.fltAt p).prev → k.fst = (a + 1) % 2
      ^ k.snd) ∧ F.FLT_CFG_MODE.of (s.fltAt p).cfg = 0 ∧ s.stages p false = 0 ∧ s.stages p true = 0 ∧ s.on
      F.FLT_STAT_BANK p = false ∧ (s.fltAt p).xf = none ∧ (s.fltAt p).req = none ∧ (s.fltAt p).out = none ∧ (s.fltAt
      p).evt = [] ∧ s.active (F.FLT_IO_OUT_Q.of (s.fltAt p).io) = true ∧ s.openOf (fltProducer p) (F.FLT_IO_OUT_Q.of
      (s.fltAt p).io) = none ∧ s.canOpen (fltProducer p) (F.FLT_IO_OUT_Q.of (s.fltAt p).io) = true ∧ 5 ≤
      F.FLT_IO_BMAX.of (s.fltAt p).io ∧ (s.till t).stakeFirst 4 p ((s.till t).near (↑smp.t + sval 48 (BitVec.toNat
      (s.fltAt p).tofs))) = false) :=
  ⟨⟨fb, 5, (qbOf fb)[0]'(by decide +kernel), fw 8 100 50000, by decide +kernel⟩,
    ⟨fa, 10000, 5, (qbOf fa)[0]'(by decide +kernel), fw 9 100 50000, (selects f5.sel 0 (fw 9 100
        50000)).toList[0]'(by decide +kernel), by decide +kernel⟩⟩

theorem wit_filterControl :
    (∃ (s : State) (p e : Nat) (b : Bundle), flushExp (F.FLT_IO_FLUSH_EXP.of (s.fltAt p).io) = some e ∧ s.openOf
      (fltProducer p) (F.FLT_IO_OUT_Q.of (s.fltAt p).io) = some b ∧ b.openH + 2 ^ e < s.progAt (fltProducer p) ∧ b.dead
      = false) ∧
    (∃ (s : State) (t m p : Nat), s.domOn 87 = true ∧ s.grants m 6 (p * 512 + 48) true = true ∧ (∀ (tr : Nat), tr ∈
      (s.fltAt p).rsts ++ [(s.till t).t64] → (s.till t).fltPast p tr = false)) ∧
    (∃ (s : State) (t m p : Nat), s.domOn 87 = true ∧ s.grants m 6 (p * 512 + 48) true = true ∧ (∀ (tr : Nat), tr ∈
      (s.fltAt p).rsts ++ [(s.till t).t64] → (s.till t).fltPast p tr = true)) ∧
    (∃ (s : State) (m p : Nat), s.domOn 87 = true ∧ s.grants m 6 (p * 512 + 48) true = true) ∧
    (∃ (s : State) (m a i : Nat) (r : Reg), s.domOn 87 = true ∧ s.grants m 6 a true = true ∧ bankWord a = some (r, i) ∧
      (s.fltAt (i / 8)).xf = none ∧ decide (4 ≤ i % 8) ≠ s.on F.FLT_STAT_BANK (i / 8)) ∧
    (∃ (s : State) (m a i : Nat) (r : Reg), s.domOn 87 = true ∧ s.grants m 6 a true = true ∧ bankWord a = some (r, i) ∧
      ((s.fltAt (i / 8)).xf.isSome = true ∨ decide (4 ≤ i % 8) = s.on F.FLT_STAT_BANK (i / 8))) :=
  ⟨⟨fc, 5, 13, fx, by decide +kernel⟩,
    ⟨fa, 20000, 16, 5, by decide +kernel⟩,
    ⟨{ up with flt := [(5, f5)] }, 20000, 16, 5, by decide +kernel⟩,
    ⟨fc, 16, 5, by decide +kernel⟩,
    ⟨fc, 16, 5*0x200+0x190, 44, .FLT_OFFSET, by decide +kernel⟩,
    ⟨fc, 16, 5*0x200+0x108, 40, .FLT_GAIN, by decide +kernel⟩⟩

theorem wit_histograms :
    (∃ (s : State) (t h tk : Nat) (v : Int) (b : QBundle) (r : List Word), s.on F.HE_CFG_EN h = true ∧ s.on
      F.HE_STAT_CFG_ERR h = false ∧ s.get F.HE_CFG_KEY_SRC h < 2 ∧ (s.heAt h).snap = none ∧ (s.heAt h).ops = [] ∧
      (s.heAt h).inp.busy = false ∧ b.errs = [] ∧ b.recs = [r] ∧ s.boundTo (s.get F.HE_CFG_IN_Q h) 4 h = true ∧ s.peek
      (s.get F.HE_CFG_IN_Q h) 0 = some (some b) ∧ s.qk (s.get F.HE_CFG_IN_Q h) ≤ 26 ∧ (s.till t).heRecordKey h
      (s.epochOf (s.get F.HE_CFG_IN_Q h) ((s.heAt h).inp.start b).next.fst.ep) r = some (v, tk) ∧ (s.till t).stakeFirst
      7 h tk = false ∧ (s.heAt h).at_ ≤ tk ∧ 0 ≤ (v - sval 64 (BitVec.toNat (s.reg Reg.HE_KOFS h))) / ↑(2 ^ s.get
      F.HE_CFG_KSHIFT h) ∧ (v - sval 64 (BitVec.toNat (s.reg Reg.HE_KOFS h))) / ↑(2 ^ s.get F.HE_CFG_KSHIFT h) ≤ 4095 ∧
      s.get { reg := Reg.HE_BIN, lo := 0, w := 48 } (4096 * h + ((v - sval 64 (BitVec.toNat (s.reg Reg.HE_KOFS h))) /
      ↑(2 ^ s.get F.HE_CFG_KSHIFT h)).toNat) + 1 < 2 ^ 48 ∧ s.get F.HE_STAT_TOTAL h + 1 < 2 ^ 48) ∧
    (∃ (s : State) (m h : Nat), s.domOn 87 = true ∧ s.grants m 6 (heCtrlAt h) true = true ∧ (s.get F.HE_CFG_KEY_SRC h <
      2 ∨ (s.heAt h).snap.isSome = true ∨ (s.heAt h).ops ≠ [])) ∧
    (∃ (s : State) (m h : Nat), s.domOn 87 = true ∧ s.grants m 6 (heCtrlAt h) true = true ∧ 2 ≤ s.get F.HE_CFG_KEY_SRC
      h ∧ (s.heAt h).snap = none ∧ (s.heAt h).ops = []) ∧
    (∃ (s : State) (h e : Nat), s.snapExp h = some e) ∧
    (∃ (s : State) (h k a t : Nat) (rest : List (Nat × Nat × Nat)), (s.heAt h).snap = none ∧ (s.get F.HE_CFG_KEY_SRC h
      < 2 → t ≤ (s.heAt h).hor) ∧ (s.heAt h).ops = (k, a, t) :: rest) ∧
    (∃ (s : State) (h t0 : Nat) (ws : List Word), (s.heAt h).snap = some (ws, t0) ∧ s.canOpen (192 + h) (s.get
      F.HE_SNAP_OUT_Q h) = true) :=
  ⟨⟨hb, 10000, 5, 50000, 100, (qbOf hb)[0]'(by decide +kernel), fw 9 100 50000, by decide +kernel⟩,
    ⟨mk [(F.HE_CFG_SNAP_EXP,5,14)] { up with he := [(5,{ ops := [(0,3,20000)], per := 16384})] }, 16, 5,
        by decide +kernel⟩,
    ⟨mk [(F.HE_CFG_KEY_SRC,5,2), (⟨.HE_BIN,0,64⟩,5*4096+7,12), (F.HE_STAT_TOTAL,5,12), (⟨.HE_OVER,0,64⟩,5,12)] up,
        16, 5, by decide +kernel⟩,
    ⟨mk [(F.HE_CFG_SNAP_EXP,5,14)] { up with he := [(5,{ ops := [(0,3,20000)], per := 16384})] }, 5, 14,
        by decide +kernel⟩,
    ⟨{ up with he := [(5,{ ops := [(0,3,20000), (3,0,30000)], hor := 25000})] }, 5, 0, 3, 20000, [(3,0,30000)],
        by decide +kernel⟩,
    ⟨mk [(F.HE_SNAP_OUT_Q,5,6)] { fq 4 5 [] with he := [(5,{ snap := some ([5,6], 700) })] }, 5, 700, [5,6],
        by decide +kernel⟩⟩

end Sys2Proof.Tests.Filters

namespace Sys2Proof.Tests.Timebase

open Sys2Proof.Machine Sys2Proof.Tests

def tw (f : TimSt → TimSt) (s : State) : State := { s with tim := f s.tim }
def rf (xs : List (Fld × Nat × Nat) := []) (s : State := up) : State := mk ([(F.TIM_TCFG_LOCAL_SEL,0,3),
    (F.TIM_TCFG_REF_MODE,0,1), (F.TIM_TCFG_FTOL,0,100), (F.TIM_REF_FREQ,1,10000000*65536),
    (F.TIM_REF_FREQ,3,10000000*65536), (F.TIM_TSTAT_LOCAL_OK,0,1), (F.QD_CFG_EN,4,1), (F.TIM_TEVT_IE,0,1)] ++ xs)
    { s with que := [(4, {})], tim := { s.tim with last := [none, some 900, none, some 950] } }
def ent (st : Nat) (xs : List (Fld × Nat × Nat) := []) : State := mk ([(F.TIM_OSTAT_STATE,0,st),
    (F.TIM_OSTAT_ENTRY,0,2), (F.TIM_BAND0_N_INT,2,100), (F.TIM_BAND0_R,2,32), (F.TIM_BAND0_OSRC,2,0),
    (F.TIM_BAND1_VALID,2,1), (F.QD_CFG_EN,4,1), (F.TIM_OQ_OEVQ_EN,0,1), (F.TIM_OQ_OEVQ,0,4), (F.TIM_OCLK_EN,3,1)] ++
    xs) (tw (fun x => { x with
      op := if st == 1 then some (2,true,5000) else if st == 2 then some (2,false,5000) else none, retry := 44000 })
    { up with clk := [(3,0x41)], que := [(4,{})]})
def th3 : State :=
  tw (fun x => { x with meas := some (3000000, 3), step := none })
    (rf [(F.TIM_TSTAT_STATE,0,3), (F.TIM_TSTAT_REF_ACT,0,1), (F.AXI_POS_STATE,0,2)])
def clk3 : State :=
  mk [(F.TIM_OCLK_EN,3,1), (F.TIM_OCLK_CDLY,3,9), (F.TIM_OCLK_DIV_X2,3,20), (F.TIM_OCLK_FDLY,3,0),
    (F.TIM_OCLK_SYNC_EN,3,1), (F.TIM_SYNC_ARM1,0,1)] { up with clk := [(3, F.TIM_OCLK_FDLY.put 0x41 7)] }
def drs (op : Option (Nat × Bool × Nat)) : State :=
  mk [(F.TIM_OCLK_EN,3,1), (F.TIM_OCLK_SRC,3,1), (F.TIM_SYNC_ARM1,0,1)]
    (tw (fun x => { x with drst := [(5000,[3,4],false), (6000,[9],false)], op := op }) { up with clk := [(3, 0x41)] })

theorem wit_referenceInputs :
    (∃ (s : State) (k : Nat), k < 4 ∧ s.running = true) ∧
    (∃ (s : State) (t k : Nat), k < 4 ∧ s.refUsed k = true ∧ s.refSilent t k = true ∧ s.eng ≠ Eng.watch ∧ k ≠ s.localIn
      ∧ s.localBad = false ∧ s.refLos s.localIn = false ∧ (optAt s.tim.last s.localIn).isSome = true ∧ s.get
      F.TIM_TCFG_REF_MODE 0 = k ∧ s.refInUse = some k ∧ (s.tpll = 2 ∨ s.tpll = 4 ∨ s.tpll = 5)) ∧
    (∃ (s : State) (t k : Nat), k < 4 ∧ s.refUsed k = true ∧ s.refSilent t k = true ∧ s.eng ≠ Eng.watch ∧ k =
      s.localIn) ∧
    (∃ (s : State) (t k : Nat), k < 4 ∧ s.refUsed k = true ∧ s.refSilent t k = true ∧ s.eng = Eng.watch ∧ k =
      s.localIn) ∧
    (∃ (s : State) (k f : Nat), k < 4 ∧ s.refUsed k = true ∧ ((f : Int) - ↑(s.get F.TIM_REF_FREQ k)).natAbs * 1000000 ≤
      max 1 (s.get F.TIM_TCFG_FTOL 0) * s.get F.TIM_REF_FREQ k) ∧
    (∃ (s : State) (k f : Nat), k < 4 ∧ s.refUsed k = true ∧ max 1 (s.get F.TIM_TCFG_FTOL 0) * s.get F.TIM_REF_FREQ k <
      ((f : Int) - ↑(s.get F.TIM_REF_FREQ k)).natAbs * 1000000) ∧
    (∃ (s : State) (t k : Nat), k < 4 ∧ s.refReady t k = true) ∧
    (∃ (s : State) (t : Nat), s.tpll = 1 ∧ s.tim.acq + ms 100 ≤ t) :=
  ⟨⟨rf [(refBit 12 1, 0, 1)], 1, by decide +kernel⟩,
    ⟨rf [(F.TIM_TSTAT_STATE,0,2), (F.TIM_TSTAT_REF_ACT,0,1), (F.TIM_TSTAT_REF_VALID,0,1), (refBit 8 1, 0, 1), (refBit
        8 3, 0, 1)], 3300000, 1, by decide +kernel⟩,
    ⟨rf [(refBit 12 1, 0, 1)], 3300000, 3, by decide +kernel⟩,
    ⟨{ rf [] with eng := .watch }, 3300000, 3, by decide +kernel⟩,
    ⟨rf [(refBit 12 1, 0, 1)], 1, 655360000000, by decide +kernel⟩,
    ⟨rf [(refBit 12 1, 0, 1)], 1, 1, by decide +kernel⟩,
    ⟨rf [], 163840000000, 1, by decide +kernel⟩,
    ⟨rf [(F.TIM_TSTAT_STATE,0,1), (F.TIM_TSTAT_REF_ACT,0,1)], 163840000000, by decide +kernel⟩⟩

theorem wit_timebaseSteps :
    (∃ (s : State) (t m : Nat) (sum : Int), s.tpll = 3 ∧ s.tim.meas = some (sum, m) ∧ 0 < m ∧ s.tim.measT + ms 1 ≤ t) ∧
    (∃ (s : State) (t : Nat), s.tpll = 4 ∧ s.slewOver t = true) ∧
    (∃ (s : State) (d : Int) (b : Nat), s.tim.step = some (d, some b) ∧ (∀ (x : Int × Nat), x ∈ s.tim.load → b ≤
      x.snd)) ∧
    (∃ (s : State) (d : Int) (b : Nat), s.tim.load = some (d, b) ∧ (∀ (x : Int × Option Nat), x ∈ s.tim.step → ∀ (c :
      Nat), c ∈ x.snd → b < c)) ∧
    (∃ (s : State) (lv : Bool), s.running = true ∧ lv ≠ s.on F.TIM_SYNC_POL0 0 ∧ s.on F.TIM_SYNC_ARM0 0 = false) ∧
    (∃ (s : State) (lv : Bool), s.running = true ∧ lv ≠ s.on F.TIM_SYNC_POL0 0 ∧ s.on F.TIM_SYNC_ARM0 0 = true) ∧
    (∃ (s : State) (m : Nat), s.domOn 85 = true ∧ s.grants m 7 96 true = true) :=
  ⟨⟨th3, 1638400000, 3, 3000000, by decide +kernel⟩,
    ⟨tw (fun x => { x with slew := (500, 77) }) (rf [(F.TIM_TSTAT_STATE,0,4), (F.TIM_SREM_SREM,0,99),
        (F.TIM_TSTAT_REF_ACT,0,1), (F.AXI_POS_STATE,0,2)]), 20000, by decide +kernel⟩,
    ⟨tw (fun x => { x with step := some (-1500, some 20480) }) (rf [(F.TIM_TSTAT_STATE,0,5),
        (F.TIM_TSTAT_REF_ACT,0,1)]), -1500, 20480, by decide +kernel⟩,
    ⟨tw (fun x => { x with load := some (3000000, 20480) }) (rf [(F.TIM_TSTAT_STATE,0,2), (F.TIM_TSTAT_REF_ACT,0,1),
        (F.TIM_SYNC_LOAD0_PEND,0,1)]), 3000000, 20480, by decide +kernel⟩,
    ⟨tw (fun x => { x with meas := some (3000000, 3), step := none }) (rf [(F.TIM_TSTAT_STATE,0,3),
        (F.TIM_TSTAT_REF_ACT,0,1), (F.AXI_POS_STATE,0,2)]), true, by decide +kernel⟩,
    ⟨rf [(F.TIM_SYNC_ARM0,0,1), (F.TIM_PRESET_PRESET,0,777777)], true, by decide +kernel⟩,
    ⟨mk [(F.TIM_OCLK_EN,3,1), (F.TIM_OCLK_CDLY,3,9), (F.TIM_OCLK_DIV_X2,3,20), (F.TIM_OCLK_FDLY,3,0),
        (F.TIM_OCLK_SYNC_EN,3,1), (F.TIM_SYNC_ARM1,0,1)] { up with clk := [(3, F.TIM_OCLK_FDLY.put 0x41 7)] },
        16, by decide +kernel⟩⟩

theorem wit_outputLoop_1 :
    (∃ (s : State) (m e : Nat), s.domOn 85 = true ∧ s.domOn 89 = true ∧ s.grants m 7 256 true = true ∧ e < 16 ∧ (s.opll
      = 0 ∨ s.opll = 3 ∨ s.opll = 4) ∧ s.entryUsable e = true) ∧
    (∃ (s : State) (m e : Nat), s.domOn 85 = true ∧ s.domOn 89 = true ∧ s.grants m 7 256 true = true ∧ e < 16 ∧ (s.opll
      = 0 ∨ s.opll = 3 ∨ s.opll = 4) ∧ s.entryUsable e = true ∧ s.entryStale e = false) ∧
    (∃ (s : State) (m e : Nat), s.domOn 85 = true ∧ s.domOn 89 = true ∧ s.grants m 7 256 true = true ∧ e < 16 ∧ (s.opll
      = 0 ∨ s.opll = 3 ∨ s.opll = 4) ∧ s.entryUsable e = true ∧ s.entryStale e = true) ∧
    (∃ (s : State) (m e : Nat), s.domOn 85 = true ∧ s.domOn 89 = true ∧ s.grants m 7 256 true = true ∧ e < 16 ∧ (s.opll
      = 0 ∨ s.opll = 3 ∨ s.opll = 4) ∧ s.entryUsable e = false) ∧
    (∃ (s : State) (m e : Nat), s.domOn 85 = true ∧ s.domOn 89 = true ∧ s.grants m 7 256 true = true ∧ e < 16 ∧ (s.opll
      = 0 ∨ s.opll = 3 ∨ s.opll = 4)) ∧
    (∃ (s : State) (m e : Nat), s.domOn 85 = true ∧ s.domOn 89 = true ∧ s.grants m 7 256 true = true ∧ e < 16 ∧ (s.opll
      = 1 ∨ s.opll = 2)) :=
  ⟨⟨ent 0, 16, 2, by decide +kernel⟩,
    ⟨ent 0, 16, 2, by decide +kernel⟩,
    ⟨ent 0 [(F.TIM_BAND1_VALID,2,0), (F.TIM_OEVT_IE,0,1)], 16, 2, by decide +kernel⟩,
    ⟨ent 3 [(F.TIM_BAND0_N_INT,2,3)], 16, 2, by decide +kernel⟩,
    ⟨ent 0, 16, 2, by decide +kernel⟩,
    ⟨ent 1, 16, 2, by decide +kernel⟩⟩

theorem wit_outputLoop_2 :
    (∃ (s : State) (band tune e : Nat) (search : Bool), (Option.map (fun x => (x.fst, x.snd.fst)) s.tim.op = some (e,
      search) ∨ s.tim.op = none ∧ s.opll = 4 ∧ e = s.get F.TIM_OSTAT_ENTRY 0 ∧ search = false) ∧ band < 2 ^
      F.TIM_BAND1_BAND.w ∧ tune < 2 ^ F.TIM_BAND1_TUNE.w ∧ e < 16) ∧
    (∃ (s : State), s.opll = 3) ∧
    (∃ (s : State), s.opll = 4) ∧
    (∃ (s : State) (m e : Nat), s.domOn 89 = true ∧ e < 16 ∧ s.grants m 7 (512 + 16 * e) true = true ∧ ¬(s.opll = 3 ∧
      s.get F.TIM_OSTAT_ENTRY 0 = e)) ∧
    (∃ (s : State) (m e : Nat), s.domOn 89 = true ∧ e < 16 ∧ s.grants m 7 (512 + 16 * e) true = true ∧ s.opll = 3 ∧
      s.get F.TIM_OSTAT_ENTRY 0 = e) :=
  ⟨⟨ent 1, 2, 5000, 2, true, by decide +kernel⟩,
    ⟨ent 3 [(F.TIM_OQ_LOL_GATE,0,0)], by decide +kernel⟩,
    ⟨ent 4, by decide +kernel⟩,
    ⟨ent 0, 16, 2, by decide +kernel⟩,
    ⟨ent 3, 16, 2, by decide +kernel⟩⟩

theorem wit_outputClocks :
    (∃ (s : State) (t c : Nat), c < 32 ∧ s.domOn 89 = true ∧ ((s.till t).clkEnds c || (s.till t).divHigh c t) = true) ∧
    (∃ (s : State) (t c : Nat), c < 32 ∧ s.domOn 89 = true ∧ ((s.till t).clkEnds c || (s.till t).divHigh c t) = false ∧
      F.TIM_OCLK_SRC.of (s.reg Reg.TIM_OCLK c) = F.TIM_OCLK_SRC.of (s.clkAt c)) ∧
    (∃ (s : State) (t c : Nat), c < 32 ∧ s.domOn 89 = true ∧ ((s.till t).clkEnds c || (s.till t).divHigh c t) = false ∧
      F.TIM_OCLK_SRC.of (s.reg Reg.TIM_OCLK c) ≠ F.TIM_OCLK_SRC.of (s.clkAt c)) ∧
    (∃ (s : State) (lv : Bool), s.running = true ∧ lv ≠ s.on F.TIM_SYNC_POL1 0) ∧
    (∃ (s : State) (m : Nat), s.domOn 85 = true ∧ s.grants m 7 96 true = true) ∧
    (∃ (s : State) (t a : Nat) (os : List Nat), List.find? (fun x => !x.snd.snd) s.tim.drst = some (a, os, false) ∧ a +
      2 ^ 15 ≤ t ∧ (s.tim.op = none ∨ List.filter (fun c => decide (F.TIM_OCLK_SRC.of (s.clkAt c) = 0)) os = [])) ∧
    (∃ (s : State) (t a : Nat) (os : List Nat), List.find? (fun x => !x.snd.snd) s.tim.drst = some (a, os, false) ∧ a +
      2 ^ 15 ≤ t ∧ s.tim.op ≠ none ∧ List.filter (fun c => decide (F.TIM_OCLK_SRC.of (s.clkAt c) = 0)) os ≠ []) ∧
    (∃ (s : State) (b : Nat), b < 32 ∧ s.blockAbsent b = false ∧ s.on F.TIM_LOOP_EN b = true ∧ s.on F.TIM_LOOP_ACTIVE b
      = false ∧ s.on F.TIM_LOOP_ERR b = false ∧ s.get F.CAL_BSTAT_POS b = 31 ∧ s.get F.CAL_BSTAT_STEP b = 0 ∧
      s.calState (512 + b) = 1 ∧ s.on F.FRE_INCFG_EN (16 * b + s.get F.TIM_LOOP_LB_POS b) = false ∧ s.on
      F.FRE_INCFG_CMP_EN (16 * b + s.get F.TIM_LOOP_LB_POS b) = false) ∧
    (∃ (s : State) (b : Nat), b < 32 ∧ s.blockAbsent b = false ∧ s.on F.TIM_LOOP_EN b = true ∧ s.on F.TIM_LOOP_ACTIVE b
      = false ∧ s.on F.TIM_LOOP_ERR b = false ∧ s.get F.CAL_BSTAT_POS b = 31 ∧ s.get F.CAL_BSTAT_STEP b = 0 ∧
      ¬(s.calState (512 + b) = 1 ∧ s.on F.FRE_INCFG_EN (16 * b + s.get F.TIM_LOOP_LB_POS b) = false ∧ s.on
      F.FRE_INCFG_CMP_EN (16 * b + s.get F.TIM_LOOP_LB_POS b) = false)) ∧
    (∃ (s : State) (b : Nat), s.on F.TIM_LOOP_EN b = false) :=
  ⟨⟨{ clk3 with clk := [(3, F.TIM_OCLK_SRC.put (F.TIM_OCLK_EN.put (F.TIM_OCLK_DIV_X2.put 0 20) 1) 1)] }, 10240, 3,
        by decide +kernel⟩,
    ⟨clk3, 20000, 3, by decide +kernel⟩,
    ⟨drs none, 20000, 3, by decide +kernel⟩,
    ⟨mk [(F.TIM_OCLK_EN,3,1), (F.TIM_OCLK_CDLY,3,9), (F.TIM_OCLK_DIV_X2,3,20), (F.TIM_OCLK_FDLY,3,0),
        (F.TIM_OCLK_SYNC_EN,3,1), (F.TIM_SYNC_ARM1,0,1)] { up with clk := [(3, F.TIM_OCLK_FDLY.put 0x41 7)] },
        true, by decide +kernel⟩,
    ⟨mk [(F.TIM_OCLK_EN,3,1), (F.TIM_OCLK_CDLY,3,9), (F.TIM_OCLK_DIV_X2,3,20), (F.TIM_OCLK_FDLY,3,0),
        (F.TIM_OCLK_SYNC_EN,3,1), (F.TIM_SYNC_ARM1,0,1)] { up with clk := [(3, F.TIM_OCLK_FDLY.put 0x41 7)] },
        16, by decide +kernel⟩,
    ⟨drs none, 50000, 5000, [3, 4], by decide +kernel⟩,
    ⟨drs (some (2, false, 5000)), 50000, 5000, [3, 4], by decide +kernel⟩,
    ⟨mk [(F.TIM_LOOP_EN,3,1), (F.CAL_BSTAT_POS,3,31), (F.CAL_BSTAT_STEP,3,0), (F.CAL_LSTAT_STATE,515,1)] up, 3,
        by decide +kernel⟩,
    ⟨mk [(F.TIM_LOOP_EN,3,1), (F.CAL_BSTAT_POS,3,31), (F.CAL_BSTAT_STEP,3,0)] up, 3, by decide +kernel⟩,
    ⟨mk [(F.TIM_OCLK_EN,3,1), (F.TIM_OCLK_CDLY,3,9), (F.TIM_OCLK_DIV_X2,3,20), (F.TIM_OCLK_FDLY,3,0),
        (F.TIM_OCLK_SYNC_EN,3,1), (F.TIM_SYNC_ARM1,0,1)] { up with clk := [(3, F.TIM_OCLK_FDLY.put 0x41 7)] },
        3, by decide +kernel⟩⟩

end Sys2Proof.Tests.Timebase

namespace Sys2Proof.Tests.Interrupts

open Sys2Proof.Machine Sys2Proof.Tests

def src (k : Nat) (x : SrcSt) (xs : List (Fld × Nat × Nat) := []) (s : State := up) : State := mk
    ([(F.INT_SRC_SENSE,k,1), (F.INT_SRC_PRIO,k,5), (F.INT_SRC_TARGET,k,5)] ++ xs) { s with src := [(k, x)] }
def cor (c : Nat) (x : CoreSt) (s : State) : State := (Work.setCore (Work.start s) c x).st
def ringS : State := mk [(F.RING_CFG_EN,5,1), (F.RING_CFG_QUEUE,5,4), (F.RING_CFG_SIZE_LOG2,5,12),
    (F.RING_CFG_FUNC,5,2), (F.RING_CFG_VECTOR,5,256), (F.RING_BASE_BASE,5,16), (F.RING_HEAD_HEAD,5,8190),
    (F.RING_TAIL_TAIL,5,8180), (F.QD_MARK_CONS_KIND,4,1), (F.QD_MARK_CONS_ID,4,5), (F.QD_CFG_EN,4,1),
    (F.QD_CFG_SIZE_LOG2,4,10), (F.QD_WR_CWR,4,7)] { up with
      fn := [(2, { bme := true })],
      store := [(0, w64 (0xF0*2^56 + 7*2^44)), (1,700), (2, w64 (5*2^60 + 1*2^48 + 50000)), (3,7), (6,99)] }
def wk : State := cor 0 { wfi := true } (cor 2 { wfi := true, mie := true} (cor 1 { wfi := true} up))
def one : State := cor 0 { wfi := true, mie := true, restore := some 40 } up
def stk (c : Nat) (x : CoreSt) : State := src 545 { en := true, active := true } [] (cor c x up)
def qb4 (s : State) : List QBundle := (s.peek 4 0).join.toList
def modS : State :=
  { src 545 { latch := true, held := true, en := true } [(F.INT_SRC_MOD_EN,545,1), (F.INT_SRC_MOD,545,3),
      (F.INT_MOD_STAT_CNT,3,4), (F.INT_MOD_STAT_TIMING,3,1)] with
    modT := [(3, some 20000)] }

theorem wit_interruptSources_1 :
    (∃ (s : State) (k : Nat), (k < 976 ∨ 992 ≤ k ∧ k < 1024) ∧ s.srcMute k = false) ∧
    (∃ (s : State) (k : Nat), (k < 976 ∨ 992 ≤ k ∧ k < 1024) ∧ s.srcMute k = true) ∧
    (∃ (s : State) (k : Nat), (k < 976 ∨ 992 ≤ k ∧ k < 1024) ∧ s.inputOf k = none ∧ s.srcMute k = false ∧ s.senseEdge k
      = true ∧ (s.srcAt k).level = false) ∧
    (∃ (s : State) (k : Nat), (k < 976 ∨ 992 ≤ k ∧ k < 1024) ∧ s.inputOf k = none ∧ s.srcMute k = false ∧ s.senseEdge k
      = true ∧ (s.srcAt k).level = false ∧ s.modUnit k = none ∧ s.enabledSrc k = true ∧ (s.srcAt k).held = false ∧ s.on
      F.INT_SRC_HOST_EN k = false) ∧
    (∃ (s : State) (k u : Nat), (k < 976 ∨ 992 ≤ k ∧ k < 1024) ∧ s.inputOf k = none ∧ s.srcMute k = false ∧ s.senseEdge
      k = true ∧ (s.srcAt k).level = false ∧ s.modUnit k = some u ∧ s.on F.INT_MOD_STAT_OPEN u = false ∧ s.get
      F.INT_MOD_STAT_CNT u + 1 < max 1 (s.get F.INT_MOD_CFG_COUNT u) ∧ s.get F.INT_MOD_STAT_CNT u + 1 < 2 ^
      F.INT_MOD_STAT_CNT.w) ∧
    (∃ (s : State) (k : Nat), (k < 976 ∨ 992 ≤ k ∧ k < 1024) ∧ s.inputOf k = none ∧ s.srcMute k = false) :=
  ⟨⟨src 545 {}, 545, by decide +kernel⟩,
    ⟨{ up with small := true }, 300, by decide +kernel⟩,
    ⟨src 545 { en := true }, 545, by decide +kernel⟩,
    ⟨src 545 { en := true } [] wk, 545, by decide +kernel⟩,
    ⟨src 545 { en := true } [(F.INT_SRC_MOD_EN,545,1), (F.INT_SRC_MOD,545,3), (F.INT_MOD_CFG_COUNT,3,4),
        (F.INT_MOD_CFG_TIME,3,4)], 545, 3, by decide +kernel⟩,
    ⟨src 545 { en := true, level := true }, 545, by decide +kernel⟩⟩

theorem wit_interruptSources_2 :
    (∃ (s : State) (m w : Nat), s.domOn 85 = true ∧ w < 16 ∧ s.grants m 9 (8192 + 8 * w) true = true) ∧
    (∃ (s : State) (m w : Nat), s.domOn 85 = true ∧ w < 16 ∧ s.grants m 9 (8320 + 8 * w) true = true) ∧
    (∃ (s : State) (m w : Nat), s.domOn 85 = true ∧ w < 16 ∧ s.grants m 9 (8448 + 8 * w) true = true) ∧
    (∃ (s : State) (m w : Nat), s.domOn 85 = true ∧ w < 16 ∧ s.grants m 9 (8576 + 8 * w) true = true) ∧
    (∃ (s : State) (u d : Nat), s.modTAt u = some d) :=
  ⟨⟨src 545 {}, 16, 3, by decide +kernel⟩,
    ⟨src 545 {}, 16, 3, by decide +kernel⟩,
    ⟨src 545 {}, 16, 3, by decide +kernel⟩,
    ⟨src 545 {}, 16, 3, by decide +kernel⟩,
    ⟨modS, 3, 20000, by decide +kernel⟩⟩

theorem wit_coresTakeInterrupts_1 :
    (∃ (s : State) (t k : Nat) (c : Fin 4), s.eligible k ↑c = true ∧ (s.till t).takesEntry ↑c = true ∧ (∀ (d : Fin 4),
      d ≠ c → s.eligible k ↑d = false) ∧ (∀ (j : Nat), j ∈ s.candidates → j ≠ k → s.eligible j ↑c = true → s.get
      F.INT_SRC_PRIO j < s.get F.INT_SRC_PRIO k ∨ s.get F.INT_SRC_PRIO j = s.get F.INT_SRC_PRIO k ∧ k < j)) ∧
    (∃ (s : State) (k : Nat) (c : Fin 4), s.eligible k ↑c = true ∧ (s.coreAt ↑c).win = none ∧ (s.candidates.all fun j
      => [0, 1, 2, 3].all fun d => !s.eligible j d || j == k && d == ↑c) = true) ∧
    (∃ (s : State), (s.candidates.all fun j => [0, 1, 2, 3].all fun d => !s.eligible j d) = true) ∧
    (∃ (s : State) (t c k t0 : Nat) (ch : Bool), (s.coreAt c).win = some (k, t0, ch) ∧ windowEnd t0 ch ≤ (s.till
      t).t64) ∧
    (∃ (s : State) (t c k t0 : Nat) (ch : Bool), (s.coreAt c).win = some (k, t0, ch) ∧ (s.till t).t64 < windowEnd t0
      ch) ∧
    (∃ (s : State) (c : Nat), s.domOn 85 = true ∧ c < 4 ∧ s.grants (16 + c) 9 (12288 + 1024 * c + 32) true = true ∧
      s.on F.CORE_RUN_FROZEN c = true) :=
  ⟨⟨src 545 { en := true, latch := true } [] one, 20000, 545, 0, by decide +kernel⟩,
    ⟨src 545 { en := true, latch := true } [] one, 545, 0, by decide +kernel⟩,
    ⟨src 545 { en := true, latch := true } [] up, by decide +kernel⟩,
    ⟨src 545 { en := true, latch := true } [] (cor 0 { wfi := true, mie := true, win := some (545, 7, false) } up),
        900000, 0, 545, 7, false, by decide +kernel⟩,
    ⟨src 545 { en := true, latch := true } [] (cor 0 { wfi := true, mie := true, win := some (545, 9990, false) }
        up), 10000, 0, 545, 9990, false, by decide +kernel⟩,
    ⟨mk [(F.CORE_RUN_FROZEN,0,1)] (stk 0 { mie := true, stack := [(545,5)] }), 0, by decide +kernel⟩⟩

theorem wit_coresTakeInterrupts_2 :
    (∃ (s : State) (c k j p : Nat) (rest : List (Nat × Nat)), s.domOn 85 = true ∧ c < 4 ∧ s.grants (16 + c) 9 (12288 +
      1024 * c + 32) true = true ∧ s.on F.CORE_RUN_FROZEN c = false ∧ (s.coreAt c).stack = (j, p) :: rest ∧ j = k) ∧
    (∃ (s : State) (c k : Nat), s.domOn 85 = true ∧ c < 4 ∧ s.grants (16 + c) 9 (12288 + 1024 * c + 32) true = true ∧
      s.on F.CORE_RUN_FROZEN c = false ∧ Option.map (fun x => x.fst) (s.coreAt c).stack.head? ≠ some k) ∧
    (∃ (s : State) (c : Nat), c < 4 ∧ (s.coreAt c).eoi = true) ∧
    (∃ (s : State) (c : Nat), c < 4 ∧ s.domOn (81 + c) = true ∧ (s.coreAt c).win = none) ∧
    (∃ (s : State) (t c r : Nat), (s.coreAt c).restore = some r ∧ r + coreCycles 12 ≤ (s.till t).t64) ∧
    (∃ (s : State) (m c : Nat), s.domOn 85 = true ∧ s.grants m 9 (12288 + 1024 * c + 40) true = true) :=
  ⟨⟨stk 0 { mie := true, stack := [(545,5)] }, 0, 545, 545, 5, [], by decide +kernel⟩,
    ⟨stk 0 { mie := true, stack := [(545,5)] }, 0, 3, by decide +kernel⟩,
    ⟨src 545 { en := true, active := true } [] (cor 2
        { mie := true, stack := [(545,5)], eoi := true, restore := some 6 } up), 2, by decide +kernel⟩,
    ⟨src 545 { en := true } [] up, 2, by decide +kernel⟩,
    ⟨src 545 { en := true, latch := true } [] one, 900000, 0, 40, by decide +kernel⟩,
    ⟨stk 0 { mie := true, stack := [(545,5)] }, 16, 0, by decide +kernel⟩⟩

theorem wit_hostRingsAndVectors_1 :
    (∃ (s : State) (r e : Nat), s.ringLive r = true ∧ (s.fnAt (s.get F.RING_CFG_FUNC r)).sleep = false ∧ (s.ringCAt
      r).fst = 0 ∧ s.domOn 85 = true ∧ s.ringBad r = some e) ∧
    (∃ (s : State) (r : Nat) (b : QBundle), s.ringLive r = true ∧ (s.fnAt (s.get F.RING_CFG_FUNC r)).sleep = false ∧
      (s.ringCAt r).fst = 0 ∧ s.domOn 85 = true ∧ s.ringBad r = none ∧ s.peek (s.get F.RING_CFG_QUEUE r) 0 = some (some
      b) ∧ s.ringFree r < b.len) ∧
    (∃ (s : State) (r : Nat) (b : QBundle), s.ringLive r = true ∧ (s.fnAt (s.get F.RING_CFG_FUNC r)).sleep = false ∧
      (s.ringCAt r).fst = 0 ∧ s.domOn 85 = true ∧ s.ringBad r = none ∧ s.peek (s.get F.RING_CFG_QUEUE r) 0 = some (some
      b) ∧ b.len ≤ s.ringFree r ∧ s.ringTurn r = false) ∧
    (∃ (s : State) (r : Nat) (b : QBundle), s.ringLive r = true ∧ (s.fnAt (s.get F.RING_CFG_FUNC r)).sleep = false ∧
      (s.ringCAt r).fst = 0 ∧ s.domOn 85 = true ∧ s.ringBad r = none ∧ s.peek (s.get F.RING_CFG_QUEUE r) 0 = some (some
      b) ∧ b.len ≤ s.ringFree r ∧ s.ringTurn r = true) ∧
    (∃ (s : State) (r : Nat) (b : QBundle), s.ringLive r = true ∧ (s.fnAt (s.get F.RING_CFG_FUNC r)).sleep = false ∧
      (s.ringCAt r).fst = 0 ∧ s.domOn 85 = true ∧ s.ringBad r = none ∧ s.peek (s.get F.RING_CFG_QUEUE r) 0 = some (some
      b) ∧ b.len ≤ s.ringFree r ∧ s.ringTurn r = true ∧ b.errs = [] ∧ s.get F.RING_BASE_BASE r * 4096 + 8 * 2 ^ s.get
      F.RING_CFG_SIZE_LOG2 r ≤ 2 ^ 64) ∧
    (∃ (s : State) (r : Nat), (s.ringCAt r).fst ≠ 0) ∧
    (∃ (s : State) (r : Nat), (s.ringCAt r).fst ≠ 0 ∧ s.get F.RING_WB_WB r * 8 ≠ 0 ∧ s.masked (s.get F.RING_CFG_VECTOR
      r) = true) ∧
    (∃ (s : State) (f r : Nat), s.ringMine f r = false) ∧
    (∃ (s : State) (f r : Nat) (v : Word), s.ringMine f r = true ∧ s.ringLive r = true ∧ 2 ^ s.get F.RING_CFG_SIZE_LOG2
      r < s.ringUsed r (F.RING_TAIL_TAIL.of v)) :=
  ⟨⟨mk [(F.RING_CFG_SIZE_LOG2,5,5)] ringS, 5, 2, by decide +kernel⟩,
    ⟨mk [(F.RING_TAIL_TAIL,5,4100)] ringS, 5, (qb4 (mk [(F.RING_TAIL_TAIL,5,4100)] ringS))[0]'(by decide +kernel),
        by decide +kernel⟩,
    ⟨mk [(F.RING_CFG_EN,3,1), (F.RING_CFG_QUEUE,3,6), (F.RING_CFG_SIZE_LOG2,3,12), (F.RING_CFG_FUNC,3,2),
        (F.RING_CFG_VECTOR,3,256), (F.RING_BASE_BASE,3,16), (F.QD_MARK_CONS_KIND,6,1), (F.QD_MARK_CONS_ID,6,3),
        (F.QD_CFG_EN,6,1), (F.QD_CFG_SIZE_LOG2,6,10), (F.QD_WR_CWR,6,7)] ringS, 5, (qb4
        ringS)[0]'(by decide +kernel), by decide +kernel⟩,
    ⟨ringS, 5, (qb4 ringS)[0]'(by decide +kernel), by decide +kernel⟩,
    ⟨ringS, 5, ((((ringS.peek 4 0).join).toList)[0]'(by decide +kernel)), by decide +kernel⟩,
    ⟨{ ringS with ringC := [(5, (7, 4))] }, 5, by decide +kernel⟩,
    ⟨mk [(F.RING_WB_WB,5,9)] { ringS with ringC := [(5, (7, 4))] }, 5, by decide +kernel⟩,
    ⟨ringS, 3, 5, by decide +kernel⟩,
    ⟨ringS, 2, 5, 2000, by decide +kernel⟩⟩

theorem wit_hostRingsAndVectors_2 :
    (∃ (s : State) (f r : Nat) (v : Word), s.ringMine f r = true ∧ ¬(s.ringLive r = true ∧ 2 ^ s.get
      F.RING_CFG_SIZE_LOG2 r < s.ringUsed r (F.RING_TAIL_TAIL.of v))) ∧
    (∃ (s : State) (v d : Nat), (s.vecAt v).due = some d ∧ (s.fnAt (v / 128)).sleep = false ∧ s.masked v = true) ∧
    (∃ (s : State) (v d : Nat), (s.vecAt v).due = some d ∧ (s.fnAt (v / 128)).sleep = false ∧ s.masked v = false) ∧
    (∃ (s : State) (v d : Nat), (s.vecAt v).due = some d ∧ (s.fnAt (v / 128)).sleep = true) ∧
    (∃ (s : State) (f l : Nat), l < 128 ∧ ((s.vecAt (128 * f + l)).pend = false ∨ (s.fnAt f).fmask = true ∨ (s.fnAt
      f).msix = false)) ∧
    (∃ (s : State) (f l : Nat), l < 128 ∧ (s.vecAt (128 * f + l)).pend = true ∧ (s.fnAt f).fmask = false ∧ (s.fnAt
      f).msix = true) ∧
    (∃ (s : State) (f : Nat), (s.fnAt f).sleep = true) ∧
    (∃ (s : State) (f : Nat), (s.fnAt f).sleep = false) ∧
    (∃ (s : State) (f : Nat), (s.fnAt f).sleep = false ∧ ((s.ringsOf f).all fun r => (s.ringCAt r).fst == 0) = true) :=
  ⟨⟨ringS, 2, 5, 8185, by decide +kernel⟩,
    ⟨{ up with vec := [(300, { addr := 77, data := 0x12345678, mask := true, due := some 44000 })] }, 300, 44000,
        by decide +kernel⟩,
    ⟨{ up with
          vec := [(300, { addr := 77, data := 0x12345678, mask := false, due := some 44000 })],
          fn := [(2, { msix := true })] }, 300, 44000, by decide +kernel⟩,
    ⟨{ up with
          vec := [(300, { addr := 77, data := 0x12345678, due := some 44000 })],
          fn := [(2, { sleep := true })] }, 300, 44000, by decide +kernel⟩,
    ⟨ringS, 5, 5, by decide +kernel⟩,
    ⟨{ up with
          vec := [(300, { addr := 77, data := 0x12345678, mask := true, pend := true })],
          fn := [(2, { msix := true })] }, 2, 44, by decide +kernel⟩,
    ⟨{ up with fn := [(2, { sleep := true, d3 := true })] }, 2, by decide +kernel⟩,
    ⟨{ up with fn := [(2, { bme := true })] }, 2, by decide +kernel⟩,
    ⟨ringS, 2, by decide +kernel⟩⟩

end Sys2Proof.Tests.Interrupts

namespace Sys2Proof.Tests.Mailbox

open Sys2Proof.Machine Sys2Proof.Tests

def bx : State :=
  { mk [(F.PWR_ENG_READY,0,1)] up with
    slot := [(5, { st := 1, bytes := [1,0,7,0,2,0,1,0] ++ List.replicate 8 0 ++ List.replicate 240 9 })]
    ep := [(1, { slot := 0 })] }
def jb (op : Nat) (slot gone ran : Bool) : Job :=
  { ep := 1, sl := 1, tag := 7, op := op, flags := 1, load := [], ran := ran, slot := slot, gone := gone,
    at_ := 15000 }
def jbs (j : Job) : State :=
  { up with slot := [(5, { st := 2, taken := 700 })], ep := [(1, { log2n := 4, mask := 15, base := 64 })],
            jobs := [j] }

theorem wit_mailboxProtocol_1 :
    (∃ (s : State) (e sl : Nat), (s.slotAt (slotKey e sl)).st ≠ 1 ∧ (s.slotAt (slotKey e sl)).st ≠ 2) ∧
    (∃ (s : State) (e sl : Nat), ((s.slotAt (slotKey e sl)).st = 1 ∨ (s.slotAt (slotKey e sl)).st = 2)) ∧
    (∃ (s : State) (e sl : Nat), (s.slotAt (slotKey e sl)).st = 3) ∧
    (∃ (s : State) (e sl : Nat), (s.slotAt (slotKey e sl)).st ≠ 3) ∧
    (∃ (e : Nat), e ≠ 17) ∧
    (∃ (s : State) (e : Nat), e ≠ 17 ∧ (s.epAt e).kept = []) ∧
    (∃ (e v : Nat), e = 17 ∧ v % 2 = 1) ∧
    (∃ (s : State) (e v : Nat), e = 17 ∧ v % 2 = 1 ∧ (s.epAt e).kept = []) ∧
    (∃ (e v : Nat), e = 17 ∧ v % 2 = 0) ∧
    (∃ (s : State) (e sl : Nat) (rest : List (Nat × Nat)), s.pwr.fw = true ∧ s.on F.PWR_ENG_READY 0 = true ∧
      s.romServes = false ∧ s.posted = (e, sl) :: rest) :=
  ⟨⟨up, 1, 1, by decide +kernel⟩,
    ⟨{ mk [(F.PWR_ENG_READY,0,1)] up with
          slot := [(5, { st := 1, bytes := [1,0,7,0,2,0,1,0] ++ List.replicate 8 0 ++ List.replicate 240 9 })],
          ep := [(1, { slot := 0 })] }, 1, 1, by decide +kernel⟩,
    ⟨{ up with slot := [(5, { st := 3 })] }, 1, 1, by decide +kernel⟩,
    ⟨up, 1, 1, by decide +kernel⟩,
    ⟨1, by decide +kernel⟩,
    ⟨up, 1, by decide +kernel⟩,
    ⟨17, 1, by decide +kernel⟩,
    ⟨{ up with ep := [(17, { fifo := [[1], [2]] })] }, 17, 1, by decide +kernel⟩,
    ⟨17, 2, by decide +kernel⟩,
    ⟨bx, 1, 1, [], by decide +kernel⟩⟩

theorem wit_mailboxProtocol_2 :
    (∃ (s : State) (e sl : Nat) (rest : List (Nat × Nat)), s.pwr.fw = true ∧ s.on F.PWR_ENG_READY 0 = true ∧
      s.romServes = false ∧ s.posted = (e, sl) :: rest ∧ e < 18 ∧ assigned (field (s.slotData e sl) 0 2) = true ∧ field
      (s.slotData e sl) 4 2 ≤ 240) ∧
    (∃ (s : State) (j : Job), List.find? (fun x => x.ep == j.ep && x.sl == j.sl && x.slot && !x.gone) s.jobs = some j ∧
      j.ran = false ∧ 16 ≤ (s.till ((s.slotAt (slotKey j.ep j.sl)).taken + ms 10)).inProgress j) ∧
    (∃ (s : State) (j : Job), List.find? (fun x => x.ep == j.ep && x.sl == j.sl && x.slot && !x.gone) s.jobs = some j ∧
      (j.ran = true → (s.till ((s.slotAt (slotKey j.ep j.sl)).taken + ms 10)).doneOf j = none) ∧ (j.ran = false →
      (s.till ((s.slotAt (slotKey j.ep j.sl)).taken + ms 10)).inProgress j < 16)) ∧
    (∃ (s : State) (j : Job) (st : Nat) (d : List Byte), List.find? (fun x => x.ep == j.ep && x.sl == j.sl && x.slot &&
      !x.gone) s.jobs = some j ∧ j.ran = true ∧ (s.till ((s.slotAt (slotKey j.ep j.sl)).taken + ms 10)).doneOf j = some
      (st, d)) ∧
    (∃ (s : State) (t : Nat) (j : Job) (st : Nat) (d : List Byte), List.find? (fun x => x.ep == j.ep && x.sl == j.sl &&
      x.ran && ((s.till t).doneOf x).isSome) s.jobs = some j ∧ (s.till t).doneOf j = some (st, d) ∧ j.gone = false ∧
      j.slot = true) ∧
    (∃ (s : State) (t : Nat) (j : Job) (st : Nat) (d : List Byte), List.find? (fun x => x.ep == j.ep && x.sl == j.sl &&
      x.ran && ((s.till t).doneOf x).isSome) s.jobs = some j ∧ (s.till t).doneOf j = some (st, d) ∧ j.gone = false ∧
      j.slot = false) ∧
    (∃ (s : State) (t : Nat) (j : Job) (st : Nat) (d : List Byte), List.find? (fun x => x.ep == j.ep && x.sl == j.sl &&
      x.ran && ((s.till t).doneOf x).isSome) s.jobs = some j ∧ (s.till t).doneOf j = some (st, d) ∧ j.gone = true) ∧
    (∃ (s : State) (t : Nat) (j : Job), List.find? (fun j => j.op == 1796 && j.arg 1 1 != 3 && j.ran && decide (j.at_ ≤
      max t s.t64)) s.jobs = some j ∧ s.opll ≠ 3 ∧ j.gone = false ∧ j.slot = true) ∧
    (∃ (s : State) (t : Nat) (j : Job), List.find? (fun j => j.op == 1796 && j.arg 1 1 != 3 && j.ran && decide (j.at_ ≤
      max t s.t64)) s.jobs = some j ∧ s.opll ≠ 3 ∧ j.gone = false ∧ j.slot = false) ∧
    (∃ (s : State) (t : Nat) (j : Job), List.find? (fun j => j.op == 1796 && j.arg 1 1 != 3 && j.ran && decide (j.at_ ≤
      max t s.t64)) s.jobs = some j ∧ s.opll ≠ 3 ∧ j.gone = true) :=
  ⟨⟨{ mk [(F.PWR_ENG_READY,0,1)] up with
          slot := [(5, { st := 1, bytes := [1,0,7,0,2,0,1,0] ++ List.replicate 8 0 ++ List.replicate 240 9 })],
          ep := [(1, { slot := 0 })] }, 1, 1, [], by decide +kernel⟩,
    ⟨{ jbs (jb 6 true false false) with
          jobs := (List.range 16).map (fun i => { jb 6 false false true with sl := 0, tag := 20 + i }) ++ [jb 6
              true false false] }, jb 6 true false false, by decide +kernel⟩,
    ⟨jbs (jb 1 true false false), jb 1 true false false, by decide +kernel⟩,
    ⟨jbs (jb 6 true false true), jb 6 true false true, 0, [], by decide +kernel⟩,
    ⟨jbs (jb 6 true false true), 20000, jb 6 true false true, 0, [], by decide +kernel⟩,
    ⟨jbs (jb 6 false false true), 20000, jb 6 false false true, 0, [], by decide +kernel⟩,
    ⟨jbs (jb 6 true true true), 20000, jb 6 true true true, 0, [], by decide +kernel⟩,
    ⟨jbs (jb 0x704 true false true), 20000, jb 0x704 true false true, by decide +kernel⟩,
    ⟨jbs (jb 0x704 false false true), 20000, jb 0x704 false false true, by decide +kernel⟩,
    ⟨jbs (jb 0x704 true true true), 20000, jb 0x704 true true true, by decide +kernel⟩⟩

end Sys2Proof.Tests.Mailbox

namespace Sys2Proof.Tests.Commands

open Sys2Proof.Machine Sys2Proof.Tests

def oj (op : Nat) (load : List Byte) (ep : Nat := 0) (flags : Nat := 0) (f : Job →
    Job := id) : Job := f { ep := ep, sl := 1, tag := 77, op := op, flags := flags, load := load }
def acc : State := mk [(F.PWR_ENG_READY,0,1)]
  { up with
  regs := (List.range 21).flatMap fun t => [(Reg.key .ACC_RD_LO (16*t), 0x70001), (Reg.key .ACC_WR_LO (16*t),
    0x70001)]
  fn := [(0, { bme := true })], pwr := { up.pwr with pcie := 1 } }
def os (j : Job) (s : State := acc) : State :=
    { s with jobs := s.jobs ++ [j], slot := [(slotKey j.ep j.sl, { st := 2, tag := 77, taken := 9000 })] }
def imgC : List Byte := le 4 0x4957594E ++ le 2 1 ++ le 2 1 ++ le 2 0 ++ le 6 0 ++ List.replicate 72 0 ++ le 4 (0x3E *
    2^26)
def imgB : List Byte := imgC ++ le 4 (crc32c imgC)
def withImg : State := { acc with host := (imgB.zipIdx.map fun (b,k) => (4096+k,b)).filter (·.2 != 0) }
def withPlain : State := { acc with
      vault := ((le 4 0x49474E4F ++ le 2 1 ++ le 2 0 ++ le 4 0).zipIdx.map fun (b,k) => (imageBase 1 + k, b)).filter
        (·.2 != 0) }
def withProfile : State := { acc with
      vault := ((profileBytes (7, [(Reg.key .FRE_IE 3, 1)])).zipIdx.map fun (b,k) => (profileBase + k, b)).filter
        (·.2 != 0) }
def pay : List (Nat × List Byte × Option State) := [
  (0x0, ([]), none),
  (0x1, ([1,2,3]), none),
  (0x2, (le 8 (4096) ++ le 8 (8192) ++ le 1 (5) ++ le 1 (0) ++ le 2 (3) ++ le 4 (15)), none),
  (0x3, (le 2 (5)), some ({ acc with
      jobs := [{ ep := 0, sl := 2, tag := 5, op := 0x106, flags := 0, load := [], ran := true, slot := false }] })),
  (0x4, ([]), none),
  (0x5, ([]), some (mk [(F.PWR_ENG_READY,0,1)] acc)),
  (0x6, ([]), some (mk [(F.PWR_ENG_READY,0,1)] acc)),
  (0x100, (le 2 (3) ++ le 2 (2) ++ le 4 (127) ++ le 8 (160) ++ le 8 (0) ++ le 8 (0) ++ le 8 (289) ++ le 8 (0) ++ le 8
    (0) ++ le 8 (1)), none),
  (0x101, (le 2 (3)), none),
  (0x102, (le 2 (3) ++ le 2 (2)), none),
  (0x103, (le 2 (3) ++ le 2 (2)), none),
  (0x104, (le 2 (3) ++ le 2 (1) ++ le 1 (1) ++ le 3 (0) ++ le 8 (4096) ++ le 4 (512) ++ le 1 (0) ++ le 3 (0)), some
    ({ acc with
      host := ((List.range 64).flatMap fun i => (le 8 (i*64 + 2^32*i)).zipIdx.map fun (b,k) =>
        (4096+8*i+k, b)).filter (·.2 != 0) })),
  (0x105, (le 2 (3) ++ le 1 (1) ++ le 5 (0) ++ le 8 (4096) ++ le 4 (512) ++ le 1 (1) ++ le 3 (0)), none),
  (0x106, (le 2 (3) ++ le 2 (9) ++ le 1 (1) ++ le 3 (0) ++ le 4 (4096) ++ le 4 (5)),
    some (mk [(F.CAP_LANECFG_PICK,3,2)] acc)),
  (0x200, (le 2 (3) ++ le 2 (2) ++ le 4 (15) ++ le 8 (335545344) ++ le 8 (8192) ++ le 8 (5) ++ le 8 (0)), none),
  (0x201, (le 2 (3)), none),
  (0x202, (le 2 (3)), none),
  (0x203, (le 2 (3) ++ le 2 (9) ++ le 1 (0) ++ le 3 (0)), none),
  (0x204, (le 1 (0) ++ le 1 (0) ++ le 2 (3) ++ le 4 (15) ++ le 8 (38654705792) ++ le 8 (5) ++ le 8 (0) ++ le 8 (0)),
    none),
  (0x205, (le 1 (0) ++ le 1 (0) ++ le 2 (3)), none),
  (0x206, (le 1 (0) ++ le 1 (0) ++ le 2 (3)), none),
  (0x300, (le 4 (15) ++ le 4 (0) ++ le 8 (18014415689383683) ++ le 8 (3) ++ le 8 (1073741824) ++ le 8 (9)), none),
  (0x301, (le 1 (1) ++ le 3 (0)), none),
  (0x302, ([]), none),
  (0x303, (le 2 (3) ++ le 2 (1) ++ le 4 (0) ++ le 8 (4096) ++ le 4 (16) ++ le 1 (0) ++ le 3 (0)), none),
  (0x304, (le 1 (3) ++ le 1 (1) ++ le 6 (0) ++ le 8 (5) ++ le 8 (6) ++ le 8 (7) ++ le 8 (8) ++ le 8 (9) ++ le 8 (10)
    ++ le 8 (11) ++ le 8 (12)), none),
  (0x305, (le 4 (0)), none),
  (0x306, (le 8 (2) ++ le 8 (0) ++ le 8 (2) ++ le 8 (0)), none),
  (0x307, (le 2 (3) ++ le 2 (2)), none),
  (0x400, (id (le 1 (3) ++ le 7 (0) ++ le 8 (4096) ++ le 4 (96) ++ le 1 (0) ++ le 3 (0))), some (withImg)),
  (0x401, (le 1 (3) ++ le 3 (0)), none),
  (0x402, (le 1 (3) ++ le 3 (0)), none),
  (0x403, (le 1 (3) ++ le 3 (0)), none),
  (0x404, (le 1 (3) ++ le 3 (0) ++ le 4 (2) ++ le 8 (0) ++ le 8 (0) ++ le 8 (0) ++ le 8 (0) ++ le 8 (0) ++ le 8 (0) ++
    le 8 (0) ++ le 8 (0) ++ le 8 (0) ++ le 8 (0) ++ le 8 (0)), none),
  (0x405,
    (le 1 (3) ++ le 1 (0) ++ le 2 (5) ++ le 2 (2) ++ le 2 (0) ++ le 8 (4096) ++ le 4 (16) ++ le 1 (0) ++ le 3 (0)),
    none),
  (0x406, (le 1 (33) ++ le 1 (2) ++ le 6 (0) ++ le 8 (7)), none),
  (0x500, (le 2 (3) ++ le 2 (2)), none),
  (0x501, (le 1 (3) ++ le 3 (0) ++ le 4 (31) ++ le 8 (0x3a000000a)), none),
  (0x502, (le 1 (3) ++ le 3 (0)), none),
  (0x503, (le 2 (19) ++ le 2 (0)), some (mk [(F.CAL_BCFG_RUN,1,1)] acc)),
  (0x504, (le 2 (19) ++ le 2 (0)), some (mk [(F.CAL_LSTAT_STATE,19,3), (F.CAL_LSTAT_STATE,513,1)] acc)),
  (0x505, (le 2 (19) ++ le 2 (1) ++ le 1 (1) ++ le 3 (0) ++ le 8 (4096) ++ le 4 (12424) ++ le 1 (1) ++ le 3 (0)),
    none),
  (0x600, (le 1 (3) ++ le 3 (0) ++ le 4 (2) ++ le 8 (2621464) ++ le 8 (5) ++ le 8 (3) ++ le 8 (0) ++ le 8 (0) ++ le 8
    (17587891077120)), none),
  (0x601, (le 1 (3) ++ le 1 (1) ++ le 6 (0) ++ le 8 (0) ++ le 8 (0) ++ le 8 (0) ++ le 8 (0) ++ le 8 (0) ++ le 8 (0) ++
    le 8 (0) ++ le 8 (0) ++ le 8 (0) ++ le 8 (0) ++ le 8 (0) ++ le 8 (0)), none),
  (0x602, (le 1 (3) ++ le 1 (0) ++ le 2 (5)), none),
  (0x603, (le 1 (3) ++ le 3 (0)), none),
  (0x604, (le 1 (3) ++ le 3 (0)), none),
  (0x605, (le 1 (3) ++ le 3 (0) ++ le 4 (15) ++ le 8 (0) ++ le 8 (5) ++ le 8 (6) ++ le 8 (0)), none),
  (0x606, (le 1 (3) ++ le 1 (1) ++ le 2 (0)), none),
  (0x607, (le 1 (3) ++ le 3 (0)), none),
  (0x700, (le 4 (2) ++ le 4 (0) ++ le 8 (0) ++ le 8 (65536) ++ le 8 (0) ++ le 8 (0) ++ le 8 (0) ++ le 8 (0)),
    some (mk [(F.TIM_REF_FREQ,3,10000000*65536), (F.TIM_TCFG_LOCAL_SEL,0,3)] acc)),
  (0x701, ([]), none),
  (0x702, (le 8 (5555) ++ le 1 (1) ++ le 1 (0) ++ le 6 (0)), none),
  (0x703, (le 1 (2) ++ le 7 (0) ++ le 8 (6553856)), some (mk [(F.TIM_BAND0_N_INT,2,100), (F.TIM_BAND0_R,2,32)] acc)),
  (0x704, (le 1 (2) ++ le 1 (1) ++ le 2 (0)), some (mk [(F.TIM_BAND0_N_INT,2,100), (F.TIM_BAND0_R,2,32)] acc)),
  (0x705, (le 1 (3) ++ le 1 (2) ++ le 2 (0) ++ le 4 (8) ++ le 8 (160)), none),
  (0x706, (le 1 (0) ++ le 1 (1) ++ le 1 (0) ++ le 1 (0)), none),
  (0x707, (le 1 (3) ++ le 7 (0) ++ le 8 (1)), none),
  (0x708, (le 1 (3) ++ le 1 (2) ++ le 2 (0)), none),
  (0x800, (le 2 (9) ++ le 1 (10) ++ le 1 (1) ++ le 4 (50) ++ le 4 (0x400000) ++ le 4 (0)), none),
  (0x801, (le 2 (9) ++ le 2 (0)), some ({ acc with alloc := [(9, areaCode 0x100000 10)] })),
  (0x802, (le 2 (9) ++ le 1 (1) ++ le 1 (0)), some (mk [(F.QD_CFG_SIZE_LOG2,9,10), (F.QD_CFG_BASE,9,0x100000)] acc)),
  (0x803, (le 2 (9) ++ le 1 (2) ++ le 1 (0) ++ le 2 (5) ++ le 2 (0)), none),
  (0x804, (le 2 (3) ++ le 2 (2) ++ le 4 (0) ++ le 8 (9)),
    some ({ acc with alloc := [(9, areaCode 0x100000 10), (0, areaCode 0x200000 10)] })),
  (0x805, (le 1 (3) ++ le 7 (0) ++ le 8 (5)), none),
  (0x806, (le 2 (5) ++ le 6 (0) ++ le 8 (65536) ++ le 8 (24) ++ le 8 (64)), none),
  (0x807, (le 2 (9) ++ le 2 (0)), none),
  (0x808, (le 2 (9) ++ le 2 (16) ++ le 4 (0)), none),
  (0x809, (le 4 (2) ++ le 4 (0) ++ le 8 (0) ++ le 8 (30)), none),
  (0x900, (le 1 (5) ++ le 7 (0) ++ le 8 (2)), none),
  (0x901, (le 1 (5) ++ le 3 (0) ++ le 4 (1) ++ le 8 (422212465065984005) ++ le 8 (0)),
    some (mk [(F.LNK_GRP_MODE,9,2)] acc)),
  (0x902, (le 1 (17) ++ le 7 (0) ++ le 8 (1310740)), some (mk [(F.LNK_GRP_MODE,4,5)] acc)),
  (0x903, (le 1 (5) ++ le 3 (0)), none),
  (0x904, (le 1 (3) ++ le 1 (2) ++ le 2 (0)), none),
  (0x905, (le 2 (5) ++ le 6 (0) ++ le 8 (1) ++ le 8 (2) ++ le 8 (0)), none),
  (0xa00, (le 2 (3) ++ le 1 (5) ++ le 5 (0) ++ le 8 (1095216660480) ++ le 8 (1) ++ le 8 (1) ++ le 8 (0) ++ le 8 (1) ++
    le 8 (0)), none),
  (0xa01, (le 2 (3) ++ le 1 (5) ++ le 1 (0)), none),
  (0xa02, (le 2 (3) ++ le 1 (5) ++ le 1 (4) ++ le 1 (3) ++ le 1 (0) ++ le 2 (0) ++ le 4 (16) ++ le 4 (255)), none),
  (0xa03, (le 2 (3) ++ le 1 (5) ++ le 1 (4) ++ le 1 (3) ++ le 1 (0) ++ le 2 (0) ++ le 4 (0) ++ le 4 (0)),
    some (mk [(⟨.ACC_RD_LO,4,1⟩,53,1), (⟨.ACC_WR_LO,4,1⟩,53,1)] acc)),
  (0xa04, ([]), some (mk [(F.ACC_VSTAT_VALID,0,1), (F.ACC_VSTAT_VCNT,0,5)] acc)),
  (0xa05, (le 1 (0) ++ le 7 (0)), some ({ acc with fuse := { acc.fuse with secure := true } })),
  (0xb00, (le 1 (2) ++ le 7 (0)), some (mk [(F.PWR_ENG_READY,0,1)] acc)),
  (0xb01, (le 1 (84) ++ le 1 (0) ++ le 2 (0)), none),
  (0xb02, (le 4 (3) ++ le 4 (0) ++ le 8 (3) ++ le 8 (777)), none),
  (0xb03, ([]), none),
  (0xc00, (le 1 (3) ++ le 3 (0) ++ le 4 (2) ++ le 8 (0) ++ le 8 (7)), none),
  (0xc01, (le 1 (3) ++ le 1 (1) ++ le 2 (0)), none),
  (0xc02, ([]), none),
  (0xc03, (le 2 (0) ++ le 1 (1)), some ({ acc with errlog := [(List.range 64).map (BitVec.ofNat 8 ·)] })),
  (0xd00, (le 2 (3) ++ le 2 (2)), none),
  (0xd01, (le 1 (7) ++ le 3 (0)), none),
  (0xd02, (le 1 (7) ++ le 3 (0)), some (withProfile)),
  (0xd03, (le 4 (64) ++ le 4 (16) ++ le 8 (4096) ++ le 4 (16) ++ le 1 (0) ++ le 3 (0)), none),
  (0xd04, (le 1 (1) ++ le 3 (0)), some (withPlain)),
  (0xd05, ([]), none)]
def paySt : List State := (pay.map fun (op, l, s) => os (oj op l) (s.getD acc)) ++ [os (oj 1 [5] 0 2),
    os (oj 1 [5] 0 4), os (oj 0x502 [5]), os (oj 0x502 (le 4 3) 0 2)]
def payJ : List Job := (pay.map fun (op, l, _) => oj op l) ++ [oj 1 [5] 0 2, oj 1 [5] 0 4, oj 0x502 [5],
    oj 0x502 (le 4 3) 0 2]
def lrn (bad : Bool) : Learn := {
      lane := 3, ref := 9, bank := 1, need := 70, ofs := 5, ep := 0, tag := 77, bad := bad,
      pairs := (List.range 70).map fun i => (i * 37 % 1000, (i : Int) - 20) }
def lst (b : Bool) : State :=
  let j := oj 0x106 [] 0 0 (fun j => { j with ran := true })
  { os j with learn := [lrn b] }
def offJ : Job := oj 0x704 (le 1 2 ++ le 1 3 ++ le 2 0)
def xtra : List (Job × State) := [(oj 0x100 [], lst true), (oj 0x106 [] 0 0 (fun j => { j with ran := true }),
    lst false)] ++
  [(oj 0x006 [], os (oj 0x006 [])), (offJ, os offJ (mk [(F.TIM_BAND0_N_INT,2,100), (F.TIM_BAND0_R,2,32)] acc))] ++
  ([oj 0x301 (le 1 0 ++ le 3 0), oj 0x305 (le 4 1),
    oj 0x405 (le 1 3 ++ le 1 0 ++ le 2 5 ++ le 2 2 ++ le 2 0 ++ le 8 4096 ++ le 4 16 ++ le 1 1 ++ le 3 0),
    oj 0x702 (le 8 5555 ++ le 1 1 ++ le 1 1 ++ le 6 0), oj 0x706 (le 1 0 ++ le 1 1 ++ le 1 1 ++ le 1 0),
    oj 0x705 (le 1 3 ++ le 1 1 ++ le 2 0 ++ le 4 8 ++ le 8 (20*8)), oj 0x900 (le 1 5 ++ le 7 0 ++ le 8 0),
    oj 0xB01 (le 1 84 ++ le 1 2 ++ le 2 0)].map fun j => (j, os j)) ++
  [(oj 0x006 [], os (oj 0x006 []) (mk [(F.PWR_ENG_READY,0,0)] acc)), (oj 0x305 (le 4 0),
    os (oj 0x305 (le 4 0)) (mk [(F.AXI_POS_STATE,0,2)] acc))] ++
  [(oj 0x903 (le 1 9 ++ le 3 0), os (oj 0x903 (le 1 9 ++ le 3 0)) (mk [(F.LNK_GRP_MODE,9,2)] acc))]
def paySt2 : List State := paySt ++ xtra.map (·.2)
def payJ2 : List Job := payJ ++ xtra.map (·.1) ++
    [{ ep := 0, sl := 2, tag := 5, op := 0x106, flags := 0, load := [], ran := true, slot := false }]
def sv (i : Nat) : State := paySt2.getD i acc
def jv (i : Nat) : Job := payJ2.getD i (oj 0 [])

def cmds : List (Nat × Cmd) :=
  [(0x0000, cmdSysIdentify), (0x0001, cmdSysPing), (0x0002, cmdSysNoticeSet), (0x0003, cmdSysAbort),
    (0x0004, cmdSysTime), (0x0005, cmdSysEngineReset), (0x0006, cmdSysReady), (0x0100, cmdLaneSet),
    (0x0101, cmdLaneGet), (0x0102, cmdLaneStatus), (0x0103, cmdLaneCounters), (0x0104, cmdWalkLoad),
    (0x0105, cmdWalkRead), (0x0106, cmdWalkLearn), (0x0200, cmdEngineSet),
    (0x0201, cmdEngineRead (engineWords ++ [.CNT_STAT, .CNT_IDX])), (0x0202, cmdEngineRead [.CNT_CNT]),
    (0x0203, cmdPairAlloc), (0x0204, cmdPairSet), (0x0205, cmdPairGet), (0x0206, cmdPairFree),
    (0x0300, cmdAxisSet), (0x0301, cmdAxisEnable), (0x0302, cmdReadWords axisStatusWords),
    (0x0303, cmdStakesLoad), (0x0304, cmdLgLoad), (0x0305, cmdAxisCommit), (0x0306, cmdMarkdirSet),
    (0x0307, cmdQhitRead), (0x0400, cmdWeaveLoad), (0x0401, cmdWeaveRun 1), (0x0402, cmdWeaveRun 0),
    (0x0403, cmdWeaveStatus), (0x0404, cmdWeaveCfg), (0x0405, cmdWeaveData), (0x0406, cmdWeavePin),
    (0x0500, cmdCalUnitStatus), (0x0501, cmdCalBlockSet), (0x0502, cmdCalBlockStatus),
    (0x0503, cmdCalPrioritise), (0x0504, cmdCalReinstate), (0x0505, cmdCalExport), (0x0600, cmdFiltSet),
    (0x0601, cmdFiltBankLoad), (0x0602, cmdFiltSwap), (0x0603, cmdFiltReset), (0x0604, cmdFiltStatus),
    (0x0605, cmdHistSet), (0x0606, cmdHistOp), (0x0607, cmdHistStatus), (0x0700, cmdTpllSet),
    (0x0701, cmdReadWords tpllStatusWords), (0x0702, cmdSync0Arm), (0x0703, cmdBandSet), (0x0704, cmdOpllOp),
    (0x0705, cmdOutSet), (0x0706, cmdSync1), (0x0707, cmdLoopSet), (0x0708, cmdOpllStatus),
    (0x0800, cmdQueueAlloc), (0x0801, cmdQueueFree), (0x0802, cmdQueueEnable), (0x0803, cmdQueueBind),
    (0x0804, cmdQueueRoute), (0x0805, cmdQueueFastpath), (0x0806, cmdQueueRingSet), (0x0807, cmdQueueStatus),
    (0x0808, cmdQueueFlagsClear), (0x0809, cmdQueuePoolSet), (0x0900, cmdLinkAssign), (0x0901, cmdLinkEthSet),
    (0x0902, cmdLinkDlpSet), (0x0903, cmdLinkStatus), (0x0904, cmdLinkPartners), (0x0905, cmdLinkEgressBind),
    (0x0A00, cmdAccWindowSet), (0x0A01, cmdAccWindowGet), (0x0A02, cmdAccGrant), (0x0A03, cmdAccRevoke),
    (0x0A04, cmdAccViolations), (0x0A05, cmdAccUnlock), (0x0B00, cmdPwrStateSet), (0x0B01, cmdPwrDomainSet),
    (0x0B02, cmdPwrWakeCfg), (0x0B03, cmdReadWords pwrStatusWords), (0x0C00, cmdMonSet), (0x0C01, cmdMonRead),
    (0x0C02, cmdMonTemps), (0x0C03, cmdMonErrlog), (0x0D00, cmdNvmSave), (0x0D01, cmdNvmProfileSave),
    (0x0D02, cmdNvmProfileLoad), (0x0D03, cmdNvmImageWrite), (0x0D04, cmdNvmImageActivate),
    (0x0D05, cmdNvmStatus)]

def unlockJob : Job := oj 0x0A05 ([1] ++ List.replicate 103 0)

def cmdAt (i : Nat) : Nat × Cmd := cmds.getD i (0, cmdSysPing)

def stakesJob : Job := oj 0x303 (le 2 3 ++ le 2 1 ++ le 4 1 ++ le 8 4096 ++ le 4 16 ++ le 1 0 ++ le 3 0)
def resetS (r : Bool) (soft : Option Nat) : State :=
  mk [(F.PWR_ENG_READY,0,b2n r)] { sv 5 with pwr := { (sv 5).pwr with softT := soft } }

theorem wit_commandsOfTheSystem_1 :
    (∃ (s : State) (t e sl : Nat) (j : Job), s.serves t e sl 2 cmdSysNoticeSet j ∧ (s.epAt e).kept = []) ∧
    (∃ (s : State) (t e sl : Nat) (j x : Job), s.serves t e sl 3 cmdSysAbort j ∧ x ≠ j ∧ abortable x.op = true ∧ x.gone
      = false ∧ List.find? (fun x => x.ep == j.ep && x.tag == j.arg 0 2 && !x.gone && !x.slot) s.jobs = some x) ∧
    (∃ (s : State) (t e sl : Nat) (j : Job), s.serves t e sl 5 cmdSysEngineReset j ∧ (s.till t).inProgress j < 16 ∧
      s.pwr.softT ≠ none) ∧
    (∃ (s : State) (t e sl : Nat) (j : Job), s.serves t e sl 5 cmdSysEngineReset j ∧ (s.till t).inProgress j < 16 ∧
      s.on F.PWR_ENG_READY 0 = true ∧ s.pwr.softT = none) ∧
    (∃ (s : State) (t e sl : Nat) (j : Job), s.serves t e sl 5 cmdSysEngineReset j ∧ (s.till t).inProgress j < 16 ∧
      s.on F.PWR_ENG_READY 0 = false ∧ s.pwr.softT = none) ∧
    (∃ (s : State) (t e sl : Nat) (j : Job), s.serves t e sl 6 cmdSysReady j ∧ s.on F.PWR_ENG_READY 0 = true) ∧
    (∃ (s : State) (t e sl : Nat) (j : Job), s.serves t e sl 6 cmdSysReady j ∧ s.on F.PWR_ENG_READY 0 = false ∧ (s.till
      t).inProgress j < 16) :=
  ⟨⟨sv 2, 0, 0, 1, jv 2, by decide +kernel⟩,
    ⟨sv 3, 0, 0, 1, jv 3, jv 114, by decide +kernel⟩,
    ⟨resetS true (some 700), 0, 0, 1, jv 5, by decide +kernel⟩,
    ⟨sv 5, 0, 0, 1, jv 5, by decide +kernel⟩,
    ⟨resetS false none, 0, 0, 1, jv 5, by decide +kernel⟩,
    ⟨sv 6, 0, 0, 1, jv 6, by decide +kernel⟩,
    ⟨sv 111, 0, 0, 1, jv 6, by decide +kernel⟩⟩

theorem wit_commandsOfTheSystem_2 :
    (∃ (s : State) (t e sl : Nat) (j : Job), s.serves t e sl 261 cmdWalkRead j ∧ s.bulkErr j 8 512 = none) ∧
    (∃ (s : State) (t e sl : Nat) (j : Job), s.serves t e sl 261 cmdWalkRead j ∧ s.bulkErr j 8 512 ≠ none) ∧
    (∃ (s : State) (t e sl : Nat) (j : Job), s.serves t e sl 262 cmdWalkLearn j ∧ (s.till t).inProgress j < 16) ∧
    (∃ (s : State) (e sl : Nat) (j : Job) (l : Learn), List.find? (fun l => (List.find? (fun j => j.ep == e && j.sl ==
      sl && j.op == 262 && j.ran && j.tag == l.tag && l.ep == e) s.jobs).isSome && (l.bad || l.pairs.length == l.need))
      s.learn = some l ∧ List.find? (fun j => j.ep == e && j.sl == sl && j.op == 262 && j.ran && j.tag == l.tag && l.ep
      == e) s.jobs = some j ∧ j.slot = true ∧ j.gone = false ∧ l.bad = true) ∧
    (∃ (s : State) (e sl : Nat) (j : Job) (l : Learn), List.find? (fun l => (List.find? (fun j => j.ep == e && j.sl ==
      sl && j.op == 262 && j.ran && j.tag == l.tag && l.ep == e) s.jobs).isSome && (l.bad || l.pairs.length == l.need))
      s.learn = some l ∧ List.find? (fun j => j.ep == e && j.sl == sl && j.op == 262 && j.ran && j.tag == l.tag && l.ep
      == e) s.jobs = some j ∧ j.slot = true ∧ j.gone = false ∧ l.bad = false) ∧
    (∃ (s : State) (t e sl : Nat) (j : Job), s.serves t e sl 3328 cmdNvmSave j ∧ (s.till t).inProgress j < 16) ∧
    (∃ (s : State) (t e sl : Nat) (j : Job) (ws : List (Nat × Word)), s.serves t e sl 3330 cmdNvmProfileLoad j ∧
      s.profileAt (j.arg 0 1) = some ws) :=
  ⟨⟨sv 12, 0, 0, 1, jv 12, by decide +kernel⟩,
    ⟨{ sv 12 with hostErr := [513] }, 0, 0, 1, jv 12, by decide +kernel⟩,
    ⟨sv 13, 0, 0, 1, jv 13, by decide +kernel⟩,
    ⟨sv 99, 0, 1, jv 100, lrn true, by decide +kernel⟩,
    ⟨sv 100, 0, 1, jv 100, lrn false, by decide +kernel⟩,
    ⟨sv 89, 0, 0, 1, jv 89, by decide +kernel⟩,
    ⟨sv 91, 0, 0, 1, jv 91, [(Reg.key .FRE_IE 3, 1)], by decide +kernel⟩⟩

theorem wit_commandsOfTheUnits_1 :
    (∃ (s : State) (t e sl : Nat) (j : Job), s.serves t e sl 769 cmdAxisEnable j ∧ (((Work.start s).at t).fw
      Reg.AXI_CTRL 0 (w64 (j.arg 0 1))).st.axis.ctlAt = none) ∧
    (∃ (s : State) (t e sl : Nat) (j : Job), s.serves t e sl 769 cmdAxisEnable j ∧ (((Work.start s).at t).fw
      Reg.AXI_CTRL 0 (w64 (j.arg 0 1))).st.axis.ctlAt ≠ none ∧ (s.till t).inProgress j < 16) ∧
    (∃ (s : State) (t e sl : Nat) (j : Job), s.serves t e sl 773 cmdAxisCommit j ∧ bit (j.arg 0 4) 0 = true) ∧
    (∃ (s : State) (t e sl : Nat) (j : Job), s.serves t e sl 773 cmdAxisCommit j ∧ bit (j.arg 0 4) 0 = false ∧
      (((Work.start s).at t).fw Reg.AXI_CTRL 0 (w64 (s.get F.AXI_CTRL_EN 0 + 2))).on F.AXI_CTRL_COMMIT 0 = true ∧
      (s.till t).inProgress j < 16) ∧
    (∃ (s : State) (t e sl : Nat) (j : Job), s.serves t e sl 773 cmdAxisCommit j ∧ bit (j.arg 0 4) 0 = false ∧
      (((Work.start s).at t).fw Reg.AXI_CTRL 0 (w64 (s.get F.AXI_CTRL_EN 0 + 2))).on F.AXI_CTRL_COMMIT 0 = false) ∧
    (∃ (s : State) (t e sl : Nat) (j : Job), s.serves t e sl 1284 cmdCalReinstate j ∧ (s.till t).inProgress j < 16) ∧
    (∃ (s : State) (t e sl : Nat) (j : Job), s.serves t e sl 1285 cmdCalExport j ∧ s.bulkErr j 8 (List.flatMap (fun u
      => s.slotBytes u (s.exportSlot u (j.arg 4 1)) ++ le 4 0) (j.items 0 2)).length = none) ∧
    (∃ (s : State) (t e sl : Nat) (j : Job), s.serves t e sl 1285 cmdCalExport j ∧ s.bulkErr j 8 (List.flatMap (fun u
      => s.slotBytes u (s.exportSlot u (j.arg 4 1)) ++ le 4 0) (j.items 0 2)).length ≠ none) ∧
    (∃ (s : State) (t e sl : Nat) (j : Job), s.serves t e sl 1029 cmdWeaveData j ∧ j.arg 20 1 = 0) ∧
    (∃ (s : State) (t e sl : Nat) (j : Job), s.serves t e sl 1029 cmdWeaveData j ∧ j.arg 20 1 ≠ 0 ∧ s.bulkErr j 8 (8 *
      j.arg 4 2) = none) :=
  ⟨⟨sv 103, 0, 0, 1, jv 103, by decide +kernel⟩,
    ⟨sv 22, 0, 0, 1, jv 22, by decide +kernel⟩,
    ⟨sv 104, 0, 0, 1, jv 104, by decide +kernel⟩,
    ⟨sv 112, 0, 0, 1, jv 26, by decide +kernel⟩,
    ⟨sv 26, 0, 0, 1, jv 26, by decide +kernel⟩,
    ⟨sv 40, 0, 0, 1, jv 40, by decide +kernel⟩,
    ⟨sv 41, 0, 0, 1, jv 41, by decide +kernel⟩,
    ⟨{ sv 41 with hostErr := [513] }, 0, 0, 1, jv 41, by decide +kernel⟩,
    ⟨sv 34, 0, 0, 1, jv 34, by decide +kernel⟩,
    ⟨sv 105, 0, 0, 1, jv 105, by decide +kernel⟩⟩

theorem wit_commandsOfTheUnits_2 :
    (∃ (s : State) (t e sl : Nat) (j : Job), s.serves t e sl 1029 cmdWeaveData j ∧ j.arg 20 1 ≠ 0 ∧ s.bulkErr j 8 (8 *
      j.arg 4 2) ≠ none) ∧
    (∃ (s : State) (t e sl : Nat) (j : Job), s.serves t e sl 1536 cmdFiltSet j ∧ bit (j.arg 4 4) 5 = false) ∧
    (∃ (s : State) (t e sl : Nat) (j : Job), s.serves t e sl 1794 cmdSync0Arm j ∧ bit (j.arg 9 1) 0 = false) ∧
    (∃ (s : State) (t e sl : Nat) (j : Job), s.serves t e sl 1794 cmdSync0Arm j ∧ bit (j.arg 9 1) 0 = true ∧ (s.till
      t).inProgress j < 16) ∧
    (∃ (s : State) (t e sl : Nat) (j : Job), s.serves t e sl 1796 cmdOpllOp j ∧ j.arg 1 1 = 3 ∧ (((Work.start s).at
      t).fw Reg.TIM_OCTRL 0 (F.TIM_OCTRL_ENTRY.put (F.TIM_OCTRL_OP.put 0 (j.arg 1 1)) (j.arg 0 1))).st.outputsLow =
      true) ∧
    (∃ (s : State) (t e sl : Nat) (j : Job), s.serves t e sl 1796 cmdOpllOp j ∧ j.arg 1 1 = 3 ∧ (((Work.start s).at
      t).fw Reg.TIM_OCTRL 0 (F.TIM_OCTRL_ENTRY.put (F.TIM_OCTRL_OP.put 0 (j.arg 1 1)) (j.arg 0 1))).st.outputsLow =
      false ∧ (s.till t).inProgress j < 16) ∧
    (∃ (s : State) (t e sl : Nat) (j : Job), s.serves t e sl 1796 cmdOpllOp j ∧ j.arg 1 1 ≠ 3 ∧ (s.till t).inProgress j
      < 16) ∧
    (∃ (s : State) (t e sl : Nat) (j : Job), s.serves t e sl 1797 cmdOutSet j ∧ j.arg 1 1 = 1) ∧
    (∃ (s : State) (t e sl : Nat) (j : Job), s.serves t e sl 1798 cmdSync1 j ∧ bit (j.arg 2 1) 0 = false) ∧
    (∃ (s : State) (t e sl : Nat) (j : Job), s.serves t e sl 1798 cmdSync1 j ∧ bit (j.arg 2 1) 0 = true ∧ (s.till
      t).inProgress j < 16) :=
  ⟨⟨{ sv 105 with hostErr := [513] }, 0, 0, 1, jv 105, by decide +kernel⟩,
    ⟨sv 42, 0, 0, 1, jv 42, by decide +kernel⟩,
    ⟨sv 52, 0, 0, 1, jv 52, by decide +kernel⟩,
    ⟨sv 106, 0, 0, 1, jv 106, by decide +kernel⟩,
    ⟨sv 102, 0, 0, 1, jv 102, by decide +kernel⟩,
    ⟨let x := mk [(F.TIM_OSTAT_STATE,0,3)] (sv 102);
        { x with tim := { x.tim with fall := List.replicate 32 30000 } }, 0, 0, 1, jv 102, by decide +kernel⟩,
    ⟨sv 54, 0, 0, 1, jv 54, by decide +kernel⟩,
    ⟨sv 108, 0, 0, 1, jv 108, by decide +kernel⟩,
    ⟨sv 56, 0, 0, 1, jv 56, by decide +kernel⟩,
    ⟨sv 107, 0, 0, 1, jv 107, by decide +kernel⟩⟩

theorem wit_commandsOfTheUnits_3 :
    (∃ (s : State) (t e sl : Nat) (j : Job), s.serves t e sl 1799 cmdLoopSet j ∧ (s.till t).inProgress j < 16) ∧
    (∃ (s : State) (t e sl : Nat) (j : Job), s.serves t e sl 2048 cmdQueueAlloc j ∧ j.arg 0 2 ≠ 65535 ∧ j.arg 8 4 ≠
      4294967295) ∧
    (∃ (s : State) (t e sl : Nat) (j : Job), s.serves t e sl 2304 cmdLinkAssign j ∧ (((Work.start s).at t).fw
      Reg.LNK_GRP (j.arg 0 1) (j.word 8)).st.grpAt (j.arg 0 1) = none) ∧
    (∃ (s : State) (t e sl : Nat) (j : Job), s.serves t e sl 2304 cmdLinkAssign j ∧ (((Work.start s).at t).fw
      Reg.LNK_GRP (j.arg 0 1) (j.word 8)).st.grpAt (j.arg 0 1) ≠ none ∧ (s.till t).inProgress j < 16) ∧
    (∃ (s : State) (t e sl : Nat) (j : Job), s.serves t e sl 2307 cmdLinkStatus j ∧ s.grpMode (j.arg 0 1) ≠ 2) ∧
    (∃ (s : State) (t e sl : Nat) (j : Job), s.serves t e sl 2307 cmdLinkStatus j ∧ s.grpMode (j.arg 0 1) = 2) ∧
    (∃ (s : State) (t e sl : Nat) (j : Job), s.serves t e sl 2565 cmdAccUnlock j ∧ j.arg 0 1 = 0) ∧
    (∃ (s : State) (t e sl : Nat) (j : Job), s.serves t e sl 2817 cmdPwrDomainSet j ∧ (((Work.start s).at t).domGo
      (j.arg 0 1) (j.arg 1 1)).st.dom (j.arg 0 1) = j.arg 1 1) ∧
    (∃ (s : State) (t e sl : Nat) (j : Job), s.serves t e sl 2817 cmdPwrDomainSet j ∧ (((Work.start s).at t).domGo
      (j.arg 0 1) (j.arg 1 1)).st.dom (j.arg 0 1) ≠ j.arg 1 1 ∧ (s.till t).inProgress j < 16) :=
  ⟨⟨sv 57, 0, 0, 1, jv 57, by decide +kernel⟩,
    ⟨sv 59, 0, 0, 1, jv 59, by decide +kernel⟩,
    ⟨sv 109, 0, 0, 1, jv 109, by decide +kernel⟩,
    ⟨sv 69, 0, 0, 1, jv 69, by decide +kernel⟩,
    ⟨sv 72, 0, 0, 1, jv 72, by decide +kernel⟩,
    ⟨sv 113, 0, 0, 1, jv 113, by decide +kernel⟩,
    ⟨sv 80, 0, 0, 1, jv 80, by decide +kernel⟩,
    ⟨sv 110, 0, 0, 1, jv 110, by decide +kernel⟩,
    ⟨sv 82, 0, 0, 1, jv 82, by decide +kernel⟩⟩

/-- Every command of the table is served on some state: the hypotheses of the clauses on commands can be met
(WEAVE_LOAD,
number 29, by `wit_weaveLoad`). -/
theorem wit_everyCommandIsServed :
    ∀ i ∈ (List.range 95).erase 29, (sv i).serves 0 0 1 (cmdAt i).1 (cmdAt i).2 (jv i) := by
  decide +kernel

theorem wit_commandsAreAnswered :
    (∃ (s : State) (j : Job) (f : Nat) (d : List Byte), s.serves 0 0 1 0x0001 cmdSysPing j ∧
      (cmdSysPing.run j ((Work.start s).at 0)).2 = .ok f d) ∧
    (∃ (s : State) (j : Job) (st i o : Nat), s.serves 0 0 1 0x0A05 cmdAccUnlock j ∧
      (cmdAccUnlock.run j ((Work.start s).at 0)).2 = .err st i o) ∧
    (∃ (s : State) (j : Job) (o a : Nat), s.serves 0 0 1 0x0D00 cmdNvmSave j ∧
      (cmdNvmSave.run j ((Work.start s).at 0)).2 = .wait o a) ∧
    (∃ (s : State) (j : Job) (st i o : Nat), s.pwr.fw = true ∧ s.taken 0 1 0x0502 = some j ∧ j.slot = true ∧
      j.gone = false ∧ firstFail ((s.till 0).commonFail j (cmdCalBlockStatus.res (s.till 0) j) ++
        cmdCalBlockStatus.chk (s.till 0) j) = some (st, i, o)) ∧
    (∃ (s : State) (j : Job), s.pwr.fw = true ∧ s.taken 0 1 0x0001 = some j ∧ j.slot = true ∧ j.gone = false ∧
      firstFail ((s.till 0).commonFail j (cmdSysPing.res (s.till 0) j) ++ cmdSysPing.chk (s.till 0) j) = none ∧
      bit j.flags 1 = true) :=
  ⟨⟨sv 1, jv 1, 0, [1, 2, 3], by decide +kernel⟩,
    ⟨os unlockJob { acc with fuse := { acc.fuse with secure := true } }, unlockJob, 0x12, 0xFFFF, 8,
      by decide +kernel⟩,
    ⟨sv 89, jv 89, 0, 0, by decide +kernel⟩,
    ⟨sv 97, jv 97, 17, 65535, 65535, by decide +kernel⟩,
    ⟨sv 95, jv 95, by decide +kernel⟩⟩


theorem wit_weaveLoad :
    ∃ (s : State) (t : Nat) (j : Job), s.serves t 0 1 0x0400 cmdWeaveLoad j ∧
      ∃ m, imageOf ((((Work.start s).at t).bulkMeet j 8 (j.arg 16 4)).st.bulkIn j 8 (j.arg 16 4)) = some m :=
  ⟨sv 29, 0, jv 29, by decide +kernel, Option.isSome_iff_exists.mp (by decide +kernel)⟩

/-- Window 0 of the axis target lets PF0 write every word of the region. -/
theorem axis_grants (s : State) (a : Nat) (h1 : s.on F.ACC_WCTRL_EN 64 = true) (h2 : s.get F.ACC_WRANGE_BASE 64 = 0)
    (h3 : a ≤ s.get F.ACC_WRANGE_LIMIT 64) (h4 : s.maskBit 64 0 true = true) : s.grants 0 4 a true = true := by
  have hw : s.windowGrants (16 * 4 + 0) 0 a true = true := by
    simp [State.windowGrants, h1, h2, h3, h4]
  have : ((List.range 16).any fun w => s.windowGrants (16 * 4 + w) 0 a true) = true :=
    List.any_eq_true.2 ⟨0, by decide, hw⟩
  simpa [State.grants] using this

theorem axis_spot (s : State) (o : Nat) (h : o < 0x40000) :
    s.spot 0 (0x180000 + o) = some ⟨4, o, 85, axisCell o⟩ := by
  unfold State.spot
  simp only [decide_eq_true_eq]
  repeat rw [if_neg (by omega)]
  rw [if_pos (by omega), Nat.add_sub_cancel_left]
  have : (decide (0x40000 ≤ o)) = false := by simp; omega
  simp [this]

theorem axis_denies (s : State) (j : Job) (rs : List (Reg × Nat)) (hj : j.ep = 0) (h1 : s.on F.ACC_WCTRL_EN 64 = true)
    (h2 : s.get F.ACC_WRANGE_BASE 64 = 0) (h3 : 0x40000 ≤ s.get F.ACC_WRANGE_LIMIT 64)
    (h4 : s.maskBit 64 0 true = true) (h : ∀ x ∈ rs, ∃ o < 0x40000, x.1.addr x.2 = 0x180000 + o) :
    s.denyAll j rs true = [] := by
  refine List.flatMap_eq_nil_iff.2 fun x hx => ?_
  obtain ⟨o, ho, e⟩ := h x hx
  have hm : epMaster j.ep = 0 := by rw [hj]; rfl
  simp only [State.deny, hm, e, axis_spot s o ho, axis_grants s o h1 h2 (by omega) h4]
  rfl


/-- STAKES_LOAD with the clearing flag: 4,608 words are checked, by `axis_denies`. -/
theorem wit_stakesLoadClears :
    ∃ (s : State) (t e sl : Nat) (j : Job), s.serves t e sl 771 cmdStakesLoad j ∧ bit (j.arg 4 4) 0 = true := by
  refine ⟨os stakesJob, 0, 0, 1, stakesJob, ⟨by decide +kernel, by decide +kernel, rfl, rfl, by decide +kernel, ?_⟩,
    by decide +kernel⟩
  have h : ∀ rs : List (Reg × Nat), (∀ x ∈ rs, ∃ o < 0x40000, x.1.addr x.2 = 0x180000 + o) →
      ((os stakesJob).till 0).denyAll stakesJob rs true = [] := fun rs =>
    axis_denies _ _ rs rfl (by decide +kernel) (by decide +kernel) (by decide +kernel) (by decide +kernel)
  have hM := h ((List.range 4096).map fun i => (.STG_MATCH, i)) fun x hx => by
    obtain ⟨i, hi, rfl⟩ := List.mem_map.1 hx
    exact ⟨0x20000 + 16 * i, by have := List.mem_range.1 hi; omega, by show 0x1A0000 + 16 * i = _; omega⟩
  have hL := h ((List.range 512).map fun i => (.STG_LG, i)) fun x hx => by
    obtain ⟨i, hi, rfl⟩ := List.mem_map.1 hx
    exact ⟨0x31000 + 8 * i, by have := List.mem_range.1 hi; omega, by show 0x1B1000 + 8 * i = _; omega⟩
  simp only [cmdStakesLoad]
  rw [hM, hL]
  decide +kernel

/-- A profile that stands in the vault's area is the one that a load finds (Table REG-3). -/
theorem test_profile_of_the_vault :
    withProfile.profileAt 7 = some [(Reg.key .FRE_IE 3, 1)] ∧ withProfile.profileAt 255 = none := by decide +kernel

end Sys2Proof.Tests.Commands

namespace Sys2Proof.Tests.Links

open Sys2Proof.Machine Sys2Proof.Tests

def acc10 : State := mk [(⟨.ACC_RD_LO,0,1⟩, 160, 1), (⟨.ACC_WR_LO,0,1⟩, 160, 1)] up
def lk (st : Nat) (x : LnkSt) (xs : List (Fld × Nat × Nat) := []) (s : State := up) : State := mk
    ([(F.LNK_GRP_MODE,4,5), (F.DLP_CFG_EN,17,1), (F.DLP_STAT_STATE,17,st), (F.DLP_CFG_CRC_LIM,17,5),
    (F.DLP_CFG_CREDIT_TO,17,1)] ++ xs) { s with lnk := [(17, x)] }
def at3 (x : LnkSt) (xs : List (Fld × Nat × Nat) := []) (s : State := up) : State := lk 3 x
    ([(F.PT_STAT_ATTACHED,2,1), (F.PT_STAT_LINK,2,17), (F.PT_STAT_GEN,2,9), (F.PT_STAT_CAPS,2,15),
    (F.DLP_STAT_ENTRY,17,2), (F.DLP_STAT_ENTRY_VALID,17,1), (F.DLP_CFG_TIME_EN,17,1), (⟨.ACC_WR_LO,62,1⟩, 320,
    1)] ++ xs) s
def nofw (s : State) : State := { s with pwr := { s.pwr with fw := false } }
def bq (kind id : Nat) (xs : List (Fld × Nat × Nat)) (s : State := up) : State := mk ([(F.QD_MARK_CONS_KIND,4,kind),
    (F.QD_MARK_CONS_ID,4,id), (F.QD_CFG_EN,4,1), (F.QD_CFG_SIZE_LOG2,4,10), (F.QD_WR_CWR,4,7)] ++ xs) { s with
      store := [(0, w64 (0xF0*2^56 + 7*2^44)), (1,700), (2, w64 (5*2^60 + 1*2^48 + 50000)), (3,7),
        (6,0xF100000000000099)] }
def ech : List (Fld × Nat × Nat) := [(F.ECH_CFG_EN,20,1), (F.ECH_CFG_QUEUE,20,4), (F.ECH_CFG_HB_EXP,20,14),
    (F.LNK_GRP_MODE,5,2), (F.LNK_GSTAT_UP,5,1)]
def hi2 : State := lk 2 { hello := 15000, tu := 100, locked := true, seqTx := 3, freeB := 3 }
def hiA : State := lk 2
  { hello := 15000, tu := 100, locked := true, seqTx := 3, freeB := 3, rcvdA := true, res := some 2 }
def acp (a : Bool) (r : Option Nat) : State :=
  lk 2 { sentA := a, res := r, desc := [0x0000000F000001, 7, 8, 0x40010], locked := true }
def gone : State := at3 { locked := true, seqRx := some 5, rx := 100, waitT := some 600, bTx := 4, out := [] }
def fr (ws : List Word) : Frame := { seq := 5, cret := 3, ccret := 1, ws := ws }
def fz (ws : List Word) : Frame := { seq := 5, cret := 0, ccret := 0, ws := ws }
def rx5 : State := at3 { seqRx := some 5 } [(F.QUE_POOL_POOL_BUFS,0,6)] (bq 0 0 [])
def bf : List Word := [4, w64 (0xF0*2^56 + 4*2^44), 600, 0x55, 0xF100000000000000]
def cmdWs : List Word := 1 :: (List.range 32).map (fun i => w64 (77 * i))
def bsnd (c : Nat) : State := at3 { bTx := c } [] (bq 7 2 [])
def qb13 (s : State) : List QBundle := (s.peek 4 0).join.toList

theorem wit_groupsAndPorts_1 :
    (∃ (w : Nat) (ok : Bool), w < 8 ∧ ok = true) ∧
    (∃ (w : Nat) (ok : Bool), w < 8 ∧ ok = false) ∧
    (∃ (s : State) (t w a : Nat), w < 8 ∧ ((s.wlinkAt w).upT = some a ∨ (s.wlinkAt w).downT = some a) ∧ a + ms 1 <
      (s.till t).t64 ∧ s.srcAbsent (544 + w) = false) ∧
    (∃ (s : State) (m g : Nat) (v : Word), g < 16 ∧ s.domOn 85 = true ∧ s.grants m 10 (8 * g) true = true ∧ ((if
      (!s.domOn (pdGroup g)) = true then 0 else if g < 4 then 1 else if F.LNK_GRP_MODE.of v = 1 ∨ 6 ≤ F.LNK_GRP_MODE.of
      v then 0 else F.LNK_GRP_MODE.of v) = s.grpMode g)) ∧
    (∃ (s : State) (m g : Nat) (v : Word), g < 16 ∧ s.domOn 85 = true ∧ s.grants m 10 (8 * g) true = true ∧ ((if
      (!s.domOn (pdGroup g)) = true then 0 else if g < 4 then 1 else if F.LNK_GRP_MODE.of v = 1 ∨ 6 ≤ F.LNK_GRP_MODE.of
      v then 0 else F.LNK_GRP_MODE.of v) ≠ s.grpMode g)) ∧
    (∃ (s : State) (m g : Nat) (v : Word), g < 16 ∧ s.domOn 85 = true ∧ s.grants m 10 (8 * g) true = true ∧ ((if
      (!s.domOn (pdGroup g)) = true then 0 else if g < 4 then 1 else if F.LNK_GRP_MODE.of v = 1 ∨ 6 ≤ F.LNK_GRP_MODE.of
      v then 0 else F.LNK_GRP_MODE.of v) ≠ s.grpMode g) ∧ ((s.linksOf g).all fun l => s.dlp l != 3) = true) ∧
    (∃ (s : State) (g a : Nat), s.grpAt g = some a) ∧
    (∃ (s : State) (p : Nat), p < 12 ∧ s.grpMode (p + 4) = 2 ∧ s.grpAt (p + 4) = none) :=
  ⟨⟨3, true, by decide +kernel⟩,
    ⟨3, false, by decide +kernel⟩,
    ⟨{ up with wlink := [(3, { upT := some 500, up := 2, failed := true })] }, 20000000000, 3, 500, by decide +kernel⟩,
    ⟨mk [(F.LNK_GRP_MODE,4,5)] acc10, 0, 4, 5, by decide +kernel⟩,
    ⟨mk [(F.LNK_GRP_MODE,4,5)] acc10, 0, 4, 2, by decide +kernel⟩,
    ⟨mk [(F.LNK_GRP_MODE,4,5)] acc10, 0, 4, 2, by decide +kernel⟩,
    ⟨{ lk 0 {} with grp := [(4, some 20000)] }, 4, 20000, by decide +kernel⟩,
    ⟨mk ([(F.ETH_CFG_PAUSE_EN,1,1)] ++ ech) { up with port := [(1, { pause := some 22000 })] }, 1, by decide +kernel⟩⟩

theorem wit_groupsAndPorts_2 :
    (∃ (s : State) (p : Nat), s.portUp p = true ∧ s.on F.ETH_CFG_PAUSE_EN p = true) ∧
    (∃ (s : State) (p : Nat), s.portUp p = true ∧ s.on F.ETH_CFG_PAUSE_EN p = false) ∧
    (∃ (s : State) (p : Nat), s.portUp p = true) ∧
    (∃ (s : State) (p a : Nat), (s.portAt p).pause = some a) ∧
    (∃ (s : State) (t c : Nat), s.on F.ECH_CFG_EN c = true ∧ s.on F.ECH_STAT_ERR c = false ∧ s.boundTo (s.get
      F.ECH_CFG_QUEUE c) 2 c = true ∧ s.portUp (c / 16) = true ∧ (s.portAt (c / 16)).pause = none ∧ (s.till t).chanTurn
      c = true ∧ (s.chanNext c).snd.snd ≠ 0) ∧
    (∃ (s : State) (c : Nat), s.on F.ECH_CFG_EN c = true ∧ s.on F.ECH_STAT_ERR c = false ∧ s.get F.ECH_CFG_HB_EXP c ≠ 0
      ∧ s.boundTo (s.get F.ECH_CFG_QUEUE c) 2 c = true ∧ s.portUp (c / 16) = true ∧ (s.portAt (c / 16)).pause = none ∧
      (s.till ((s.chanAt c).last + 2 ^ max 13 (min 47 (s.get F.ECH_CFG_HB_EXP c)))).chanTurn c = false) ∧
    (∃ (s : State) (c : Nat), s.on F.ECH_CFG_EN c = true ∧ s.on F.ECH_STAT_ERR c = false ∧ s.get F.ECH_CFG_HB_EXP c ≠ 0
      ∧ s.boundTo (s.get F.ECH_CFG_QUEUE c) 2 c = true ∧ s.portUp (c / 16) = true ∧ (s.portAt (c / 16)).pause = none ∧
      (s.till ((s.chanAt c).last + 2 ^ max 13 (min 47 (s.get F.ECH_CFG_HB_EXP c)))).chanTurn c = true) :=
  ⟨⟨mk ([(F.ETH_CFG_PAUSE_EN,1,1)] ++ ech) { up with port := [(1, { pause := some 22000 })] }, 1, by decide +kernel⟩,
    ⟨bq 2 20 ech, 1, by decide +kernel⟩,
    ⟨bq 2 20 ech, 1, by decide +kernel⟩,
    ⟨mk ([(F.ETH_CFG_PAUSE_EN,1,1)] ++ ech) { up with port := [(1, { pause := some 22000 })] }, 1, 22000,
        by decide +kernel⟩,
    ⟨bq 2 20 ech, 20000, 20, by decide +kernel⟩,
    ⟨mk [(F.ECH_CFG_EN,19,1), (F.ECH_CFG_QUEUE,19,6), (F.ECH_CFG_HB_EXP,19,13), (F.QD_MARK_CONS_KIND,6,2),
        (F.QD_MARK_CONS_ID,6,19), (F.QD_CFG_EN,6,1)] { bq 2 20 ech with port := [(1, { rr := 2 })] }, 20,
        by decide +kernel⟩,
    ⟨bq 2 20 ech, 20, by decide +kernel⟩⟩

theorem wit_partnersComeAndGo_1 :
    (∃ (s : State) (t l : Nat), s.isLink l = true ∧ s.on F.DLP_CFG_EN l = true ∧ s.domOn 85 = true ∧ s.grpAt (l / 4) =
      none ∧ (s.lnkAt l).locked = false ∧ Option.all (fun r => decide (r ≤ (s.till t).t64)) (s.lnkAt l).retry = true) ∧
    (∃ (s : State) (t l : Nat), s.isLink l = true ∧ s.on F.DLP_CFG_EN l = true ∧ s.domOn 85 = true ∧ s.grpAt (l / 4) =
      none ∧ (s.lnkAt l).locked = false ∧ Option.all (fun r => decide (r ≤ (s.till t).t64)) (s.lnkAt l).retry =
      false) ∧
    (∃ (s : State) (l : Nat), s.dlp l = 2) ∧
    (∃ (s : State) (l r : Nat), (s.lnkAt l).retry = some r ∧ s.isLink l = true ∧ s.on F.DLP_CFG_EN l = true ∧ (s.lnkAt
      l).locked = true) ∧
    (∃ (s : State) (l r : Nat), (s.lnkAt l).retry = some r ∧ s.isLink l = true ∧ s.on F.DLP_CFG_EN l = true ∧ (s.lnkAt
      l).locked = false) ∧
    (∃ (s : State) (l r : Nat), (s.lnkAt l).retry = some r ∧ (s.isLink l = false ∨ s.on F.DLP_CFG_EN l = false)) ∧
    (∃ (s : State) (l : Nat) (f : Frame) (e : Nat), s.dlp l = 2 ∧ s.wf = true ∧ f.ws.length = 4 ∧ bits (payload f 0) 0
      8 = 1 ∧ (s.lnkAt l).res.or s.freeEntry = some e ∧ (s.lnkAt l).rcvdA = false) ∧
    (∃ (s : State) (l : Nat) (f : Frame) (e : Nat), s.dlp l = 2 ∧ s.wf = true ∧ f.ws.length = 4 ∧ bits (payload f 0) 0
      8 = 1 ∧ (s.lnkAt l).res.or s.freeEntry = some e ∧ (s.lnkAt l).rcvdA = true ∧ e < 32 ∧ l < 64) ∧
    (∃ (s : State) (l : Nat) (f : Frame), s.dlp l = 2 ∧ s.wf = true ∧ f.ws.length = 4 ∧ (bits (payload f 0) 0 8 ≠ 1 ∨
      (s.lnkAt l).res.or s.freeEntry = none)) :=
  ⟨⟨lk 1 {}, 20000, 17, by decide +kernel⟩,
    ⟨lk 1 { retry := some 30000, seqTx := 3 }, 20000, 17, by decide +kernel⟩,
    ⟨lk 2 { hello := 15000, tu := 100, locked := true, seqTx := 3, freeB := 3 }, 17, by decide +kernel⟩,
    ⟨lk 1 { retry := some 30000, locked := true, seqTx := 3 }, 17, 30000, by decide +kernel⟩,
    ⟨lk 1 { retry := some 30000, seqTx := 3 }, 17, 30000, by decide +kernel⟩,
    ⟨mk [(F.DLP_CFG_EN,17,0)] (lk 1 { retry := some 30000, seqTx := 3 }), 17, 30000, by decide +kernel⟩,
    ⟨hi2, 17, fr [1, 2, 3, 4], 0, by decide +kernel⟩,
    ⟨hiA, 17, fr [1, 2, 3, 4], 2, by decide +kernel⟩,
    ⟨hi2, 17, fr [2, 2, 3, 4], by decide +kernel⟩⟩

theorem wit_partnersComeAndGo_2 :
    (∃ (s : State) (l : Nat) (f : Frame), s.dlp l = 2 ∧ f.ws.length = 1 ∧ ((s.lnkAt l).sentA = false ∨ (s.lnkAt l).res
      = none)) ∧
    (∃ (s : State) (l : Nat) (f : Frame) (e : Nat), s.dlp l = 2 ∧ f.ws.length = 1 ∧ (s.lnkAt l).sentA = true ∧ (s.lnkAt
      l).res = some e ∧ e < 32 ∧ l < 64) ∧
    (∃ (s : State) (l : Nat) (f : Frame), s.dlp l = 2 ∧ f.ws.length = 1) ∧
    (∃ (s : State) (l : Nat) (f : Frame), s.dlp l = 3 ∧ l < 64 ∧ f.ws.length = 4) ∧
    (∃ (s : State) (l : Nat) (f : Frame), s.dlp l = 3 ∧ l < 64 ∧ f.ws.length = 1) ∧
    (∃ (s : State) (l : Nat) (f : Frame), s.dlp l = 3 ∧ l < 64 ∧ f.ws.length = 1 ∧ s.pwr.fw = false ∧ s.on
      F.PWR_ENG_RECOVERING 0 = false ∧ (s.lnkAt l).out = [] ∧ (s.lnkAt l).mbx = [] ∧ (s.epAt (18 + s.entryOf l)).kept =
      []) ∧
    (∃ (s : State) (l : Nat), s.dlp l = 3 ∧ l < 64 ∧ s.isLink l = true ∧ (s.lnkAt l).locked = true) ∧
    (∃ (s : State) (l : Nat), s.dlp l = 3 ∧ l < 64 ∧ s.isLink l = true ∧ (s.lnkAt l).locked = true ∧ s.pwr.fw = false ∧
      s.on F.PWR_ENG_RECOVERING 0 = false) ∧
    (∃ (s : State) (t l : Nat), s.dlp l = 3 ∧ l < 64 ∧ (s.lnkAt l).rx + ms 10 ≤ (s.till t).t64) :=
  ⟨⟨hi2, 17, fr [77], by decide +kernel⟩,
    ⟨acp true (some 2), 17, fr [77], 2, by decide +kernel⟩,
    ⟨hi2, 17, fr [77], by decide +kernel⟩,
    ⟨gone, 17, fr [1, 2, 3, 4], by decide +kernel⟩,
    ⟨gone, 17, fr [77], by decide +kernel⟩,
    ⟨nofw gone, 17, fr [77], by decide +kernel⟩,
    ⟨gone, 17, by decide +kernel⟩,
    ⟨nofw gone, 17, by decide +kernel⟩,
    ⟨gone, 20000000000, 17, by decide +kernel⟩⟩

theorem wit_partnersComeAndGo_3 :
    (∃ (s : State) (t l : Nat), s.dlp l = 3 ∧ l < 64 ∧ (s.lnkAt l).rx + ms 10 ≤ (s.till t).t64 ∧ s.pwr.fw = false ∧
      s.on F.PWR_ENG_RECOVERING 0 = false) ∧
    (∃ (s : State) (t l : Nat), s.dlp l = 3 ∧ l < 64 ∧ (((s.lnkAt l).waitT.toList ++ List.map (fun x => x.fst) (s.lnkAt
      l).mbx).any fun w => decide (w + ms (max 1 (s.get F.DLP_CFG_CREDIT_TO l)) ≤ (s.till t).t64)) = true) ∧
    (∃ (s : State) (t l : Nat), s.dlp l = 3 ∧ l < 64 ∧ (((s.lnkAt l).waitT.toList ++ List.map (fun x => x.fst) (s.lnkAt
      l).mbx).any fun w => decide (w + ms (max 1 (s.get F.DLP_CFG_CREDIT_TO l)) ≤ (s.till t).t64)) = true ∧ s.pwr.fw =
      false ∧ s.on F.PWR_ENG_RECOVERING 0 = false) ∧
    (∃ (s : State) (l : Nat), s.dlp l ≠ 3 ∧ s.isLink l = true ∧ (s.lnkAt l).locked = true) ∧
    (∃ (s : State) (l : Nat) (f : Frame), f.ws.length = 1 ∧ s.dlp l = 3) ∧
    (∃ (s : State) (l : Nat) (f : Frame), f.ws.length = 1 ∧ s.dlp l = 2) ∧
    (∃ (s : State) (l : Nat) (f : Frame), f.ws.length = 1 ∧ s.dlp l = 3 ∧ (s.lnkAt l).out = [] ∧ (s.lnkAt l).mbx = [] ∧
      (s.epAt (18 + s.entryOf l)).kept = []) ∧
    (∃ (s : State) (l : Nat), (s.dlp l = 2 ∨ s.dlp l = 3)) ∧
    (∃ (s : State) (l : Nat), s.dlp l ≠ 2 ∧ s.dlp l ≠ 3 ∧ (s.lnkAt l).bye ≠ 0) :=
  ⟨⟨nofw gone, 20000000000, 17, by decide +kernel⟩,
    ⟨gone, 20000000000, 17, by decide +kernel⟩,
    ⟨nofw gone, 20000000000, 17, by decide +kernel⟩,
    ⟨hi2, 17, by decide +kernel⟩,
    ⟨gone, 17, fr [77], by decide +kernel⟩,
    ⟨hi2, 17, fr [77], by decide +kernel⟩,
    ⟨gone, 17, fr [77], by decide +kernel⟩,
    ⟨lk 2 { hello := 15000, tu := 100, locked := true, seqTx := 3, freeB := 3 }, 17, by decide +kernel⟩,
    ⟨lk 1 { bye := 2, seqTx := 3 }, 17, by decide +kernel⟩⟩

theorem wit_partnerFrames_1 :
    (∃ (s : State) (l : Nat) (f : Frame), s.dlp l = 3 ∧ s.active (bits (payload f 0) 0 16) = true ∧ s.grants (60 +
      s.entryOf l) (20 + bits (payload f 0) 0 16 / 512) (bits (payload f 0) 0 16 % 512) true = true ∧ 3 ≤ (List.drop 1
      f.ws).length ∧ bits (payload f 1) 56 8 = 240 ∧ bits (payload f 1) 44 12 = (List.drop 1 f.ws).length ∧ bits
      (payload f (List.drop 1 f.ws).length) 56 8 = 241 ∧ (s.open_.all fun x => x.producer != 352 + s.entryOf l) = true
      ∧ (s.back.any fun x => x.fst == 352 + s.entryOf l) = false ∧ s.canOpen (352 + s.entryOf l) (bits (payload f 0) 0
      16) = true) ∧
    (∃ (s : State) (l : Nat) (f : Frame), s.dlp l = 3 ∧ s.active (bits (payload f 0) 0 16) = true ∧ s.grants (60 +
      s.entryOf l) (20 + bits (payload f 0) 0 16 / 512) (bits (payload f 0) 0 16 % 512) true = true ∧ 3 ≤ (List.drop 1
      f.ws).length ∧ bits (payload f 1) 56 8 = 240 ∧ bits (payload f 1) 44 12 = (List.drop 1 f.ws).length ∧ bits
      (payload f (List.drop 1 f.ws).length) 56 8 = 241 ∧ (s.open_.all fun x => x.producer != 352 + s.entryOf l) = true
      ∧ ((s.back.any fun x => x.fst == 352 + s.entryOf l) = true ∨ s.canOpen (352 + s.entryOf l) (bits (payload f 0) 0
      16) = false)) ∧
    (∃ (s : State) (l : Nat) (f : Frame), s.dlp l = 3 ∧ s.active (bits (payload f 0) 0 16) = true ∧ s.grants (60 +
      s.entryOf l) (20 + bits (payload f 0) 0 16 / 512) (bits (payload f 0) 0 16 % 512) true = true ∧ ¬(3 ≤ (List.drop
      1 f.ws).length ∧ bits (payload f 1) 56 8 = 240 ∧ bits (payload f 1) 44 12 = (List.drop 1 f.ws).length ∧ bits
      (payload f (List.drop 1 f.ws).length) 56 8 = 241)) ∧
    (∃ (s : State) (l : Nat) (f : Frame), s.dlp l = 3 ∧ ¬(s.active (bits (payload f 0) 0 16) = true ∧ s.grants (60 +
      s.entryOf l) (20 + bits (payload f 0) 0 16 / 512) (bits (payload f 0) 0 16 % 512) true = true)) ∧
    (∃ (s : State) (l : Nat) (f : Frame), s.dlp l = 3 ∧ bits (payload f 0) 4 60 = 0 ∧ bit (s.get F.PT_STAT_CAPS
      (s.entryOf l)) 2 = true ∧ f.ws.length = 33 ∧ bits (payload f 0) 2 2 = 0 ∧ (s.slotAt (slotKey (18 + s.entryOf l)
      (bits (payload f 0) 0 2))).st ≠ 1 ∧ (s.slotAt (slotKey (18 + s.entryOf l) (bits (payload f 0) 0 2))).st ≠ 2) ∧
    (∃ (s : State) (l : Nat) (f : Frame), s.dlp l = 3 ∧ bits (payload f 0) 4 60 = 0 ∧ bit (s.get F.PT_STAT_CAPS
      (s.entryOf l)) 2 = true ∧ f.ws.length = 33 ∧ bits (payload f 0) 2 2 = 0 ∧ ((s.slotAt (slotKey (18 + s.entryOf l)
      (bits (payload f 0) 0 2))).st = 1 ∨ (s.slotAt (slotKey (18 + s.entryOf l) (bits (payload f 0) 0 2))).st = 2)) ∧
    (∃ (s : State) (l : Nat) (f : Frame), s.dlp l = 3 ∧ bits (payload f 0) 4 60 = 0 ∧ bit (s.get F.PT_STAT_CAPS
      (s.entryOf l)) 2 = true ∧ f.ws.length = 1 ∧ bits (payload f 0) 2 2 = 3) ∧
    (∃ (s : State) (l : Nat) (f : Frame), s.dlp l = 3 ∧ f.ws.length = 4) ∧
    (∃ (s : State) (l : Nat) (f : Frame), s.dlp l = 3 ∧ (s.lnkAt l).seqRx = some (f.seq % 2 ^ 32) ∧ (s.lnkAt l).out =
      [] ∧ (s.lnkAt l).mbx = [] ∧ (s.epAt (18 + s.entryOf l)).kept = [] ∧ f.cret = (s.lnkAt l).cret ∧ f.ccret =
      (s.lnkAt l).ccret ∧ f.cret < 256 ∧ f.ccret < 8 ∧ bits (payload f 0) 4 60 = 0 ∧ bit (s.get F.PT_STAT_CAPS
      (s.entryOf l)) 2 = true ∧ s.entryOf l < 32 ∧ f.ws.length = 33 ∧ bits (payload f 0) 2 2 = 0 ∧ (s.slotAt (slotKey
      (18 + s.entryOf l) (bits (payload f 0) 0 2))).st ≠ 1 ∧ (s.slotAt (slotKey (18 + s.entryOf l) (bits (payload f 0)
      0 2))).st ≠ 2) :=
  ⟨⟨rx5, 17, fz bf, by decide +kernel⟩,
    ⟨{ rx5 with granted := [], waiters := [9] }, 17, fz bf, by decide +kernel⟩,
    ⟨rx5, 17, fz [4, 5, 6], by decide +kernel⟩,
    ⟨rx5, 17, fz [9, w64 (0xF0*2^56 + 4*2^44), 600, 0x55, 0xF100000000000000], by decide +kernel⟩,
    ⟨rx5, 17, fz cmdWs, by decide +kernel⟩,
    ⟨{ rx5 with slot := [(slotKey 20 1, { st := 1 })] }, 17, fz cmdWs, by decide +kernel⟩,
    ⟨{ at3 { seqRx := some 5 } with slot := [(slotKey 20 1, { st := 3 })] }, 17, fz [13], by decide +kernel⟩,
    ⟨rx5, 17, fz [1, 300, 700, 900], by decide +kernel⟩,
    ⟨rx5, 17, fz cmdWs, by decide +kernel⟩⟩

theorem wit_partnerFrames_2 :
    (∃ (s : State) (l : Nat) (f : Frame), s.dlp l = 3 ∧ (s.lnkAt l).seqRx = some (f.seq % 2 ^ 32) ∧ (s.lnkAt l).out =
      [] ∧ (s.lnkAt l).mbx = [] ∧ (s.epAt (18 + s.entryOf l)).kept = [] ∧ f.cret = (s.lnkAt l).cret ∧ f.ccret =
      (s.lnkAt l).ccret ∧ f.cret < 256 ∧ f.ccret < 8 ∧ bits (payload f 0) 4 60 = 0 ∧ bit (s.get F.PT_STAT_CAPS
      (s.entryOf l)) 2 = true ∧ s.entryOf l < 32 ∧ f.ws.length = 1 ∧ bits (payload f 0) 2 2 = 3 ∧ (s.slotAt (slotKey
      (18 + s.entryOf l) (bits (payload f 0) 0 2))).st = 3) ∧
    (∃ (s : State) (l : Nat) (f : Frame), s.dlp l = 3 ∧ (s.lnkAt l).seqRx = some (f.seq % 2 ^ 32) ∧ (s.lnkAt l).out =
      [] ∧ (s.lnkAt l).mbx = [] ∧ (s.epAt (18 + s.entryOf l)).kept = [] ∧ f.cret = (s.lnkAt l).cret ∧ f.ccret =
      (s.lnkAt l).ccret ∧ f.cret < 256 ∧ f.ccret < 8 ∧ f.ws.length = 4) ∧
    (∃ (s : State) (l : Nat), (s.dlp l = 2 ∨ s.dlp l = 3)) ∧
    (∃ (s : State) (t l : Nat), (s.dlp l = 2 ∨ s.dlp l = 3) ∧ ¬max 1 (s.get F.DLP_CFG_CRC_LIM l) ≤ (List.filter (fun a
      => decide ((s.till t).t64 < a + ms 1)) (s.lnkAt l).crcs).length + 1) ∧
    (∃ (s : State) (t l : Nat), s.dlp l = 3 ∧ s.on F.DLP_CFG_TIME_EN l = true ∧ bit (s.get F.PT_STAT_CAPS (s.entryOf
      l)) 3 = true ∧ (s.lnkAt l).timeT ≤ (s.till t).t64) ∧
    (∃ (s : State) (e q : Nat) (b : QBundle), s.attached e = true ∧ List.find? (fun q => (s.peek q ((s.lnkAt (s.linkOf
      e)).ahead q)).isSome) (List.filter (fun x => decide ((s.lnkAt (s.linkOf e)).rr < x)) (s.indices Reg.QD_MARK fun v
      => F.QD_MARK_CONS_KIND.of v == 7 && F.QD_MARK_CONS_ID.of v == e) ++ List.filter (fun q => !decide ((s.lnkAt
      (s.linkOf e)).rr < q)) (s.indices Reg.QD_MARK fun v => F.QD_MARK_CONS_KIND.of v == 7 && F.QD_MARK_CONS_ID.of v ==
      e)) = some q ∧ s.peek q ((s.lnkAt (s.linkOf e)).ahead q) = some (some b) ∧ bundleCost b.len ≤ (s.lnkAt (s.linkOf
      e)).bTx) ∧
    (∃ (s : State) (e q : Nat) (b : QBundle), s.attached e = true ∧ List.find? (fun q => (s.peek q ((s.lnkAt (s.linkOf
      e)).ahead q)).isSome) (List.filter (fun x => decide ((s.lnkAt (s.linkOf e)).rr < x)) (s.indices Reg.QD_MARK fun v
      => F.QD_MARK_CONS_KIND.of v == 7 && F.QD_MARK_CONS_ID.of v == e) ++ List.filter (fun q => !decide ((s.lnkAt
      (s.linkOf e)).rr < q)) (s.indices Reg.QD_MARK fun v => F.QD_MARK_CONS_KIND.of v == 7 && F.QD_MARK_CONS_ID.of v ==
      e)) = some q ∧ s.peek q ((s.lnkAt (s.linkOf e)).ahead q) = some (some b) ∧ (s.lnkAt (s.linkOf e)).bTx <
      bundleCost b.len) ∧
    (∃ (s : State) (e q : Nat), s.attached e = true ∧ List.find? (fun q => (s.peek q ((s.lnkAt (s.linkOf e)).ahead
      q)).isSome) (List.filter (fun x => decide ((s.lnkAt (s.linkOf e)).rr < x)) (s.indices Reg.QD_MARK fun v =>
      F.QD_MARK_CONS_KIND.of v == 7 && F.QD_MARK_CONS_ID.of v == e) ++ List.filter (fun q => !decide ((s.lnkAt
      (s.linkOf e)).rr < q)) (s.indices Reg.QD_MARK fun v => F.QD_MARK_CONS_KIND.of v == 7 && F.QD_MARK_CONS_ID.of v ==
      e)) = some q ∧ s.peek q ((s.lnkAt (s.linkOf e)).ahead q) = some none) :=
  ⟨⟨{ at3 { seqRx := some 5 } with slot := [(slotKey 20 1, { st := 3 })] }, 17,
        { seq := 5, cret := 0, ccret := 0, ws := [13] }, by decide +kernel⟩,
    ⟨at3 { seqRx := some 5 } [(F.QUE_POOL_POOL_BUFS,0,6)] (bq 0 0 []), 17,
        { seq := 5, cret := 0, ccret := 0, ws := [1, 300, 700, 900] }, by decide +kernel⟩,
    ⟨lk 2 { hello := 15000, tu := 100, locked := true, seqTx := 3, freeB := 3 }, 17, by decide +kernel⟩,
    ⟨rx5, 20000, 17, by decide +kernel⟩,
    ⟨rx5, 20000, 17, by decide +kernel⟩,
    ⟨bsnd 5, 2, 4, (qb13 (bsnd 5))[0]'(by decide +kernel), by decide +kernel⟩,
    ⟨bsnd 0, 2, 4, (qb13 (bsnd 0))[0]'(by decide +kernel), by decide +kernel⟩,
    ⟨{ bsnd 5 with store := [(0, 5)] }, 2, 4, by decide +kernel⟩⟩

end Sys2Proof.Tests.Links

namespace Sys2Proof.Tests.Tap

open Sys2Proof.Machine Sys2Proof.Tests

def sec : State := { mk [(F.ACC_BOOT_SECURE_EN,0,1)] up with fuse := { secure := true, debugHash := [1,2] } }

theorem wit_tapInstructions :
    (∃ (nonce : List Byte), nonce.length = 32) ∧
    (∃ (s : State), (s.fuse.secure = false ∨ s.on F.ACC_BOOT_DEBUG_UNLOCKED 0 = true ∨ 3 ≤ s.get
      F.ACC_BOOT_UNLOCK_FAILS 0)) ∧
    (∃ (s : State) (nonce : List Byte), s.fuse.secure = true ∧ s.on F.ACC_BOOT_DEBUG_UNLOCKED 0 = false ∧ s.get
      F.ACC_BOOT_UNLOCK_FAILS 0 < 3 ∧ nonce.length = 32) ∧
    (∃ (s : State), s.on F.ACC_BOOT_SECURE_EN 0 = true ∧ s.on F.ACC_BOOT_DEBUG_UNLOCKED 0 = false) ∧
    (∃ (s : State), (s.on F.ACC_BOOT_SECURE_EN 0 = false ∨ s.on F.ACC_BOOT_DEBUG_UNLOCKED 0 = true)) :=
  ⟨⟨List.replicate 32 7, by decide +kernel⟩,
    ⟨up, by decide +kernel⟩,
    ⟨sec, List.replicate 32 7, by decide +kernel⟩,
    ⟨sec, by decide +kernel⟩,
    ⟨up, by decide +kernel⟩⟩

end Sys2Proof.Tests.Tap

namespace Sys2Proof.Tests.Domains

open Sys2Proof.Machine Sys2Proof.Tests

def ch (d old st : Nat) (s : State := up) : State := mk [(⟨.PWR_DSTAT, 2*(d%32), 2⟩, d/32, 3)] { s with
      pwr := { s.pwr with pend := [(d, 4*old+st)] },
      fre := [(0, { ramp := some ⟨0,1,true,4,false,none⟩, ovl := true })], capHw := [(0, { rot := 3 })],
      flt := [(3, { on := true })], he := [(1, { hor := 4})] }

theorem wit_domainsChange_1 :
    (∃ (s : State) (m i : Nat), i < 3 ∧ s.domOn 0 = true ∧ s.grants m 11 (64 + 8 * i) true = true ∧ (s.eng = Eng.active
      ∨ s.eng = Eng.starting) ∧ s.pwr.trip = true) ∧
    (∃ (s : State) (m i : Nat) (v : Word), i < 3 ∧ s.domOn 0 = true ∧ s.grants m 11 (64 + 8 * i) true = true ∧ (s.eng =
      Eng.active ∨ s.eng = Eng.starting) ∧ s.pwr.trip = false ∧ (∀ (d : Nat), d ∈ List.filter (fun d => decide (min 2
      (bits (BitVec.toNat v) (2 * (d % 32)) 2) ≠ s.domGoal d)) (List.filter (fun d => decide (domStates d ≠ []) &&
      !s.domAbsent d && !s.domOut d) (List.map (fun x => 32 * i + x) (List.range 32))) → s.domMay d (min 2 (bits
      (BitVec.toNat v) (2 * (d % 32)) 2)) = true)) ∧
    (∃ (s : State) (m i : Nat) (v : Word) (d : Nat), i < 3 ∧ s.domOn 0 = true ∧ s.grants m 11 (64 + 8 * i) true = true
      ∧ (s.eng = Eng.active ∨ s.eng = Eng.starting) ∧ s.pwr.trip = false ∧ d ∈ List.filter (fun d => decide (min 2
      (bits (BitVec.toNat v) (2 * (d % 32)) 2) ≠ s.domGoal d)) (List.filter (fun d => decide (domStates d ≠ []) &&
      !s.domAbsent d && !s.domOut d) (List.map (fun x => 32 * i + x) (List.range 32))) ∧ s.domMay d (min 2 (bits
      (BitVec.toNat v) (2 * (d % 32)) 2)) = false) ∧
    (∃ (s : State) (m i : Nat) (v : Word) (b : Nat), i < 3 ∧ s.domOn 0 = true ∧ s.grants m 11 (64 + 8 * i) true = true
      ∧ (s.eng = Eng.active ∨ s.eng = Eng.starting) ∧ b < 32 ∧ s.blockAbsent b = false ∧ s.wardFailed (b / 4) = false ∧
      s.pwr.trip = false ∧ s.pwr.pend = [] ∧ pdCapture b / 32 = i ∧ s.dom (pdCapture b) = 2 ∧ s.dom (pdFront b) ≠ 0 ∧
      bits (BitVec.toNat v) (2 * (pdCapture b % 32)) 2 < 2) ∧
    (∃ (s : State) (d x : Nat), List.find? (fun x => x.fst == d) s.pwr.pend = some (d, x) ∧ d < 96 ∧ (x / 4 = x % 4 ∨
      (d = 0 ∨ 80 < d) ∧ x % 4 = 2)) ∧
    (∃ (s : State) (d x : Nat), List.find? (fun x => x.fst == d) s.pwr.pend = some (d, x) ∧ d < 96 ∧ (x % 4 = 1 ∨ x % 4
      = 3) ∧ (d < 81 ∨ 84 < d ∨ (s.candidates.any fun k => bit (s.get F.INT_SRC_TARGET k) (d - 81) && s.enabledSrc k &&
      s.pendOf k && !s.heldNow k) = false)) ∧
    (∃ (s : State) (d x : Nat), List.find? (fun x => x.fst == d) s.pwr.pend = some (d, x) ∧ d < 96 ∧ x / 4 ≠ x % 4 ∧ x
      % 4 = 1 ∧ 81 ≤ d ∧ d ≤ 84 ∧ s.domOn 85 = true ∧ (s.candidates.any fun k => bit (s.get F.INT_SRC_TARGET k) (d -
      81) && s.enabledSrc k && s.pendOf k && !s.heldNow k) = true) ∧
    (∃ (s : State) (d x b : Nat), List.find? (fun x => x.fst == d) s.pwr.pend = some (d, x) ∧ d < 96 ∧ x / 4 ≠ x % 4 ∧
      b < 32 ∧ d = pdFront b ∧ x % 4 = 2) ∧
    (∃ (s : State) (d x b : Nat), List.find? (fun x => x.fst == d) s.pwr.pend = some (d, x) ∧ d < 96 ∧ x / 4 ≠ x % 4 ∧
      b < 32 ∧ d = pdFront b ∧ x % 4 = 0) ∧
    (∃ (s : State) (d x b : Nat), List.find? (fun x => x.fst == d) s.pwr.pend = some (d, x) ∧ d < 96 ∧ x / 4 ≠ x % 4 ∧
      b < 32 ∧ d = pdCapture b ∧ x % 4 = 0) :=
  ⟨⟨{ up with pwr := { up.pwr with trip := true } }, 16, 0, by decide +kernel⟩,
    ⟨up, 16, 0, 0xFFFFFFFFFFFFFFFF, by decide +kernel⟩,
    ⟨up, 16, 0, 0xFFFFFFFFFFFFFFF3, 1, by decide +kernel⟩,
    ⟨up, 16, 0, 0xFFFFFFFFFFFFF7F7, 0, by decide +kernel⟩,
    ⟨ch 5 2 2, 5, 10, by decide +kernel⟩,
    ⟨ch 5 2 1, 5, 9, by decide +kernel⟩,
    ⟨mk [(F.INT_SRC_SENSE,545,1), (F.INT_SRC_PRIO,545,5), (F.INT_SRC_TARGET,545,5)] (ch 83 2 1
        { up with src := [(545, { en := true, latch := true })], core := [(2, { wfi := true })] }), 83, 9,
        by decide +kernel⟩,
    ⟨ch 1 0 2, 1, 2, 0, by decide +kernel⟩,
    ⟨ch 1 2 0, 1, 8, 0, by decide +kernel⟩,
    ⟨ch 5 2 0, 5, 8, 0, by decide +kernel⟩⟩

theorem wit_domainsChange_2 :
    (∃ (s : State) (d x b : Nat), List.find? (fun x => x.fst == d) s.pwr.pend = some (d, x) ∧ d < 96 ∧ x / 4 ≠ x % 4 ∧
      b < 32 ∧ d = pdCapture b ∧ x / 4 = 0 ∧ x % 4 = 2 ∧ s.softRuns = false ∧ (s.pwr.blk.any fun x => x.fst == b) =
      false ∧ s.blockAbsent b = false) ∧
    (∃ (s : State) (d x b : Nat), List.find? (fun x => x.fst == d) s.pwr.pend = some (d, x) ∧ d < 96 ∧ x / 4 ≠ x % 4 ∧
      b < 32 ∧ d = pdCapture b ∧ x / 4 ≠ 0 ∧ x % 4 = 2) ∧
    (∃ (s : State) (d x w : Nat), List.find? (fun x => x.fst == d) s.pwr.pend = some (d, x) ∧ d < 96 ∧ x / 4 ≠ x % 4 ∧
      w < 8 ∧ d = 10 * w + 9) ∧
    (∃ (s : State) (d x w : Nat), List.find? (fun x => x.fst == d) s.pwr.pend = some (d, x) ∧ d < 96 ∧ x / 4 ≠ x % 4 ∧
      w < 8 ∧ d = pdEngines w ∧ x % 4 = 0 ∧ s.wf = true) ∧
    (∃ (s : State) (d x w : Nat), List.find? (fun x => x.fst == d) s.pwr.pend = some (d, x) ∧ d < 96 ∧ x / 4 ≠ x % 4 ∧
      w < 8 ∧ d = pdEngines w ∧ x % 4 = 2 ∧ s.wf = true) ∧
    (∃ (s : State) (d x : Nat), List.find? (fun x => x.fst == d) s.pwr.pend = some (d, x) ∧ d < 96 ∧ x / 4 ≠ x % 4 ∧ x
      % 4 = 0 ∧ 81 ≤ d ∧ d < 84) ∧
    (∃ (s : State) (d x : Nat), List.find? (fun x => x.fst == d) s.pwr.pend = some (d, x) ∧ d < 96 ∧ x / 4 ≠ x % 4 ∧ x
      % 4 = 0 ∧ d = 84 ∧ s.pwr.fw = false) ∧
    (∃ (s : State) (d x : Nat), List.find? (fun x => x.fst == d) s.pwr.pend = some (d, x) ∧ d < 96 ∧ x / 4 ≠ x % 4 ∧ x
      % 4 = 0 ∧ d = 84) ∧
    (∃ (s : State) (d x : Nat), List.find? (fun x => x.fst == d) s.pwr.pend = some (d, x) ∧ d < 96 ∧ x / 4 ≠ x % 4 ∧ x
      % 4 = 0 ∧ d = 87) ∧
    (∃ (s : State) (d x : Nat), List.find? (fun x => x.fst == d) s.pwr.pend = some (d, x) ∧ d < 96 ∧ x / 4 ≠ x % 4 ∧ x
      % 4 = 0 ∧ d = 89) :=
  ⟨⟨ch 5 0 2, 5, 2, 0, by decide +kernel⟩,
    ⟨ch 5 1 2, 5, 6, 0, by decide +kernel⟩,
    ⟨ch 9 2 0, 9, 8, 0, by decide +kernel⟩,
    ⟨ch 10 2 0, 10, 8, 0, by decide +kernel⟩,
    ⟨ch 10 0 2, 10, 2, 0, by decide +kernel⟩,
    ⟨ch 82 2 0, 82, 8, by decide +kernel⟩,
    ⟨{ ch 84 2 0 with pwr := { (ch 84 2 0).pwr with fw := false } }, 84, 8, by decide +kernel⟩,
    ⟨ch 84 2 0, 84, 8, by decide +kernel⟩,
    ⟨ch 87 2 0, 87, 8, by decide +kernel⟩,
    ⟨ch 89 2 0, 89, 8, by decide +kernel⟩⟩

end Sys2Proof.Tests.Domains

namespace Sys2Proof.Tests.Sleep

open Sys2Proof.Machine Sys2Proof.Tests

def wv : State := mk [(F.WEA_WSTAT_RUNNING,3,1), (F.WEA_WCTRL_RUN,3,1)] { up with weav := [(3, { stop := false })] }
def qn : State := mk [(F.QD_CFG_EN,4,1), (F.QD_CFG_SIZE_LOG2,4,10)] up
def ph (n : Nat) (s : State) : State := mk [(F.PWR_ENG_PHASE,0,n)] s
def eng (e : Eng) (s : State) : State := { s with eng := e }
def pw (f : PwrSt → PwrSt) (s : State) : State := { s with pwr := f s.pwr }
def busy' : State := mk [(F.CAL_BSTAT_STEP,0,2), (F.CAL_BSTAT_POS,0,3),
    (F.CNT_CFG_EN,3,1)] { up with cnt := [(3, { on := true })], fre := [(3, { sw := none })] }
def al (x : Nat) (s : State) : State := mk [(F.PWR_WAKE_ALARM_EN,0,1), (⟨.PWR_ALARM,0,64⟩,0,x)] s

theorem wit_sleepAndWake_1 :
    (∃ (s : State), s.get F.PWR_ENG_PHASE 0 = 1 ∧ (s.inL2 = true ∨ s.pwr.pcie = 0 ∨ s.pwr.perst = true)) ∧
    (∃ (s : State), s.get F.PWR_ENG_PHASE 0 = 1) ∧
    (∃ (s : State), s.get F.PWR_ENG_PHASE 0 = 2 ∧ s.pwr.tq = none ∧ (List.all s.weav fun (_, x) => !x.stop) = true ∧
      (s.indices Reg.WEA_WSTAT fun v => F.WEA_WSTAT_RUNNING.of v == 1) = []) ∧
    (∃ (s : State), s.get F.PWR_ENG_PHASE 0 = 2 ∧ s.eng = Eng.watch) ∧
    (∃ (s : State) (q tq : Nat), s.get F.PWR_ENG_PHASE 0 = 2 ∧ s.eng = Eng.watch ∧ s.activeQueues = [q] ∧ s.merge = []
      ∧ s.wait = [] ∧ s.open_ = [] ∧ s.back = [] ∧ s.waiters = [] ∧ s.pwr.tq = some tq) ∧
    (∃ (s : State), s.get F.PWR_ENG_PHASE 0 = 2 ∧ s.eng = Eng.deepSleep ∧ s.vaultQ = [] ∧ s.vaultWr = none ∧ s.pwr.wake
      = none) ∧
    (∃ (s : State), s.get F.PWR_ENG_PHASE 0 = 2 ∧ s.eng = Eng.deepSleep ∧ s.vaultQ = [] ∧ s.vaultWr = none ∧ s.pwr.wake
      ≠ none) :=
  ⟨⟨ph 1 (pw (fun p => { p with armT := 9000, target := 1 }) wv), by decide +kernel⟩,
    ⟨ph 1 (pw (fun p => { p with armT := 9000, target := 1 }) wv), by decide +kernel⟩,
    ⟨ph 2 (pw (fun p => { p with target := 1 }) busy'), by decide +kernel⟩,
    ⟨ph 2 (eng .watch (pw (fun p => { p with tq := some 16384 }) up)), by decide +kernel⟩,
    ⟨ph 2 (eng .watch (pw (fun p => { p with tq := some 16384 }) qn)), 4, 16384, by decide +kernel⟩,
    ⟨ph 2 (eng .deepSleep (pw (fun p => { p with tq := some 16384 }) up)), by decide +kernel⟩,
    ⟨ph 2 (eng .deepSleep (pw (fun p => { p with tq := some 16384, wake := some (3,0,16500) }) (al 1 up))),
        by decide +kernel⟩⟩

theorem wit_sleepAndWake_2 :
    (∃ (s : State) (t : Nat), s.on F.PWR_WAKE_ALARM_EN 0 = true ∧ s.pwr.wake = none ∧ s.eng = Eng.watch ∧ BitVec.toNat
      (s.reg Reg.PWR_ALARM 0) ≤ (s.till t).t64 % 2 ^ 64) ∧
    (∃ (s : State) (t : Nat), s.on F.PWR_WAKE_ALARM_EN 0 = true ∧ s.pwr.wake = none ∧ s.eng = Eng.watch ∧ (s.till
      t).t64 % 2 ^ 64 < BitVec.toNat (s.reg Reg.PWR_ALARM 0)) ∧
    (∃ (s : State), s.on F.PWR_WAKE_ALARM_EN 0 = true ∧ s.pwr.wake = none ∧ s.eng = Eng.deepSleep ∧ s.get
      F.PWR_ENG_PHASE 0 = 0) ∧
    (∃ (s : State), s.eng = Eng.watch ∧ s.get F.PWR_ENG_PHASE 0 = 0 ∧ s.pwr.wake ≠ none) ∧
    (∃ (s : State), s.eng = Eng.watch ∧ s.domOn 88 = true ∧ s.pwr.tl = none) ∧
    (∃ (s : State) (te cause lane tw : Nat), s.eng = Eng.watch ∧ s.pwr.te = some te ∧ s.pwr.wake = some (cause, lane,
      tw) ∧ s.pwr.tl ≠ none) :=
  ⟨⟨al 500 (eng .watch up), 20000, by decide +kernel⟩,
    ⟨al 50000 (eng .watch up), 20000, by decide +kernel⟩,
    ⟨al 50000 (eng .deepSleep up), by decide +kernel⟩,
    ⟨eng .watch (pw (fun p =>
        { p with tq := some 16384, wake := some (3,7,16500), doms := [w64 (2^40-1), 0, w64 (2^50+2^58)] }) up),
        by decide +kernel⟩,
    ⟨ph 2 (eng .watch (pw (fun p => { p with tq := some 16384 }) up)), by decide +kernel⟩,
    ⟨eng .watch (pw (fun p => { p with
          tq := some 16384, wake := some (3,7,16500), tl := some 36160, te := some 200000, hold := true,
          weav := [3] }) (mk [(F.QD_CFG_EN,4,1), (F.QD_CFG_SIZE_LOG2,4,10), (F.AXI_CTRL_EN,0,1),
        (F.LNK_GRP_MODE,4,5)] up)), 200000, 3, 7, 16500, by decide +kernel⟩⟩

end Sys2Proof.Tests.Sleep

namespace Sys2Proof.Tests.StartUp

open Sys2Proof.Machine Sys2Proof.Tests

def pw (f : PwrSt → PwrSt) (s : State) : State := { s with pwr := f s.pwr }
def st0 : State := pw (fun p => { p with ok := true, reset := false, trip := false })
    { State.reset with eng := .starting }
def img (i : Nat) : List (Nat × Byte) := [(imageBase i + 0, 0x4F), (imageBase i + 1, 0x4E), (imageBase i + 2, 0x47),
    (imageBase i + 3, 0x49), (imageBase i + 4, 1)]
def boot (v : List (Nat × Byte)) (o : Bool := false) : State :=
    { mk [(⟨.PWR_DSTAT, 34, 2⟩, 2, 2), (⟨.PWR_DSTAT, 42, 2⟩, 2, 2)]
        (pw (fun p => { p with stage := 3, other := o }) st0) with
      vault := v, t64 := 500 }
def rd (s : State) : State := mk [(F.PWR_ENG_READY,0,0)] (pw (fun p => { p with fw := true, stage := 127 }) s)

theorem wit_startUpReachesReady_1 :
    (∃ (s : State), s.pwr.ok = false) ∧
    (∃ (s : State), s.vaultWr = none) ∧
    (∃ (s : State) (w : VaultWr), s.vaultWr = some w ∧ w.data.length = 12420 ∧ w.old.length = 4) ∧
    (∃ (s : State), s.eng = Eng.starting ∧ s.pwr.ok = true ∧ s.pwr.reset = false ∧ s.pwr.trip = false ∧ s.stage 0 =
      false ∧ (s.pwr.cool = false ∨ s.cooled = true)) ∧
    (∃ (s : State), s.eng = Eng.starting ∧ s.pwr.ok = true ∧ s.pwr.reset = false ∧ s.pwr.trip = false ∧ s.stage 0 =
      true ∧ s.stage 1 = false) ∧
    (∃ (s : State), s.domOn 81 = true ∧ s.stage 0 = true ∧ s.stage 2 = false ∧ s.pwr.fw = false ∧ s.pwr.lrT = none ∧
      s.romServes = false ∧ s.imageFail (if s.pwr.other = true then 1 - s.preferred else s.preferred) = 0) ∧
    (∃ (s : State), s.domOn 81 = true ∧ s.stage 0 = true ∧ s.stage 2 = false ∧ s.pwr.fw = false ∧ s.pwr.lrT = none ∧
      s.romServes = false ∧ s.imageFail (if s.pwr.other = true then 1 - s.preferred else s.preferred) ≠ 0 ∧ s.imageFail
      (1 - if s.pwr.other = true then 1 - s.preferred else s.preferred) = 0) ∧
    (∃ (s : State), s.domOn 81 = true ∧ s.stage 0 = true ∧ s.stage 2 = false ∧ s.pwr.fw = false ∧ s.pwr.lrT = none ∧
      s.romServes = false ∧ s.imageFail (if s.pwr.other = true then 1 - s.preferred else s.preferred) ≠ 0 ∧ s.imageFail
      (1 - if s.pwr.other = true then 1 - s.preferred else s.preferred) ≠ 0) ∧
    (∃ (s : State), (s.pwr.fw = true ∨ s.pwr.lrT ≠ none ∨ s.romServes = true)) ∧
    (∃ (s : State), s.eng = Eng.starting ∧ s.pwr.ok = true ∧ s.pwr.reset = false ∧ s.pwr.trip = false ∧ s.stage 0 =
      true ∧ s.stage 3 = false) :=
  ⟨⟨pw (fun p => { p with ok := false, trip := true })
        { up with fuse := { secure := true, svn := 3 }, keep := [(1,5)], jtag := { drive := some [1] } },
        by decide +kernel⟩,
    ⟨pw (fun p => { p with ok := false, trip := true })
        { up with fuse := { secure := true, svn := 3 }, keep := [(1,5)], jtag := { drive := some [1] } },
        by decide +kernel⟩,
    ⟨{ up with vaultWr := some { unit := 3, slot := 1, data := List.replicate 12420 7, old := [1, 2, 3, 4] } }, _,
        rfl, List.length_replicate, rfl⟩,
    ⟨st0, by decide +kernel⟩,
    ⟨pw (fun p => { p with stage := 1 }) st0, by decide +kernel⟩,
    ⟨boot (img 0), by decide +kernel⟩,
    ⟨boot (img 1), by decide +kernel⟩,
    ⟨pw (fun p => { p with stage := 1 }) st0, by decide +kernel⟩,
    ⟨up, by decide +kernel⟩,
    ⟨pw (fun p => { p with stage := 1 }) st0, by decide +kernel⟩⟩

theorem wit_startUpReachesReady_2 :
    (∃ (s : State), s.eng = Eng.starting ∧ s.pwr.ok = true ∧ s.pwr.reset = false ∧ s.pwr.trip = false ∧ s.stage 0 =
      true ∧ s.stage 4 = false) ∧
    (∃ (s : State), s.stage 2 = true ∧ s.pwr.fw = false ∧ s.domOn 81 = true ∧ s.domOn 85 = true ∧ (∀ (ws : List (Nat ×
      Word)), ws ∈ s.profileAt 255 → ∀ (x : Nat × Word), x ∈ ws → profileKey true x.fst = true)) ∧
    (∃ (s : State), s.stage 2 = true ∧ s.pwr.fw = false ∧ s.domOn 81 = true ∧ s.domOn 85 = true ∧ s.eng = Eng.starting
      ∧ s.on F.PWR_ENG_RECOVERING 0 = false ∧ s.profileAt 255 = none ∧ s.stage 5 = false) ∧
    (∃ (s : State), s.stage 2 = true ∧ s.pwr.fw = false ∧ s.domOn 81 = true ∧ s.domOn 85 = true ∧ s.eng ≠ Eng.starting
      ∧ s.jobs = [] ∧ s.stage 5 = false) ∧
    (∃ (s : State) (t : Nat), s.pwr.fw = true ∧ s.stage 4 = true ∧ s.stage 6 = false ∧ s.domOn 95 = true ∧ s.lrBooted t
      = false) ∧
    (∃ (s : State) (t : Nat), s.pwr.fw = true ∧ s.stage 4 = true ∧ s.stage 6 = false ∧ s.domOn 95 = true ∧ s.lrBooted t
      = true) ∧
    (∃ (s : State) (t : Nat), s.pwr.fw = true ∧ s.stage 4 = true ∧ s.stage 6 = false ∧ s.domOn 95 = true ∧ s.lrBooted t
      = true ∧ s.profileAt 0 = none ∧ s.pwr.soft = false ∧ s.on F.ACC_BOOT_TRIAL 0 = false) ∧
    (∃ (s : State) (t : Nat), s.pwr.fw = true ∧ s.pwr.stage % 128 = 127 ∧ s.on F.PWR_ENG_READY 0 = false ∧ s.lrBooted t
      = true) ∧
    (∃ (s : State), s.pwr.fw = true ∧ s.pwr.stage % 128 = 127 ∧ s.on F.PWR_ENG_READY 0 = false ∧ s.pwr.soft = false ∧
      s.on F.ACC_BOOT_TRIAL 0 = false ∧ s.pwr.lrT = none) ∧
    (∃ (s : State) (t : Nat), s.pwr.fw = true ∧ s.pwr.stage % 128 = 127 ∧ s.on F.PWR_ENG_READY 0 = false ∧ s.on
      F.ACC_BOOT_TRIAL 0 = true ∧ s.lrBooted t = true) :=
  ⟨⟨pw (fun p => { p with stage := 1 }) st0, by decide +kernel⟩,
    ⟨pw (fun p => { p with stage := 7 }) (boot (img 0)), by decide +kernel⟩,
    ⟨pw (fun p => { p with stage := 7 }) (boot (img 0)), by decide +kernel⟩,
    ⟨{ pw (fun p => { p with stage := 7, lrT := none }) (boot (img 0)) with eng := .active }, by decide +kernel⟩,
    ⟨pw (fun p => { p with stage := 31, fw := true, lrT := some 19000 }) up, 20000, by decide +kernel⟩,
    ⟨pw (fun p => { p with stage := 31, fw := true }) up, 20000, by decide +kernel⟩,
    ⟨pw (fun p => { p with stage := 31, fw := true }) up, 0, by decide +kernel⟩,
    ⟨rd { up with eng := .starting }, 20000, by decide +kernel⟩,
    ⟨rd { up with eng := .starting }, by decide +kernel⟩,
    ⟨mk [(F.ACC_BOOT_TRIAL,0,1), (F.PWR_RST_PENDING,0,1)] (pw (fun p =>
        { p with lrT := some 5, soft := true, fault := true }) (rd { up with vault := [(0x1FF0011, 1)] })),
        20000000, by decide +kernel⟩⟩

end Sys2Proof.Tests.StartUp

namespace Sys2Proof.Tests.Resets

open Sys2Proof.Machine Sys2Proof.Tests

def pw (f : PwrSt → PwrSt) (s : State) : State := { s with pwr := f s.pwr }
def rich : State := mk [(⟨.RING_CFG,0,64⟩,4,0x1), (F.RING_CFG_FUNC,4,3), (F.RING_CFG_EN,4,1), (⟨.RING_HEAD,0,32⟩,4,7),
    (⟨.REG_SCRATCH,0,64⟩,3,9), (⟨.REG_SCRATCH,0,64⟩,0,9), (⟨.HV_MOD,0,16⟩,128*3+5,9), (⟨.FRE_INCFG,0,16⟩,3,9),
    (⟨.CAP_WALK,0,16⟩,300,9), (F.MBX_CFG_VECTOR,3,1), (F.WEA_LMAP_QA,3,9), (F.QD_CFG_EN,4,1),
    (F.QD_CFG_SIZE_LOG2,4,10), (⟨.TIM_TCFG,0,16⟩,0,7), (⟨.PWR_EVT,0,6⟩,0,63), (F.ACC_BOOT_DEBUG_UNLOCKED,0,1),
    (F.WEA_WSTAT_RUNNING,0,1), (F.WEA_WCTRL_RUN,0,1), (⟨.CORE_VBASE,0,16⟩,1,64), (⟨.CNT_CFG,0,1⟩,3,1)]
  { up with
      fn := [(3, { bme := true })],
      vec := [(128*3+5, { mask := false, addr := 5 }), (7, { addr := 9, mask := false })], ringC := [(4, (5, 4))],
      ep := [(3, { mask := 5 })], slot := [(13, { st := 1 })],
      jobs := [{ ep := 3, sl := 1, tag := 1, op := 1, flags := 0, load := [], slot := true }],
      fre := [(3, { ovl := true })], cap := [(3, { buf := [{ t := 8, ws := [1,2] }] })],
      cnt := [(3, { on := true })], tim := { steps := [(3, 4)] }, store := [(3,4)],
      shad := [(3, { wr := some (3,3) }), (17, { wr := some (3,3) })], keep := [(3,3)],
      core := [(1, { mie := true })], vaultQ := [3] }
def perm : State := mk [(⟨.ACC_WR_LO,5,1⟩, 176, 1), (⟨.ACC_WRANGE,32,32⟩,176,0xFFFFFFFF)] rich

theorem wit_resetsFromOutside :
    (∃ (s : State), s.eng ≠ Eng.off) ∧
    (∃ (s : State), s.eng = Eng.off) ∧
    (∃ (f : Nat), f < 16 ∧ f ≠ 0) ∧
    (∃ (f : Nat), f = 0) ∧
    (∃ (s : State), s.domOn 94 = true ∧ s.pwr.perst = false) ∧
    (∃ (s : State), (s.on F.PWR_WAKE_PERST_EN 0 = false ∨ s.wakeable = false)) ∧
    (∃ (s : State), s.on F.PWR_WAKE_PERST_EN 0 = true ∧ s.pwr.perst = true ∧ s.pwr.wake = none ∧ s.eng = Eng.watch) :=
  ⟨⟨rich, by decide +kernel⟩,
    ⟨{ rich with eng := .off }, by decide +kernel⟩,
    ⟨3, by decide +kernel⟩,
    ⟨0, by decide +kernel⟩,
    ⟨pw (fun p => { p with perst := false }) rich, by decide +kernel⟩,
    ⟨rich, by decide +kernel⟩,
    ⟨mk [(F.PWR_WAKE_PERST_EN,0,1)] { pw (fun p => { p with perst := true }) rich with eng := .watch },
        by decide +kernel⟩⟩

theorem wit_resetsByRequest :
    (∃ (s : State) (m : Nat), s.domOn 0 = true ∧ s.grants m 11 8 true = true ∧ s.pwr.softT = none ∧ s.on
      F.PWR_ENG_READY 0 = true) ∧
    (∃ (s : State) (m : Nat), s.domOn 0 = true ∧ s.grants m 11 8 true = true ∧ s.pwr.softT = none ∧ s.on
      F.PWR_ENG_READY 0 = false) ∧
    (∃ (s : State) (m : Nat), s.domOn 0 = true ∧ s.grants m 11 8 true = true ∧ s.on F.PWR_REC_LR_HALT 0 = false ∧ s.on
      F.PWR_ENG_RECOVERING 0 = false) ∧
    (∃ (s : State) (m : Nat), s.domOn 0 = true ∧ s.grants m 11 8 true = true ∧ s.on F.PWR_REC_LR_HALT 0 = false ∧ s.on
      F.PWR_ENG_RECOVERING 0 = true) ∧
    (∃ (s : State) (m : Nat), s.domOn 0 = true ∧ s.grants m 11 8 true = true ∧ s.on F.PWR_REC_LR_HALT 0 = true) ∧
    (∃ (s : State) (b : Nat), s.pwr.softT = some b) ∧
    (∃ (s : State) (m : Nat), s.domOn 0 = true ∧ s.grants m 11 16 true = true ∧ s.softRuns = false) ∧
    (∃ (s : State) (m : Nat), s.domOn 0 = true ∧ s.grants m 11 16 true = true ∧ s.softRuns = true) ∧
    (∃ (s : State) (b tb : Nat), b < 32 ∧ List.find? (fun x => x.fst == b) s.pwr.blk = some (b, tb) ∧ s.blockAbsent b =
      false) :=
  ⟨⟨perm, 5, by decide +kernel⟩,
    ⟨mk [(F.PWR_ENG_READY,0,0)] perm, 5, by decide +kernel⟩,
    ⟨perm, 5, by decide +kernel⟩,
    ⟨mk [(F.PWR_ENG_RECOVERING,0,1)] perm, 5, by decide +kernel⟩,
    ⟨mk [(F.PWR_REC_LR_HALT,0,1)] perm, 5, by decide +kernel⟩,
    ⟨pw (fun p => { p with softT := some 10240, blk := [(3,3)], stage := 127 }) perm, 10240, by decide +kernel⟩,
    ⟨perm, 5, by decide +kernel⟩,
    ⟨pw (fun p => { p with softT := some 10240 }) perm, 5, by decide +kernel⟩,
    ⟨pw (fun p => { p with blk := [(0,10240)] }) perm, 0, 10240, by decide +kernel⟩⟩

end Sys2Proof.Tests.Resets

namespace Sys2Proof.Tests.Recovery

open Sys2Proof.Machine Sys2Proof.Tests

def pw (f : PwrSt → PwrSt) (s : State) : State := { s with pwr := f s.pwr }
def hb (bs : List Nat) (xs : List (Fld × Nat × Nat) := []) : State := mk xs (pw (fun p =>
    { p with armed := true, beats := bs }) { up with
      t64 := ms 100, core := [(0, { mie := true }), (1, { mie := true }), (3, { mie := true })], vaultQ := [4],
      shad := [(16, { data := 3 }), (19, { data := 3 })] })
def nofw (s : State) : State := pw (fun p => { p with fw := false }) s
def img (i : Nat) : List (Nat × Byte) := [(imageBase i + 0, 0x4F), (imageBase i + 1, 0x4E), (imageBase i + 2, 0x47),
    (imageBase i + 3, 0x49), (imageBase i + 4, 1)]

theorem wit_recoveryLadder_1 :
    (∃ (s : State) (m c : Nat), c < 5 ∧ s.domOn 0 = true ∧ s.grants m 11 (96 + 8 * c) true = true ∧ (c < 4 ∧ m = 16 + c
      ∨ c = 4 ∧ (m = 16 ∨ m = 17))) ∧
    (∃ (s : State) (m c : Nat), c < 5 ∧ s.domOn 0 = true ∧ s.grants m 11 (96 + 8 * c) true = true ∧ (¬(c < 4 ∧ m = 16 +
      c ∨ c = 4 ∧ (m = 16 ∨ m = 17)))) ∧
    (∃ (s : State) (t c : Nat), s.supervised c = true ∧ s.beatAt c + ms 10 ≤ (s.till t).t64) ∧
    (∃ (s : State) (t c : Nat), s.supervised c = true ∧ (s.till t).t64 < s.beatAt c + ms 10) ∧
    (∃ (s : State) (t c : Nat), s.pwr.armed = true ∧ c < 4 ∧ (c = 3 → s.on F.PWR_REC_HB3_EN 0 = true) ∧
      s.pwr.beats.length = 5 ∧ s.beatAt c + ms 20 ≤ (s.till t).t64 ∧ (c = 3 ∨ c = 2 ∨ (c < 2 ∧ (s.till t).t64 <
      s.beatAt (1 - c) + ms 20) ∧ c ≠ s.get F.PWR_REC_WARDEN 0)) ∧
    (∃ (s : State) (t c : Nat), s.pwr.armed = true ∧ c < 4 ∧ (c = 3 → s.on F.PWR_REC_HB3_EN 0 = true) ∧
      s.pwr.beats.length = 5 ∧ s.beatAt c + ms 20 ≤ (s.till t).t64 ∧ (c < 2 ∧ (s.till t).t64 < s.beatAt (1 - c) + ms
      20) ∧ c = s.get F.PWR_REC_WARDEN 0) ∧
    (∃ (s : State) (t c : Nat), s.pwr.armed = true ∧ c < 4 ∧ (c = 3 → s.on F.PWR_REC_HB3_EN 0 = true) ∧
      s.pwr.beats.length = 5 ∧ s.beatAt c + ms 20 ≤ (s.till t).t64 ∧ c = 3 ∧ s.pwr.fw = false ∧ s.on
      F.PWR_ENG_RECOVERING 0 = false) ∧
    (∃ (s : State) (t c : Nat), s.pwr.armed = true ∧ c < 4 ∧ (c = 3 → s.on F.PWR_REC_HB3_EN 0 = true) ∧
      s.pwr.beats.length = 5 ∧ s.beatAt c + ms 20 ≤ (s.till t).t64 ∧ c = 3 ∧ s.pwr.fw = true) ∧
    (∃ (s : State) (t c : Nat), s.pwr.armed = true ∧ c < 4 ∧ (c = 3 → s.on F.PWR_REC_HB3_EN 0 = true) ∧
      s.pwr.beats.length = 5 ∧ s.beatAt c + ms 20 ≤ (s.till t).t64 ∧ (c = 2 ∨ c < 2 ∧ c ≠ s.get F.PWR_REC_WARDEN 0 ∧
      (s.till t).t64 < s.beatAt (1 - c) + ms 20) ∧ s.pwr.fw = false ∧ s.on F.PWR_ENG_RECOVERING 0 = false ∧ s.jobs =
      []) :=
  ⟨⟨hb [ms 99, ms 99, ms 99, ms 99, ms 99], 16, 0, by decide +kernel⟩,
    ⟨hb [ms 99, ms 99, ms 99, ms 99, ms 99], 16, 1, by decide +kernel⟩,
    ⟨hb [ms 99, ms 99, ms 99, ms 70, ms 99] [(F.PWR_REC_HB3_EN,0,1)], 0, 3, by decide +kernel⟩,
    ⟨hb [ms 99, ms 99, ms 99, ms 99, ms 99], 0, 0, by decide +kernel⟩,
    ⟨nofw (hb [ms 99, ms 99, ms 99, ms 70, ms 99] [(F.PWR_REC_HB3_EN,0,1)]), 0, 3, by decide +kernel⟩,
    ⟨nofw (hb [ms 70, ms 99, ms 70, ms 99, ms 99]), 0, 0, by decide +kernel⟩,
    ⟨nofw (hb [ms 99, ms 99, ms 99, ms 70, ms 99] [(F.PWR_REC_HB3_EN,0,1)]), 0, 3, by decide +kernel⟩,
    ⟨hb [ms 99, ms 99, ms 99, ms 70, ms 99] [(F.PWR_REC_HB3_EN,0,1)], 0, 3, by decide +kernel⟩,
    ⟨nofw (hb [ms 70, ms 99, ms 70, ms 99, ms 99]), 0, 2, by decide +kernel⟩⟩

theorem wit_recoveryLadder_2 :
    (∃ (s : State) (t c : Nat), s.pwr.armed = true ∧ c < 4 ∧ (c = 3 → s.on F.PWR_REC_HB3_EN 0 = true) ∧
      s.pwr.beats.length = 5 ∧ s.beatAt c + ms 20 ≤ (s.till t).t64 ∧ c < 2 ∧ c = s.get F.PWR_REC_WARDEN 0 ∧ (s.till
      t).t64 < s.beatAt (1 - c) + ms 20 ∧ s.pwr.fw = false ∧ s.on F.PWR_ENG_RECOVERING 0 = false ∧ s.jobs = []) ∧
    (∃ (s : State) (t c : Nat), s.pwr.armed = true ∧ c < 4 ∧ (c = 3 → s.on F.PWR_REC_HB3_EN 0 = true) ∧
      s.pwr.beats.length = 5 ∧ s.beatAt c + ms 20 ≤ (s.till t).t64 ∧ c < 2 ∧ s.beatAt (1 - c) + ms 20 ≤ (s.till
      t).t64) ∧
    (∃ (s : State) (t : Nat), s.pwr.armed = true ∧ s.pwr.lrT = none ∧ (decide (s.beatAt 4 + ms 50 ≤ (s.till t).t64) =
      true ∨ decide (s.beatAt 0 + ms 20 ≤ (s.till t).t64 ∧ s.beatAt 1 + ms 20 ≤ (s.till t).t64) = true)) ∧
    (∃ (s : State) (t : Nat), s.pwr.armed = true ∧ s.pwr.lrT = none ∧ decide (s.beatAt 4 + ms 50 ≤ (s.till t).t64) =
      false ∧ decide (s.beatAt 0 + ms 20 ≤ (s.till t).t64 ∧ s.beatAt 1 + ms 20 ≤ (s.till t).t64) = false) ∧
    (∃ (s : State) (a : Nat), s.pwr.lrT = some a) ∧
    (∃ (s : State) (a : Nat), s.pwr.lrT = some a ∧ s.on F.PWR_ENG_READY 0 = false ∧ s.pwr.lrTry = 0) ∧
    (∃ (s : State) (a : Nat), s.pwr.lrT = some a ∧ s.on F.PWR_ENG_READY 0 = false ∧ s.pwr.lrTry ≠ 0) ∧
    (∃ (s : State) (t : Nat), s.on F.ACC_BOOT_TRIAL 0 = true ∧ s.on F.PWR_ENG_READY 0 = false ∧ s.pwr.bootT + ms 2000 ≤
      (s.till t).t64) ∧
    (∃ (s : State) (t : Nat), (s.on F.ACC_BOOT_TRIAL 0 = false ∨ s.on F.PWR_ENG_READY 0 = true ∨ (s.till t).t64 <
      s.pwr.bootT + ms 2000)) :=
  ⟨⟨nofw (hb [ms 70, ms 99, ms 70, ms 99, ms 99]), 0, 0, by decide +kernel⟩,
    ⟨hb [ms 70, ms 70, ms 99, ms 99, ms 99], 0, 0, by decide +kernel⟩,
    ⟨hb [ms 70, ms 70, ms 99, ms 99, ms 99], 0, by decide +kernel⟩,
    ⟨hb [ms 99, ms 99, ms 99, ms 99, ms 99], 0, by decide +kernel⟩,
    ⟨mk [(F.PWR_ENG_READY,0,0), (F.ACC_BOOT_TRIAL,0,1)] (pw (fun p =>
        { p with lrT := some 17, stage := 127, fault := true }) { hb [0,0,0,0,0] with vault := img 0 }), 17,
        by decide +kernel⟩,
    ⟨mk [(F.PWR_ENG_READY,0,0), (F.ACC_BOOT_TRIAL,0,1)] (pw (fun p =>
        { p with lrT := some 17, stage := 127, fault := true }) { hb [0,0,0,0,0] with vault := img 0 }), 17,
        by decide +kernel⟩,
    ⟨mk [(F.PWR_ENG_READY,0,0)] (pw (fun p => { p with lrT := some 17, lrTry := 1, stage := 127, fault := true })
        { hb [0,0,0,0,0] with vault := img 0 }), 17, by decide +kernel⟩,
    ⟨mk [(F.PWR_ENG_READY,0,0), (F.ACC_BOOT_TRIAL,0,1)] (pw (fun p =>
        { p with lrT := some 17, stage := 127, fault := true }) { hb [0,0,0,0,0] with vault := img 0 }), ms
        2000, by decide +kernel⟩,
    ⟨hb [ms 99, ms 99, ms 99, ms 99, ms 99], 0, by decide +kernel⟩⟩

end Sys2Proof.Tests.Recovery

namespace Sys2Proof.Tests.Health

open Sys2Proof.Machine Sys2Proof.Tests

def sn : State := mk [(F.MON_THERM_CFG_WARN_T,0,80*256), (F.MON_THERM_CFG_CRIT_T,0,95*256),
    (F.MON_ECC_CFG_SCRUB_EXP,0,5), (F.MON_ECC_CFG_CE_LIMIT,0,1), (F.MU_STAT_VALUE,17,99)] { up with
      sens := [(3, {
        seen := true, val := 90*256, warn := true }),
      (17, { seen := true, val := 118*256, warn := true, crit := true, hot := some 9000 })],
      muOn := [(17, true)], guest := [(4,4)], vaultQ := [5],
      vaultWr := some { unit := 3, slot := 1, data := [1,2,3,4], old := [] }, ue := [17], store := [(17, 5)] }

theorem wit_healthOfTheEngine_1 :
    (∃ (s : State) (k : Nat), s.sensorAbsent k = false ∧ (s.domOn (pdSensor k) = true ∨ s.on F.MON_THERM_STAT_TRIPPED 0
      = true) ∧ s.sensorBad k = true) ∧
    (∃ (s : State) (k : Nat) (v : Int), s.sensorAbsent k = false ∧ (s.domOn (pdSensor k) = true ∨ s.on
      F.MON_THERM_STAT_TRIPPED 0 = true) ∧ s.sensorBad k = false ∧ (v < -55 * 256 ∨ 150 * 256 < v)) ∧
    (∃ (s : State) (k : Nat) (v : Int), s.sensorAbsent k = false ∧ (s.domOn (pdSensor k) = true ∨ s.on
      F.MON_THERM_STAT_TRIPPED 0 = true) ∧ s.sensorBad k = false ∧ -55 * 256 ≤ v ∧ v ≤ 150 * 256) ∧
    (∃ (s : State) (t k : Nat), s.sensorAbsent k = false ∧ (s.domOn (pdSensor k) = true ∨ s.on F.MON_THERM_STAT_TRIPPED
      0 = true) ∧ (s.till t).t64 < (s.sensAt k).at_ + ms 10) ∧
    (∃ (s : State) (t k : Nat), s.sensorAbsent k = false ∧ (s.domOn (pdSensor k) = true ∨ s.on F.MON_THERM_STAT_TRIPPED
      0 = true) ∧ s.domOn (pdSensor k) = true ∧ (s.sensAt k).at_ + ms 10 ≤ (s.till t).t64) ∧
    (∃ (s : State) (k : Nat), (s.sensAt k).hot = none) :=
  ⟨⟨mk [(⟨.MON_THERM_STAT, 3, 1⟩,0,1), (F.MON_CE_ADDR_VALID,0,1), (F.MON_UE_ADDR_VALID,0,1)] sn, 3,
        by decide +kernel⟩,
    ⟨sn, 0, 151*256, by decide +kernel⟩,
    ⟨sn, 0, 79*256, by decide +kernel⟩,
    ⟨sn, 20000, 17, by decide +kernel⟩,
    ⟨sn, ms 11, 17, by decide +kernel⟩,
    ⟨sn, 3, by decide +kernel⟩⟩

theorem wit_healthOfTheEngine_2 :
    (∃ (s : State) (t k h : Nat), (s.sensAt k).hot = some h ∧ max t s.t64 < h + ms 1) ∧
    (∃ (s : State) (t k h : Nat), s.sensorAbsent k = false ∧ s.sensorBad k = false ∧ (s.sensAt k).hot = some h ∧ h + ms
      1 ≤ max t s.t64 ∧ s.eng ≠ Eng.off ∧ s.pwr.trip = false) ∧
    (∃ (s : State) (a e : Nat), a < 2 ^ 30 ∧ s.get F.MON_ECC_CFG_SCRUB_EXP 0 ≠ 0 ∧ s.domOn 86 = true ∧ s.ue.contains a
      = false ∧ s.ce.contains a = false ∧ e = 0) ∧
    (∃ (s : State) (a e : Nat), a < 2 ^ 30 ∧ s.get F.MON_ECC_CFG_SCRUB_EXP 0 ≠ 0 ∧ s.domOn 86 = true ∧ s.ue.contains a
      = false ∧ (e = 1 ∨ e = 0 ∧ s.ce.contains a = true)) ∧
    (∃ (s : State) (a e : Nat), a < 2 ^ 30 ∧ s.get F.MON_ECC_CFG_SCRUB_EXP 0 ≠ 0 ∧ s.domOn 86 = true ∧ (s.ue.contains a
      = true ∨ 2 ≤ e)) ∧
    (∃ (s : State) (m h : Nat), s.domOn 85 = true ∧ s.grants m 12 (64 * h + 16) true = true) :=
  ⟨⟨sn, 20000, 17, 9000, by decide +kernel⟩,
    ⟨sn, ms 3, 17, 9000, by decide +kernel⟩,
    ⟨sn, 0, 0, by decide +kernel⟩,
    ⟨sn, 0, 1, by decide +kernel⟩,
    ⟨sn, 0, 2, by decide +kernel⟩,
    ⟨sn, 17, 0, by decide +kernel⟩⟩

end Sys2Proof.Tests.Health

namespace Sys2Proof.Tests.Accesses

open Sys2Proof.Machine Sys2Proof.Tests

def acc5 : State := mk [(⟨.ACC_RD_LO,5,1⟩, 240, 1), (⟨.ACC_WR_LO,5,1⟩, 240, 1), (F.ACC_WCTRL_EN,240,1),
    (⟨.ACC_WRANGE,32,32⟩,240,0x3FFFFFFF), (⟨.PWR_EVT,0,6⟩,0,63), (F.REG_ACNT_OFFDOM_CNT,0,9),
    (⟨.REG_SCRATCH,0,64⟩,5,77)] { up with
      store := [(3, 0x1122334455667788), (4, 9)], ue := [4], shad := [(5, { rd := some (9, 9), wr := some (9, 9) })] }
def accAll : State := mk ([9,10,11,12].flatMap fun tg => [(⟨.ACC_WR_LO,5,1⟩, 16*tg, 1), (⟨.ACC_RD_LO,5,1⟩, 16*tg, 1),
    (⟨.ACC_WRANGE,32,32⟩,16*tg,0xFFFFFFFF)]) { acc5 with guest := [(0x40010, 5), (0x40015, 6)] }
def offA : State := mk [(⟨.PWR_DSTAT, 18, 2⟩, 0, 0)] up
def vlt : State := { accAll with vault := [(0x4003, 7)] }
def shd : State :=
  { accAll with
    shad := [(5, { rd := some (2^60+8, 7), wr := some (2^60+8, 9) }),
      (17, { rd := some (wordKey 11 0x98, 7), wr := some (wordKey 11 0x98, 9) })] }
def wrec : WRec :=
  { kind := 0, h := [1, 2, 3, 4], words := 1, lane := some 49, close := false, input := 0, time := 500, hor := 900
    seq := 4, src := { t := 500, ws := [1] } }
def wslot : WSlot :=
  { r := wrec, pc := 0, g := [0,0,0,0,0,0,0], h := [1, 2, 3, 4], count := 0, emits := [], ended := false }
def wst (x : Option WSlot) : State := { up with weav := [(3, { slots := [x, none, none, none] })] }

theorem wit_wordsByAddress_1 :
    (∃ (s : State) (m a : Nat) (r : Reg) (i : Nat), s.gets m a true r i = true ∧ ¬r ∈ have y := have y := have y :=
      have y := [Reg.RING_CFG, Reg.RING_TAIL, Reg.MBX_DB, Reg.MBX_NTAIL, Reg.REG_BANK]; Reg.QD_CFG :: Reg.QD_RD ::
      Reg.QD_MARK :: Reg.QUE_POOL :: y; have y := Reg.ACC_RD_LO :: Reg.ACC_RD_HI :: Reg.ACC_WR_LO :: Reg.ACC_WR_HI ::
      Reg.ACC_K3WIN :: y; Reg.PWR_BRST :: Reg.PWR_DREQ :: Reg.PWR_HB :: Reg.PWR_HBW :: y; have y := have y :=
      Reg.MU_CTRL :: Reg.LNK_GRP :: Reg.DLP_CFG :: Reg.ECH_CFG :: Reg.PWR_RST :: y; Reg.INT_SRC :: Reg.CORE_EOI ::
      Reg.CORE_CTRL :: Reg.MU_CFG :: y; have y := Reg.TIM_SYNC :: Reg.TIM_OCTRL :: Reg.TIM_BAND0 :: Reg.TIM_OCLK ::
      Reg.TIM_LOOP :: y; Reg.HE_BIN :: Reg.TIM_TCFG :: Reg.TIM_TREFP :: Reg.TIM_REF :: y; have y := have y := have y :=
      Reg.FLT_SCFG :: Reg.FLT_GAIN :: Reg.FLT_OFFSET :: Reg.HE_CFG :: Reg.HE_CTRL :: y; Reg.WEA_WENTRY :: Reg.FLT_CFG
      :: Reg.FLT_CTRL :: Reg.FLT_SEL :: y; have y := Reg.STAKE_ACTION :: Reg.WEA_WCTRL :: Reg.WEA_LOCAL :: Reg.WEA_TD
      :: Reg.WEA_WCFG :: y; Reg.AXI_CTRL :: Reg.AXI_MARKDIR0 :: Reg.AXI_MARKDIR1 :: Reg.STAKE_MATCH :: y; have y :=
      have y := Reg.PAIR_WIN :: Reg.PAIR_OFS :: Reg.AXI_CFG :: Reg.AXI_OFS :: Reg.AXI_GEN :: y; Reg.CNT_CFG ::
      Reg.CNT_LEN :: Reg.CNT_COUNT :: Reg.PAIR_CFG :: y; have y := Reg.FRE_IE :: Reg.CAP_LANECFG :: Reg.CAP_PICK ::
      Reg.CAP_BASE :: Reg.CAP_WALK :: y; Reg.FRE_INCFG :: Reg.FRE_THR :: Reg.FRE_RAMP :: Reg.FRE_EVT :: y) ∧
    (∃ (s : State) (m a w : Nat) (r : Reg) (i : Nat), s.gets m a true r i = true ∧ (r = Reg.WEA_TD ∧ w = i / 8 ∨ r =
      Reg.WEA_LOCAL ∧ w = i / 512) ∧ ((s.weavAt w).slots.any fun x => x.isSome) = false) ∧
    (∃ (s : State) (m a w : Nat) (r : Reg) (i : Nat), s.gets m a true r i = true ∧ (r = Reg.WEA_TD ∧ w = i / 8 ∨ r =
      Reg.WEA_LOCAL ∧ w = i / 512) ∧ ((s.weavAt w).slots.any fun x => x.isSome) = true) ∧
    (∃ (s : State) (m a : Nat) (r : Reg) (i : Nat), s.gets m a false r i = true ∧ r ≠ Reg.PWR_CSTAT) ∧
    (∃ (s : State) (m a : Nat) (wr : Bool) (x : Spot), s.onBus m = true ∧ (16 ≤ m ∨ a % 8 = 0) ∧ s.place m a =
      Place.spot x ∧ s.reach m x wr = 1 ∧ wr = true) ∧
    (∃ (s : State) (m a : Nat) (wr : Bool) (x : Spot), s.onBus m = true ∧ (16 ≤ m ∨ a % 8 = 0) ∧ s.place m a =
      Place.spot x ∧ s.reach m x wr = 1 ∧ wr = false) ∧
    (∃ (s : State) (m a : Nat) (wr : Bool) (x : Spot), s.onBus m = true ∧ (16 ≤ m ∨ a % 8 = 0) ∧ s.place m a =
      Place.spot x ∧ s.reach m x wr = 2 ∧ wr = true) ∧
    (∃ (s : State) (m a : Nat) (wr : Bool) (x : Spot), s.onBus m = true ∧ (16 ≤ m ∨ a % 8 = 0) ∧ s.place m a =
      Place.spot x ∧ s.reach m x wr = 2 ∧ wr = false) :=
  ⟨⟨up, 17, 0x10060098, .PWR_EVT, 0, by decide +kernel⟩,
    ⟨wst none, 17, 0x1030C180, 3, .WEA_TD, 24, by decide +kernel⟩,
    ⟨wst (some wslot), 17, 0x1030C180, 3, .WEA_TD, 24, by decide +kernel⟩,
    ⟨accAll, 0, 0x40, .REG_SCRATCH, 0, by decide +kernel⟩,
    ⟨offA, 17, 0x10100000, true, ⟨0, 0, 9, .reg .FRE_INCFG 0⟩, by decide +kernel⟩,
    ⟨offA, 17, 0x10100000, false, ⟨0, 0, 9, .reg .FRE_INCFG 0⟩, by decide +kernel⟩,
    ⟨up, 19, 0x10060098, true, ⟨11, 0x98, 0, .reg .PWR_EVT 0⟩, by decide +kernel⟩,
    ⟨up, 19, 0x10060098, false, ⟨11, 0x98, 0, .reg .PWR_EVT 0⟩, by decide +kernel⟩⟩

theorem wit_wordsByAddress_2 :
    (∃ (s : State) (m a : Nat) (wr : Bool) (x : Spot), s.onBus m = true ∧ (16 ≤ m ∨ a % 8 = 0) ∧ s.place m a =
      Place.spot x ∧ (s.reach m x wr = 3 ∨ s.reach m x wr = 0 ∧ x.cell = Cell.rsv) ∧ wr = true) ∧
    (∃ (s : State) (m a : Nat) (wr : Bool) (x : Spot), s.onBus m = true ∧ (16 ≤ m ∨ a % 8 = 0) ∧ s.place m a =
      Place.spot x ∧ (s.reach m x wr = 3 ∨ s.reach m x wr = 0 ∧ x.cell = Cell.rsv) ∧ wr = false) ∧
    (∃ (s : State) (m a : Nat), s.place m a = Place.outside) ∧
    (∃ (m a : Nat), m < 16 ∧ a % 8 ≠ 0 ∧ inSlots a 8 = false) ∧
    (∃ (s : State) (m a : Nat), s.place m a = Place.unmapped ∧ (m ≠ 19 ∨ s.onBus m = false)) ∧
    (∃ (s : State) (m a : Nat), s.place m a = Place.unmapped ∧ m = 19 ∧ s.onBus m = true) ∧
    (∃ (s : State) (m a w : Nat), s.onBus m = true ∧ (16 ≤ m ∨ a % 8 = 0) ∧ s.place m a = Place.store w ∧ s.domOn 86 =
      true ∧ s.grants m 15 w true = true ∧ w < 2 ^ 30) ∧
    (∃ (s : State) (m a w : Nat), s.onBus m = true ∧ (16 ≤ m ∨ a % 8 = 0) ∧ s.place m a = Place.store w ∧ s.domOn 86 =
      true ∧ s.grants m 15 w false = true ∧ s.ue.contains w = false ∧ s.ce.contains w = false) :=
  ⟨⟨up, 17, 0x100600A0, true, ⟨11, 0xA0, 0, .rsv⟩, by decide +kernel⟩,
    ⟨up, 17, 0x100600A0, false, ⟨11, 0xA0, 0, .rsv⟩, by decide +kernel⟩,
    ⟨accAll, 5, 0x1012000, by decide +kernel⟩,
    ⟨5, 0x100C001, by decide +kernel⟩,
    ⟨accAll, 0x40, 0, by decide +kernel⟩,
    ⟨accAll, 19, 0x8, by decide +kernel⟩,
    ⟨acc5, 5, 0x2000018, 3, by decide +kernel⟩,
    ⟨acc5, 5, 0x2000018, 3, by decide +kernel⟩⟩

theorem wit_wordsByAddress_3 :
    (∃ (s : State) (m a w : Nat), s.onBus m = true ∧ (16 ≤ m ∨ a % 8 = 0) ∧ s.place m a = Place.store w ∧ s.domOn 86 =
      true ∧ s.grants m 15 w false = true ∧ s.ue.contains w = false ∧ s.ce.contains w = true) ∧
    (∃ (s : State) (m a w : Nat), s.onBus m = true ∧ (16 ≤ m ∨ a % 8 = 0) ∧ s.place m a = Place.store w ∧ s.domOn 86 =
      true ∧ s.grants m 15 w false = true ∧ s.ue.contains w = true) ∧
    (∃ (s : State) (m a c o : Nat), s.onBus m = true ∧ s.shutOut m = false ∧ s.place m a = Place.core c o ∧ s.domOn (81
      + c) = true ∧ o % 8 = 0 ∧ o < 2 ^ 18) ∧
    (∃ (s : State) (f k : Nat), f < 16 ∧ s.domOn 94 = true ∧ k < 12) ∧
    (∃ (s : State) (f : Nat), f < 16 ∧ s.domOn 94 = true) ∧
    (∃ (s : State) (f k : Nat), f < 16 ∧ s.domOn 94 = true ∧ k < 3) ∧
    (∃ (s : State) (f k : Nat), f < 16 ∧ s.domOn 94 = true ∧ k < 5) ∧
    (∃ (s : State) (f k : Nat), f < 16 ∧ s.domOn 94 = true ∧ k < 64) :=
  ⟨⟨{ acc5 with ce := [3, 9] }, 5, 0x2000018, 3, by decide +kernel⟩,
    ⟨acc5, 5, 0x2000020, 4, by decide +kernel⟩,
    ⟨accAll, 17, 0x40010, 1, 0x10, by decide +kernel⟩,
    ⟨accAll, 0, 0, by decide +kernel⟩,
    ⟨up, 0, by decide +kernel⟩,
    ⟨accAll, 0, 0, by decide +kernel⟩,
    ⟨accAll, 0, 0, by decide +kernel⟩,
    ⟨accAll, 0, 0, by decide +kernel⟩⟩

theorem wit_halvesOfWords :
    (∃ (s : State) (m a : Nat) (r : Reg) (i : Nat), s.gets m (a / 8 * 8) false r i = true ∧ r ≠ Reg.PWR_CSTAT ∧ (16 ≤ m
      ∨ a % 4 = 0)) ∧
    (∃ (s : State) (m a : Nat) (r : Reg) (i hi : Nat), s.gets m (a / 8 * 8) false r i = true ∧ r ≠ Reg.PWR_CSTAT ∧ (16
      ≤ m ∨ a % 4 = 0) ∧ (s.shadAt m).rd = some (s.wordAt m (a / 8 * 8), hi)) ∧
    (∃ (s : State) (m a : Nat) (r : Reg) (i : Nat), s.gets m (a / 8 * 8) false r i = true ∧ r ≠ Reg.PWR_CSTAT ∧ (16 ≤ m
      ∨ a % 4 = 0) ∧ (s.shadAt m).rd = none) ∧
    (∃ (s : State) (m a : Nat) (r : Reg) (i : Nat), s.gets m (a / 8 * 8) true r i = true ∧ (16 ≤ m ∨ a % 4 = 0)) ∧
    (∃ (s : State) (m a : Nat) (r : Reg) (i lo : Nat), s.gets m (a / 8 * 8) true r i = true ∧ (16 ≤ m ∨ a % 4 = 0) ∧
      (s.shadAt m).wr = some (s.wordAt m (a / 8 * 8), lo)) ∧
    (∃ (s : State) (m a : Nat) (r : Reg) (i : Nat), s.gets m (a / 8 * 8) true r i = true ∧ (16 ≤ m ∨ a % 4 = 0) ∧
      (s.shadAt m).wr = none) ∧
    (∃ (s : State) (m a w : Nat), s.onBus m = true ∧ s.place m (a / 8 * 8) = Place.store w ∧ s.domOn 86 = true ∧
      s.grants m 15 w true = true ∧ w < 2 ^ 30 ∧ (16 ≤ m ∨ a % 4 = 0)) :=
  ⟨⟨accAll, 0, 0x40, .REG_SCRATCH, 0, by decide +kernel⟩,
    ⟨{ accAll with
          shad := [(5, { rd := some (2^60+8, 7), wr := some (2^60+8, 9) }), (17,
              { rd := some (wordKey 11 0x98, 7), wr := some (wordKey 11 0x98, 9) })] }, 5, 0x40, .REG_SCRATCH,
        5, 7, by decide +kernel⟩,
    ⟨accAll, 0, 0x40, .REG_SCRATCH, 0, by decide +kernel⟩,
    ⟨shd, 5, 0x40, .REG_SCRATCH, 5, by decide +kernel⟩,
    ⟨{ accAll with
          shad := [(5, { rd := some (2^60+8, 7), wr := some (2^60+8, 9) }), (17,
              { rd := some (wordKey 11 0x98, 7), wr := some (wordKey 11 0x98, 9) })] }, 5, 0x40, .REG_SCRATCH,
        5, 9, by decide +kernel⟩,
    ⟨accAll, 0, 0x40, .REG_SCRATCH, 0, by decide +kernel⟩,
    ⟨accAll, 5, 0x200001C, 3, by decide +kernel⟩⟩

theorem wit_vaultAndI2c_1 :
    (∃ (s : State) (m a o : Nat), s.onBus m = true ∧ s.place m a = Place.vault o ∧ s.domOn 95 = true ∧ s.grants m 16 o
      true = true ∧ o % 8 = 0 ∧ s.vaultFixed o = false) ∧
    (∃ (s : State) (m a o : Nat), s.onBus m = true ∧ s.place m a = Place.vault o ∧ s.domOn 95 = true ∧ s.grants m 16 o
      true = true ∧ o % 8 = 0 ∧ s.vaultFixed o = true) ∧
    (∃ (s : State), s.i2cOpen = true) ∧
    (∃ (s : State), s.eng ≠ Eng.off ∧ s.i2c.off < 2 ^ 16) ∧
    (∃ (s : State) (off : Nat), s.i2cOpen = true ∧ off < 65536) ∧
    (∃ (s : State) (off : Nat), s.i2cOpen = true ∧ off < 65536 ∧ 4096 ≤ off ∧ off < 4100) ∧
    (∃ (s : State) (off : Nat), s.i2cOpen = true ∧ off < 65536 ∧ 4104 ≤ off ∧ off < 4112) ∧
    (∃ (s : State) (off : Nat), s.i2cOpen = true ∧ off < 65536 ∧ off < 1024 ∧ (s.slotAt (slotKey 17 (off / 256))).st =
      0) ∧
    (∃ (s : State) (off : Nat) (b : Byte), s.i2cOpen = true ∧ off < 65536 ∧ off = 4112 ∧ b = 1) ∧
    (∃ (s : State) (off : Nat) (b : Byte), s.i2cOpen = true ∧ off < 65536 ∧ off = 4112 ∧ b = 2) :=
  ⟨⟨vlt, 17, 0x20004000, 0x4000, by decide +kernel⟩,
    ⟨vlt, 17, 0x20000000, 0, by decide +kernel⟩,
    ⟨vlt, by decide +kernel⟩,
    ⟨vlt, by decide +kernel⟩,
    ⟨vlt, 0x1001, by decide +kernel⟩,
    ⟨{ accAll with vault := [(0x4003, 7)] }, 0x1001, by decide +kernel⟩,
    ⟨{ accAll with vault := [(0x4003, 7)] }, 0x100A, by decide +kernel⟩,
    ⟨{ accAll with vault := [(0x4003, 7)] }, 0, by decide +kernel⟩,
    ⟨{ accAll with vault := [(0x4003, 7)] }, 0x1010, 1, by decide +kernel⟩,
    ⟨{ accAll with vault := [(0x4003, 7)] }, 0x1010, 2, by decide +kernel⟩⟩

theorem wit_vaultAndI2c_2 :
    (∃ (s : State), s.eng ≠ Eng.off ∧ s.on F.PWR_WAKE_I2C_EN 0 = true ∧ s.eng = Eng.watch ∧ s.pwr.wake = none) ∧
    (∃ (s : State), s.eng ≠ Eng.off ∧ s.on F.PWR_WAKE_I2C_EN 0 = false) ∧
    (∃ (s : State), s.eng = Eng.watch ∧ s.i2c.off = 65534) ∧
    (∃ (s : State), s.eng = Eng.deepSleep ∧ s.i2c.off = 65534) ∧
    (∃ (s : State), s.i2cOpen = true ∧ s.i2c.off = 4104) ∧
    (∃ (s : State), s.i2cOpen = true ∧ s.i2c.off = 4113) ∧
    (∃ (s : State) (a : Nat) (x : Spot) (r : Reg) (i : Nat), s.i2cOpen = true ∧ s.i2c.busy = none ∧ BitVec.toNat (s.reg
      Reg.I2C_IADDR 0) = a ∧ a % 8 = 0 ∧ s.spot 92 a = some x ∧ x.cell = Cell.reg r i ∧ r ≠ Reg.PWR_CSTAT ∧ s.reach 92
      x false = 0) ∧
    (∃ (s : State) (a : Nat) (x : Spot) (r : Reg) (i : Nat), s.i2cOpen = true ∧ s.i2c.busy = none ∧ BitVec.toNat (s.reg
      Reg.I2C_IADDR 0) = a ∧ a % 8 = 0 ∧ s.spot 92 a = some x ∧ x.cell = Cell.reg r i ∧ r ≠ Reg.PWR_CSTAT ∧ s.reach 92
      x true = 0) ∧
    (∃ (s : State) (a : Nat), s.i2cOpen = true ∧ s.i2c.busy = none ∧ BitVec.toNat (s.reg Reg.I2C_IADDR 0) = a ∧ (a % 8
      ≠ 0 ∨ s.spot 92 a = none)) ∧
    (∃ (s : State) (t0 : Nat) (wr : Bool), s.i2c.busy = some (wr, t0)) :=
  ⟨⟨mk [(⟨.I2C_IADDR,0,32⟩,0,0x60098), (F.PWR_WAKE_I2C_EN,0,1)] { up with eng := .watch, i2c := { off := 0xFFFE } },
        by decide +kernel⟩,
    ⟨{ accAll with vault := [(0x4003, 7)] }, by decide +kernel⟩,
    ⟨{ up with eng := .watch, i2c := { off := 0xFFFE } }, by decide +kernel⟩,
    ⟨{ up with eng := .deepSleep, i2c := { off := 0xFFFE } }, by decide +kernel⟩,
    ⟨mk [(⟨.I2C_IDATA,0,64⟩,0,0x1122334455667788), (⟨.I2C_IADDR,0,32⟩,0,0x60099), (⟨.I2C_ISTAT,1,1⟩,0,1)]
        { up with i2c := { off := 0x1008 } }, by decide +kernel⟩,
    ⟨mk [(⟨.I2C_ISTAT,1,1⟩,0,1)] { up with i2c := { off := 0x1011, busy := some (true, 9995) } }, by decide +kernel⟩,
    ⟨mk [(⟨.I2C_IADDR,0,32⟩,0,0x60098), (⟨.I2C_IDATA,0,64⟩,0,0x35), (⟨.ACC_RD_HI,28,1⟩,176,1),
        (⟨.ACC_WR_HI,28,1⟩,176,1), (⟨.ACC_WRANGE,32,32⟩,176,0xFFFFFFFF), (⟨.PWR_EVT,0,6⟩,0,63)] up, 0x60098,
        ⟨11, 0x98, 0, .reg .PWR_EVT 0⟩, .PWR_EVT, 0, by decide +kernel⟩,
    ⟨mk [(⟨.I2C_IADDR,0,32⟩,0,0x60098), (⟨.I2C_IDATA,0,64⟩,0,0x35), (⟨.ACC_RD_HI,28,1⟩,176,1),
        (⟨.ACC_WR_HI,28,1⟩,176,1), (⟨.ACC_WRANGE,32,32⟩,176,0xFFFFFFFF), (⟨.PWR_EVT,0,6⟩,0,63)] up, 0x60098,
        ⟨11, 0x98, 0, .reg .PWR_EVT 0⟩, .PWR_EVT, 0, by decide +kernel⟩,
    ⟨mk [(⟨.I2C_IDATA,0,64⟩,0,0x1122334455667788), (⟨.I2C_IADDR,0,32⟩,0,0x60099), (⟨.I2C_ISTAT,1,1⟩,0,1)]
        { up with i2c := { off := 0x1008 } }, 0x60099, by decide +kernel⟩,
    ⟨mk [(⟨.I2C_ISTAT,1,1⟩,0,1)] { up with i2c := { off := 0x1011, busy := some (true, 9995) } }, 9995, true,
        by decide +kernel⟩⟩

end Sys2Proof.Tests.Accesses
end

/-! ## Entries of tables -/

namespace Sys2Proof.Machine

variable {s₀ : State}

/-- A write of one key leaves what a filter collects from the table, where it collects nothing at that key. -/
theorem Tab.filterMap_set {α β : Type} [DecidableEq α] (d : Nat → α) (g : Nat × α → Option β) (t : Tab α) (k : Nat)
    (v : α) (hg : ∀ x, g (k, x) = none) : (Tab.set d t k v).filterMap g = t.filterMap g := by
  have herase : ∀ t : Tab α, (Tab.erase t k).filterMap g = t.filterMap g := by
    intro t
    induction t with
    | nil => rfl
    | cons p t ih =>
      obtain ⟨j, x⟩ := p
      by_cases hj : j = k
      · subst hj; simp [Tab.erase, hg, ih]
      · simp [Tab.erase, hj, List.filterMap_cons, ih]
  have hplace : ∀ t : Tab α, (Tab.place t k v).filterMap g = t.filterMap g := by
    intro t
    induction t with
    | nil => simp [Tab.place, hg]
    | cons p t ih =>
      obtain ⟨j, x⟩ := p
      by_cases hj : k < j <;> simp [Tab.place, hj, List.filterMap_cons, hg, ih]
  unfold Tab.set
  split
  · exact herase t
  · rw [hplace, herase]

/-- A key that reads otherwise than an unlisted one is listed with what it reads. -/
theorem Tab.mem_of_get_ne {α : Type} (d : Nat → α) (t : Tab α) (k : Nat) (h : Tab.get d t k ≠ d k) :
    (k, Tab.get d t k) ∈ t := by
  have hfind : ∀ (t : Tab α) (x : α), Tab.find t k = some x → (k, x) ∈ t := by
    intro t x hx
    induction t with
    | nil => cases hx
    | cons p t ih =>
      obtain ⟨j, v⟩ := p
      by_cases hj : j = k
      · simp only [Tab.find, hj, if_true, Option.some.injEq] at hx
        simp [hj, hx]
      · simp only [Tab.find, hj, if_false] at hx
        exact List.mem_cons_of_mem _ (ih hx)
  unfold Tab.get at h ⊢
  cases hf : Tab.find t k with
  | none => rw [hf] at h; exact absurd rfl h
  | some x => exact hfind t x hf

/-- A register's list of indices does not see the writes of other registers. -/
theorem Work.indices_wreg_ne (w : Work s₀) (r q : Reg) (i : Nat) (v : Word) (p : Word → Bool) (h : q ≠ r) :
    (w.wreg r i v).st.indices q p = w.st.indices q p := by
  refine Tab.filterMap_set _ _ _ _ _ fun x => ?_
  have hr := Reg.ctorIdx_lt r
  have hkey : Reg.key r i % 256 = r.ctorIdx := by unfold Reg.key; omega
  have hne : ¬ r.ctorIdx = q.ctorIdx := fun e => h (Reg.ctorIdx_inj e).symm
  simp [hkey, hne]

/-! ## Work that writes some registers alone -/

/-- The registers outside `rs` hold in `n` what they held in `s`, and list the same indices. -/
def RegsOutside (rs : List Reg) (s n : State) : Prop :=
  ∀ r, r ∉ rs → (∀ i, n.reg r i = s.reg r i) ∧ ∀ p, n.indices r p = s.indices r p

theorem RegsOutside.of_regs_eq {rs : List Reg} {s n : State} (h : n.regs = s.regs) : RegsOutside rs s n := fun r _ =>
  ⟨fun i => by unfold State.reg; rw [h], fun p => by unfold State.indices; rw [h]⟩

theorem RegsOutside.refl (rs : List Reg) (s : State) : RegsOutside rs s s := .of_regs_eq rfl

theorem RegsOutside.trans {rs : List Reg} {s n m : State} (h : RegsOutside rs s n) (g : RegsOutside rs n m) :
    RegsOutside rs s m := fun r hr =>
  ⟨fun i => ((g r hr).1 i).trans ((h r hr).1 i), fun p => ((g r hr).2 p).trans ((h r hr).2 p)⟩

theorem RegsOutside.mono {rs qs : List Reg} {s n : State} (h : RegsOutside rs s n) (hsub : ∀ r ∈ rs, r ∈ qs) :
    RegsOutside qs s n := fun r hr => h r fun hmem => hr (hsub r hmem)

theorem RegsOutside.reg_eq {rs : List Reg} {s n : State} (h : RegsOutside rs s n) {r : Reg} (hr : r ∉ rs) (i : Nat) :
    n.reg r i = s.reg r i := (h r hr).1 i

theorem RegsOutside.get_eq {rs : List Reg} {s n : State} (h : RegsOutside rs s n) {f : Fld} (hf : f.reg ∉ rs)
    (i : Nat) : n.get f i = s.get f i := congrArg f.of (h.reg_eq hf i)

theorem RegsOutside.indices_eq {rs : List Reg} {s n : State} (h : RegsOutside rs s n) {r : Reg} (hr : r ∉ rs)
    (p : Word → Bool) : n.indices r p = s.indices r p := (h r hr).2 p

theorem Work.regsOutside_wreg {rs : List Reg} (w : Work s₀) (r : Reg) (i : Nat) (v : Word) (h : r ∈ rs) :
    RegsOutside rs w.st (w.wreg r i v).st := fun q hq =>
  have hne : q ≠ r := fun e => hq (e ▸ h)
  ⟨fun _ => Work.reg_wreg_ne w r q i _ v fun e => hne e.1, fun p => Work.indices_wreg_ne w r q i v p hne⟩

theorem Work.regsOutside_put {rs : List Reg} (w : Work s₀) (f : Fld) (i x : Nat) (h : f.reg ∈ rs) :
    RegsOutside rs w.st (w.put f i x).st := w.regsOutside_wreg _ _ _ h

theorem Work.regsOutside_when {rs : List Reg} (w : Work s₀) (c : Bool) (g : Work s₀ → Work s₀)
    (h : RegsOutside rs w.st (g w).st) : RegsOutside rs w.st (w.when c g).st := by
  cases c
  · exact .refl _ _
  · exact h

theorem Work.regsOutside_each {α : Type} {rs : List Reg} (w : Work s₀) (xs : List α) (g : Work s₀ → α → Work s₀)
    (h : ∀ v a, RegsOutside rs v.st (g v a).st) : RegsOutside rs w.st (w.each xs g).st :=
  Work.each_keeps (fun v => RegsOutside rs w.st v.st) g (fun v a hv => hv.trans (h v a)) w xs (.refl _ _)

/-! ## Samples of the assembly pool (R393) -/

/-- The registers that a sample of a monitor unit writes. -/
def muRegsWritten : List Reg := [.MU_EVT, .MU_STAT, .MU_MINMAX]

theorem Work.regsOutside_setMuOn {rs : List Reg} (w : Work s₀) (k : Nat) (x : Bool) :
    RegsOutside rs w.st (w.setMuOn k x).st := .of_regs_eq rfl

theorem Work.regsOutside_fresh {rs : List Reg} (w : Work s₀) : RegsOutside rs w.st w.fresh.1.st := .of_regs_eq rfl

/-- One unit takes the sample `v` (R393). -/
theorem Work.regsOutside_mu (w : Work s₀) (kind target v : Nat) :
    RegsOutside muRegsWritten w.st (w.mu kind target v).st := by
  unfold Work.mu
  refine w.regsOutside_each _ _ fun x h => ?_
  dsimp only
  refine RegsOutside.trans ?_ (Work.regsOutside_setMuOn _ _ _)
  refine RegsOutside.trans ?_ (Work.regsOutside_put _ _ _ _ (by decide))
  refine RegsOutside.trans ?_ (Work.regsOutside_put _ _ _ _ (by decide))
  refine RegsOutside.trans ?_ (Work.regsOutside_put _ _ _ _ (by decide))
  refine RegsOutside.trans ?_ (Work.regsOutside_put _ _ _ _ (by decide))
  refine RegsOutside.trans ?_ (Work.regsOutside_when _ _ _ (Work.regsOutside_put _ _ _ _ (by decide)))
  exact Work.regsOutside_when _ _ _ (Work.regsOutside_put _ _ _ _ (by decide))

/-- Monitor unit 0, and no other, follows the assembly pool: `Work.mu` selects it alone for a sample of kind 3. -/
def State.poolFollowed (s : State) : Prop :=
  (s.indices .MU_CFG fun c =>
    F.MU_CFG_EN.of c == 1 && F.MU_CFG_KIND.of c == 3 && (3 == 3 || F.MU_CFG_TARGET.of c == 0)) = [0]

/-- A sample of the pool is the VALUE of the unit that follows it. -/
theorem Work.value_mu (w : Work s₀) (v : Nat) (h : w.st.poolFollowed) (hv : v < 2 ^ 32) :
    (w.mu 3 0 v).st.get F.MU_STAT_VALUE 0 = v := by
  have hmin : min v (2 ^ 32 - 1) = v := by omega
  unfold Work.mu
  rw [h, hmin]
  simp only [Work.each, List.foldl_cons, List.foldl_nil, Work.wrap]
  have hset : ∀ x : Work s₀, (x.setMuOn 0 true).st.get F.MU_STAT_VALUE 0 = x.st.get F.MU_STAT_VALUE 0 := fun _ => rfl
  rw [hset, Work.get_put_reg_ne _ _ _ _ _ _ (by decide), Work.get_put_reg_ne _ _ _ _ _ _ (by decide),
    Work.get_put_beside _ _ _ _ _ _ (by decide) (by decide), Work.get_put_same _ _ _ _ (by decide)]
  exact Nat.mod_eq_of_lt hv

/-- The samples on the way from `old` to a larger `u` end with `u`. -/
theorem poolSteps_succ (old u : Nat) (h : old ≤ u) : poolSteps old (u + 1) = poolSteps old u ++ [u + 1] := by
  have h1 : u + 1 - old = (u - old) + 1 := by omega
  have h2 : old - (u + 1) = 0 := by omega
  have h3 : old - u = 0 := by omega
  have h4 : old + 1 + (u - old) = u + 1 := by omega
  simp [poolSteps, h1, h2, h3, List.range_succ, h4]

/-- A pool that has grown to `u` buffers by what POOL_USED shows is the VALUE of the unit that follows it. -/
theorem Work.value_poolSteps (w : Work s₀) (old u : Nat) (h : w.st.poolFollowed) (hu : old ≤ u) (hv : u + 1 < 2 ^ 32) :
    (w.each (poolSteps old (u + 1)) fun w v => w.mu 3 0 v).st.get F.MU_STAT_VALUE 0 = u + 1 := by
  rw [poolSteps_succ old u hu, Work.each, List.foldl_append]
  have hframe := w.regsOutside_each (poolSteps old u) (fun w v => w.mu 3 0 v) fun x v => x.regsOutside_mu 3 0 v
  exact Work.value_mu _ _ ((hframe.indices_eq (r := .MU_CFG) (by decide) _).trans h) hv

/-- QUE_STAT shows `u` buffers in use. -/
def Work.putPool (w : Work s₀) (u : Nat) : Work s₀ :=
  let w := w.put F.QUE_STAT_POOL_USED 0 u
  w.when (w.get F.QUE_STAT_POOL_PEAK 0 < u) fun s => s.put F.QUE_STAT_POOL_PEAK 0 u

theorem Work.showPool_eq (w : Work s₀) : w.showPool =
    (w.putPool w.st.poolUsed).each (poolSteps (w.get F.QUE_STAT_POOL_USED 0) w.st.poolUsed) fun s v => s.mu 3 0 v := rfl

theorem Work.regsOutside_putPool (w : Work s₀) (u : Nat) : RegsOutside [.QUE_STAT] w.st (w.putPool u).st :=
  (Work.regsOutside_put _ _ _ _ (by decide)).trans
    (Work.regsOutside_when _ _ _ (Work.regsOutside_put _ _ _ _ (by decide)))

/-- POOL_USED shows the buffers in use modulo 2^16. -/
theorem Work.poolUsed_putPool (w : Work s₀) (u : Nat) :
    (w.putPool u).st.get F.QUE_STAT_POOL_USED 0 = u % 2 ^ 16 := by
  have hput : (w.put F.QUE_STAT_POOL_USED 0 u).st.get F.QUE_STAT_POOL_USED 0 = u % 2 ^ 16 :=
    Work.get_put_same _ _ _ _ (by decide)
  unfold Work.putPool
  dsimp only [Work.when]
  split
  · rw [Work.get_put_beside _ _ _ _ _ _ (by decide) (by decide), hput]
  · exact hput

/-- A grown pool shows its buffers modulo 2^16, and the unit that follows it their number itself. -/
theorem Work.showPool_grown (w : Work s₀) (u : Nat) (hu : w.st.poolUsed = u + 1) (h : w.st.poolFollowed)
    (hold : w.st.get F.QUE_STAT_POOL_USED 0 ≤ u) (hv : u + 1 < 2 ^ 32) :
    w.showPool.st.get F.MU_STAT_VALUE 0 = u + 1 ∧ w.showPool.st.get F.QUE_STAT_POOL_USED 0 = (u + 1) % 2 ^ 16 := by
  rw [Work.showPool_eq, hu]
  constructor
  · have hfollowed := ((w.regsOutside_putPool (u + 1)).indices_eq (r := .MU_CFG) (by decide) _).trans h
    exact (w.putPool (u + 1)).value_poolSteps _ u hfollowed hold hv
  · have hframe := (w.putPool (u + 1)).regsOutside_each (poolSteps (w.get F.QUE_STAT_POOL_USED 0) (u + 1))
      (fun s v => s.mu 3 0 v) fun y v => y.regsOutside_mu 3 0 v
    rw [hframe.get_eq (by decide), Work.poolUsed_putPool]

/-! ## A capture domain goes OFF (R366) -/

/-- What the lanes and the merge of block `b` hold is lost. -/
def Work.capturesLost (w : Work s₀) (b : Nat) : Work s₀ :=
  let w := w.each (unitsOf b) fun s u => s.setCapHw u {}
  let w := w.each (lanesOf b) fun s n => s.modCap n fun c =>
    { c with searches := [], early := [], held := [], buf := [], drop := none }
  w.setMerge b {}

/-- The walk tables of block `b` are lost. -/
def Work.walksLost (w : Work s₀) (b : Nat) : Work s₀ :=
  w.each (lanesOf b) fun s n => s.each (List.range 128) fun s k =>
    let (s, v) := s.fresh
    s.wreg .CAP_WALK (n * 128 + k) (v &&& 0xFFFFFFFF00FFFFFF)

/-- What a capture domain loses, part by part. -/
theorem Work.domLose_capture (w : Work s₀) (d x b : Nat) (h : wardPart d = some (.capture, x, b)) :
    w.domLose d = ((w.capturesLost b).rewindOpen b).walksLost b := by
  unfold Work.domLose
  rw [h]
  rfl

/-- `n` has the registers and the bundles of `s`. -/
def SameBundles (s n : State) : Prop := n.regs = s.regs ∧ n.open_ = s.open_ ∧ n.wait = s.wait

/-- The loss of the lanes' captures and of the merge leaves registers and bundles. -/
theorem Work.capturesLost_sameBundles (w : Work s₀) (b : Nat) : SameBundles w.st (w.capturesLost b).st := by
  have hunits := Work.each_keeps (fun v => SameBundles w.st v.st) (fun s u => s.setCapHw u {}) (fun _ _ hv => hv) w
    (unitsOf b) ⟨rfl, rfl, rfl⟩
  obtain ⟨hregs, hopen, hwait⟩ := Work.each_keeps (fun v => SameBundles w.st v.st) (fun s n => s.modCap n fun c =>
    { c with searches := [], early := [], held := [], buf := [], drop := none }) (fun _ _ hv => hv) _ (lanesOf b) hunits
  simp only [SameBundles, Work.capturesLost, Work.setMerge_rest, hregs, hopen, hwait, and_self]

theorem Work.regsOutside_walksLost (w : Work s₀) (b : Nat) : RegsOutside [.CAP_WALK] w.st (w.walksLost b).st := by
  unfold Work.walksLost
  refine Work.regsOutside_each _ _ _ fun x n => Work.regsOutside_each _ _ _ fun y k => ?_
  exact y.regsOutside_fresh.trans (Work.regsOutside_wreg _ _ _ _ (List.mem_singleton.mpr rfl))

/-- A capture domain that goes OFF with no bundle open has the pool shown anew. -/
theorem Work.domLose_capture_shows (w : Work s₀) (d x b u : Nat) (hd : wardPart d = some (.capture, x, b))
    (hopen : w.st.open_ = []) (hu : w.st.poolUsed = u + 1)
    (h : w.st.poolFollowed) (hold : w.st.get F.QUE_STAT_POOL_USED 0 ≤ u) (hv : u + 1 < 2 ^ 32) :
    (w.domLose d).st.get F.MU_STAT_VALUE 0 = u + 1 ∧
      (w.domLose d).st.get F.QUE_STAT_POOL_USED 0 = (u + 1) % 2 ^ 16 := by
  obtain ⟨hregs, hsame, hwait⟩ := w.capturesLost_sameBundles b
  rw [hopen] at hsame
  let y := (w.capturesLost b).setOpen_ []
  have hrewind : (w.capturesLost b).rewindOpen b = y.showPool := by
    simp only [Work.rewindOpen, hsame, List.filter_nil, Work.each, List.foldl_nil, y]
  have hused : y.st.poolUsed = u + 1 := by
    simp only [← hu, State.poolUsed, y, Work.setOpen__open_, Work.setOpen__rest, hwait, hopen]
  have hframe : RegsOutside [] w.st y.st := .of_regs_eq (by simp only [y, Work.setOpen__rest, hregs])
  obtain ⟨hvalue, hshown⟩ := y.showPool_grown u hused
    ((hframe.indices_eq (r := .MU_CFG) (by decide) _).trans h)
    (Nat.le_trans (Nat.le_of_eq (hframe.get_eq (f := F.QUE_STAT_POOL_USED) (by decide) 0)) hold) hv
  have hlose := y.showPool.regsOutside_walksLost b
  rw [w.domLose_capture d x b hd, hrewind, hlose.get_eq (by decide), hlose.get_eq (by decide)]
  exact ⟨hvalue, hshown⟩

/-- A change to OFF from another state, of a domain but PD84, loses the domain's contents. -/
theorem Work.domDone_off (w : Work s₀) (d x : Nat) (h : w.st.pwr.pend.find? (·.1 == d) = some (d, x)) (hst : x % 4 = 0)
    (hold : x / 4 ≠ 0) (hd : d ≠ 84) :
    w.domDone d =
      ((w.modPwr fun p => { p with pend := p.pend.filter (·.1 != d) }).setDom d 0).domLose d := by
  unfold Work.domDone
  rw [h]
  simp [hst, hold, hd, Work.when]

/-! ## A pool with more buffers than POOL_USED can show -/

/-- A bundle of producer 0x20, which no capture domain holds, in an assembly buffer. -/
def bufferedBundle : Bundle :=
  { q := 0, producer := 0x20, recs := [], floor := 0, horizon := 0, openT := 0, openH := 0 }

/-- Monitor unit 0 follows the pool; 65,536 closed bundles hold a buffer; capture domain PD5 is about to be OFF. -/
def overfullPool : State :=
  { regs := [(Reg.key .MU_CFG 0, 7)], wait := List.replicate 65536 bufferedBundle, pwr := { pend := [(5, 8)] } }

theorem overfullPool_poolUsed : overfullPool.poolUsed = 65535 + 1 := by
  have hbuf : bufferedBundle.buf = true := rfl
  have happ : overfullPool.open_ ++ overfullPool.wait = List.replicate 65536 bufferedBundle := rfl
  unfold State.poolUsed
  rw [happ, List.filter_replicate_of_pos hbuf, List.length_replicate]

end Sys2Proof.Machine

section

open Sys2Proof.Machine

/-- Refutes O51: the clause of a capture domain that goes OFF says that the monitor units are as they were where
POOL_USED reads as before. POOL_USED has 16 bits: with 65,536 buffers in use it reads 0 before and after, and a monitor
unit that follows the pool takes the samples 1 to 65,536 (R393). R257 keeps a pool from growing so far, but the clause
asks nothing of the pool. -/
theorem not_domainsChange : ¬ Obligations.DomainsChange := by
  unfold Obligations.DomainsChange
  rintro ⟨-, -, hdone⟩
  obtain ⟨-, -, -, hblock, -⟩ := hdone overfullPool 0 5 8 rfl (by decide)
  obtain ⟨-, -, hoff, -⟩ := hblock (by decide) 0 (by decide)
  obtain ⟨n, hn, -, -, -, -, -, -, -, -, -, -, hregs, -⟩ := hoff rfl rfl
  let w := (((Work.start overfullPool).at 0).modPwr fun p => { p with pend := p.pend.filter (·.1 != 5) }).setDom 5 0
  have hstep : exec (.domainChangeDone 0 5) overfullPool = .next (w.domLose 5).st :=
    congrArg (fun v : Work overfullPool => Host.Outcome.next v.st)
      (Work.domDone_off _ 5 8 rfl rfl (by decide) (by decide))
  have hframe : RegsOutside [.PWR_DSTAT] overfullPool w.st :=
    RegsOutside.trans (.of_regs_eq rfl) (Work.regsOutside_put _ _ _ _ (by decide))
  have hempty : overfullPool.get F.QUE_STAT_POOL_USED 0 = 0 := by decide
  have hbefore : w.st.get F.QUE_STAT_POOL_USED 0 = 0 := (hframe.get_eq (by decide) 0).trans hempty
  obtain ⟨hvalue, hshown⟩ := w.domLose_capture_shows 5 0 0 65535 rfl rfl overfullPool_poolUsed
    (hframe.indices_eq (r := .MU_CFG) (by decide) _) (Nat.le_trans (Nat.le_of_eq hbefore) (Nat.zero_le _)) (by decide)
  obtain rfl : (w.domLose 5).st = n := by injection hstep.symm.trans hn
  have hpool : overfullPool.get F.QUE_STAT_POOL_USED 0 = (w.domLose 5).st.get F.QUE_STAT_POOL_USED 0 :=
    hempty.trans hshown.symm
  have hsame := hregs hpool .MU_STAT 0 (by simp)
  have hzero : (w.domLose 5).st.get F.MU_STAT_VALUE 0 = 0 := congrArg F.MU_STAT_VALUE.of hsame
  exact absurd (hzero.symm.trans hvalue) (by decide)

end

/-! ## Repeated work at single places -/

namespace Sys2Proof.Machine

variable {s₀ : State}

/-- Rounds that each change one place of `π`, by a change that twice is once, change the places of their list. -/
theorem Work.each_pointwise {α β : Type} [DecidableEq α] (g : Work s₀ → α → Work s₀) (π : Work s₀ → α → β)
    (f : α → β → β) (Inv : Work s₀ → Prop) (hinv : ∀ v a, Inv v → Inv (g v a))
    (hstep : ∀ v a b, Inv v → π (g v a) b = if b = a then f b (π v b) else π v b) (htwice : ∀ a x, f a (f a x) = f a x)
    (w : Work s₀) (xs : List α) (hw : Inv w) (b : α) : π (w.each xs g) b = if b ∈ xs then f b (π w b) else π w b := by
  induction xs generalizing w with
  | nil => simp [Work.each]
  | cons a xs ih =>
    have hrest : π (w.each (a :: xs) g) b = if b ∈ xs then f b (π (g w a) b) else π (g w a) b :=
      ih (g w a) (hinv w a hw)
    rw [hrest, hstep w a b hw]
    by_cases hba : b = a <;> by_cases hbx : b ∈ xs <;> simp [hba, hbx, htwice]

/-! ## What the parts of an event reach -/

/-- The source `x` but for what a moderation unit holds of it. -/
def SrcSt.unheld (x : SrcSt) : SrcSt := { x with held := false }

/-- Every source is in `n` what it was in `s`, but for its HELD bit. -/
def HeldAlone (s n : State) : Prop := ∀ k, (n.srcAt k).unheld = (s.srcAt k).unheld

theorem HeldAlone.refl (s : State) : HeldAlone s s := fun _ => rfl

theorem HeldAlone.trans {s n m : State} (h : HeldAlone s n) (g : HeldAlone n m) : HeldAlone s m :=
  fun k => (g k).trans (h k)

theorem HeldAlone.of_src_eq {s n : State} (h : n.src = s.src) : HeldAlone s n := fun k => by
  unfold State.srcAt; rw [h]

theorem HeldAlone.level {s n : State} (h : HeldAlone s n) (k : Nat) : (n.srcAt k).level = (s.srcAt k).level :=
  (congrArg SrcSt.level (h k) :)

theorem HeldAlone.latch {s n : State} (h : HeldAlone s n) (k : Nat) : (n.srcAt k).latch = (s.srcAt k).latch :=
  (congrArg SrcSt.latch (h k) :)

theorem HeldAlone.last {s n : State} (h : HeldAlone s n) (k : Nat) : (n.srcAt k).last = (s.srcAt k).last :=
  (congrArg SrcSt.last (h k) :)

theorem HeldAlone.en {s n : State} (h : HeldAlone s n) (k : Nat) : (n.srcAt k).en = (s.srcAt k).en :=
  (congrArg SrcSt.en (h k) :)

theorem HeldAlone.active {s n : State} (h : HeldAlone s n) (k : Nat) : (n.srcAt k).active = (s.srcAt k).active :=
  (congrArg SrcSt.active (h k) :)

/-- A change of one source. -/
theorem Work.srcAt_modSrc (w : Work s₀) (k j : Nat) (f : SrcSt → SrcSt) :
    (w.modSrc k f).st.srcAt j = if j = k then f (w.st.srcAt j) else w.st.srcAt j := by
  unfold Work.modSrc
  rw [Work.srcAt_set]
  split
  · next h => subst h; rfl
  · rfl

theorem Work.srcAt_modSrc_same (w : Work s₀) (k : Nat) (f : SrcSt → SrcSt) :
    (w.modSrc k f).st.srcAt k = f (w.st.srcAt k) := by simp [Work.srcAt_modSrc]

theorem Work.heldAlone_modSrc (w : Work s₀) (k : Nat) (f : SrcSt → SrcSt) (h : ∀ x, (f x).unheld = x.unheld) :
    HeldAlone w.st (w.modSrc k f).st := fun j => by
  rw [Work.srcAt_modSrc]
  split
  · exact h _
  · rfl

/-- `n` comes from `s` by messages of vectors. -/
def MsgFrame (s n : State) : Prop :=
  n = { s with regs := n.regs, vec := n.vec, host := n.host } ∧ RegsOutside [.HV_STAT, .HV_FERR] s n

theorem MsgFrame.refl (s : State) : MsgFrame s s := ⟨rfl, .refl _ _⟩

theorem MsgFrame.trans {s n m : State} (h : MsgFrame s n) (g : MsgFrame n m) : MsgFrame s m :=
  ⟨g.1.trans (congrArg (fun x : State => { x with regs := m.regs, vec := m.vec, host := m.host }) h.1), h.2.trans g.2⟩

theorem Work.msgFrame_setVec (w : Work s₀) (k : Nat) (x : VecSt) : MsgFrame w.st (w.setVec k x).st :=
  ⟨rfl, .of_regs_eq rfl⟩

theorem Work.msgFrame_put (w : Work s₀) (f : Fld) (i x : Nat) (h : f.reg ∈ [Reg.HV_STAT, .HV_FERR]) :
    MsgFrame w.st (w.put f i x).st := ⟨rfl, w.regsOutside_put f i x h⟩

theorem Work.msgFrame_when (w : Work s₀) (c : Bool) (g : Work s₀ → Work s₀) (h : MsgFrame w.st (g w).st) :
    MsgFrame w.st (w.when c g).st := by
  cases c
  · exact .refl _
  · exact h

theorem Work.msgFrame_hostWrite (w : Work s₀) (f a : Nat) (bs : List Byte) : MsgFrame w.st (w.hostWrite f a bs).st :=
  Work.each_keeps (fun v => MsgFrame w.st v.st) (fun s (x : Byte × Nat) => s.setHost (hostKey f (a + x.2)) x.1)
    (fun _ _ hv => hv.trans ⟨rfl, .of_regs_eq rfl⟩) w bs.zipIdx (.refl _)

theorem Work.msgFrame_vecFire (w : Work s₀) (v : Nat) : MsgFrame w.st (w.vecFire v).st :=
  ((w.msgFrame_setVec _ _).trans (Work.msgFrame_hostWrite _ _ _ _)).trans (Work.msgFrame_put _ _ _ _ (by decide))

theorem Work.msgFrame_vecSend (w : Work s₀) (v : Nat) : MsgFrame w.st (w.vecSend v).st := by
  have hclear : MsgFrame w.st (((w.put F.HV_STAT_HELD_CNT v 0).put F.HV_STAT_TIMING v 0).modVec v
      fun x => { x with due := none }).st :=
    ((w.msgFrame_put _ _ _ (by decide)).trans (Work.msgFrame_put _ _ _ _ (by decide))).trans
      (Work.msgFrame_setVec _ _ _)
  unfold Work.vecSend
  dsimp only
  split
  · exact hclear.trans (Work.msgFrame_setVec _ _ _)
  · exact hclear.trans (Work.msgFrame_vecFire _ _)

theorem Work.msgFrame_vecStart (w : Work s₀) (v : Nat) : MsgFrame w.st (w.vecStart v).st :=
  w.msgFrame_when _ _ ((w.msgFrame_setVec _ _).trans (Work.msgFrame_put _ _ _ _ (by decide)))

/-- A notification event reaches vectors and host memory alone (R295, R296). -/
theorem Work.msgFrame_notify (w : Work s₀) (f v : Nat) : MsgFrame w.st (w.notify f v).st := by
  unfold Work.notify
  split
  · exact w.msgFrame_put _ _ _ (by decide)
  · have hstart : ∀ c : Bool, MsgFrame w.st ((w.count F.HV_STAT_HELD_CNT v).when c fun s => s.vecStart v).st := fun c =>
      (w.msgFrame_put _ _ _ (by decide)).trans (Work.msgFrame_when _ _ _ (Work.msgFrame_vecStart _ v))
    dsimp only
    split
    · exact (hstart _).trans (Work.msgFrame_vecSend _ _)
    · exact hstart _

/-- `n` comes from `s` by the waking of cores. -/
def WakeFrame (s n : State) : Prop :=
  n = { s with regs := n.regs, core := n.core, pwr := { s.pwr with pend := n.pwr.pend } } ∧
    RegsOutside [.PWR_DSTAT] s n

theorem WakeFrame.refl (s : State) : WakeFrame s s := ⟨rfl, .refl _ _⟩

theorem WakeFrame.trans {s n m : State} (h : WakeFrame s n) (g : WakeFrame n m) : WakeFrame s m :=
  ⟨g.1.trans (congrArg (fun x : State =>
    { x with regs := m.regs, core := m.core, pwr := { x.pwr with pend := m.pwr.pend } }) h.1), h.2.trans g.2⟩

theorem WakeFrame.src_eq {s n : State} (h : WakeFrame s n) : n.src = s.src := (congrArg State.src h.1 :)

/-- A source of whose TARGET core `c` is wakes it: from WFI at once, from RETAIN through the PMU (R293). -/
def Work.wakeCore (w : Work s₀) (k c : Nat) : Work s₀ :=
  w.when (bit (w.get F.INT_SRC_TARGET k) c) fun s =>
    let s := s.when (s.core c).wfi fun s => s.setCore c { s.core c with wfi := false }
    s.when (s.st.dom (81 + c) == 1 && s.st.domOn 85) fun s =>
      let p := s.st.pwr
      (s.setDom (81 + c) 3).setPwr { p with pend := p.pend ++ [(81 + c, 6)] }

theorem Work.wakeFor_eq (w : Work s₀) (k : Nat) : w.wakeFor k =
    if w.st.enabledSrc k && w.st.pendOf k && !w.st.heldNow k then w.each [0, 1, 2, 3] fun s c => s.wakeCore k c
    else w :=
  rfl

theorem Work.wakeFrame_when (w : Work s₀) (c : Bool) (g : Work s₀ → Work s₀) (h : WakeFrame w.st (g w).st) :
    WakeFrame w.st (w.when c g).st := by
  cases c
  · exact .refl _
  · exact h

theorem Work.regsOutside_setDom (w : Work s₀) (d x : Nat) : RegsOutside [.PWR_DSTAT] w.st (w.setDom d x).st :=
  w.regsOutside_put ⟨.PWR_DSTAT, 2 * (d % 32), 2⟩ (d / 32) x (List.mem_singleton.mpr rfl)

theorem Work.wakeFrame_wakeCore (w : Work s₀) (k c : Nat) : WakeFrame w.st (w.wakeCore k c).st := by
  have hpmu : ∀ v : Work s₀, WakeFrame v.st
      ((v.setDom (81 + c) 3).setPwr { v.st.pwr with pend := v.st.pwr.pend ++ [(81 + c, 6)] }).st := fun v =>
    ⟨rfl, (v.regsOutside_setDom (81 + c) 3).trans (.of_regs_eq rfl)⟩
  refine w.wakeFrame_when _ _ (WakeFrame.trans (n := (w.when (w.core c).wfi fun s =>
    s.setCore c { s.core c with wfi := false }).st) ?_ (Work.wakeFrame_when _ _ _ (hpmu _)))
  exact w.wakeFrame_when _ _ ⟨rfl, .of_regs_eq rfl⟩

/-- The waking of cores reaches cores and power domains alone (R293). -/
theorem Work.wakeFrame_wakeFor (w : Work s₀) (k : Nat) : WakeFrame w.st (w.wakeFor k).st := by
  rw [Work.wakeFor_eq]
  split
  · exact Work.each_keeps (fun v => WakeFrame w.st v.st) _ (fun v c hv => hv.trans (v.wakeFrame_wakeCore k c)) w _
      (.refl _)
  · exact .refl _

/-- The core that wakes leaves WFI. -/
theorem Work.wfi_wakeCore (w : Work s₀) (k c d : Nat) : ((w.wakeCore k c).st.coreAt d).wfi =
    if d = c then (w.st.coreAt d).wfi && !bit (w.get F.INT_SRC_TARGET k) d else (w.st.coreAt d).wfi := by
  have hawake : ∀ v : Work s₀,
      ((v.when (v.core c).wfi fun s => s.setCore c { s.core c with wfi := false }).st.coreAt d).wfi =
        if d = c then false else (v.st.coreAt d).wfi := fun v => by
    cases hwfi : (v.core c).wfi
    · rw [Work.when_false]
      split
      · next h => rw [h]; exact hwfi
      · rfl
    · rw [Work.when_true, Work.coreAt_set]
      split <;> rfl
  have hpmu : ∀ (v : Work s₀) (b : Bool), ((v.when b fun s => (s.setDom (81 + c) 3).setPwr
      { s.st.pwr with pend := s.st.pwr.pend ++ [(81 + c, 6)] }).st.coreAt d) = v.st.coreAt d := fun v b => by
    cases b <;> rfl
  unfold Work.wakeCore
  cases hbit : bit (w.get F.INT_SRC_TARGET k) c
  · rw [Work.when_false]
    split
    · next h => subst h; simp [hbit]
    · rfl
  · rw [Work.when_true]
    dsimp only
    rw [hpmu, hawake]
    split
    · next h => subst h; simp [hbit]
    · rfl

/-- A source that is enabled, pending and not held wakes the cores of its TARGET from WFI (R293). -/
theorem Work.wfi_wakeFor (w : Work s₀) (k c : Nat) (hc : c < 4) (hen : w.st.enabledSrc k = true)
    (hpend : w.st.pendOf k = true) (hheld : w.st.heldNow k = false) : ((w.wakeFor k).st.coreAt c).wfi =
    ((w.st.coreAt c).wfi && !bit (w.st.get F.INT_SRC_TARGET k) c) := by
  have hmem : c ∈ [0, 1, 2, 3] := by simp; omega
  rw [Work.wakeFor_eq, hen, hpend, hheld]
  have hpoint := Work.each_pointwise (fun (s : Work s₀) c => s.wakeCore k c) (fun v d => (v.st.coreAt d).wfi)
    (fun d b => b && !bit (w.get F.INT_SRC_TARGET k) d) (fun v => v.get F.INT_SRC_TARGET k = w.get F.INT_SRC_TARGET k)
    (fun v c hv => ((v.wakeFrame_wakeCore k c).2.get_eq (by decide) k).trans hv)
    (fun v c d hv => by rw [← hv]; exact v.wfi_wakeCore k c d) (fun d b => by simp) w [0, 1, 2, 3] rfl c
  rw [if_pos hmem] at hpoint
  exact hpoint

/-- A moderation unit that closes changes what it shows alone. -/
theorem Work.modClose_rest (w : Work s₀) (u : Nat) : (w.modClose u).st = { w.st with regs := (w.modClose u).st.regs } ∧
    RegsOutside [.INT_MOD_STAT] w.st (w.modClose u).st := by
  unfold Work.modClose Work.when
  split
  · exact ⟨rfl, w.regsOutside_put _ _ _ (by decide)⟩
  · exact ⟨rfl, .refl _ _⟩

theorem Work.modCloseOf_rest (w : Work s₀) (k : Nat) :
    (w.modCloseOf k).st = { w.st with regs := (w.modCloseOf k).st.regs } ∧
      RegsOutside [.INT_MOD_STAT] w.st (w.modCloseOf k).st := by
  unfold Work.modCloseOf
  split
  · exact w.modClose_rest _
  · exact ⟨rfl, .refl _ _⟩

end Sys2Proof.Machine

/-! ## Moderation units and events (R284, R295) -/

namespace Sys2Proof.Machine

variable {s₀ : State}

theorem MsgFrame.src_eq {s n : State} (h : MsgFrame s n) : n.src = s.src := (congrArg State.src h.1 :)

theorem MsgFrame.modTAt_eq {s n : State} (h : MsgFrame s n) : n.modTAt = s.modTAt := (congrArg State.modTAt h.1 :)

theorem WakeFrame.modTAt_eq {s n : State} (h : WakeFrame s n) : n.modTAt = s.modTAt := (congrArg State.modTAt h.1 :)

theorem State.srcAt_eq {s n : State} (h : n.src = s.src) : n.srcAt = s.srcAt := by unfold State.srcAt; rw [h]

/-- The waking of cores for a source leaves every source. -/
theorem Work.srcAt_wakeFor (w : Work s₀) (k : Nat) : (w.wakeFor k).st.srcAt = w.st.srcAt :=
  State.srcAt_eq (w.wakeFrame_wakeFor k).src_eq

theorem Work.srcAt_modCloseOf (w : Work s₀) (k : Nat) : (w.modCloseOf k).st.srcAt = w.st.srcAt :=
  State.srcAt_eq (congrArg State.src (w.modCloseOf_rest k).1 :)

/-- A source that a moderation unit holds wakes no core. -/
theorem Work.wakeFor_of_held (w : Work s₀) (k : Nat) (h : (w.st.srcAt k).held = true) : w.wakeFor k = w := by
  have hnow : w.st.heldNow k = true := by unfold State.heldNow; rw [h]; rfl
  rw [Work.wakeFor_eq, hnow]
  simp

/-! ### A unit opens -/

/-- The sources that moderation unit `u` holds. -/
def State.heldBy (s : State) (u : Nat) : List Nat :=
  (s.src.filter fun (k, x) => x.held && s.modUnit k == some u).map (·.1)

/-- The HELD bits of the sources `ks` are cleared. -/
def Work.unholdAll (w : Work s₀) (ks : List Nat) : Work s₀ :=
  w.each ks fun s k => s.modSrc k fun x => { x with held := false }

/-- INT_MOD_STAT of unit `u` shows it OPEN, its count and its timer at rest. -/
def Work.showOpen (w : Work s₀) (u : Nat) : Work s₀ :=
  let w := ((w.put F.INT_MOD_STAT_CNT u 0).put F.INT_MOD_STAT_TIMING u 0).setModT u none
  (w.flag F.INT_MOD_STAT_OPEN u).wrap F.INT_MOD_STAT_FIRES u

theorem Work.modOpen_eq (w : Work s₀) (u : Nat) : w.modOpen u =
    (((w.unholdAll (w.st.heldBy u)).showOpen u).each (w.st.heldBy u) fun s k => s.wakeFor k).modClose u := rfl

/-- A held source is in the list of the unit to which it is bound. -/
theorem State.mem_heldBy (s : State) (u k : Nat) (hheld : (s.srcAt k).held = true) (hu : s.modUnit k = some u) :
    k ∈ s.heldBy u := by
  have hne : s.srcAt k ≠ {} := fun e => by rw [e] at hheld; cases hheld
  have hmem : (k, s.srcAt k) ∈ s.src := Tab.mem_of_get_ne _ s.src k hne
  exact List.mem_map.mpr ⟨_, List.mem_filter.mpr ⟨hmem, by simp [hu, hheld]⟩, rfl⟩

theorem State.modUnit_of_mem_heldBy (s : State) (u k : Nat) (h : k ∈ s.heldBy u) : s.modUnit k = some u := by
  obtain ⟨⟨j, x⟩, hmem, rfl⟩ := List.mem_map.mp h
  simpa using (Bool.and_eq_true_iff.mp (List.mem_filter.mp hmem).2).2

theorem Work.srcAt_unholdAll (w : Work s₀) (ks : List Nat) (j : Nat) : (w.unholdAll ks).st.srcAt j =
    if j ∈ ks then { w.st.srcAt j with held := false } else w.st.srcAt j :=
  Work.each_pointwise (fun s k => s.modSrc k fun x => { x with held := false }) (fun v j => v.st.srcAt j)
    (fun _ x => { x with held := false }) (fun _ => True) (fun _ _ _ => trivial)
    (fun v k j _ => v.srcAt_modSrc k j _) (fun _ _ => rfl) w ks trivial j

theorem Work.unholdAll_rest (w : Work s₀) (ks : List Nat) :
    (w.unholdAll ks).st = { w.st with src := (w.unholdAll ks).st.src } :=
  let unhold := fun (v : Work s₀) (k : Nat) => v.modSrc k fun x => { x with held := false }
  Work.each_keeps (fun v => v.st = { w.st with src := v.st.src }) unhold
    (fun v k hv => (congrArg (fun x : State => { x with src := (unhold v k).st.src }) hv :)) w ks rfl

@[simp] theorem Work.showOpen_src (w : Work s₀) (u : Nat) : (w.showOpen u).st.src = w.st.src := by
  simp [Work.showOpen]

@[simp] theorem Work.showOpen_small (w : Work s₀) (u : Nat) : (w.showOpen u).st.small = w.st.small := by
  simp [Work.showOpen]

@[simp] theorem Work.showOpen_calBlk (w : Work s₀) (u : Nat) : (w.showOpen u).st.calBlk = w.st.calBlk := by
  simp [Work.showOpen]

theorem Work.regsOutside_setModT {rs : List Reg} (w : Work s₀) (u : Nat) (x : Option Nat) :
    RegsOutside rs w.st (w.setModT u x).st := .of_regs_eq rfl

theorem Work.regsOutside_showOpen (w : Work s₀) (u : Nat) : RegsOutside [.INT_MOD_STAT] w.st (w.showOpen u).st := by
  refine RegsOutside.trans ?_ (Work.regsOutside_put _ _ _ _ (by decide))
  refine RegsOutside.trans ?_ (Work.regsOutside_put _ _ _ _ (by decide))
  refine RegsOutside.trans ?_ (Work.regsOutside_setModT _ _ _)
  exact (w.regsOutside_put _ _ _ (by decide)).trans (Work.regsOutside_put _ _ _ _ (by decide))

theorem Work.modTAt_showOpen (w : Work s₀) (u : Nat) : (w.showOpen u).st.modTAt u = none := by
  simp only [Work.showOpen, State.modTAt, Work.wrap_rest, Work.flag_rest]
  exact Work.modTAt_set_same _ u none

/-- What INT_MOD_STAT shows of a unit that has just opened. -/
theorem Work.get_showOpen (w : Work s₀) (u : Nat) :
    (w.showOpen u).st.get F.INT_MOD_STAT_CNT u = 0 ∧ (w.showOpen u).st.get F.INT_MOD_STAT_TIMING u = 0 ∧
      (w.showOpen u).st.get F.INT_MOD_STAT_OPEN u = 1 ∧
      (w.showOpen u).st.get F.INT_MOD_STAT_FIRES u =
        (w.st.get F.INT_MOD_STAT_FIRES u + 1) % 2 ^ F.INT_MOD_STAT_FIRES.w := by
  let rest := (w.put F.INT_MOD_STAT_CNT u 0).put F.INT_MOD_STAT_TIMING u 0
  have htimer : ∀ f : Fld, (rest.setModT u none).st.get f u = rest.st.get f u := fun _ => rfl
  have hopen : w.showOpen u = ((rest.setModT u none).put F.INT_MOD_STAT_OPEN u 1).put F.INT_MOD_STAT_FIRES u
    (((rest.setModT u none).put F.INT_MOD_STAT_OPEN u 1).get F.INT_MOD_STAT_FIRES u + 1) := rfl
  rw [hopen]
  refine ⟨?_, ?_, ?_, ?_⟩
  · rw [Work.get_put_beside, Work.get_put_beside, htimer, Work.get_put_beside, Work.get_put_same, Nat.zero_mod] <;>
      decide
  · rw [Work.get_put_beside, Work.get_put_beside, htimer, Work.get_put_same, Nat.zero_mod] <;> decide
  · rw [Work.get_put_beside, Work.get_put_same] <;> decide
  · rw [Work.get_put_same, Work.get, Work.get_put_beside, htimer, Work.get_put_beside, Work.get_put_beside] <;> decide

theorem Work.wakeFrame_each (w : Work s₀) (ks : List Nat) : WakeFrame w.st (w.each ks fun s k => s.wakeFor k).st :=
  Work.each_keeps (fun v => WakeFrame w.st v.st) _ (fun v k hv => hv.trans (v.wakeFrame_wakeFor k)) w ks (.refl _)

theorem Work.get_modClose_beside (w : Work s₀) (u : Nat) (f : Fld) (i : Nat)
    (h : F.INT_MOD_STAT_OPEN.lo + F.INT_MOD_STAT_OPEN.w ≤ f.lo ∨ f.lo + f.w ≤ F.INT_MOD_STAT_OPEN.lo) :
    (w.modClose u).st.get f i = w.st.get f i := by
  unfold Work.modClose Work.when
  split
  · exact Work.get_put_beside _ _ _ _ _ _ (by decide) h
  · rfl

/-- An open unit stays open while a source bound to it is pending. -/
theorem Work.on_modClose (w : Work s₀) (u : Nat) (h : w.st.get F.INT_MOD_STAT_OPEN u = 1) :
    (w.modClose u).st.on F.INT_MOD_STAT_OPEN u = (w.st.boundSrcs u).any w.st.pendOf := by
  have hopen : w.on F.INT_MOD_STAT_OPEN u = true := by unfold Work.on State.on; rw [h]; rfl
  unfold Work.modClose
  rw [hopen]
  cases (w.st.boundSrcs u).any w.st.pendOf
  · have hput := Work.get_put_same w F.INT_MOD_STAT_OPEN u 0 (by decide)
    simp [State.on, hput]
  · exact hopen

/-! ### What events leave -/

theorem Work.heldAlone_modOpen (w : Work s₀) (u : Nat) : HeldAlone w.st (w.modOpen u).st := by
  have hunheld : HeldAlone w.st (w.unholdAll (w.st.heldBy u)).st := fun j => by
    rw [Work.srcAt_unholdAll]; split <;> rfl
  have hopen : HeldAlone w.st ((w.unholdAll (w.st.heldBy u)).showOpen u).st :=
    hunheld.trans (.of_src_eq (Work.showOpen_src _ u))
  rw [Work.modOpen_eq]
  exact (hopen.trans (.of_src_eq (Work.wakeFrame_each _ _).src_eq)).trans
    (.of_src_eq (congrArg State.src (Work.modClose_rest _ u).1 :))

theorem Work.heldAlone_when (w : Work s₀) (c : Bool) (g : Work s₀ → Work s₀)
    (h : ∀ v : Work s₀, HeldAlone v.st (g v).st) : HeldAlone w.st (w.when c g).st := by
  cases c
  · exact .refl _
  · exact h w

theorem Work.heldAlone_modEvent (w : Work s₀) (k : Nat) : HeldAlone w.st (w.modEvent k).st := by
  unfold Work.modEvent
  split
  · exact .refl _
  · next u _ =>
    split
    · exact .refl _
    · dsimp only
      refine HeldAlone.trans ?_ (Work.heldAlone_when _ _ _ fun v => v.heldAlone_modOpen u)
      refine HeldAlone.trans ?_ (Work.heldAlone_when _ _ _ fun v => .of_src_eq (by simp))
      exact (w.heldAlone_modSrc k (fun x => { x with held := true }) fun _ => rfl).trans (.of_src_eq (by simp))

/-- An event of a source changes no source but in its HELD bit. -/
theorem Work.heldAlone_srcEvent (w : Work s₀) (k : Nat) : HeldAlone w.st (w.srcEvent k).st := by
  unfold Work.srcEvent
  dsimp only
  refine HeldAlone.trans ((w.heldAlone_modEvent k).trans (Work.heldAlone_when _ _ _ fun v => ?_))
    (.of_src_eq (Work.wakeFrame_wakeFor _ k).src_eq)
  exact .of_src_eq (v.msgFrame_notify _ _).src_eq

end Sys2Proof.Machine

/-! ## What PEND depends on (R280) -/

namespace Sys2Proof.Machine

variable {s₀ : State}

/-- The registers that moderation units and the waking of cores write, of which no input depends. -/
def eventRegs : List Reg := [.INT_MOD_STAT, .PWR_DSTAT]

section Inputs

variable {s n : State} (h : RegsOutside eventRegs s n)

include h

theorem State.raised_congr {r : Reg} (hr : r ∉ eventRegs) : n.raised r = s.raised r := by
  unfold State.raised; simp only [h.reg_eq hr]

theorem State.laneOfUnit_congr (hcal : n.calBlk = s.calBlk) (u : Nat) : n.laneOfUnit u = s.laneOfUnit u := by
  have hcarried : n.carried = s.carried := by
    unfold State.carried; simp only [h.get_eq (f := F.CAL_LSTAT_CARRY_POS) (by decide)]
  have hloop : n.loopLane = s.loopLane := by
    unfold State.loopLane State.on
    simp only [h.get_eq (f := F.TIM_LOOP_ACTIVE) (by decide), h.get_eq (f := F.TIM_LOOP_LB_POS) (by decide)]
  have hpos : n.get F.CAL_BSTAT_POS = s.get F.CAL_BSTAT_POS := funext (h.get_eq (by decide))
  have hblk : n.calBlkAt = s.calBlkAt := by unfold State.calBlkAt; rw [hcal]
  unfold State.laneOfUnit State.reliefLane
  rw [hcarried, hloop, hpos, hblk]

theorem State.freRaised_congr (hcal : n.calBlk = s.calBlk) : n.freRaised = s.freRaised := by
  unfold State.freRaised
  simp only [h.reg_eq (r := .FRE_EVT) (by decide), h.reg_eq (r := .FRE_IE) (by decide), State.laneOfUnit_congr h hcal]

theorem State.pairRaised_congr : n.pairRaised = s.pairRaised := by
  unfold State.pairRaised
  simp only [h.indices_eq (r := .PAIR_EVT) (by decide), h.get_eq (f := F.PAIR_CFG_LANE_A) (by decide),
    State.raised_congr h (r := .PAIR_EVT) (by decide)]

/-- The inputs that registers define do not depend on what a unit shows or which cores are awake. -/
theorem State.inputOf_congr (hcal : n.calBlk = s.calBlk) (k : Nat) : n.inputOf k = s.inputOf k := by
  have hraised : ∀ r, r ∉ eventRegs → n.raised r = s.raised r := fun r hr => State.raised_congr h hr
  have hvalid : n.on F.ACC_VSTAT_VALID = s.on F.ACC_VSTAT_VALID := by
    unfold State.on; simp only [h.get_eq (f := F.ACC_VSTAT_VALID) (by decide)]
  have hie : n.on F.ACC_VSTAT_IE = s.on F.ACC_VSTAT_IE := by
    unfold State.on; simp only [h.get_eq (f := F.ACC_VSTAT_IE) (by decide)]
  unfold State.inputOf
  rw [State.freRaised_congr h hcal, State.pairRaised_congr h, hvalid, hie, h.indices_eq (r := .QD_FLAGS) (by decide),
    hraised .CAL_LEVT (by decide), hraised .CNT_EVT (by decide), hraised .CAL_BEVT (by decide),
    hraised .FLT_EVT (by decide), hraised .HE_EVT (by decide), hraised .MU_EVT (by decide),
    hraised .QD_FLAGS (by decide), hraised .WEA_WEVT (by decide), hraised .LNK_GEVT (by decide),
    hraised .TIM_TEVT (by decide), hraised .TIM_OEVT (by decide), hraised .AXI_EVT (by decide),
    hraised .PWR_EVT (by decide), hraised .MON_EVT (by decide)]

end Inputs

/-- PEND of a source goes by its latch, its level and the inputs. -/
theorem State.pendOf_congr {s n : State} (h : RegsOutside eventRegs s n) (hsmall : n.small = s.small)
    (hcal : n.calBlk = s.calBlk) (hsrc : HeldAlone s n) (k : Nat) : n.pendOf k = s.pendOf k := by
  have hedge : n.senseEdge k = s.senseEdge k := congrArg (· == 1) (h.get_eq (f := F.INT_SRC_SENSE) (by decide) k)
  simp only [State.pendOf, State.srcMute, State.srcAbsent, State.input, hsmall, hedge, State.inputOf_congr h hcal,
    hsrc.latch, hsrc.level]

/-- The sources bound to a unit. -/
theorem State.boundSrcs_congr {s n : State} (h : RegsOutside eventRegs s n) (u : Nat) : n.boundSrcs u = s.boundSrcs u :=
  h.indices_eq (by decide) _

/-! ## The timer of a moderation unit (R284) -/

/-- A unit that opens, before it closes again where nothing is pending there. -/
def Work.opened (w : Work s₀) (u : Nat) : Work s₀ :=
  ((w.unholdAll (w.st.heldBy u)).showOpen u).each (w.st.heldBy u) fun s k => s.wakeFor k

theorem Work.modOpen_eq_opened (w : Work s₀) (u : Nat) : w.modOpen u = (w.opened u).modClose u := rfl

theorem Work.wakeFrame_opened (w : Work s₀) (u : Nat) :
    WakeFrame ((w.unholdAll (w.st.heldBy u)).showOpen u).st (w.opened u).st := Work.wakeFrame_each _ _

theorem WakeFrame.small_eq {s n : State} (h : WakeFrame s n) : n.small = s.small := (congrArg State.small h.1 :)

theorem WakeFrame.calBlk_eq {s n : State} (h : WakeFrame s n) : n.calBlk = s.calBlk := (congrArg State.calBlk h.1 :)

theorem Work.opened_small (w : Work s₀) (u : Nat) : (w.opened u).st.small = w.st.small := by
  rw [(w.wakeFrame_opened u).small_eq, Work.showOpen_small]
  exact (congrArg State.small (w.unholdAll_rest _) :)

theorem Work.opened_calBlk (w : Work s₀) (u : Nat) : (w.opened u).st.calBlk = w.st.calBlk := by
  rw [(w.wakeFrame_opened u).calBlk_eq, Work.showOpen_calBlk]
  exact (congrArg State.calBlk (w.unholdAll_rest _) :)

theorem Work.regsOutside_unholdAll {rs : List Reg} (w : Work s₀) (ks : List Nat) :
    RegsOutside rs w.st (w.unholdAll ks).st := .of_regs_eq (congrArg State.regs (w.unholdAll_rest ks) :)

theorem Work.regsOutside_opened (w : Work s₀) (u : Nat) : RegsOutside eventRegs w.st (w.opened u).st :=
  ((w.regsOutside_unholdAll _).trans ((Work.regsOutside_showOpen _ u).mono (by decide))).trans
    ((w.wakeFrame_opened u).2.mono (by decide))

/-- The opening releases all that the unit holds, and nothing else. -/
theorem Work.srcAt_opened (w : Work s₀) (u j : Nat) : (w.opened u).st.srcAt j =
    if j ∈ w.st.heldBy u then { w.st.srcAt j with held := false } else w.st.srcAt j := by
  rw [State.srcAt_eq (w.wakeFrame_opened u).src_eq, State.srcAt_eq (Work.showOpen_src _ u), Work.srcAt_unholdAll]

theorem Work.heldAlone_opened (w : Work s₀) (u : Nat) : HeldAlone w.st (w.opened u).st := fun j => by
  rw [Work.srcAt_opened]; split <;> rfl

theorem Work.held_opened (w : Work s₀) (u k : Nat) :
    ((w.opened u).st.srcAt k).held = ((w.st.srcAt k).held && w.st.modUnit k != some u) := by
  rw [Work.srcAt_opened]
  by_cases hmem : k ∈ w.st.heldBy u
  · simp [hmem, State.modUnit_of_mem_heldBy _ _ _ hmem]
  · rw [if_neg hmem]
    cases hheld : (w.st.srcAt k).held
    · rfl
    · have hne : w.st.modUnit k ≠ some u := fun hu => hmem (w.st.mem_heldBy u k hheld hu)
      simp [hne]

theorem Work.get_opened (w : Work s₀) (u : Nat) (f : Fld) (hf : f.reg = .INT_MOD_STAT) :
    (w.opened u).st.get f u = ((w.unholdAll (w.st.heldBy u)).showOpen u).st.get f u :=
  (w.wakeFrame_opened u).2.get_eq (by rw [hf]; decide) u

theorem Work.modTAt_modClose (w : Work s₀) (u : Nat) : (w.modClose u).st.modTAt = w.st.modTAt :=
  (congrArg State.modTAt (w.modClose_rest u).1 :)

theorem Work.srcAt_modClose (w : Work s₀) (u : Nat) : (w.modClose u).st.srcAt = w.st.srcAt :=
  (congrArg State.srcAt (w.modClose_rest u).1 :)

/-- A unit that opens is then at rest: its timer stopped, its count at 0, and OPEN while a bound source is pending. -/
theorem Work.modOpen_shows (w : Work s₀) (u : Nat) :
    (w.modOpen u).st.modTAt u = none ∧ (w.modOpen u).st.get F.INT_MOD_STAT_CNT u = 0 ∧
      (w.modOpen u).st.on F.INT_MOD_STAT_TIMING u = false ∧
      (w.modOpen u).st.on F.INT_MOD_STAT_OPEN u = (w.st.boundSrcs u).any w.st.pendOf ∧
      (w.modOpen u).st.get F.INT_MOD_STAT_FIRES u =
        (w.st.get F.INT_MOD_STAT_FIRES u + 1) % 2 ^ F.INT_MOD_STAT_FIRES.w := by
  obtain ⟨hcnt, htiming, hopen, hfires⟩ := (w.unholdAll (w.st.heldBy u)).get_showOpen u
  have hframe := w.regsOutside_opened u
  have hpend : (w.opened u).st.pendOf = w.st.pendOf := funext fun k =>
    State.pendOf_congr hframe (w.opened_small u) (w.opened_calBlk u) (w.heldAlone_opened u) k
  rw [Work.modOpen_eq_opened]
  refine ⟨?_, ?_, ?_, ?_, ?_⟩
  · rw [Work.modTAt_modClose, (w.wakeFrame_opened u).modTAt_eq, Work.modTAt_showOpen]
  · rw [Work.get_modClose_beside _ _ _ _ (by decide), w.get_opened u _ rfl, hcnt]
  · unfold State.on
    rw [Work.get_modClose_beside _ _ _ _ (by decide), w.get_opened u _ rfl, htiming]
    rfl
  · rw [Work.on_modClose _ _ ((w.get_opened u F.INT_MOD_STAT_OPEN rfl).trans hopen), State.boundSrcs_congr hframe,
      hpend]
  · rw [Work.get_modClose_beside _ _ _ _ (by decide), w.get_opened u _ rfl, hfires,
      (w.regsOutside_unholdAll (rs := []) _).get_eq (by simp)]

/-! ## A unit that goes on holding -/

/-- The timer of unit `u` starts with the TIME of its configuration. -/
def Work.startTimer (w : Work s₀) (u : Nat) : Work s₀ :=
  let t := max 1 (min 65000000 (w.get F.INT_MOD_CFG_TIME u))
  (w.setModT u (some (w.now + t * 163840))).flag F.INT_MOD_STAT_TIMING u

/-- An event that a closed unit counts and holds, its count not yet reached. -/
def Work.heldEvent (w : Work s₀) (k u : Nat) : Work s₀ :=
  ((w.modSrc k fun x => { x with held := true }).count F.INT_MOD_STAT_CNT u).when (!w.on F.INT_MOD_STAT_TIMING u)
    fun s => s.startTimer u

theorem Work.regsOutside_modSrc {rs : List Reg} (w : Work s₀) (k : Nat) (f : SrcSt → SrcSt) :
    RegsOutside rs w.st (w.modSrc k f).st := .of_regs_eq rfl

theorem Work.regsOutside_startTimer (w : Work s₀) (u : Nat) : RegsOutside [.INT_MOD_STAT] w.st (w.startTimer u).st :=
  (w.regsOutside_setModT u _).trans (Work.regsOutside_put _ _ _ _ (by decide))

theorem Work.get_startTimer_beside (w : Work s₀) (u : Nat) (f : Fld)
    (h : F.INT_MOD_STAT_TIMING.lo + F.INT_MOD_STAT_TIMING.w ≤ f.lo ∨ f.lo + f.w ≤ F.INT_MOD_STAT_TIMING.lo) :
    (w.startTimer u).st.get f u = w.st.get f u :=
  (Work.get_put_beside _ _ _ _ _ _ (by decide) h).trans ((w.regsOutside_setModT (rs := []) u _).get_eq (by simp) u)

theorem Work.get_when_startTimer (w : Work s₀) (c : Bool) (u : Nat) (f : Fld)
    (h : F.INT_MOD_STAT_TIMING.lo + F.INT_MOD_STAT_TIMING.w ≤ f.lo ∨ f.lo + f.w ≤ F.INT_MOD_STAT_TIMING.lo) :
    (w.when c fun s => s.startTimer u).st.get f u = w.st.get f u := by
  cases c
  · rfl
  · exact w.get_startTimer_beside u f h

section Holding

variable (w : Work s₀) (k u : Nat)

theorem Work.srcAt_heldEvent (j : Nat) :
    (w.heldEvent k u).st.srcAt j = if j = k then { w.st.srcAt j with held := true } else w.st.srcAt j := by
  have hsrc : (w.heldEvent k u).st.src = (w.modSrc k fun x => { x with held := true }).st.src := by
    unfold Work.heldEvent
    cases !w.on F.INT_MOD_STAT_TIMING u <;> simp [Work.startTimer]
  rw [State.srcAt_eq hsrc, Work.srcAt_modSrc]

theorem Work.modTAt_heldEvent : (w.heldEvent k u).st.modTAt u = if w.on F.INT_MOD_STAT_TIMING u then w.st.modTAt u
    else some (w.now + max 1 (min 65000000 (w.get F.INT_MOD_CFG_TIME u)) * 163840) := by
  have hcfg : ((w.modSrc k fun x => { x with held := true }).count F.INT_MOD_STAT_CNT u).st.get F.INT_MOD_CFG_TIME u =
      w.get F.INT_MOD_CFG_TIME u := Work.get_put_reg_ne _ _ _ _ _ _ (by simp [F.INT_MOD_CFG_TIME, F.INT_MOD_STAT_CNT])
  unfold Work.heldEvent
  cases w.on F.INT_MOD_STAT_TIMING u
  · simp only [Bool.not_false, Work.when_true, Work.startTimer, State.modTAt, Work.flag_rest, Work.get, hcfg]
    exact Work.modTAt_set_same _ u _
  · rfl

theorem Work.get_heldEvent_cnt (hfit : w.get F.INT_MOD_STAT_CNT u + 1 < 2 ^ F.INT_MOD_STAT_CNT.w) :
    (w.heldEvent k u).st.get F.INT_MOD_STAT_CNT u = w.get F.INT_MOD_STAT_CNT u + 1 := by
  have hmin : min (w.get F.INT_MOD_STAT_CNT u + 1) (2 ^ F.INT_MOD_STAT_CNT.w - 1) = w.get F.INT_MOD_STAT_CNT u + 1 := by
    omega
  unfold Work.heldEvent Work.count
  rw [Work.get_when_startTimer _ _ _ _ (by decide), Work.get_put_same _ _ _ _ (by decide)]
  exact (congrArg (· % 2 ^ F.INT_MOD_STAT_CNT.w) hmin).trans (Nat.mod_eq_of_lt hfit)

theorem Work.get_heldEvent_open : (w.heldEvent k u).st.get F.INT_MOD_STAT_OPEN u = w.get F.INT_MOD_STAT_OPEN u := by
  unfold Work.heldEvent Work.count
  rw [Work.get_when_startTimer _ _ _ _ (by decide), Work.get_put_beside _ _ _ _ _ _ (by decide) (by decide)]
  rfl

theorem Work.get_heldEvent_count : (w.heldEvent k u).st.get F.INT_MOD_CFG_COUNT u = w.get F.INT_MOD_CFG_COUNT u := by
  have hcount := fun x => Work.get_put_reg_ne (w.modSrc k fun x => { x with held := true }) F.INT_MOD_STAT_CNT
    F.INT_MOD_CFG_COUNT u u x (by simp [F.INT_MOD_CFG_COUNT, F.INT_MOD_STAT_CNT])
  unfold Work.heldEvent Work.count
  cases !w.on F.INT_MOD_STAT_TIMING u
  · exact hcount _
  · exact ((Work.regsOutside_startTimer _ u).get_eq (by decide) u).trans (hcount _)

/-- A closed unit whose count stays below COUNT holds the event. -/
theorem Work.modEvent_holds (hu : w.st.modUnit k = some u) (hopen : w.on F.INT_MOD_STAT_OPEN u = false)
    (hcount : w.get F.INT_MOD_STAT_CNT u + 1 < max 1 (w.get F.INT_MOD_CFG_COUNT u))
    (hfit : w.get F.INT_MOD_STAT_CNT u + 1 < 2 ^ F.INT_MOD_STAT_CNT.w) : w.modEvent k = w.heldEvent k u := by
  have hwait : decide
      (max 1 ((w.heldEvent k u).get F.INT_MOD_CFG_COUNT u) ≤ (w.heldEvent k u).get F.INT_MOD_STAT_CNT u) = false := by
    rw [Work.get, Work.get, w.get_heldEvent_count k u, w.get_heldEvent_cnt k u hfit]
    exact decide_eq_false (by omega)
  unfold Work.modEvent
  rw [hu]
  dsimp only
  rw [hopen]
  exact congrArg (fun c => (w.heldEvent k u).when c fun s => s.modOpen u) hwait

end Holding

end Sys2Proof.Machine

/-! ## Inputs (R280) -/

namespace Sys2Proof.Machine

variable {s₀ : State}

theorem NoteFrame.notedRegs {s n : State} (h : NoteFrame s n) (xs : List (Reg × Nat)) : NotedRegs s n xs :=
  fun r i hr _ => h.2 r i hr

/-- What an access leaves of a shadow is beside what a notification reaches. -/
theorem NoteFrame.with_shad {s n : State} {x : Tab ShadSt} (h : NoteFrame { s with shad := x } n) :
    n = { s.noted n with shad := n.shad } :=
  have hshad : n.shad = x := (congrArg State.shad h.1 :)
  h.1.trans (congrArg (fun y : Tab ShadSt => { s.noted n with shad := y }) hshad.symm)

theorem NoteFrame.small_eq {s n : State} (h : NoteFrame s n) : n.small = s.small := (congrArg State.small h.1 :)

theorem State.srcMute_congr {s n : State} (h : n.small = s.small) : n.srcMute = s.srcMute := by
  unfold State.srcMute State.srcAbsent; rw [h]

theorem State.pendOf_of_latch (s : State) (k : Nat) (hmute : s.srcMute k = false) (h : (s.srcAt k).latch = true) :
    s.pendOf k = true := by
  unfold State.pendOf; rw [hmute, h]; rfl

/-- The EIC has taken the level `lv` of source `k`. -/
def Work.takeLevel (w : Work s₀) (k : Nat) (lv : Bool) : Work s₀ := w.modSrc k fun x => { x with level := lv }

/-- The EIC has seen the input of edge source `k` rise. -/
def Work.riseSrc (w : Work s₀) (k : Nat) : Work s₀ :=
  (w.takeLevel k true).modSrc k fun x => { x with latch := true, last := some w.st.cycle }

theorem Work.srcAt_riseSrc (w : Work s₀) (k : Nat) : (w.riseSrc k).st.srcAt k =
    { w.st.srcAt k with level := true, latch := true, last := some w.st.cycle } := by
  unfold Work.riseSrc Work.takeLevel
  rw [Work.srcAt_modSrc_same, Work.srcAt_modSrc_same]

theorem Work.notes_riseSrc (w : Work s₀) (k : Nat) : w.Notes (w.riseSrc k) :=
  NoteFrame.trans (Work.notes_setSrc w k _) (Work.notes_setSrc _ _ _)

theorem Work.srcInput_mute (w : Work s₀) (k : Nat) (lv : Bool) (h : w.st.srcMute k = true) : w.srcInput k lv = w := by
  unfold Work.srcInput
  rw [h]
  simp

section Input

variable (w : Work s₀) (k : Nat) (lv : Bool) (hk : k < 976 ∨ 992 ≤ k ∧ k < 1024) (hmute : w.st.srcMute k = false)

include hk hmute

/-- What the EIC does with an input that it takes into account. -/
theorem Work.srcInput_eq : w.srcInput k lv =
    let new := (w.st.inputOf k).getD lv
    if new && !(w.src k).level then
      if w.st.senseEdge k then (w.takeLevel k new).srcEdge k
      else if (w.src k).latch then w.takeLevel k new
      else (w.takeLevel k new).srcEvent k
    else (w.takeLevel k new).modCloseOf k := by
  have hrange : (decide (976 ≤ k) && decide (k < 992) || w.st.srcMute k) = false := by
    rw [hmute]; simp; omega
  unfold Work.srcInput
  rw [hrange]
  rfl

theorem Work.srcInput_rise (hin : (w.st.inputOf k).getD lv = true) (hlevel : (w.st.srcAt k).level = false)
    (hedge : w.st.senseEdge k = true) : w.srcInput k lv = (w.riseSrc k).srcEvent k := by
  rw [w.srcInput_eq k lv hk hmute, hin, hlevel, hedge]
  rfl

theorem Work.srcInput_fall (hin : (w.st.inputOf k).getD lv = false) :
    w.srcInput k lv = (w.takeLevel k false).modCloseOf k := by
  rw [w.srcInput_eq k lv hk hmute, hin]
  rfl

/-- The level of a source is its input. -/
theorem Work.level_srcInput : ((w.srcInput k lv).st.srcAt k).level = (w.st.inputOf k).getD lv := by
  have htake : ∀ b, ((w.takeLevel k b).st.srcAt k).level = b := fun b => by
    unfold Work.takeLevel; rw [Work.srcAt_modSrc_same]
  rw [w.srcInput_eq k lv hk hmute]
  generalize (w.st.inputOf k).getD lv = new
  dsimp only
  split
  · split
    · unfold Work.srcEdge
      dsimp only
      rw [(Work.heldAlone_srcEvent _ k).level, Work.srcAt_modSrc_same]
      exact htake new
    · split
      · exact htake new
      · rw [(Work.heldAlone_srcEvent _ k).level, htake]
  · rw [Work.srcAt_modCloseOf, htake]

end Input

/-- An event of a source without moderation and without a vector wakes cores alone. -/
theorem Work.srcEvent_plain (w : Work s₀) (k : Nat) (hmod : w.st.modUnit k = none)
    (hhost : w.st.on F.INT_SRC_HOST_EN k = false) : w.srcEvent k = w.wakeFor k := by
  have hevent : w.modEvent k = w := by unfold Work.modEvent; rw [hmod]
  unfold Work.srcEvent
  rw [hevent]
  dsimp only [Work.on]
  rw [hhost]
  rfl

/-- An event that a closed moderation unit holds goes no further than to the vector of the source. -/
theorem Work.srcEvent_held (w : Work s₀) (k u : Nat) (hevent : w.modEvent k = w.heldEvent k u) :
    MsgFrame (w.heldEvent k u).st (w.srcEvent k).st := by
  let notified := (w.heldEvent k u).when ((w.heldEvent k u).on F.INT_SRC_HOST_EN k) fun s =>
    let v := s.get F.INT_SRC_HVEC k
    s.notify (v / 128) v
  have hframe : MsgFrame (w.heldEvent k u).st notified.st := Work.msgFrame_when _ _ _ (Work.msgFrame_notify _ _ _)
  have hheld : (notified.st.srcAt k).held = true := by
    rw [State.srcAt_eq hframe.src_eq, Work.srcAt_heldEvent, if_pos rfl]
  have hsame : w.srcEvent k = notified.wakeFor k := by
    unfold Work.srcEvent
    rw [hevent]
  rw [hsame, Work.wakeFor_of_held _ _ hheld]
  exact hframe

/-! ## Writes of the vectors of sources (R281) -/

/-- The sources of the 1 bits of a word. -/
theorem mem_srcBits (w : Nat) (v : Word) (k : Nat) (hw : w < 16) :
    k ∈ srcBits w v ↔ (k / 64 == w && bit v.toNat (k % 64)) = true := by
  unfold srcBits
  rw [Nat.mod_eq_of_lt hw]
  simp only [List.mem_map, List.mem_filter, List.mem_range, Bool.and_eq_true, beq_iff_eq]
  constructor
  · rintro ⟨i, ⟨hi, hbit⟩, rfl⟩
    have hdiv : (64 * w + i) / 64 = w := by omega
    have hmod : (64 * w + i) % 64 = i := by omega
    rw [hdiv, hmod]
    exact ⟨rfl, hbit⟩
  · rintro ⟨hdiv, hbit⟩
    exact ⟨k % 64, ⟨Nat.mod_lt _ (by decide), hbit⟩, by omega⟩

/-- A write that is granted, in a domain that is ON, acts after the shadow of its master has been touched. -/
theorem Work.intWrite_granted (w : Work s₀) (m a : Nat) (g : Work s₀ → Work s₀) (hdom : w.st.domOn 85 = true)
    (hgrants : w.st.grants m 9 a true = true) : w.intWrite m a g = g (w.touch m (wordKey 9 a)) := by
  have hdom' : (w.touch m (wordKey 9 a)).st.domOn 85 = true := hdom
  have hgrants' : (w.touch m (wordKey 9 a)).st.grants m 9 a true = true := hgrants
  unfold Work.intWrite Work.access
  dsimp only
  rw [hdom', hgrants']
  rfl

section Words

variable (w : Work s₀) (ks : List Nat)

theorem Work.srcAt_setEns (j : Nat) : (w.each ks fun s k => s.setEn k).st.srcAt j =
    if j ∈ ks then { w.st.srcAt j with en := true } else w.st.srcAt j :=
  Work.each_pointwise (fun (s : Work s₀) k => s.setEn k) (fun v j => v.st.srcAt j) (fun _ x => { x with en := true })
    (fun _ => True) (fun _ _ _ => trivial)
    (fun v k j _ => by unfold Work.setEn; rw [Work.srcAt_wakeFor, Work.srcAt_modSrc]) (fun _ _ => rfl) w ks trivial j

theorem Work.notes_setEns : w.Notes (w.each ks fun s k => s.setEn k) :=
  Work.notes_each _ (fun v k => NoteFrame.trans (Work.notes_setSrc v k _) (Work.notes_wakeFor _ _)) w ks

theorem Work.srcAt_clrEns (j : Nat) : (w.each ks fun s k => s.clrEn k).st.srcAt j =
    if j ∈ ks then { w.st.srcAt j with en := false } else w.st.srcAt j :=
  Work.each_pointwise (fun (s : Work s₀) k => s.clrEn k) (fun v j => v.st.srcAt j) (fun _ x => { x with en := false })
    (fun _ => True) (fun _ _ _ => trivial) (fun v k j _ => Work.srcAt_modSrc v k j _) (fun _ _ => rfl) w ks trivial j

theorem Work.clrEns_rest : (w.each ks fun s k => s.clrEn k).st =
    { w.st with src := (w.each ks fun s k => s.clrEn k).st.src } :=
  Work.each_keeps (fun v => v.st = { w.st with src := v.st.src }) (fun s k => s.clrEn k)
    (fun v k hv => (congrArg (fun x : State => { x with src := (v.clrEn k).st.src }) hv :)) w ks rfl

/-- SET_PEND of one source sets its latch, but for a source that never becomes pending. -/
theorem Work.latch_setPend (k j : Nat) : ((w.setPend k).st.srcAt j).latch =
    if j = k then (w.st.srcAt j).latch || !w.st.srcMute j else (w.st.srcAt j).latch := by
  have hlatched : ∀ n : State, HeldAlone (w.modSrc k fun x => { x with latch := true }).st n →
      (n.srcAt j).latch = if j = k then true else (w.st.srcAt j).latch := fun n hn => by
    rw [hn.latch, Work.srcAt_modSrc]
    split <;> rfl
  unfold Work.setPend
  cases hmute : w.st.srcMute k
  · simp only [Bool.false_eq_true, if_false]
    have hset : ((if w.st.pendOf k = true then (w.modSrc k fun x => { x with latch := true }).wakeFor k
        else (w.modSrc k fun x => { x with latch := true }).srcEvent k).st.srcAt j).latch =
          if j = k then true else (w.st.srcAt j).latch := by
      split
      · exact hlatched _ (.of_src_eq (Work.wakeFrame_wakeFor _ k).src_eq)
      · exact hlatched _ (Work.heldAlone_srcEvent _ k)
    rw [hset]
    by_cases hj : j = k
    · subst hj; simp [hmute]
    · simp [hj]
  · by_cases hj : j = k
    · subst hj; simp [hmute]
    · simp [hj]

theorem Work.notes_setPend (k : Nat) : w.Notes (w.setPend k) := by
  unfold Work.setPend
  dsimp only
  split
  · exact NoteFrame.refl _
  · split
    · exact NoteFrame.trans (Work.notes_setSrc w k _) (Work.notes_wakeFor _ _)
    · exact NoteFrame.trans (Work.notes_setSrc w k _) (Work.notes_srcEvent _ _)

theorem Work.latch_setPends (j : Nat) : ((w.each ks fun s k => s.setPend k).st.srcAt j).latch =
    if j ∈ ks then (w.st.srcAt j).latch || !w.st.srcMute j else (w.st.srcAt j).latch :=
  Work.each_pointwise (fun (s : Work s₀) k => s.setPend k) (fun v j => (v.st.srcAt j).latch)
    (fun j x => x || !w.st.srcMute j) (fun v => v.st.small = w.st.small)
    (fun v k hv => (v.notes_setPend k).small_eq.trans hv)
    (fun v k j hv => by rw [← State.srcMute_congr hv]; exact v.latch_setPend k j)
    (fun j x => by cases x <;> cases w.st.srcMute j <;> rfl) w ks rfl j

/-- CLR_PEND passes over an edge source whose input has risen in the same cycle. -/
theorem Work.srcAt_clrPend (k j : Nat) : (w.clrPend k).st.srcAt j =
    if j = k then
      if w.st.senseEdge j && (w.st.srcAt j).last == some w.st.cycle then w.st.srcAt j
      else { w.st.srcAt j with latch := false, held := false }
    else w.st.srcAt j := by
  unfold Work.clrPend
  by_cases hj : j = k
  · subst hj
    rw [if_pos rfl]
    split
    · rfl
    · rw [Work.srcAt_modCloseOf, Work.srcAt_modSrc_same]
  · rw [if_neg hj]
    split
    · rfl
    · rw [Work.srcAt_modCloseOf, Work.srcAt_modSrc, if_neg hj]

/-- CLR_PEND reaches sources and what moderation units show alone. -/
def ClearFrame (s n : State) : Prop := n = { s with regs := n.regs, src := n.src } ∧ RegsOutside [.INT_MOD_STAT] s n

theorem ClearFrame.trans {s n m : State} (h : ClearFrame s n) (g : ClearFrame n m) : ClearFrame s m :=
  ⟨g.1.trans (congrArg (fun x : State => { x with regs := m.regs, src := m.src }) h.1), h.2.trans g.2⟩

theorem ClearFrame.notedRegs {s n : State} (h : ClearFrame s n) : NotedRegs s n [] := fun r i hr _ =>
  h.2.reg_eq (fun hmem => by rw [List.mem_singleton.mp hmem] at hr; exact absurd hr (by decide)) i

theorem Work.clearFrame_modCloseOf (k : Nat) (f : SrcSt → SrcSt) :
    ClearFrame w.st ((w.modSrc k f).modCloseOf k).st := by
  obtain ⟨hrest, hregs⟩ := (w.modSrc k f).modCloseOf_rest k
  have hsrc : ((w.modSrc k f).modCloseOf k).st.src = (w.modSrc k f).st.src := (congrArg State.src hrest :)
  have hclose : ClearFrame (w.modSrc k f).st ((w.modSrc k f).modCloseOf k).st :=
    ⟨hrest.trans (congrArg (fun x : Tab SrcSt =>
      { (w.modSrc k f).st with regs := ((w.modSrc k f).modCloseOf k).st.regs, src := x }) hsrc.symm), hregs⟩
  exact ClearFrame.trans ⟨rfl, w.regsOutside_modSrc k f⟩ hclose

theorem Work.clearFrame_clrPend (k : Nat) : ClearFrame w.st (w.clrPend k).st := by
  unfold Work.clrPend
  split
  · exact ⟨rfl, .refl _ _⟩
  · exact w.clearFrame_modCloseOf k _

theorem Work.clearFrame_clrPends : ClearFrame w.st (w.each ks fun s k => s.clrPend k).st :=
  Work.each_keeps (fun v => ClearFrame w.st v.st) (fun s k => s.clrPend k)
    (fun v k hv => hv.trans (v.clearFrame_clrPend k)) w ks ⟨rfl, .refl _ _⟩

theorem Work.srcAt_clrPends (j : Nat) : (w.each ks fun s k => s.clrPend k).st.srcAt j =
    if j ∈ ks then
      if w.st.senseEdge j && (w.st.srcAt j).last == some w.st.cycle then w.st.srcAt j
      else { w.st.srcAt j with latch := false, held := false }
    else w.st.srcAt j :=
  Work.each_pointwise (fun (s : Work s₀) k => s.clrPend k) (fun v j => v.st.srcAt j)
    (fun j x => if w.st.senseEdge j && x.last == some w.st.cycle then x else { x with latch := false, held := false })
    (fun v => ClearFrame w.st v.st) (fun v k hv => hv.trans (v.clearFrame_clrPend k))
    (fun v k j hv => by
      have hedge : v.st.senseEdge j = w.st.senseEdge j :=
        congrArg (· == 1) (hv.2.get_eq (f := F.INT_SRC_SENSE) (by decide) j)
      have hcycle : v.st.cycle = w.st.cycle := (congrArg State.cycle hv.1 :)
      rw [← hedge, ← hcycle]
      exact v.srcAt_clrPend k j)
    (fun j x => by split <;> simp_all) w ks ⟨rfl, .refl _ _⟩ j

end Words

end Sys2Proof.Machine

/-! ## The commands of the EIC's sources -/

namespace Sys2Proof.Machine

section Commands

variable (s : State) (t k : Nat)

theorem sourceInput_mute (lv : Bool) (hmute : s.srcMute k = true) :
    Answers (.sourceInput t k lv) s fun n => n = s.till t :=
  ⟨_, rfl, congrArg Work.st (Work.srcInput_mute ((Work.start s).at t) k lv hmute)⟩

section Input

variable (hk : k < 976 ∨ 992 ≤ k ∧ k < 1024) (hmute : s.srcMute k = false)

include hk hmute

theorem sourceInput_level (lv : Bool) :
    Answers (.sourceInput t k lv) s fun n => (n.srcAt k).level = (s.inputOf k).getD lv :=
  ⟨_, rfl, ((Work.start s).at t).level_srcInput k lv hk hmute⟩

theorem sourceInput_fall (hin : s.inputOf k = none) :
    Answers (.sourceInput t k false) s fun n =>
      n.srcAt k = { s.srcAt k with level := false } ∧ SameBut s.srcAt n.srcAt [k] ∧
      n = { s.till t with regs := n.regs, src := n.src } ∧ NotedRegs s n [] := by
  let w := (Work.start s).at t
  have hfall : w.srcInput k false = (w.takeLevel k false).modCloseOf k :=
    w.srcInput_fall k false hk hmute (congrArg (Option.getD · false) hin)
  have hframe : ClearFrame w.st ((w.takeLevel k false).modCloseOf k).st := w.clearFrame_modCloseOf k _
  have hsrc : ∀ j, ((w.takeLevel k false).modCloseOf k).st.srcAt j =
      if j = k then { s.srcAt j with level := false } else s.srcAt j := fun j => by
    rw [Work.srcAt_modCloseOf]; exact w.srcAt_modSrc k j _
  refine ⟨_, congrArg (fun v : Work s => Host.Outcome.next v.st) hfall, ?_, fun j hj => ?_, hframe.1,
    hframe.notedRegs⟩
  · rw [hsrc, if_pos rfl]
  · rw [hsrc, if_neg fun e => hj (List.mem_singleton.mpr e)]

variable (hin : s.inputOf k = none) (hedge : s.senseEdge k = true) (hlevel : (s.srcAt k).level = false)

include hin hedge hlevel

theorem exec_sourceInput_rise : exec (.sourceInput t k true) s =
    .next ((((Work.start s).at t).riseSrc k).srcEvent k).st :=
  congrArg (fun v : Work s => Host.Outcome.next v.st)
    (((Work.start s).at t).srcInput_rise k true hk hmute (congrArg (Option.getD · true) hin) hlevel hedge)

theorem sourceInput_rise :
    Answers (.sourceInput t k true) s fun n =>
      (n.srcAt k).level = true ∧ (n.srcAt k).latch = true ∧ n.pendOf k = true ∧
      (n.srcAt k).last = some (s.till t).cycle ∧
      (n.srcAt k).en = (s.srcAt k).en ∧ (n.srcAt k).active = (s.srcAt k).active ∧
      n = (s.till t).noted n ∧ NotedRegs s n [] := by
  let w := (Work.start s).at t
  have hheld := (w.riseSrc k).heldAlone_srcEvent k
  have hnote : NoteFrame w.st ((w.riseSrc k).srcEvent k).st :=
    (w.notes_riseSrc k).trans ((w.riseSrc k).notes_srcEvent k)
  have hrisen := w.srcAt_riseSrc k
  have hlatch : (((w.riseSrc k).srcEvent k).st.srcAt k).latch = true := by rw [hheld.latch, hrisen]
  have hmute' : ((w.riseSrc k).srcEvent k).st.srcMute k = false := by
    rw [State.srcMute_congr hnote.small_eq]; exact hmute
  refine ⟨_, exec_sourceInput_rise s t k hk hmute hin hedge hlevel, ?_, hlatch,
    State.pendOf_of_latch _ k hmute' hlatch, ?_, ?_, ?_, hnote.1, hnote.notedRegs []⟩
  · rw [hheld.level, hrisen]
  · rw [hheld.last, hrisen]; rfl
  · rw [hheld.en, hrisen]; rfl
  · rw [hheld.active, hrisen]; rfl

theorem sourceInput_wakes (hmod : s.modUnit k = none) (hen : s.enabledSrc k = true) (hheld : (s.srcAt k).held = false)
    (hhost : s.on F.INT_SRC_HOST_EN k = false) :
    Answers (.sourceInput t k true) s fun n =>
      ∀ c : Fin 4, (n.coreAt c).wfi = ((s.coreAt c).wfi && !bit (s.get F.INT_SRC_TARGET k) c) := by
  let w := ((Work.start s).at t).riseSrc k
  have hrisen : w.st.srcAt k = { s.srcAt k with level := true, latch := true, last := some (s.till t).cycle } :=
    ((Work.start s).at t).srcAt_riseSrc k
  have hmod' : w.st.modUnit k = none := hmod
  have hen' : w.st.enabledSrc k = true := by
    rw [← hen]; unfold State.enabledSrc; rw [hrisen]; rfl
  have hpend : w.st.pendOf k = true := State.pendOf_of_latch _ k hmute (by rw [hrisen])
  have hheld' : w.st.heldNow k = false := by
    unfold State.heldNow; rw [hrisen, hmod']; simp [hheld]
  refine ⟨_, exec_sourceInput_rise s t k hk hmute hin hedge hlevel, fun c => ?_⟩
  rw [Work.srcEvent_plain _ k hmod' hhost]
  exact w.wfi_wakeFor k c c.isLt hen' hpend hheld'

theorem sourceInput_held (u : Nat) (hmod : s.modUnit k = some u) (hopen : s.on F.INT_MOD_STAT_OPEN u = false)
    (hcount : s.get F.INT_MOD_STAT_CNT u + 1 < max 1 (s.get F.INT_MOD_CFG_COUNT u))
    (hfit : s.get F.INT_MOD_STAT_CNT u + 1 < 2 ^ F.INT_MOD_STAT_CNT.w) :
    Answers (.sourceInput t k true) s fun n =>
      (n.srcAt k).held = true ∧ n.get F.INT_MOD_STAT_CNT u = s.get F.INT_MOD_STAT_CNT u + 1 ∧
      n.modTAt u = (if s.on F.INT_MOD_STAT_TIMING u then s.modTAt u
        else some ((s.till t).t64 + max 1 (min 65000000 (s.get F.INT_MOD_CFG_TIME u)) * 163840)) ∧
      n.on F.INT_MOD_STAT_OPEN u = false := by
  let w := ((Work.start s).at t).riseSrc k
  have hframe := w.srcEvent_held k u (w.modEvent_holds k u hmod hopen hcount hfit)
  refine ⟨_, exec_sourceInput_rise s t k hk hmute hin hedge hlevel, ?_, ?_, ?_, ?_⟩
  · rw [State.srcAt_eq hframe.src_eq, Work.srcAt_heldEvent, if_pos rfl]
  · rw [hframe.2.get_eq (by decide)]
    exact w.get_heldEvent_cnt k u hfit
  · rw [hframe.modTAt_eq]
    exact w.modTAt_heldEvent k u
  · unfold State.on
    rw [hframe.2.get_eq (by decide), w.get_heldEvent_open k u]
    exact hopen

end Input

section Vectors

variable (m w : Nat) (v : Word) (hdom : s.domOn 85 = true) (hw : w < 16)

include hdom hw

theorem intSetEn_sets (hgrants : s.grants m 9 (0x2000 + 8 * w) true = true) :
    Answers (.intSetEn t m w v) s fun n =>
      (∀ k, n.srcAt k = { s.srcAt k with en := (s.srcAt k).en || (k / 64 == w && bit v.toNat (k % 64)) }) ∧
      n = { (s.till t).noted n with shad := n.shad } ∧ NotedRegs s n [] := by
  let x := ((Work.start s).at t).touch m (wordKey 9 (0x2000 + 8 * w))
  have hnote := x.notes_setEns (srcBits w v)
  have hexec := ((Work.start s).at t).intWrite_granted m (0x2000 + 8 * w)
    (fun s => s.each (srcBits w v) fun s k => s.setEn k) hdom hgrants
  refine ⟨_, congrArg (fun v : Work s => Host.Outcome.next v.st) hexec, fun k => ?_, NoteFrame.with_shad hnote,
    hnote.notedRegs []⟩
  rw [x.srcAt_setEns]
  simp only [mem_srcBits w v k hw]
  split
  · next h => rw [h, Bool.or_true]; rfl
  · next h => rw [Bool.eq_false_iff.mpr h, Bool.or_false]; rfl

theorem intClrEn_clears (hgrants : s.grants m 9 (0x2080 + 8 * w) true = true) :
    Answers (.intClrEn t m w v) s fun n =>
      (∀ k, n.srcAt k = { s.srcAt k with en := (s.srcAt k).en && !(k / 64 == w && bit v.toNat (k % 64)) }) ∧
      n = { s.till t with src := n.src, shad := n.shad } := by
  let x := ((Work.start s).at t).touch m (wordKey 9 (0x2080 + 8 * w))
  have hrest := x.clrEns_rest (srcBits w v)
  have hshad := (congrArg State.shad hrest :)
  have hexec := ((Work.start s).at t).intWrite_granted m (0x2080 + 8 * w)
    (fun s => s.each (srcBits w v) fun s k => s.clrEn k) hdom hgrants
  refine ⟨_, congrArg (fun v : Work s => Host.Outcome.next v.st) hexec, fun k => ?_,
    hrest.trans (congrArg (fun y : Tab ShadSt =>
      { s.till t with src := (x.each (srcBits w v) fun s k => s.clrEn k).st.src, shad := y }) hshad.symm)⟩
  rw [x.srcAt_clrEns]
  simp only [mem_srcBits w v k hw]
  split
  · next h => rw [h, Bool.not_true, Bool.and_false]; rfl
  · next h => rw [Bool.eq_false_iff.mpr h, Bool.not_false, Bool.and_true]; rfl

theorem intSetPend_sets (hgrants : s.grants m 9 (0x2100 + 8 * w) true = true) :
    Answers (.intSetPend t m w v) s fun n =>
      (∀ k, (n.srcAt k).latch = ((s.srcAt k).latch || (k / 64 == w && bit v.toNat (k % 64) && !s.srcMute k))) ∧
      n = { (s.till t).noted n with shad := n.shad } ∧ NotedRegs s n [] := by
  let x := ((Work.start s).at t).touch m (wordKey 9 (0x2100 + 8 * w))
  have hnote := Work.notes_each _ (fun v k => v.notes_setPend k) x (srcBits w v)
  have hexec := ((Work.start s).at t).intWrite_granted m (0x2100 + 8 * w)
    (fun s => s.each (srcBits w v) fun s k => s.setPend k) hdom hgrants
  refine ⟨_, congrArg (fun v : Work s => Host.Outcome.next v.st) hexec, fun k => ?_, NoteFrame.with_shad hnote,
    hnote.notedRegs []⟩
  rw [x.latch_setPends]
  simp only [mem_srcBits w v k hw]
  split
  · next h => rw [h, Bool.true_and]; rfl
  · next h => rw [Bool.eq_false_iff.mpr h, Bool.false_and, Bool.or_false]; rfl

theorem intClrPend_clears (hgrants : s.grants m 9 (0x2180 + 8 * w) true = true) :
    let clears := fun (k : Nat) => k / 64 == w && bit v.toNat (k % 64) &&
      !(s.senseEdge k && (s.srcAt k).last == some (s.till t).cycle)
    Answers (.intClrPend t m w v) s fun n =>
      (∀ k, (n.srcAt k).latch = ((s.srcAt k).latch && !clears k)) ∧
      (∀ k, (n.srcAt k).held = ((s.srcAt k).held && !clears k)) ∧
      n = { s.till t with regs := n.regs, src := n.src, shad := n.shad } ∧ NotedRegs s n [] := by
  intro clears
  let x := ((Work.start s).at t).touch m (wordKey 9 (0x2180 + 8 * w))
  let n := (x.each (srcBits w v) fun s k => s.clrPend k).st
  have hframe : ClearFrame x.st n := x.clearFrame_clrPends (srcBits w v)
  have hshad := (congrArg State.shad hframe.1 :)
  have hexec := ((Work.start s).at t).intWrite_granted m (0x2180 + 8 * w)
    (fun s => s.each (srcBits w v) fun s k => s.clrPend k) hdom hgrants
  have hsrc : ∀ k, n.srcAt k = if clears k then { s.srcAt k with latch := false, held := false } else s.srcAt k := by
    intro k
    have hone : n.srcAt k = if k ∈ srcBits w v then
        if s.senseEdge k && (s.srcAt k).last == some (s.till t).cycle then s.srcAt k
        else { s.srcAt k with latch := false, held := false } else s.srcAt k := x.srcAt_clrPends (srcBits w v) k
    rw [hone]
    simp only [mem_srcBits w v k hw, clears]
    cases (k / 64 == w && bit v.toNat (k % 64)) <;>
      cases (s.senseEdge k && (s.srcAt k).last == some (s.till t).cycle) <;> rfl
  refine ⟨n, congrArg (fun v : Work s => Host.Outcome.next v.st) hexec, fun k => ?_, fun k => ?_,
    hframe.1.trans
      (congrArg (fun y : Tab ShadSt => { s.till t with regs := n.regs, src := n.src, shad := y }) hshad.symm),
    hframe.notedRegs⟩
  · rw [hsrc]; cases clears k <;> simp
  · rw [hsrc]; cases clears k <;> simp

end Vectors

theorem moderationTimer_opens (u d : Nat) (hd : s.modTAt u = some d) :
    Answers (.moderationTimer u) s fun n =>
      (∀ k, (n.srcAt k).held = ((s.srcAt k).held && s.modUnit k != some u)) ∧ n.modTAt u = none ∧
      n.get F.INT_MOD_STAT_CNT u = 0 ∧ n.on F.INT_MOD_STAT_TIMING u = false ∧
      n.on F.INT_MOD_STAT_OPEN u = (s.boundSrcs u).any s.pendOf ∧
      n.get F.INT_MOD_STAT_FIRES u = (s.get F.INT_MOD_STAT_FIRES u + 1) % 2 ^ F.INT_MOD_STAT_FIRES.w ∧
      n = (s.till d).noted n ∧ NotedRegs s n [] := by
  let w := (Work.start s).at d
  have htimer : (Work.start s).modTimer u = w.modOpen u := by
    unfold Work.modTimer
    rw [show (Work.start s).modT u = some d from hd]
  obtain ⟨hmodT, hcnt, htiming, hopen, hfires⟩ := w.modOpen_shows u
  have hnote : NoteFrame w.st (w.modOpen u).st := w.notes_modOpen u
  refine ⟨_, congrArg (fun v : Work s => Host.Outcome.next v.st) htimer, fun k => ?_, hmodT, hcnt, htiming, hopen,
    hfires, hnote.1, hnote.notedRegs []⟩
  rw [Work.modOpen_eq_opened, Work.srcAt_modClose]
  exact w.held_opened u k

end Commands

end Sys2Proof.Machine

section

open Sys2Proof.Machine

/-- Settles O39: the EIC takes inputs by `Work.srcInput_eq`; an event changes no source but in its HELD bit
(`Work.heldAlone_srcEvent`), a write of a vector each source of its bits once (`Work.each_pointwise`), and a unit that
opens releases what it holds (`Work.held_opened`) while no input depends on what it shows (`State.pendOf_congr`). -/
theorem interruptSources : Obligations.InterruptSources := by
  unfold Obligations.InterruptSources
  refine ⟨fun s t k lv hk => ⟨fun hmute => sourceInput_level s t k hk hmute lv, sourceInput_mute s t k lv⟩,
    fun s t k hk hin hmute => ⟨fun hedge hlevel => ⟨sourceInput_rise s t k hk hmute hin hedge hlevel,
      sourceInput_wakes s t k hk hmute hin hedge hlevel, sourceInput_held s t k hk hmute hin hedge hlevel⟩,
      sourceInput_fall s t k hk hmute hin⟩,
    fun s t m w v hdom hw => ⟨intSetEn_sets s t m w v hdom hw, intClrEn_clears s t m w v hdom hw,
      intSetPend_sets s t m w v hdom hw, intClrPend_clears s t m w v hdom hw⟩,
    moderationTimer_opens⟩

end

/-! ## A history of a histogram engine that names a channel's register (R223, R331) -/

namespace Sys2Proof.Machine

/-- Channel 0 is ready to send the one bundle of queue 0, of three words, and to pop it. Histogram engine 0 takes the
depth of queue 0 as its key; its latest instant is 1, and the registers that it holds as they were before that instant
are one, ECH_STAT of channel 0, which no key of an engine writes. -/
def channelInHistory : State :=
  { regs := [(Reg.key .HE_CFG 0, 5), (Reg.key .QD_CFG 0, w64 (2 ^ 40 + 6 * 2 ^ 32)), (Reg.key .QD_WR 0, 3),
      (Reg.key .QD_MARK 0, w64 (2 * 2 ^ 44)), (Reg.key .ECH_CFG 0, w64 (2 ^ 16)), (Reg.key .LNK_GRP 4, 2),
      (Reg.key .LNK_GSTAT 4, 32)]
    store := [(0, w64 (0xF0 * 2 ^ 56 + 3 * 2 ^ 44))]
    he := [(0, { at_ := 1, old := [(.ECH_STAT, 0, 0)] })] }

/-- The channel is bound to its queue and its port can send. -/
theorem channelInHistory_ready :
    channelInHistory.on F.ECH_CFG_EN 0 = true ∧ channelInHistory.on F.ECH_STAT_ERR 0 = false ∧
      channelInHistory.boundTo (channelInHistory.get F.ECH_CFG_QUEUE 0) 2 0 = true ∧
      channelInHistory.portUp 0 = true ∧ (channelInHistory.portAt 0).pause = none := by
  decide

/-- At T64 0 it has the turn of its port, and its next datagram carries the bundle. -/
theorem channelInHistory_turn :
    (channelInHistory.till 0).chanTurn 0 = true ∧ channelInHistory.chanNext 0 = ([3], false, 3) := by
  decide

/-- The pop of the bundle gives engine 0 a key timed 0, before its latest instant, and the engine takes its history
back: DSEQ is 0 again after the datagram. -/
theorem channelInHistory_dseq :
    channelInHistory.get F.ECH_STAT_DSEQ 0 = 0 ∧
      (((Work.start channelInHistory).at 0).chanSend 0).st.get F.ECH_STAT_DSEQ 0 = 0 := by
  decide

end Sys2Proof.Machine

section

open Sys2Proof.Machine

/-- Refutes O47: the clause of DATAGRAM_SEND says that DSEQ of the channel counts on. The pop that ends the datagram can
give a histogram engine a key (R220), and one timed before the engine's latest instant first takes the registers of its
history back (`Work.heBack`, R223). The statement asks nothing of that history: where it names ECH_STAT of the channel,
DSEQ goes back as well. In the block's own runs a history names the engine's registers alone. -/
theorem not_groupsAndPorts : ¬ Obligations.GroupsAndPorts := by
  unfold Obligations.GroupsAndPorts
  rintro ⟨-, -, -, -, -, -, -, hsend, -⟩
  obtain ⟨hen, herr, hbound, hup, hpause⟩ := channelInHistory_ready
  obtain ⟨hturn, hnext⟩ := channelInHistory_turn
  obtain ⟨hbefore, hafter⟩ := channelInHistory_dseq
  have hwords : (channelInHistory.chanNext 0).2.2 ≠ 0 := by rw [hnext]; decide
  obtain ⟨n, hn, -, -, hdseq, -⟩ := hsend channelInHistory 0 0 hen herr hbound hup hpause hturn hwords
  have hstep : exec (.datagramSend 0 0) channelInHistory =
      .next (((Work.start channelInHistory).at 0).chanSend 0).st := rfl
  obtain rfl : (((Work.start channelInHistory).at 0).chanSend 0).st = n := by injection hstep.symm.trans hn
  rw [hbefore, hafter] at hdseq
  exact absurd hdseq (by decide)

end

/-! ## A lane's capture and the words of its registers -/

namespace Sys2Proof.Machine

variable {s₀ : State}

theorem Work.capAt_modCap_same (w : Work s₀) (l : Nat) (f : LaneCap → LaneCap) :
    (w.modCap l f).st.capAt l = f (w.st.capAt l) :=
  Work.capAt_set_same w l _

theorem Work.sameBut_modCap (w : Work s₀) (l : Nat) (f : LaneCap → LaneCap) :
    SameBut w.st.capAt (w.modCap l f).st.capAt [l] := fun k hk => by
  have hne : k ≠ l := fun e => hk (List.mem_singleton.mpr e)
  unfold Work.modCap
  rw [Work.capAt_set, if_neg hne]

theorem SameBut.trans {α : Type} {f g h : Nat → α} {xs : List Nat} (hfg : SameBut f g xs) (hgh : SameBut g h xs) :
    SameBut f h xs := fun k hk => (hgh k hk).trans (hfg k hk)

theorem SameRegs.trans {s n m : State} {xs : List (Reg × Nat)} (h : SameRegs s n xs) (g : SameRegs n m xs) :
    SameRegs s m xs := fun r i hx => (g r i hx).trans (h r i hx)

theorem Work.sameRegs_put (w : Work s₀) (f : Fld) (i x : Nat) {xs : List (Reg × Nat)} (h : (f.reg, i) ∈ xs) :
    SameRegs w.st (w.put f i x).st xs := fun r j hx => by
  rw [Work.reg_put, if_neg]
  rintro ⟨rfl, rfl⟩
  exact hx h

theorem Work.sameRegs_flag (w : Work s₀) (f : Fld) (i : Nat) {xs : List (Reg × Nat)} (h : (f.reg, i) ∈ xs) :
    SameRegs w.st (w.flag f i).st xs := w.sameRegs_put f i 1 h

theorem Work.sameRegs_count (w : Work s₀) (f : Fld) (i n : Nat) {xs : List (Reg × Nat)} (h : (f.reg, i) ∈ xs) :
    SameRegs w.st (w.count f i n).st xs := w.sameRegs_put f i _ h

theorem Work.sameRegs_when (w : Work s₀) (c : Bool) (g : Work s₀ → Work s₀) {xs : List (Reg × Nat)}
    (h : SameRegs w.st (g w).st xs) : SameRegs w.st (w.when c g).st xs := by
  cases c
  · exact fun _ _ _ => rfl
  · exact h

/-- The registers alone change from `s` to `n`. -/
def RegsAlone (s n : State) : Prop := n = { s with regs := n.regs }

theorem RegsAlone.trans {s n m : State} (h : RegsAlone s n) (g : RegsAlone n m) : RegsAlone s m :=
  Eq.trans g (congrArg (fun x : State => { x with regs := m.regs }) h)

theorem Work.regsAlone_put (w : Work s₀) (f : Fld) (i x : Nat) : RegsAlone w.st (w.put f i x).st := rfl

theorem Work.regsAlone_when (w : Work s₀) (c : Bool) (g : Work s₀ → Work s₀) (h : RegsAlone w.st (g w).st) :
    RegsAlone w.st (w.when c g).st := by
  cases c
  · exact rfl
  · exact h

/-- The lanes' captures, time and the store are in `n` as in `s`. -/
structure CapKept (s n : State) : Prop where
  cap   : n.cap = s.cap
  t64   : n.t64 = s.t64
  store : n.store = s.store

theorem CapKept.trans {s n m : State} (h : CapKept s n) (g : CapKept n m) : CapKept s m :=
  ⟨g.cap.trans h.cap, g.t64.trans h.t64, g.store.trans h.store⟩

theorem CapKept.capAt_eq {s n : State} (h : CapKept s n) : n.capAt = s.capAt := by
  unfold State.capAt
  rw [h.cap]

theorem RegsAlone.capKept {s n : State} (h : RegsAlone s n) : CapKept s n :=
  ⟨(congrArg State.cap h :), (congrArg State.t64 h :), (congrArg State.store h :)⟩

/-- Work that leaves a field leaves it also where it is done under a condition. -/
theorem Work.get_when (w : Work s₀) (c : Bool) (g : Work s₀ → Work s₀) (f : Fld) (i : Nat)
    (h : (g w).st.get f i = w.st.get f i) : (w.when c g).st.get f i = w.st.get f i := by
  cases c
  · rfl
  · exact h

/-- A saturating counter goes on by `n`, up to the largest value of its width. -/
theorem Work.get_count_same (w : Work s₀) (f : Fld) (i n : Nat) (h : f.lo + f.w ≤ 64) :
    (w.count f i n).st.get f i = min (w.st.get f i + n) (2 ^ f.w - 1) := by
  have hpos := Nat.two_pow_pos f.w
  unfold Work.count
  rw [Work.get_put_same _ _ _ _ h]
  exact Nat.mod_eq_of_lt (by omega)

/-! ## A partner window that passes (R61, R67) -/

/-- Of two searches the one whose window ends first; of two that end together `a`. -/
def Search.sooner (a x : Search) : Search := if x.tA + x.win < a.tA + a.win then x else a

theorem Search.sooner_eq_or (a x : Search) : a.sooner x = a ∨ a.sooner x = x := by
  unfold Search.sooner
  split
  · exact .inr rfl
  · exact .inl rfl

theorem Search.sooner_le (a x : Search) : (a.sooner x).tA + (a.sooner x).win ≤ a.tA + a.win ∧
    (a.sooner x).tA + (a.sooner x).win ≤ x.tA + x.win := by
  unfold Search.sooner
  split <;> omega

/-- The search whose window ends first, of `a` and `xs`. -/
def firstExpiring (a : Search) (xs : List Search) : Search := xs.foldl Search.sooner a

theorem firstExpiring_mem (a : Search) (xs : List Search) : firstExpiring a xs ∈ a :: xs := by
  induction xs generalizing a with
  | nil => exact List.mem_singleton.mpr rfl
  | cons x xs ih =>
    show firstExpiring (a.sooner x) xs ∈ a :: x :: xs
    have hmem := ih (a.sooner x)
    rcases a.sooner_eq_or x with h | h <;> rw [h] at hmem ⊢
    · exact List.cons_subset_cons a (List.subset_cons_self x xs) hmem
    · exact List.mem_cons_of_mem a hmem

theorem firstExpiring_le (a : Search) (xs : List Search) :
    ∀ x ∈ a :: xs, (firstExpiring a xs).tA + (firstExpiring a xs).win ≤ x.tA + x.win := by
  induction xs generalizing a with
  | nil => intro x hx; rw [List.mem_singleton.mp hx]; exact Nat.le_refl _
  | cons y ys ih =>
    intro x hx
    show (firstExpiring (a.sooner y) ys).tA + (firstExpiring (a.sooner y) ys).win ≤ x.tA + x.win
    obtain ⟨hbest, hrest⟩ := List.forall_mem_cons.mp (ih (a.sooner y))
    obtain ⟨ha, hy⟩ := a.sooner_le y
    rcases List.mem_cons.mp hx with rfl | hx
    · exact Nat.le_trans hbest ha
    · rcases List.mem_cons.mp hx with rfl | hx
      · exact Nat.le_trans hbest hy
      · exact hrest x hx

/-- The EDGE_X record of an assertion of lane `l` that has no partner: at its own time, with NOPART and the largest
DELTA (R67, R69). -/
def State.noPartnerRec (s : State) (l : Nat) (a : Search) : Rec :=
  { t := a.tA, lane := some l,
    ws := [w64 (0x2 * 2 ^ 60 + l * 2 ^ 51 + 2 ^ 50 + a.q * 2 ^ 47 + t47 (s.stampAt a.rx a.tA)),
           w64 ((a.pick + 4) * 2 ^ 56 + (2 ^ 24 - 1) * 2 ^ 32 + s.stampAt a.rx a.tA % 2 ^ 32)] }

/-- The code of a record without a partner has NOPART, and neither CLAMP nor RANGE. -/
theorem noPartner_code (p : Nat) (h : p < 4) :
    bit (p + 4) 2 = true ∧ (bit (p + 4) 4 || bit (p + 4) 5) = false := by
  revert p
  decide

/-- An assertion that ends without a partner is counted, and its record is held at the time of its stamp. -/
theorem Work.noPartner_eq (w : Work s₀) (l : Nat) (a : Search) (h : a.pick < 4) :
    w.noPartner l a = (w.count F.CAP_CNT1_NOPART_CNT l).hold l 1 (w.st.noPartnerRec l a) a.tA := by
  obtain ⟨hnopart, hclamp⟩ := noPartner_code a.pick h
  unfold Work.noPartner Work.edgeX
  rw [hnopart, hclamp, Nat.min_self]
  rfl

/-- The window of assertion `a` of lane `l` has passed. -/
def Work.windowPassed (w : Work s₀) (l : Nat) (a : Search) : Work s₀ :=
  (w.at (a.tA + a.win + w.st.lag a.unit)).modCap l fun c => { c with searches := c.searches.erase a }

theorem exec_partnerWindowExpiry (s : State) (l : Nat) (a : Search) (rest : List Search)
    (h : (s.capAt l).searches = a :: rest) :
    exec (.partnerWindowExpiry l) s =
      .next (((Work.start s).windowPassed l (firstExpiring a rest)).noPartner l (firstExpiring a rest)).st := by
  have hcap : ((Work.start s).cap l).searches = a :: rest := h
  show execPartnerWindowExpiry l s = _
  unfold execPartnerWindowExpiry
  dsimp only
  rw [hcap]
  rfl

theorem partnerWindowExpiry_answers (s : State) (l : Nat) (hopen : (s.capAt l).searches ≠ [])
    (hpick : ∀ x ∈ (s.capAt l).searches, x.pick < 4) :
    ∃ a ∈ (s.capAt l).searches, (∀ x ∈ (s.capAt l).searches, a.tA + a.win ≤ x.tA + x.win) ∧
      Answers (.partnerWindowExpiry l) s fun n =>
        (n.capAt l).searches = (s.capAt l).searches.erase a ∧ n.t64 = (s.till (a.tA + a.win + s.lag a.unit)).t64 ∧
        n.get F.CAP_CNT1_NOPART_CNT l = min (s.get F.CAP_CNT1_NOPART_CNT l + 1) (2 ^ F.CAP_CNT1_NOPART_CNT.w - 1) ∧
        (n.capAt l).held = heldInsert ⟨1, a.tA, s.noPartnerRec l a⟩ (s.capAt l).held ∧
        n = { s.till (a.tA + a.win + s.lag a.unit) with regs := n.regs, cap := n.cap } ∧
        SameRegs s n [(.CAP_CNT1, l)] ∧ SameBut s.capAt n.capAt [l] := by
  obtain ⟨a₀, rest, hsearch⟩ := List.exists_cons_of_ne_nil hopen
  let a := firstExpiring a₀ rest
  have hmem : a ∈ (s.capAt l).searches := hsearch ▸ firstExpiring_mem a₀ rest
  let w := (Work.start s).windowPassed l a
  have hexec := exec_partnerWindowExpiry s l a₀ rest hsearch
  rw [Work.noPartner_eq _ _ _ (hpick a hmem)] at hexec
  let v := w.count F.CAP_CNT1_NOPART_CNT l
  have hpassed : w.st.capAt l = { s.capAt l with searches := (s.capAt l).searches.erase a } :=
    Work.capAt_modCap_same _ _ _
  have hsame : SameBut s.capAt v.st.capAt [l] :=
    ((Work.start s).at (a.tA + a.win + s.lag a.unit)).sameBut_modCap l
      fun c => { c with searches := c.searches.erase a }
  have hcap : (v.hold l 1 (w.st.noPartnerRec l a) a.tA).st.capAt l =
      { w.st.capAt l with held := heldInsert ⟨1, a.tA, w.st.noPartnerRec l a⟩ (w.st.capAt l).held } :=
    Work.capAt_modCap_same v l _
  refine ⟨a, hmem, hsearch ▸ firstExpiring_le a₀ rest, _, hexec, ?_, rfl, ?_, ?_, rfl, ?_, ?_⟩
  · rw [hcap, hpassed]
  · exact Work.get_count_same w _ _ _ (by decide)
  · rw [hcap, hpassed]; rfl
  · exact w.sameRegs_count F.CAP_CNT1_NOPART_CNT l 1 (List.mem_singleton.mpr rfl)
  · exact hsame.trans (v.sameBut_modCap l _)

/-! ## The first record of an output stage (R70, R159, R160) -/

/-- How long after its time the record `h` leaves lane `l`'s output stage. -/
def State.holdOf (s : State) (l : Nat) (h : Held) : Nat :=
  if h.rank = 0 ∧ s.lanePowered l = true then max (s.holdTime l) (s.lag (s.carrier l)) else s.holdTime l

/-- The record `h` has left lane `l`'s output stage, in which `rest` stays. -/
def Work.releaseHeld (w : Work s₀) (l : Nat) (h : Held) (rest : List Held) : Work s₀ :=
  (w.at (h.r.t + w.st.holdOf l h)).modCap l fun c => { c with held := rest }

/-- Words of lane `l`'s buffer beside its EVENTs. -/
def State.bufWords (s : State) (l : Nat) : Nat := recWords ((s.capAt l).buf.filter fun x => !x.ev)

theorem Work.pushBuf_of_fits (w : Work s₀) (l : Nat) (r : Rec)
    (h : r.ev = true ∨ w.st.bufWords l + r.ws.length ≤ 64) :
    w.pushBuf l r = w.modCap l fun c => { c with buf := c.buf ++ [r] } := by
  have hroom : (r.ev || decide (w.st.bufWords l + r.ws.length ≤ 64)) = true := by simpa using h
  unfold Work.pushBuf
  exact if_pos hroom

theorem Work.pushBuf_of_full (w : Work s₀) (l : Nat) (r : Rec) (hev : r.ev = false)
    (h : 64 < w.st.bufWords l + r.ws.length) : w.pushBuf l r = w.dropRec l r := by
  have hroom : ¬ (r.ev || decide (w.st.bufWords l + r.ws.length ≤ 64)) = true := by simp [hev, h]
  unfold Work.pushBuf
  exact if_neg hroom

/-- What lane `l` notes of a dropped record for the EVENT that tells of it. -/
def LaneCap.dropped (c : LaneCap) (r : Rec) : LaneCap :=
  { c with drop := some (match c.drop with
    | none => (1, r.t, r.t)
    | some (k, a, z) => (k + 1, min a r.t, max z r.t)) }

section Drop

variable (w : Work s₀) (l : Nat) (r : Rec) (full : Bool)

/-- The count of a dropped record; where it was `full`, SAT shows that it no longer counts. -/
def Work.countDrop : Work s₀ := (w.count F.WEA_LDROP_DROP_CNT l).when full fun s => s.flag F.WEA_LDROP_SAT l

/-- A record of lane `l` has been dropped at its buffer and counted. -/
def Work.dropped : Work s₀ := (w.countDrop l full).modCap l fun c => c.dropped r

theorem Work.dropRec_eq : w.dropRec l r =
    (w.dropped l r (w.get F.WEA_LDROP_DROP_CNT l + 1 ≥ 2 ^ 32)).when
      ((w.dropped l r (w.get F.WEA_LDROP_DROP_CNT l + 1 ≥ 2 ^ 32)).st.weaved l)
      fun s => s.flag F.WEA_WEVT_INTAKE_DROP (l / 16) := rfl

theorem Work.regsAlone_countDrop : RegsAlone w.st (w.countDrop l full).st :=
  (w.regsAlone_put _ _ _).trans (Work.regsAlone_when _ _ _ (Work.regsAlone_put _ F.WEA_LDROP_SAT l 1))

theorem Work.get_countDrop : (w.countDrop l full).st.get F.WEA_LDROP_DROP_CNT l =
    min (w.get F.WEA_LDROP_DROP_CNT l + 1) (2 ^ F.WEA_LDROP_DROP_CNT.w - 1) := by
  have hsat : ∀ v : Work s₀,
      (v.flag F.WEA_LDROP_SAT l).st.get F.WEA_LDROP_DROP_CNT l = v.get F.WEA_LDROP_DROP_CNT l := fun v =>
    v.get_put_beside F.WEA_LDROP_SAT F.WEA_LDROP_DROP_CNT l l 1 (by decide) (by decide)
  exact (Work.get_when _ full (fun v => v.flag F.WEA_LDROP_SAT l) _ l (hsat _)).trans
    (w.get_count_same F.WEA_LDROP_DROP_CNT l 1 (by decide))

theorem Work.sameRegs_countDrop : SameRegs w.st (w.countDrop l full).st [(.WEA_LDROP, l), (.WEA_WEVT, l / 16)] :=
  (w.sameRegs_count F.WEA_LDROP_DROP_CNT l 1 (List.mem_cons_self ..)).trans
    (Work.sameRegs_when _ _ _ (Work.sameRegs_flag _ F.WEA_LDROP_SAT l (List.mem_cons_self ..)))

/-- A dropped record is counted, and is in no list of its lane. -/
theorem Work.dropRec_shows :
    (w.dropRec l r).st.capAt l = (w.st.capAt l).dropped r ∧
    (w.dropRec l r).st.get F.WEA_LDROP_DROP_CNT l =
      min (w.get F.WEA_LDROP_DROP_CNT l + 1) (2 ^ F.WEA_LDROP_DROP_CNT.w - 1) ∧
    (w.dropRec l r).st = { w.st with regs := (w.dropRec l r).st.regs, cap := (w.dropRec l r).st.cap } ∧
    SameRegs w.st (w.dropRec l r).st [(.WEA_LDROP, l), (.WEA_WEVT, l / 16)] ∧
    SameBut w.st.capAt (w.dropRec l r).st.capAt [l] := by
  rw [Work.dropRec_eq]
  generalize decide (w.get F.WEA_LDROP_DROP_CNT l + 1 ≥ 2 ^ 32) = full
  generalize (w.dropped l r full).st.weaved l = told
  have hrest : (w.countDrop l full).st = { w.st with regs := (w.countDrop l full).st.regs } :=
    w.regsAlone_countDrop l full
  have hcapAt : (w.countDrop l full).st.capAt = w.st.capAt := (w.regsAlone_countDrop l full).capKept.capAt_eq
  have hcap : (w.dropped l r full).st.capAt l = (w.st.capAt l).dropped r := by
    unfold Work.dropped
    rw [Work.capAt_modCap_same, hcapAt]
  have hdropped : (w.dropped l r full).st =
      { w.st with regs := (w.dropped l r full).st.regs, cap := (w.dropped l r full).st.cap } :=
    congrArg (fun x : State => { x with cap := (w.dropped l r full).st.cap }) hrest
  have hsame : SameBut w.st.capAt (w.dropped l r full).st.capAt [l] :=
    hcapAt ▸ (w.countDrop l full).sameBut_modCap l _
  refine ⟨?_, ?_, ?_, ?_, ?_⟩
  · cases told <;> exact hcap
  · refine Eq.trans (Work.get_when _ told _ _ l ?_) (w.get_countDrop l full)
    exact Work.get_put_reg_ne _ F.WEA_WEVT_INTAKE_DROP F.WEA_LDROP_DROP_CNT _ _ 1 fun h => absurd h.1 (by decide)
  · cases told
    · exact hdropped
    · exact congrArg (fun x : State =>
        { x with regs := ((w.dropped l r full).flag F.WEA_WEVT_INTAKE_DROP (l / 16)).st.regs }) hdropped
  · refine SameRegs.trans (w.sameRegs_countDrop l full) (Work.sameRegs_when (w.dropped l r full) told _ ?_)
    exact Work.sameRegs_flag _ F.WEA_WEVT_INTAKE_DROP (l / 16) (List.mem_cons_of_mem _ (List.mem_cons_self ..))
  · cases told <;> exact hsame

end Drop

section Release

variable (s : State) (l : Nat) (h : Held) (rest : List Held) (hheld : (s.capAt l).held = h :: rest)
  (hwait : ∀ e ∈ (s.cntAt l).wait, h.r.t < e.at) (hdue : s.gateDue l h.r.t = false)

include hheld hwait hdue

theorem exec_recordHoldRelease :
    exec (.recordHoldRelease l) s = .next (((Work.start s).releaseHeld l h rest).pushBuf l h.r).st := by
  have hcap : ((Work.start s).cap l).held = h :: rest := hheld
  have hedges : (((Work.start s).cnt l).wait.any (fun (e : CntIn) => decide (e.at ≤ h.r.t)) ||
      (Work.start s).st.gateDue l h.r.t) = false := by
    rw [Bool.or_eq_false_iff]
    refine ⟨List.any_eq_false.mpr fun e he => ?_, hdue⟩
    simpa using hwait e he
  show execRecordHoldRelease l s = _
  unfold execRecordHoldRelease Work.releaseHeld State.holdOf
  dsimp only
  rw [hcap]
  simp only [hedges, Bool.and_eq_true, decide_eq_true_eq]
  rfl

theorem recordHoldRelease_enters (hroom : h.r.ev = true ∨ s.bufWords l + h.r.ws.length ≤ 64) :
    Answers (.recordHoldRelease l) s fun n =>
      n.capAt l = { s.capAt l with held := rest, buf := (s.capAt l).buf ++ [h.r] } ∧
      n = { s.till (h.r.t + s.holdOf l h) with cap := n.cap } ∧ SameBut s.capAt n.capAt [l] := by
  let w := (Work.start s).releaseHeld l h rest
  have hleft : w.st.capAt l = { s.capAt l with held := rest } := Work.capAt_modCap_same _ _ _
  have hsame : SameBut s.capAt w.st.capAt [l] :=
    ((Work.start s).at (h.r.t + s.holdOf l h)).sameBut_modCap l _
  have hroom' : h.r.ev = true ∨ w.st.bufWords l + h.r.ws.length ≤ 64 := by
    unfold State.bufWords
    rw [hleft]
    exact hroom
  have hexec := exec_recordHoldRelease s l h rest hheld hwait hdue
  rw [Work.pushBuf_of_fits _ _ _ hroom'] at hexec
  refine ⟨_, hexec, ?_, rfl, hsame.trans (w.sameBut_modCap l _)⟩
  rw [Work.capAt_modCap_same, hleft]

theorem recordHoldRelease_drops (hev : h.r.ev = false) (hfull : 64 < s.bufWords l + h.r.ws.length) :
    Answers (.recordHoldRelease l) s fun n =>
      (n.capAt l).held = rest ∧ (n.capAt l).buf = (s.capAt l).buf ∧
      n.get F.WEA_LDROP_DROP_CNT l =
        min (s.get F.WEA_LDROP_DROP_CNT l + 1) (2 ^ F.WEA_LDROP_DROP_CNT.w - 1) ∧
      n = { s.till (h.r.t + s.holdOf l h) with cap := n.cap, regs := n.regs } ∧
      SameRegs s n [(.WEA_LDROP, l), (.WEA_WEVT, l / 16)] ∧ SameBut s.capAt n.capAt [l] := by
  let w := (Work.start s).releaseHeld l h rest
  have hleft : w.st.capAt l = { s.capAt l with held := rest } := Work.capAt_modCap_same _ _ _
  have hsame : SameBut s.capAt w.st.capAt [l] :=
    ((Work.start s).at (h.r.t + s.holdOf l h)).sameBut_modCap l _
  have hfull' : 64 < w.st.bufWords l + h.r.ws.length := by
    unfold State.bufWords
    rw [hleft]
    exact hfull
  have hexec := exec_recordHoldRelease s l h rest hheld hwait hdue
  rw [Work.pushBuf_of_full _ _ _ hev hfull'] at hexec
  obtain ⟨hcap, hcount, hframe, hregs, hcaps⟩ := w.dropRec_shows l h.r
  rw [hleft] at hcap
  exact ⟨_, hexec, by rw [hcap]; rfl, by rw [hcap]; rfl, hcount, hframe, hregs, hsame.trans hcaps⟩

end Release

/-! ## What the counting engines and the pairing units do for themselves -/

/-- The registers that engines and pairing units write when their conditions are checked again. -/
def countRegs : List Reg := [.CNT_STAT, .CNT_EVT, .CNT_CNT, .PAIR_STAT, .PAIR_EVT]

/-- Engines and pairing units, and the registers that show them, alone come from `s` to `n`. -/
def CountFrame (s n : State) : Prop :=
  n = { s with regs := n.regs, cnt := n.cnt, pair := n.pair } ∧ RegsOutside countRegs s n

theorem CountFrame.refl (s : State) : CountFrame s s := ⟨rfl, .refl _ _⟩

theorem CountFrame.trans {s n m : State} (h : CountFrame s n) (g : CountFrame n m) : CountFrame s m :=
  ⟨g.1.trans (congrArg (fun x : State => { x with regs := m.regs, cnt := m.cnt, pair := m.pair }) h.1),
    h.2.trans g.2⟩

theorem CountFrame.capKept {s n : State} (h : CountFrame s n) : CapKept s n :=
  ⟨(congrArg State.cap h.1 :), (congrArg State.t64 h.1 :), (congrArg State.store h.1 :)⟩

/-- Of these the engines themselves are as they were. -/
def PairFrame (s n : State) : Prop := CountFrame s n ∧ n.cnt = s.cnt

theorem PairFrame.refl (s : State) : PairFrame s s := ⟨.refl s, rfl⟩

theorem PairFrame.trans {s n m : State} (h : PairFrame s n) (g : PairFrame n m) : PairFrame s m :=
  ⟨h.1.trans g.1, g.2.trans h.2⟩

theorem PairFrame.cntAt_eq {s n : State} (h : PairFrame s n) : n.cntAt = s.cntAt := by
  unfold State.cntAt
  rw [h.2]

namespace Work

variable (w : Work s₀)

theorem countFrame_modCnt (n : Nat) (f : CntUnit → CntUnit) : CountFrame w.st (w.modCnt n f).st :=
  ⟨rfl, .of_regs_eq rfl⟩

theorem cntAt_modCnt_same (n : Nat) (f : CntUnit → CntUnit) : (w.modCnt n f).st.cntAt n = f (w.st.cntAt n) :=
  Work.cntAt_set_same w n _

theorem pairFrame_put (f : Fld) (i x : Nat) (h : f.reg ∈ countRegs) : PairFrame w.st (w.put f i x).st :=
  ⟨⟨rfl, w.regsOutside_put f i x h⟩, rfl⟩

theorem pairFrame_modPair (p : Nat) (f : PairSt → PairSt) : PairFrame w.st (w.modPair p f).st :=
  ⟨⟨rfl, .of_regs_eq rfl⟩, rfl⟩

theorem pairFrame_when (c : Bool) (g : Work s₀ → Work s₀) (h : ∀ v : Work s₀, PairFrame v.st (g v).st) :
    PairFrame w.st (w.when c g).st := by
  cases c
  · exact .refl _
  · exact h w

theorem pairFrame_each {α : Type} (xs : List α) (g : Work s₀ → α → Work s₀)
    (h : ∀ v a, PairFrame v.st (g v a).st) : PairFrame w.st (w.each xs g).st :=
  Work.each_keeps (fun v => PairFrame w.st v.st) g (fun v a hv => hv.trans (h v a)) w xs (.refl _)

theorem pairFrame_pairCheck (p : Nat) : PairFrame w.st (w.pairCheck p).st := by
  unfold Work.pairCheck Work.flag
  dsimp only
  split
  · exact pairFrame_put _ _ _ _ (by decide)
  · split
    · refine PairFrame.trans ?_ (pairFrame_modPair _ _ _)
      refine PairFrame.trans ?_ (pairFrame_put _ _ _ _ (by decide))
      refine PairFrame.trans ?_ (pairFrame_put _ _ _ _ (by decide))
      exact pairFrame_when _ _ _ fun v => pairFrame_put _ _ _ _ (by decide)
    · exact pairFrame_put _ _ _ _ (by decide)

theorem pairFrame_ratioCheck (n : Nat) : PairFrame w.st (w.ratioCheck n).st := by
  refine pairFrame_each _ _ _ fun v p => ?_
  split
  · exact pairFrame_pairCheck v p
  · exact .refl _

theorem pairFrame_ratioRequest (n : Nat) (anew : Bool) (rs : List Req) :
    PairFrame w.st (w.ratioRequest n anew rs).st :=
  pairFrame_each _ _ _ fun v p => pairFrame_modPair v p _

theorem pairFrame_showGate (n : Nat) : PairFrame w.st (w.showGate n).st := by
  unfold Work.showGate
  split
  · refine PairFrame.trans ?_ (pairFrame_put _ _ _ _ (by decide))
    refine PairFrame.trans ?_ (pairFrame_put _ _ _ _ (by decide))
    exact pairFrame_put _ _ _ _ (by decide)
  · refine PairFrame.trans ?_ (pairFrame_put _ _ _ _ (by decide))
    refine PairFrame.trans ?_ (pairFrame_put _ _ _ _ (by decide))
    refine PairFrame.trans ?_ (pairFrame_put _ _ _ _ (by decide))
    exact pairFrame_put _ _ _ _ (by decide)

theorem pairFrame_pairDue (n b z j how : Nat) : PairFrame w.st (w.pairDue n b z j how).st := by
  refine pairFrame_each _ _ _ fun v p => ?_
  dsimp only
  split
  · exact pairFrame_modPair v p _
  · exact .refl _

theorem countFrame_dropGate (n : Nat) : CountFrame w.st (w.dropGate n).st :=
  (countFrame_modCnt w n _).trans ((pairFrame_ratioCheck _ n).trans (pairFrame_showGate _ n)).1

/-- A boundary that finds no gate to end opens one, and leaves no record. -/
theorem countFrame_boundary (n : Nat) (rs : List Req) (t1 t0 rx : Nat) (h : (w.cnt n).gate = none) :
    CountFrame w.st (w.boundary n rs t1 t0 rx).st := by
  unfold Work.boundary Work.flag
  dsimp only
  rw [h]
  refine CountFrame.trans ?_ (pairFrame_showGate _ _).1
  refine CountFrame.trans ?_ (pairFrame_pairDue _ _ _ _ _ _).1
  refine CountFrame.trans ?_ (countFrame_modCnt _ _ _)
  refine CountFrame.trans ?_ (pairFrame_each _ _ _ fun v p => pairFrame_when _ _ _ fun x => pairFrame_modPair _ _ _).1
  refine CountFrame.trans ?_ (countFrame_modCnt _ _ _)
  refine (pairFrame_when _ _ _ fun v => ?_).1
  exact (pairFrame_put v _ _ _ (by decide)).trans (pairFrame_put _ _ _ _ (by decide))

theorem countFrame_timeClose (n b : Nat) (h : (w.cnt n).gate = none) : CountFrame w.st (w.timeClose n b).st := by
  unfold Work.timeClose
  dsimp only
  split
  · exact countFrame_modCnt _ _ _
  · rw [h]
    refine CountFrame.trans (countFrame_modCnt _ _ _) (countFrame_boundary _ _ _ _ _ _ ?_)
    exact (congrArg CntUnit.gate (cntAt_modCnt_same w n _)).trans h

/-- The RATIO units take the requests `rs` of an engine that starts. -/
def ratioStart (n : Nat) (rs : List Req) : Work s₀ :=
  ((w.put F.CNT_STAT_GATE_IDX n 0).ratioCheck n).ratioRequest n true rs

theorem pairFrame_ratioStart (n : Nat) (rs : List Req) : PairFrame w.st (w.ratioStart n rs).st :=
  ((pairFrame_put w F.CNT_STAT_GATE_IDX n 0 (by decide)).trans (pairFrame_ratioCheck _ n)).trans
    (pairFrame_ratioRequest _ n true rs)

/-- An engine that starts has no gate to end. -/
theorem countFrame_cntStart (n t : Nat) : CountFrame w.st (w.cntStart n t).st := by
  have hstart : ∀ (f : CntUnit → CntUnit) (rs : List Req), CountFrame w.st ((w.modCnt n f).ratioStart n rs).st :=
    fun f rs => (countFrame_modCnt w n f).trans (pairFrame_ratioStart _ n rs).1
  have hgate : ∀ (f : CntUnit → CntUnit) (rs : List Req), (f (w.cnt n)).gate = none →
      (((w.modCnt n f).ratioStart n rs).cnt n).gate = none := by
    intro f rs hf
    rw [Work.cnt, (pairFrame_ratioStart (w.modCnt n f) n rs).cntAt_eq, cntAt_modCnt_same]
    exact hf
  unfold Work.cntStart
  dsimp only
  split
  · refine (hstart _ _).trans (countFrame_timeClose _ n t ?_)
    exact hgate _ _ rfl
  · exact (hstart _ _).trans (pairFrame_showGate _ n).1

theorem countFrame_cntCheck (n t : Nat) : CountFrame w.st (w.cntCheck n t).st := by
  unfold Work.cntCheck
  dsimp only
  split
  · split
    · exact .refl _
    · exact (pairFrame_put _ _ _ _ (by decide)).1
  · have hput := pairFrame_put w F.CNT_STAT_CFG_ERR n (b2n (w.st.cntCfgBad n (w.cnt n).cfg)) (by decide)
    split
    · exact hput.1.trans (countFrame_dropGate _ n)
    · split
      · exact hput.1.trans (countFrame_cntStart _ n t)
      · exact hput.1

theorem countFrame_cntRecheck (n t : Nat) : CountFrame w.st (w.cntRecheck n t).st := by
  refine (countFrame_cntCheck w n t).trans (pairFrame_each _ _ _ fun v p => ?_).1
  split
  · exact pairFrame_pairCheck v p
  · exact .refl _

end Work

/-! ## New capture settings (R72) -/

section Apply

variable (w : Work s₀) (l : Nat)

/-- Lane `l` takes the settings written for it; the count of its prescaler starts anew where `anew`. -/
def Work.takeCap (anew : Bool) : Work s₀ :=
  w.modCap l fun c => { c with
    cfg := w.reg .CAP_LANECFG l, pick := w.reg .CAP_PICK l, base := w.get F.CAP_BASE_BASE l, pendAt := none,
    pendCfg := false, pres := if anew then 0 else c.pres }

/-- The count of the prescaler starts anew also for the relief side of an overlap of lane `l`. -/
def Work.restartOverlap (anew : Bool) : Work s₀ :=
  w.when anew fun s => s.modBlk (l / 16) fun k =>
    if s.get F.CAL_BSTAT_POS (l / 16) = l % 16 then { k with ov := k.ov.map fun (o : Overlap) => { o with pres := 0 } }
    else k

/-- CAP_STAT and BASE_EFF show the settings `v` of lane `l`; P_EFF follows where `pres`. -/
def Work.showCap (v : Word) (pres : Bool) : Work s₀ :=
  let s := w.put F.CAP_STAT_PEND l 0
  let s := s.put F.CAP_STAT_WALK_ACT l (F.CAP_LANECFG_WALK_BANK.of v)
  let s := s.when pres fun s => s.put F.CAP_STAT_P_EFF l (F.CAP_LANECFG_PRESCALE.of v + 1)
  s.when (!s.on F.FRE_INCFG_BASE_TRK l) fun s => s.put F.CAP_BASE_BASE_EFF l (s.get F.CAP_BASE_BASE l)

theorem Work.capKept_restartOverlap (anew : Bool) : CapKept w.st (w.restartOverlap l anew).st := by
  cases anew <;> exact ⟨rfl, rfl, rfl⟩

theorem Work.regsAlone_showCap (v : Word) (pres : Bool) : RegsAlone w.st (w.showCap l v pres).st := by
  unfold Work.showCap
  refine RegsAlone.trans ?_ (Work.regsAlone_when _ _ _ (Work.regsAlone_put _ _ _ _))
  refine RegsAlone.trans ?_ (Work.regsAlone_when _ _ _ (Work.regsAlone_put _ _ _ _))
  exact (w.regsAlone_put _ _ _).trans (Work.regsAlone_put _ _ _ _)

theorem Work.regsAlone_dtUpdate : RegsAlone w.st (w.dtUpdate l).st :=
  (w.regsAlone_put _ _ _).trans (Work.regsAlone_put _ _ _ _)

/-- The DT factor stands in CAP_STAT from bit 32 on, and its validity in bit 18. -/
theorem Work.get_dtUpdate_beside (f : Fld) (hk : f.lo + f.w ≤ 32)
    (hv : F.CAP_STAT_K_VALID.lo + F.CAP_STAT_K_VALID.w ≤ f.lo ∨ f.lo + f.w ≤ F.CAP_STAT_K_VALID.lo) :
    (w.dtUpdate l).st.get f l = w.st.get f l :=
  ((w.put F.CAP_STAT_K_EFF l _).get_put_beside F.CAP_STAT_K_VALID f l l _ (by decide) hv).trans
    (w.get_put_beside F.CAP_STAT_K_EFF f l l _ (by decide) (.inr hk))

/-- Once the settings are shown PEND is clear and WALK_ACT names their bank. -/
theorem Work.showCap_shows (v : Word) (pres : Bool) : (w.showCap l v pres).st.get F.CAP_STAT_PEND l = 0 ∧
    (w.showCap l v pres).st.get F.CAP_STAT_WALK_ACT l = F.CAP_LANECFG_WALK_BANK.of v := by
  let x := (w.put F.CAP_STAT_PEND l 0).put F.CAP_STAT_WALK_ACT l (F.CAP_LANECFG_WALK_BANK.of v)
  let y := x.when pres fun s => s.put F.CAP_STAT_P_EFF l (F.CAP_LANECFG_PRESCALE.of v + 1)
  let base := fun s : Work s₀ => s.put F.CAP_BASE_BASE_EFF l (s.get F.CAP_BASE_BASE l)
  have hpres : ∀ f : Fld, 17 ≤ f.lo → y.st.get f l = x.st.get f l := fun f hf =>
    x.get_when pres _ f l (x.get_put_beside F.CAP_STAT_P_EFF f l l _ (by decide) (.inl hf))
  have hbase : ∀ f : Fld, f.reg = .CAP_STAT → (base y).st.get f l = y.st.get f l := fun f hf =>
    y.get_put_reg_ne F.CAP_BASE_BASE_EFF f l l _ fun h => absurd (hf.symm.trans h.1) (by decide)
  have hshown : ∀ f : Fld, f.reg = .CAP_STAT → 17 ≤ f.lo → (w.showCap l v pres).st.get f l = x.st.get f l :=
    fun f hf hlo => (y.get_when (!y.on F.FRE_INCFG_BASE_TRK l) base f l (hbase f hf)).trans (hpres f hlo)
  have hpend : x.st.get F.CAP_STAT_PEND l = (w.put F.CAP_STAT_PEND l 0).st.get F.CAP_STAT_PEND l :=
    Work.get_put_beside _ F.CAP_STAT_WALK_ACT F.CAP_STAT_PEND l l _ (by decide) (by decide)
  have hwalk : x.st.get F.CAP_STAT_WALK_ACT l = F.CAP_LANECFG_WALK_BANK.of v % 2 ^ F.CAP_STAT_WALK_ACT.w :=
    Work.get_put_same _ F.CAP_STAT_WALK_ACT l _ (by decide)
  refine ⟨?_, ?_⟩
  · rw [hshown _ rfl (by decide), hpend]
    exact w.get_put_same F.CAP_STAT_PEND l 0 (by decide)
  · rw [hshown _ rfl (by decide), hwalk]
    exact Nat.mod_eq_of_lt (bits_lt _ _ _)

end Apply

/-- Whether new settings of lane `l` change its prescaler. -/
def State.presChanges (s : State) (l : Nat) : Bool :=
  F.CAP_LANECFG_PRESCALE.of (s.reg .CAP_LANECFG l) != F.CAP_LANECFG_PRESCALE.of (s.capAt l).cfg

/-- The settings written for lane `l` are in force, and shown. -/
def Work.capApplied (w : Work s₀) (l : Nat) : Work s₀ :=
  ((w.takeCap l (w.st.presChanges l)).restartOverlap l (w.st.presChanges l)).showCap l (w.reg .CAP_LANECFG l)
    ((w.cap l).pendCfg || w.st.presChanges l)

/-- The settings that lane `l` takes; the count of its prescaler starts anew where that changes. -/
def State.settings (s : State) (l : Nat) : LaneCap :=
  { s.capAt l with
    cfg := s.reg .CAP_LANECFG l, pick := s.reg .CAP_PICK l, base := s.get F.CAP_BASE_BASE l, pendAt := none,
    pendCfg := false, pres := if s.presChanges l then 0 else (s.capAt l).pres }

/-- CAP_STAT of lane `l` shows no settings that wait, and the bank that `v` names. -/
def State.showsCap (s : State) (l : Nat) (v : Word) : Prop :=
  s.get F.CAP_STAT_PEND l = 0 ∧ s.get F.CAP_STAT_WALK_ACT l = F.CAP_LANECFG_WALK_BANK.of v

theorem Work.capApplied_shows (w : Work s₀) (l : Nat) :
    (w.capApplied l).st.capAt l = w.st.settings l ∧ SameBut w.st.capAt (w.capApplied l).st.capAt [l] ∧
      (w.capApplied l).st.t64 = w.st.t64 ∧ (w.capApplied l).st.store = w.st.store ∧
      (w.capApplied l).st.showsCap l (w.reg .CAP_LANECFG l) := by
  unfold Work.capApplied
  generalize hanew : w.st.presChanges l = anew
  generalize ((w.cap l).pendCfg || anew) = pres
  have hkept := ((w.takeCap l anew).capKept_restartOverlap l anew).trans
    (Work.regsAlone_showCap _ l (w.reg .CAP_LANECFG l) pres).capKept
  have htaken : (w.takeCap l anew).st.capAt l = w.st.settings l := by
    unfold State.settings
    rw [hanew]
    exact Work.capAt_modCap_same w l _
  rw [hkept.capAt_eq]
  exact ⟨htaken, w.sameBut_modCap l _, hkept.t64, hkept.store, Work.showCap_shows _ l _ pres⟩

/-- The DT factor and the check of the engine leave what CAP_STAT shows of the settings. -/
theorem Work.recheck_keeps (w : Work s₀) (l t : Nat) (v : Word) (h : w.st.showsCap l v) :
    CapKept w.st ((w.dtUpdate l).cntRecheck l t).st ∧ ((w.dtUpdate l).cntRecheck l t).st.showsCap l v := by
  have hframe := (w.dtUpdate l).countFrame_cntRecheck l t
  obtain ⟨hpend, hwalk⟩ := h
  have hkeep : ∀ f : Fld, f.reg ∉ countRegs → f.lo + f.w ≤ 32 →
      (F.CAP_STAT_K_VALID.lo + F.CAP_STAT_K_VALID.w ≤ f.lo ∨ f.lo + f.w ≤ F.CAP_STAT_K_VALID.lo) →
      ((w.dtUpdate l).cntRecheck l t).st.get f l = w.st.get f l := fun f hf hk hv =>
    (hframe.2.get_eq hf l).trans (w.get_dtUpdate_beside l f hk hv)
  exact ⟨(w.regsAlone_dtUpdate l).capKept.trans hframe.capKept,
    (hkeep F.CAP_STAT_PEND (by decide) (by decide) (by decide)).trans hpend,
    (hkeep F.CAP_STAT_WALK_ACT (by decide) (by decide) (by decide)).trans hwalk⟩

theorem exec_capConfigApply (s : State) (l T : Nat) (h : (s.capAt l).pendAt = some T) :
    exec (.capConfigApply l) s =
      .next (((((Work.start s).at T).capApplied l).dtUpdate l).cntRecheck l T).st := by
  have hcap : ((Work.start s).cap l).pendAt = some T := h
  show execCapConfigApply l s = _
  unfold execCapConfigApply
  dsimp only
  rw [hcap]
  rfl

theorem capConfigApply_answers (s : State) (l T : Nat) (h : (s.capAt l).pendAt = some T) :
    Answers (.capConfigApply l) s fun n =>
      (n.capAt l).cfg = s.reg .CAP_LANECFG l ∧ (n.capAt l).pick = s.reg .CAP_PICK l ∧
      (n.capAt l).base = s.get F.CAP_BASE_BASE l ∧ (n.capAt l).pendAt = none ∧ n.on F.CAP_STAT_PEND l = false ∧
      n.get F.CAP_STAT_WALK_ACT l = F.CAP_LANECFG_WALK_BANK.of (s.reg .CAP_LANECFG l) ∧ n.t64 = (s.till T).t64 ∧
      (n.capAt l).held = (s.capAt l).held ∧ SameBut s.capAt n.capAt [l] ∧ n.store = s.store := by
  obtain ⟨hlane, hcaps, htime, hstore, hstat⟩ := ((Work.start s).at T).capApplied_shows l
  obtain ⟨hkept, hpend, hwalk⟩ := Work.recheck_keeps _ l T _ hstat
  rw [← hkept.capAt_eq] at hlane hcaps
  refine ⟨_, exec_capConfigApply s l T h, ?_, ?_, ?_, ?_, beq_eq_false_iff_ne.mpr (hpend ▸ by decide), hwalk,
    hkept.t64.trans htime, ?_, hcaps, hkept.store.trans hstore⟩ <;> rw [hlane] <;> rfl

end Sys2Proof.Machine

section

open Sys2Proof.Machine

/-- Settles O11: the fold of PARTNER_WINDOW_EXPIRY takes the search whose window ends first (`firstExpiring_le`); a
record that leaves enters the buffer or is counted as dropped (`Work.dropRec_shows`); the check of the counting engine
and of its RATIO units that follows new settings reaches no lane's capture, since an engine that starts has no gate to
end (`Work.countFrame_cntStart`). -/
theorem recordsLeaveTheLane : Obligations.RecordsLeaveTheLane := by
  unfold Obligations.RecordsLeaveTheLane
  exact ⟨partnerWindowExpiry_answers,
    fun s l h rest hheld hwait hdue => ⟨recordHoldRelease_enters s l h rest hheld hwait hdue,
      recordHoldRelease_drops s l h rest hheld hwait hdue⟩,
    capConfigApply_answers⟩

end
